-- ==== Sys2Proof/Word.lean ====
section
/-! DEFINITION. The words of the part: bytes, the register words of the engines, and the plain numbers
that the object dictionary types stand for (R16). -/

namespace Sys2Proof

/-- A byte of a PDU, frame, record or BLOCK value. -/
abbrev Byte := BitVec 8

/-- A 16-bit word. -/
abbrev Half := BitVec 16

/-- A 32-bit word: an engine register, a message field. -/
abbrev Word := BitVec 32

/-- A value of an object: the mathematical value of its type (raw 16.16 number for Q16.16, R60). -/
abbrev Value := Int

/-- A time of the model's own clock, in core cycles of 1 ns (R26, the 1 GHz core cycle). -/
abbrev Time := Nat

end Sys2Proof
end

