-- ==== Sys2Proof/Machine/Bits.lean ====
section
/-! DEFINITION. Byte order, sign extension, bit maps and the checks (R60, R250, R326, chapter 14): every
multi-byte field of a PDU, frame or record is big-endian. -/

namespace Sys2Proof.Machine

/-- The number that big-endian bytes spell (R60). -/
def beNat (bs : List Byte) : Nat := bs.foldl (fun a b => a * 256 + b.toNat) 0

/-- The n big-endian bytes of a number, taken modulo 256^n (R60). -/
def beBytes : Nat → Nat → List Byte
  | 0, _ => []
  | n + 1, v => BitVec.ofNat 8 (v / 256 ^ n) :: beBytes n v

/-- The number that little-endian bytes spell. -/
def leNat : List Byte → Nat
  | [] => 0
  | b :: bs => b.toNat + 256 * leNat bs

/-- A number of n bits read as a two's complement value. -/
def signed (bits v : Nat) : Int :=
  if v % 2 ^ bits < 2 ^ (bits - 1) then ((v % 2 ^ bits : Nat) : Int) else ((v % 2 ^ bits : Nat) : Int) - 2 ^ bits

/-- The two's complement code of a value in n bits. -/
def unsigned (bits : Nat) (v : Int) : Nat := (v % (2 ^ bits : Int)).toNat

/-- A value held to a range. -/
def clampInt (lo hi v : Int) : Int := if v < lo then lo else if hi < v then hi else v

/-- Bit i of a number. -/
def natBit (v i : Nat) : Bool := v.testBit i

/-- The field of w bits at bit p. -/
def field (v p w : Nat) : Nat := v / 2 ^ p % 2 ^ w

/-- 1 for true, 0 for false. -/
def b2n (b : Bool) : Nat := if b then 1 else 0

/-- Bit z of a map held as bytes: byte z >> 3, bit z mod 8 (R250). -/
def bitOf (bs : List Byte) (z : Nat) : Bool := (bs.getD (z / 8) 0).getLsbD (z % 8)

/-- The n bytes from an offset, as a number. -/
def beAt (bs : List Byte) (off n : Nat) : Nat := beNat ((bs.drop off).take n)

/-- A signed big-endian field. -/
def beIntAt (bs : List Byte) (off n : Nat) : Int := signed (8 * n) (beAt bs off n)

/-- The quotient of integers rounded to nearest, halves away from zero. -/
def divRound (a : Int) (b : Int) : Int :=
  if b ≤ 0 then 0 else if 0 ≤ a then (2 * a + b) / (2 * b) else -((2 * (-a) + b) / (2 * b))

/-- Round half up of a Nat quotient. -/
def natDivRound (a b : Nat) : Nat := if b = 0 then 0 else (2 * a + b) / (2 * b)

/-- One bit step of the reflected CRC-32 with polynomial 0x04C11DB7 (reflected 0xEDB88320). -/
def crc32Bit (c : BitVec 32) : BitVec 32 :=
  if c.getLsbD 0 then (c >>> 1) ^^^ 0xEDB88320#32 else c >>> 1

/-- One byte of the CRC-32 of R326. -/
def crc32Byte (c : BitVec 32) (b : Byte) : BitVec 32 :=
  let x := c ^^^ b.setWidth 32
  crc32Bit (crc32Bit (crc32Bit (crc32Bit (crc32Bit (crc32Bit (crc32Bit (crc32Bit x)))))))

/-- CRC-32 of R326: initial value and final XOR 0xFFFFFFFF, reflected. -/
def crc32 (bs : List Byte) : Nat := ((bs.foldl crc32Byte 0xFFFFFFFF#32) ^^^ 0xFFFFFFFF#32).toNat

/-- One bit step of CRC-8 with polynomial 0x07. -/
def crc8Bit (c : BitVec 8) : BitVec 8 := if c.getLsbD 7 then (c <<< 1) ^^^ 0x07#8 else c <<< 1

/-- CRC-8 with polynomial 0x07 and initial value 0, most significant bit first. -/
def crc8 (bs : List Byte) : Byte :=
  bs.foldl (fun c b => crc8Bit (crc8Bit (crc8Bit (crc8Bit (crc8Bit (crc8Bit (crc8Bit (crc8Bit (c ^^^ b))))))))) 0#8

/-- A counter that saturates at a limit. -/
def satAdd (lim v n : Int) : Int := if lim < v + n then lim else v + n

end Sys2Proof.Machine
end

