-- ==== Sys2Proof/Machine/Obj.lean ====
section
/-! DEFINITION. The keys of the object dictionary: index times 256 plus the first subindex, one name for
each object, as the object tables of spec/ name them.  Element e of an array has the key of its name plus e. -/

namespace Sys2Proof.Machine.Obj

abbrev LISTEN_GROUPS : Nat := 0x210100
abbrev HIT_INGEST_DROPS : Nat := 0x2D3001
abbrev REEL_OVERRUNS : Nat := 0x2D3002
abbrev KOA_UDP_PORT : Nat := 0x114001
abbrev KOA_CAN_REQ_ID : Nat := 0x114002
abbrev KOA_CAN_RSP_ID : Nat := 0x114003
abbrev KOA_BEARER_ENABLE : Nat := 0x114004
abbrev KOA_REQUESTS : Nat := 0x124001
abbrev KOA_ERRORS : Nat := 0x124002
abbrev KOA_DISCARDS : Nat := 0x124003
abbrev STORE_ALL : Nat := 0x121001
abbrev STORE_CAL : Nat := 0x121002
abbrev RESTORE_DEFAULTS : Nat := 0x121100
abbrev PARAM_LOG_SEQ : Nat := 0x123001
abbrev PARAM_LOG_USED : Nat := 0x123002
abbrev PARAM_LOG_ERASES : Nat := 0x123003
abbrev PARAM_LOG_WEAR : Nat := 0x123004
abbrev STORED_REJECTS : Nat := 0x125000
abbrev JOB : Nat := 0x122001
abbrev JOB_ACK : Nat := 0x122100
abbrev JOB_ABORT : Nat := 0x122200
abbrev JOB_COUNT : Nat := 0x122300
abbrev EV_COUNT : Nat := 0x203F00
abbrev EV_FILTER : Nat := 0x204000
abbrev EV_INVERT : Nat := 0x204100
abbrev EV_BANK_LEVEL : Nat := 0x204200
abbrev EV_FREQ : Nat := 0x204300
abbrev EV_FREQ_GATE : Nat := 0x204400
abbrev EV_STATE : Nat := 0x204500
abbrev EV_DROPS : Nat := 0x204600
abbrev AXIS_MODE : Nat := 0x200101
abbrev ENC_LINES : Nat := 0x200201
abbrev ENC_FORMAT : Nat := 0x200301
abbrev GATE_EDGES : Nat := 0x200401
abbrev RESID_LIMIT : Nat := 0x200501
abbrev STEP_CONFIRM : Nat := 0x200601
abbrev SPEED_MIN : Nat := 0x200701
abbrev SPEED_MAX : Nat := 0x200801
abbrev INDEX_OFFSET : Nat := 0x200901
abbrev INDEX_WINDOW : Nat := 0x200A01
abbrev SLIP_LIMIT : Nat := 0x200B01
abbrev CUE_AXIS : Nat := 0x200C00
abbrev FACETS : Nat := 0x200D00
abbrev FACET_OFFSET : Nat := 0x200E00
abbrev AXIS_INPUT : Nat := 0x203001
abbrev POSITION : Nat := 0x201001
abbrev REVOLUTION : Nat := 0x201101
abbrev SPEED : Nat := 0x201201
abbrev AXIS_STATE : Nat := 0x201301
abbrev PHASE : Nat := 0x201401
abbrev POSREV : Nat := 0x201501
abbrev FREEWHEEL_LIMIT : Nat := 0x202000
abbrev FREEWHEEL_TIME : Nat := 0x202101
abbrev LIN_TABLE : Nat := 0x205001
abbrev PHASE_OFFSET : Nat := 0x205101
abbrev VIRTUAL_PERIOD : Nat := 0x206000
abbrev VIRTUAL_PHASE : Nat := 0x206100
abbrev OUTLIERS : Nat := 0x207001
abbrev SPEED_STEPS : Nat := 0x207002
abbrev FREEWHEEL_ENTRIES : Nat := 0x207003
abbrev STALLS : Nat := 0x207004
abbrev SLIPS : Nat := 0x207005
abbrev MISSED_INDEX : Nat := 0x207006
abbrev SPURIOUS_INDEX : Nat := 0x207007
abbrev ILLEGAL_TRANSITIONS : Nat := 0x207008
abbrev CUE_WINDOW : Nat := 0x218000
abbrev CUE_RESULT : Nat := 0x218100
abbrev CUE_COMMIT : Nat := 0x218200
abbrev CUE_STAGED_COUNT : Nat := 0x218300
abbrev CUE_ACTIVE_COUNT : Nat := 0x218400
abbrev CUE_ACTIVE : Nat := 0x218500
abbrev CUE_BOOT : Nat := 0x218600
abbrev CUE_CAPTURE : Nat := 0x218700
abbrev CUE_PENDING : Nat := 0x218800
abbrev CUE_NEXT : Nat := 0x218900
abbrev SEQ_CTRL : Nat := 0x210000
abbrev SEQ_STATE : Nat := 0x210200
abbrev SEQ_AUTOSTART : Nat := 0x210300
abbrev LG_WINDOW : Nat := 0x211001
abbrev CUE_SLACK : Nat := 0x211101
abbrev DITHER_MAX : Nat := 0x211201
abbrev HOP_MASK : Nat := 0x211301
abbrev HOP_SEED : Nat := 0x211401
abbrev TAKE_SEQ : Nat := 0x212000
abbrev SEQ_EPOCH : Nat := 0x212100
abbrev SEQ_EPOCH_INIT : Nat := 0x212200
abbrev TAKES_IN_FLIGHT : Nat := 0x212300
abbrev TURN_SPAN : Nat := 0x213000
abbrev DIAG_PER_TURN : Nat := 0x213100
abbrev SKIP_IN_FLIGHT : Nat := 0x214001
abbrev SKIP_LATE : Nat := 0x214002
abbrev SKIP_RATE : Nat := 0x214003
abbrev SHORT_REELS : Nat := 0x214100
abbrev DIAG_PULSES : Nat := 0x214200
abbrev DIAG_DEFERRED : Nat := 0x214300
abbrev EMIT_MODE : Nat := 0x220000
abbrev ENERGY_SOURCE : Nat := 0x221400
abbrev ZONE_ENABLE : Nat := 0x224000
abbrev EMIT_LINES : Nat := 0x220200
abbrev TRIG_WIDTH : Nat := 0x220100
abbrev PULSE_GAP : Nat := 0x220300
abbrev DIAG_WIDTH : Nat := 0x224900
abbrev PRECHARGE : Nat := 0x220400
abbrev PRECHARGE_LEVEL : Nat := 0x220500
abbrev COL_SINK_GLOBAL : Nat := 0x221000
abbrev COL_SINK : Nat := 0x221100
abbrev COL_TRIM : Nat := 0x221200
abbrev COL_CHARGE_TIME : Nat := 0x221300
abbrev CHAIN_LENGTH : Nat := 0x222000
abbrev CHAIN_CLK_DIV : Nat := 0x222100
abbrev CHAIN_MAP : Nat := 0x222200
abbrev CHAIN_CHARGE : Nat := 0x222300
abbrev CHAIN_TRIM : Nat := 0x222400
abbrev CHAIN_FRAMES : Nat := 0x222500
abbrev ENERGY_LOOP : Nat := 0x223000
abbrev ENERGY_TARGET : Nat := 0x223100
abbrev LOOP_GAIN : Nat := 0x223200
abbrev LOOP_DEADBAND : Nat := 0x223300
abbrev ENERGY_STATUS : Nat := 0x223400
abbrev ENERGY_LAST : Nat := 0x223500
abbrev MPD_TAIL : Nat := 0x223600
abbrev MPD_SELECT : Nat := 0x223700
abbrev ZONE_DIAG : Nat := 0x224100
abbrev ZONE_DIAG_CLEAR : Nat := 0x224200
abbrev DIAG_INTERVAL : Nat := 0x224300
abbrev DIAG_CONFIRM : Nat := 0x224400
abbrev ISENSE_MIN : Nat := 0x224500
abbrev ISENSE_MAX : Nat := 0x224600
abbrev LIGHT_MIN : Nat := 0x224700
abbrev GHOST_MAX : Nat := 0x224800
abbrev START_MISSING : Nat := 0x225001
abbrev UNSCHEDULED_EDGES : Nat := 0x225002
abbrev COL_UNDERCHARGE : Nat := 0x225003
abbrev CHAIN_STALE : Nat := 0x225004
abbrev CHAIN_READBACK_ERRORS : Nat := 0x225005
abbrev CAPTURE_CONFLICTS : Nat := 0x225006
abbrev DISABLED_TAKES : Nat := 0x225007
abbrev ACC_PEAK : Nat := 0x233000
abbrev OE_THRESHOLD : Nat := 0x238000
abbrev OE_INT_CAP : Nat := 0x238100
abbrev ACC_LIMITS : Nat := 0x238200
abbrev ZONE_CLASS : Nat := 0x238300
abbrev APERTURE_WIDTH : Nat := 0x238400
abbrev REARM_HOLD : Nat := 0x238500
abbrev FREEWHEEL_CEILING : Nat := 0x238600
abbrev SCAN_REQUIRED : Nat := 0x238700
abbrev SCAN_MONITOR_INPUT : Nat := 0x238800
abbrev SCAN_EDGE_TIMEOUT : Nat := 0x238900
abbrev SAFE_IN_FILTER : Nat := 0x238A00
abbrev DISCREPANCY_TIME : Nat := 0x238B00
abbrev SAFE_IN_POLARITY : Nat := 0x238C00
abbrev SUPPLY_FB_DELAY : Nat := 0x238D00
abbrev OFFTEST_PULSE : Nat := 0x238E00
abbrev OFFTEST_PERIOD : Nat := 0x238F00
abbrev SAFE_CMD_REQUIRED : Nat := 0x239000
abbrev SAFE_CMD_TIMEOUT : Nat := 0x239100
abbrev SAFE_MSG_PERIOD : Nat := 0x239200
abbrev SAFE_NETS : Nat := 0x239300
abbrev SAFE_DATA_ID : Nat := 0x239400
abbrev SAFE_CAN_STATUS_ID : Nat := 0x239500
abbrev SAFE_CAN_CMD_ID : Nat := 0x239600
abbrev SAFE_UDP_PORT : Nat := 0x239700
abbrev EMIT_REQ_SOURCE : Nat := 0x239800
abbrev SEAL_CRC : Nat := 0x23B000
abbrev SEAL_SEQ : Nat := 0x23B100
abbrev SEAL_STATE : Nat := 0x232000
abbrev SEAL_COMMIT : Nat := 0x232100
abbrev SEAL_RESULT : Nat := 0x232200
abbrev SEAL_PENDING : Nat := 0x232300
abbrev SAFETY_STATE : Nat := 0x230000
abbrev SAFETY_STATUS : Nat := 0x230100
abbrev LOCKOUT_RESET : Nat := 0x231001
abbrev TRIP_TEST : Nat := 0x231002
abbrev LOCKOUT_CAUSE : Nat := 0x231100
abbrev LOCKOUT_FIRST : Nat := 0x231200
abbrev LOCKOUT_LAST : Nat := 0x231300
abbrev TRIPS : Nat := 0x234001
abbrev BUDGET_HOLDS : Nat := 0x234002
abbrev OFFTEST_PASSES : Nat := 0x234003
abbrev OFFTEST_ABANDONED : Nat := 0x234004
abbrev SAFE_MSG_INVALID : Nat := 0x234101
abbrev RX_CHANNELS : Nat := 0x240000
abbrev RX_BLOCKS : Nat := 0x244100
abbrev RXREF_OK : Nat := 0x244200
abbrev THRESH_LO : Nat := 0x241000
abbrev THRESH_HI : Nat := 0x241100
abbrev RX_HYST : Nat := 0x241200
abbrev DESKEW : Nat := 0x242000
abbrev TDC_BLOCKS : Nat := 0x243F00
abbrev TDC_LOCK : Nat := 0x244000
abbrev RX_ENABLE : Nat := 0x240100
abbrev RX_MASK : Nat := 0x240200
abbrev RX_STATE : Nat := 0x240300
abbrev RX_STUCK_TIME : Nat := 0x241300
abbrev PRESTART_SPAN : Nat := 0x241400
abbrev HITS : Nat := 0x243000
abbrev BACKGROUND : Nat := 0x243100
abbrev PRESTART : Nat := 0x243200
abbrev SATURATIONS : Nat := 0x243300
abbrev HITS_EXCESS : Nat := 0x243400
abbrev RX_BG_RATE : Nat := 0x243500
abbrev RX_BG_ALARM : Nat := 0x243600
abbrev REEL_K : Nat := 0x250000
abbrev TRACK_HALF : Nat := 0x250100
abbrev SKY_GATE : Nat := 0x250200
abbrev SAT_HI_MIN : Nat := 0x250300
abbrev GEAR_TABLE : Nat := 0x251000
abbrev GEAR_GEN : Nat := 0x251100
abbrev GEAR_PENDING : Nat := 0x251200
abbrev CODE_FAMILY : Nat := 0x252000
abbrev BG_LAST : Nat := 0x254000
abbrev SUN_LAST : Nat := 0x254100
abbrev BG_MAP : Nat := 0x254200
abbrev MREV_ENABLE : Nat := 0x255000
abbrev MREV_DEPTH : Nat := 0x255100
abbrev MREV_START : Nat := 0x255200
abbrev MREV_SPOKES : Nat := 0x255300
abbrev MREV_COS : Nat := 0x255400
abbrev EGO_TIMEOUT : Nat := 0x255500
abbrev MREV_POOL : Nat := 0x255600
abbrev RAW_CHANNELS : Nat := 0x256000
abbrev RAW_SPOKES : Nat := 0x256100
abbrev RAW_DECIMATE : Nat := 0x256200
abbrev LATE_HITS : Nat := 0x253001
abbrev SPAN_DROPS : Nat := 0x253002
abbrev BIN_SATURATIONS : Nat := 0x253003
abbrev REEL_ECC_RESETS : Nat := 0x253004
abbrev MREV_SKIPS : Nat := 0x253005
abbrev MREV_RESETS : Nat := 0x253006
abbrev RAW_DROPS : Nat := 0x253007
abbrev REELS_POSTED : Nat := 0x253008
abbrev KERNEL_SELECT : Nat := 0x260000
abbrev KERNEL_ACTIVE : Nat := 0x260100
abbrev SE_COUNT : Nat := 0x260200
abbrev SE_ENABLE : Nat := 0x260300
abbrev SE_STATE : Nat := 0x260400
abbrev SE_WATCHDOG : Nat := 0x260500
abbrev SE_LOAD : Nat := 0x260600
abbrev KERNEL_IMAGE : Nat := 0x261000
abbrev KERNEL_RESULT : Nat := 0x261100
abbrev KERNEL_INFO : Nat := 0x261200
abbrev AE_COUNT : Nat := 0x262F00
abbrev AE_STATE : Nat := 0x263000
abbrev AE_CYCLES : Nat := 0x263100
abbrev AE_ROM_VERSION : Nat := 0x263200
abbrev SE_REELS : Nat := 0x262000
abbrev SE_FAULTS : Nat := 0x262100
abbrev SE_CLIPPED : Nat := 0x262200
abbrev PT_OVERFLOWS : Nat := 0x262401
abbrev REELS_UNPROCESSED : Nat := 0x262402
abbrev CLASS_ENABLE : Nat := 0x270000
abbrev DETECT_SNR : Nat := 0x270100
abbrev MF_TEMPLATE : Nat := 0x270200
abbrev CENT_HALF : Nat := 0x270300
abbrev WINDOW_RANGE : Nat := 0x270400
abbrev SUN_SNR_MIN : Nat := 0x270500
abbrev SUN_ALARM : Nat := 0x270600
abbrev FOREIGN_TOL : Nat := 0x270700
abbrev FOG_SIGMA : Nat := 0x270800
abbrev FOG_RANGE : Nat := 0x270900
abbrev RAIN_RANGE : Nat := 0x270A00
abbrev RAIN_FILL : Nat := 0x270B00
abbrev MP_RATIO : Nat := 0x270C00
abbrev MP_TOL : Nat := 0x270D00
abbrev INT_TABLE : Nat := 0x270E00
abbrev EXTRINSICS : Nat := 0x271000
abbrev BEAM_TABLE : Nat := 0x271200
abbrev EL_B_GAIN : Nat := 0x271300
abbrev XT_ENABLE : Nat := 0x272000
abbrev XT_SPAN : Nat := 0x272100
abbrev XT_TOL : Nat := 0x272200
abbrev XT_RATIO : Nat := 0x272300
abbrev SPOKE_HOLD : Nat := 0x272400
abbrev SPOKE_MAX_AGE : Nat := 0x272500
abbrev SOIL_MAP : Nat := 0x273000
abbrev SOIL_SHIFT : Nat := 0x273100
abbrev BLOCK_MAP : Nat := 0x273200
abbrev BLOCK_LEVEL : Nat := 0x273300
abbrev BLOCK_REVS : Nat := 0x273400
abbrev BLOCK_ALARM : Nat := 0x273500
abbrev BLOCK_FRACTION : Nat := 0x273600
abbrev STREAM_CFG : Nat := 0x274000
abbrev STREAM_COUNTER : Nat := 0x274100
abbrev UDP_MAX_PAYLOAD : Nat := 0x274200
abbrev OUT_QUEUE : Nat := 0x274300
abbrev DAILIES_DEST : Nat := 0x300000
abbrev DAILIES_LIST : Nat := 0x300100
abbrev DAILIES_LAST : Nat := 0x300200
abbrev DAILIES_SEQ : Nat := 0x300300
abbrev DAILIES_PORT : Nat := 0x300400
abbrev STREAM_DROPS : Nat := 0x275000
abbrev RAW_OUT_DROPS : Nat := 0x275100
abbrev SPOKE_SPLITS : Nat := 0x275200
abbrev POINT_LIMIT_DROPS : Nat := 0x275300
abbrev POINTS_OUT : Nat := 0x275400
abbrev CAL_START : Nat := 0x280000
abbrev CAL_UNITS : Nat := 0x280100
abbrev CAL_ONLINE : Nat := 0x280200
abbrev CAL_TEMP_DELTA : Nat := 0x280300
abbrev CAL_MAX_AGE : Nat := 0x280400
abbrev CAL_TDC_TIMEOUT : Nat := 0x280500
abbrev CAL_OFFSET_MODE : Nat := 0x280600
abbrev CAL_OFFSET_REELS : Nat := 0x280700
abbrev CAL_WALK_STEPS : Nat := 0x280800
abbrev CAL_TARGET_GATE : Nat := 0x280900
abbrev CAL_STATUS : Nat := 0x281000
abbrev AUX_CAL_STATUS : Nat := 0x281100
abbrev AUX_CAL_COUNT : Nat := 0x281200
abbrev CAL_DUE_COUNT : Nat := 0x281300
abbrev CAL_BANK : Nat := 0x282000
abbrev CAL_SEQ : Nat := 0x282100
abbrev CAL_TARGET : Nat := 0x283000
abbrev ROFF : Nat := 0x283100
abbrev WALK_TABLE : Nat := 0x283200
abbrev TRIM_LO : Nat := 0x283300
abbrev TRIM_HI : Nat := 0x283400
abbrev TDC_TABLES : Nat := 0x283500
abbrev CAL_TEMP : Nat := 0x283600
abbrev AUX_CAL_TEMP : Nat := 0x283700
abbrev HK_PINS : Nat := 0x290000
abbrev HK_MEAS : Nat := 0x290100
abbrev HK_VALUE : Nat := 0x290200
abbrev HK_STATUS : Nat := 0x290300
abbrev HK_LIM_LO : Nat := 0x290400
abbrev HK_LIM_HI : Nat := 0x290500
abbrev HK_LEAD_FIXED : Nat := 0x290600
abbrev HK_PT_NOMINAL : Nat := 0x290700
abbrev HK_PERIOD_MODE : Nat := 0x291000
abbrev HK_PERIOD_FIXED : Nat := 0x291100
abbrev HK_DISCHARGE : Nat := 0x291200
abbrev HK_SETTLE : Nat := 0x291300
abbrev HK_REF : Nat := 0x291400
abbrev HK_REF_R : Nat := 0x291500
abbrev HK_INJECT : Nat := 0x291600
abbrev HK_DIE_TEMP : Nat := 0x292000
abbrev HK_DIE_COUNT : Nat := 0x292100
abbrev FC_MODE : Nat := 0x293000
abbrev FC_GAIN : Nat := 0x293100
abbrev FC_TRIM : Nat := 0x293200
abbrev FC_TRIM_STATE : Nat := 0x293300
abbrev FC_TRIM_DELTA : Nat := 0x293400
abbrev FC_OVR_CAPTURES : Nat := 0x294001
abbrev FC_GAIN_DISCARDS : Nat := 0x294002
abbrev HK_OVR_RESULTS : Nat := 0x294003
abbrev CLOCK_STATE : Nat := 0x2A0000
abbrev TIME_NOW : Nat := 0x2A0100
abbrev TIME_EPOCH : Nat := 0x2A0200
abbrev TIME_RESTEP : Nat := 0x2A1000
abbrev TIME_SET : Nat := 0x2A1100
abbrev RESTEP_PENDING : Nat := 0x2A1200
abbrev CLOCK_INCREMENT : Nat := 0x2A2000
abbrev TIME_SOURCE : Nat := 0x2A2100
abbrev HOST_TIMEOUT : Nat := 0x2A2200
abbrev HOST_LOCKED : Nat := 0x2A2300
abbrev XTAL_AGEING : Nat := 0x2A3000
abbrev XTAL_LEARN : Nat := 0x2A3100
abbrev TIME_STEP_THRESHOLD : Nat := 0x2A4000
abbrev LOCK_WINDOW : Nat := 0x2A4100
abbrev OFFSET_LAST : Nat := 0x2A4200
abbrev GPTP_PORTS : Nat := 0x2A6000
abbrev GPTP_PRIMARY : Nat := 0x2A6100
abbrev GPTP_DOMAIN : Nat := 0x2A6200
abbrev GPTP_PRIORITY1 : Nat := 0x2A6300
abbrev GPTP_PRIORITY2 : Nat := 0x2A6400
abbrev GPTP_EXT_CONFIG : Nat := 0x2A6500
abbrev LOG_SYNC_INTERVAL : Nat := 0x2A6600
abbrev LOG_PDELAY_INTERVAL : Nat := 0x2A6700
abbrev LOG_ANNOUNCE_INTERVAL : Nat := 0x2A6800
abbrev NEIGHBOR_THRESH : Nat := 0x2A6900
abbrev TX_LATENCY : Nat := 0x2A6A01
abbrev RX_LATENCY : Nat := 0x2A6B01
abbrev GM_IDENTITY : Nat := 0x2A6C00
abbrev LINK_DELAY : Nat := 0x2A6D01
abbrev MAC_ADDR : Nat := 0x110001
abbrev PORT_ENABLE : Nat := 0x110101
abbrev LINK_SPEED : Nat := 0x110201
abbrev LINK_STATE : Nat := 0x110301
abbrev IPV4_ADDR : Nat := 0x110401
abbrev IPV4_PREFIX : Nat := 0x110501
abbrev IPV4_GATEWAY : Nat := 0x110601
abbrev IPV6_ADDR : Nat := 0x110701
abbrev IPV6_PREFIX : Nat := 0x110801
abbrev VLAN_ID : Nat := 0x110901
abbrev VLAN_PCP : Nat := 0x110A01
abbrev MCAST_FILTER : Nat := 0x110B01
abbrev STREAM_DEST_IP : Nat := 0x112000
abbrev STREAM_DEST_PORT : Nat := 0x112100
abbrev STREAM_SRC_PORT : Nat := 0x112200
abbrev STREAM_DSCP : Nat := 0x112300
abbrev DAILIES_DEST_IP : Nat := 0x112400
abbrev SAFE_DEST_IP : Nat := 0x112500
abbrev RX_FRAMES : Nat := 0x113001
abbrev TX_FRAMES : Nat := 0x113101
abbrev RX_FCS_ERRORS : Nat := 0x113201
abbrev RX_DISCARDS : Nat := 0x113301
abbrev PAUSE_RX : Nat := 0x113401
abbrev UNRESOLVED_DROPS : Nat := 0x113501
abbrev CAN_MODE : Nat := 0x115000
abbrev CAN_NOM_RATE : Nat := 0x115100
abbrev CAN_DATA_RATE : Nat := 0x115200
abbrev CAN_NOM_SP : Nat := 0x115300
abbrev CAN_DATA_SP : Nat := 0x115400
abbrev CAN_XL_SDT : Nat := 0x115500
abbrev CAN_XL_VCID : Nat := 0x115600
abbrev CAN_XL_PWM : Nat := 0x115700
abbrev CAN_AUTO_RECOVER : Nat := 0x115800
abbrev CAN_STATE : Nat := 0x115900
abbrev CAN_TX_DROPS : Nat := 0x115A00
abbrev EGO_SOURCE : Nat := 0x2A5000
abbrev EGO_CAN_ID : Nat := 0x2A5100
abbrev EGO_UDP_PORT : Nat := 0x2A5200
abbrev EGO_SPEED : Nat := 0x2A5300
abbrev EGO_AGE : Nat := 0x2A5400
abbrev EGO_INVALID : Nat := 0x2A5500
abbrev LANE_COUNT : Nat := 0x2B0000
abbrev LANE_MODE : Nat := 0x2B0100
abbrev KLP_WIDTH : Nat := 0x2B0200
abbrev BOND_RATE : Nat := 0x2B0300
abbrev TX_SWING : Nat := 0x2B0400
abbrev TX_PRE : Nat := 0x2B0500
abbrev TX_POST : Nat := 0x2B0600
abbrev RX_ADAPT : Nat := 0x2B0700
abbrev LANE_STATE : Nat := 0x2B1000
abbrev ADAPT_FROZEN : Nat := 0x2B1100
abbrev BOND_STATE : Nat := 0x2B1200
abbrev BOND_ACTIVE : Nat := 0x2B1300
abbrev TRANSITION_DENSITY : Nat := 0x2B1400
abbrev EYE_SCAN : Nat := 0x2B4000
abbrev EYE_MAP : Nat := 0x2B4100
abbrev PRBS_CTRL : Nat := 0x2B5000
abbrev LANE_LOOP : Nat := 0x2B5100
abbrev PRBS_LOCK : Nat := 0x2B5200
abbrev PRBS_ERRORS : Nat := 0x2B5300
abbrev LOCK_LOSSES : Nat := 0x2B6000
abbrev BLOCK_ERRORS : Nat := 0x2B6100
abbrev FILL_DELETES : Nat := 0x2B6200
abbrev FILL_INSERTS : Nat := 0x2B6300
abbrev ADAPT_FREEZES : Nat := 0x2B6400
abbrev ELASTIC_ERRORS : Nat := 0x2B6500
abbrev BOND_CHANGES : Nat := 0x2B6600
abbrev RX_FRAME_ERRORS : Nat := 0x2B6700
abbrev RETRANSMITS : Nat := 0x2B6800
abbrev EVENT_MASK : Nat := 0x130000
abbrev EVENT_ROUTE : Nat := 0x131000
abbrev EVENT_PENDING : Nat := 0x132000
abbrev EVENT_ACK : Nat := 0x132100
abbrev EVENT_SUMMARY : Nat := 0x132200
abbrev EVENT_COUNT : Nat := 0x133000
abbrev EVENT_COUNT_HI : Nat := 0x133100
abbrev EVENT_LAST : Nat := 0x133200
abbrev EVENT_LAST_HI : Nat := 0x133300
abbrev EVENT_SOURCES : Nat := 0x133F00
abbrev EVENT_UDP_PORT : Nat := 0x134000
abbrev EVENT_DEST_IP : Nat := 0x134100
abbrev LIVE_MAP : Nat := 0x135000
abbrev IBI_QUEUE_COUNT : Nat := 0x135100
abbrev I3C_STATIC_ADDR : Nat := 0x116000
abbrev I3C_DYN_ADDR : Nat := 0x116100
abbrev I3C_IBI_ENABLED : Nat := 0x116200
abbrev IBI_DROPS : Nat := 0x116301
abbrev I3C_ABANDONED : Nat := 0x116302
abbrev I3C_ERRORS : Nat := 0x116303
abbrev LIVE_TORN : Nat := 0x116304
abbrev PAIR_ROLE : Nat := 0x2C0000
abbrev PAIR_ENABLE : Nat := 0x2C0100
abbrev PAIR_POSITION : Nat := 0x2C0200
abbrev PAIR_HANDOVER : Nat := 0x2C0300
abbrev PAIR_STATUS : Nat := 0x2C0400
abbrev HEARTBEAT_TIMEOUT : Nat := 0x2C0500
abbrev DRIVE_LOSS_TIME : Nat := 0x2C0600
abbrev ALONE_WAIT : Nat := 0x2C0700
abbrev SUM_SNR_MIN : Nat := 0x2C0800
abbrev SUM_RANGE_TOL : Nat := 0x2C0900
abbrev SUM_MISMATCH_LIMIT : Nat := 0x2C0A00
abbrev PAIR_EPOCH : Nat := 0x2C1000
abbrev PAIR_ACTIVE_ID : Nat := 0x2C1100
abbrev PARTNER_EPOCH : Nat := 0x2C1200
abbrev TAKEOVERS : Nat := 0x2C2001
abbrev CONTENTIONS : Nat := 0x2C2002
abbrev SUMS_COMPARED : Nat := 0x2C2003
abbrev SUM_MISMATCHES : Nat := 0x2C2004
abbrev SUM_UNPAIRED : Nat := 0x2C2005
abbrev TAKE_DIVERGENCES : Nat := 0x2C2006
abbrev DEVICE_ID : Nat := 0x100000
abbrev BOOT_IMAGE : Nat := 0x100200
abbrev IMAGE_INFO : Nat := 0x100301
abbrev MIN_SVN : Nat := 0x100400
abbrev LIFECYCLE : Nat := 0x101000
abbrev LIFECYCLE_REQUEST : Nat := 0x101100
abbrev LIFECYCLE_NONCE : Nat := 0x101200
abbrev LIFECYCLE_PENDING : Nat := 0x101300
abbrev LIFECYCLE_FUSES : Nat := 0x101400
abbrev KEY_PROGRAM : Nat := 0x102000
abbrev KEY_REVOKE : Nat := 0x102100
abbrev KEY_STATE : Nat := 0x102200
abbrev IDENTITY_SET : Nat := 0x102300
abbrev RECORD_STATE : Nat := 0x103001
abbrev RECORD_RESOLVE : Nat := 0x103100
abbrev RECORD_COPY : Nat := 0x103201
abbrev FW_IMAGE : Nat := 0x104000
abbrev FW_COMMIT : Nat := 0x104100
abbrev SVN_COMMIT : Nat := 0x104200
abbrev POWER_ON_HOURS : Nat := 0x105000
abbrev RESET_COUNT : Nat := 0x105100
abbrev DDR_CONFIG : Nat := 0x2D0100
abbrev DDR_CL : Nat := 0x2D0200
abbrev DDR_STATE : Nat := 0x2D0300
abbrev DDR_SIZE : Nat := 0x2D0400
abbrev DDR_REGIONS_READY : Nat := 0x2D0500
abbrev TRACE_CTRL : Nat := 0x2D1000
abbrev TRACE_DROPS : Nat := 0x2D1100
abbrev ECC_CORRECTED : Nat := 0x2D2000
abbrev ECC_UNCORRECTED : Nat := 0x2D2100
abbrev ECC_LOG : Nat := 0x2D2200
abbrev SCRUB_PASSES : Nat := 0x2D2300
abbrev SELFTEST_START : Nat := 0x2D4000
abbrev SELFTEST_REPORT : Nat := 0x2D4100
abbrev NVM_VERIFY : Nat := 0x2D4200
abbrev NVM_VERIFY_REPORT : Nat := 0x2D4300
abbrev RESET_CAUSE : Nat := 0x105200
abbrev RESET_REQUEST : Nat := 0x105300
abbrev BROWNOUT_SUPPLY : Nat := 0x105400
abbrev STRAPS : Nat := 0x105500

end Sys2Proof.Machine.Obj
end

