-- ==== Sys2Proof/Machine/Types.lean ====
section
/-! DEFINITION. The closed sets of names of the object dictionary and of the protocols, and the shape of
one row of the dictionary (R16, R17, R73). -/

namespace Sys2Proof.Machine

/-- The object types of R16. -/
inductive ObjType where
  | bool | u8 | u16 | u32 | u64 | i16 | i32 | q16 | str | block
  deriving DecidableEq, Repr

/-- The primary access codes of R17. -/
inductive Access where
  | ro | rw | wo | rws | seal
  deriving DecidableEq, Repr

/-- One row of the object dictionary. `per` lists the defaults of the elements where they differ, and
`allow` the members where the range is a list. For a BLOCK, `dflt`, `lo` and `hi` are lengths (R73). -/
structure ObjDesc where
  index : Nat
  base  : Nat
  count : Nat
  ty    : ObjType
  access : Access
  live  : Bool
  dflt  : Int
  lo    : Int
  hi    : Int
  per   : List Nat
  allow : List Nat
  name  : String
  deriving DecidableEq, Repr

/-- The status codes of R64. -/
inductive Status where
  | ok | noObject | noSubindex | readOnly | length | outOfRange | state | sealed | lifecycle | busy
  | key | inUse | sequence | expired | noResource | badOpcode | badVersion | malformed | mismatch
  | tooLarge | notBlock
  deriving DecidableEq, Repr

/-- The KOA bearers of R67, in the order of R55. -/
inductive Bearer where
  | i3c | can | e0 | e1
  deriving DecidableEq, Repr

/-- The owner of a request (R69): its bearer and, on E0 and E1, its source address and port. -/
structure Requester where
  bearer : Bearer
  addr   : Nat
  port   : Nat
  deriving DecidableEq, Repr

/-- Where a message leaves the part. -/
inductive Port where
  | i3c | can | e0 | e1 | klp | farlu | trace
  deriving DecidableEq, Repr

/-- What kind of message left. -/
inductive SentKind where
  | koaResponse | koaDatagram | safeStatus | eventDatagram | stream | dailies | farlu (type : Nat)
  | gptp | arp | icmp | can | ibi | ccc | live | eventRecords | lane | trace | nack
  deriving DecidableEq, Repr

/-- What the device puts around an Ethernet payload: the 802.1Q tag, 0 for none (R679); in IP, its own address, DF on IPv4 (R681) and the
DSCP (R683); in UDP, the source port and the checksum (R681, R683). -/
structure EthHead where
  tag  : Nat
  addr : Nat
  df   : Bool
  src  : Nat
  dscp : Nat
  checksum : Nat
  deriving DecidableEq, Repr

/-- What the device puts around a CAN payload: the format, and in CAN XL the SDT, the VCID and the acceptance field (R686, R687). -/
structure CanHead where
  xl   : Bool
  sdt  : Nat
  vcid : Nat
  acceptance : Nat
  deriving DecidableEq, Repr

/-- What a network puts around a payload; in a block of a lane, its sync header (R710). -/
inductive Head where
  | none
  | eth (h : EthHead)
  | can (h : CanHead)
  | sync (h : BitVec 2)
  deriving DecidableEq, Repr

/-- Nothing around the payload. -/
def noHead : Head := .none

/-- A message that left the part: the model's own record of the outputs (log entry 3). -/
structure Sent where
  port : Port
  kind : SentKind
  dst  : Nat
  dport : Nat
  data : List Byte
  head : Head
  deriving DecidableEq, Repr

end Sys2Proof.Machine
end

