-- ==== Sys2Proof/Syntax.lean ====
section
/-! DEFINITION. The commands of the block: one constructor for each row of spec/opcode_table.json, with the row's
operands. What an event or a measurement outside the digital part decides (a level, a stamp, a converter
result, a frame's bytes) is an operand. -/

namespace Sys2Proof

open Sys2Proof.Machine

/-- The header of a KOA request besides RSP and OP (R61). -/
structure KoaHdr where
  ver   : Nat
  tag   : Nat
  index : Nat
  sub   : Nat
  flags : Nat
  len   : Nat
  deriving DecidableEq, Repr

/-- What the step of a job finds outside the digital part: whether it passes, a figure, and data. -/
structure JobInput where
  ok    : Bool
  value : Nat
  data  : List Byte
  deriving DecidableEq, Repr

/-- The band of the level on a TRIG pair (R788). -/
inductive DriveLevel where
  | undriven | driven | contention
  deriving DecidableEq, Repr

/-- The levels of the straps and SEAL_EN at release (R879), and whether a seal record that is written there reads back as written (R335). -/
structure StrapLevels where
  sealEn  : Bool
  sa1     : Bool
  sa0     : Bool
  pairS   : Bool
  bootSel : Bool
  sealGood : Bool
  deriving DecidableEq, Repr

/-- What one calibration repeat measures: counted hits in each tap and in each coarse phase, those within 2 ns of a switch of R592 left out
(R594), in how many of its 2^14 samples each comparator was high at each of the seven steps of its search (R599), and the leading
edges in the 100 µs darkness check (R600). -/
structure CalMeasure where
  taps   : List Nat
  phases : List Nat
  lo     : List Nat
  hi     : List Nat
  edges  : Nat
  deriving DecidableEq, Repr

/-- The samples of a capture (R269, R647): the baseline before the window, the 5 ns guard window, the rest of the
window, the ISENSE samples, and whether any sample was in over-range. -/
structure CaptureSamples where
  base   : List Nat
  guard  : List Nat
  rest   : List Nat
  isense : List Nat
  ovr    : Bool
  deriving DecidableEq, Repr

/-- What a housekeeping period found: the integrator left its range, a pin left its range, a source reached its
compliance (R627, R629, R635). -/
structure HkFlags where
  ovr   : Bool
  range : Bool
  open_ : Bool
  deriving DecidableEq, Repr


/-- A received Sync (R664, R671, R673): the sender's clock identity, the stamp in local ns at the boundary between MAC and PCS
(R672), the origin time in ns and the correction in 2^-16 ns. -/
structure GptpSync where
  domain  : Nat
  source  : Nat
  seq     : Nat
  twoStep : Bool
  stamp   : Nat
  origin  : Nat
  correction : Int
  deriving DecidableEq, Repr

/-- A received Follow_Up: the precise origin time in ns and the correction in 2^-16 ns. -/
structure GptpFollowUp where
  domain  : Nat
  source  : Nat
  seq     : Nat
  origin  : Nat
  correction : Int
  deriving DecidableEq, Repr

/-- A received Pdelay_Req: the majorSdoId and the domain, which tell the common service from the domain's own; the sender's clock identity
and port number; its stamp, and the stamp of the Pdelay_Resp as it leaves, both in local ns (R671 to R673). -/
structure GptpPdelayReq where
  sdo     : Nat
  domain  : Nat
  source  : Nat
  port    : Nat
  seq     : Nat
  stamp   : Nat
  egress  : Nat
  deriving DecidableEq, Repr

/-- The three forms in which the answer to a Pdelay_Req comes: a one-step Pdelay_Resp with the turnaround in its correction, a
two-step one with its receipt time in ns, and the Follow_Up with the response's origin time in ns. -/
inductive PdelayForm where
  | oneStep
  | twoStep (receipt : Nat)
  | followUp (origin : Nat)
  deriving DecidableEq, Repr

/-- A received Pdelay_Resp or Pdelay_Resp_Follow_Up: its stamp in local ns and its correction in 2^-16 ns. -/
structure GptpPdelayResp where
  domain  : Nat
  seq     : Nat
  form    : PdelayForm
  stamp   : Nat
  correction : Int
  deriving DecidableEq, Repr

/-- The grandmaster vector of an Announce, smaller is better: priority 1, clock class, accuracy, variance, priority 2,
identity, and steps removed (IEEE 802.1AS-2020). -/
structure GmVector where
  priority1 : Nat
  class_    : Nat
  accuracy  : Nat
  variance  : Nat
  priority2 : Nat
  identity  : Nat
  steps     : Nat
  deriving DecidableEq, Repr

/-- A received Announce: the sender's clock identity and the vector. -/
structure GptpAnnounce where
  domain : Nat
  source : Nat
  vector : GmVector
  deriving DecidableEq, Repr

/-- A received Signaling message with a message interval request (R671): log2 s, 127 to stop, 126 for the initial value, -128 for
no change. -/
structure GptpSignaling where
  domain   : Nat
  pdelay   : Int
  sync     : Int
  announce : Int
  deriving DecidableEq, Repr

/-- What an IP packet carries (R681). -/
inductive IpPayload where
  | echoRequest (data : List Byte)
  | solicitation (target : Nat)
  | advertisement (target : Nat)
  | udp (sport dport : Nat) (data : List Byte)
  | other
  deriving DecidableEq, Repr

/-- A received IP packet: addresses of 16 bytes (R683), a fragment or extension header, and the checksums. -/
structure IpPacket where
  src  : Nat
  dst  : Nat
  split : Bool
  checksumOk : Bool
  payload : IpPayload
  deriving DecidableEq, Repr

/-- What an Ethernet frame carries. -/
inductive EthBody where
  | pause
  | gptp
  | arp (request : Bool) (sender target : Nat)
  | ip (p : IpPacket)
  | other
  deriving DecidableEq, Repr

/-- A received Ethernet frame (R679): its length, its FCS, its destination and source address and the VLAN_IDs of its tags. -/
structure EthFrame where
  length : Nat
  fcsOk  : Bool
  dst    : Nat
  tags   : List Nat
  body   : EthBody
  deriving DecidableEq, Repr

/-- The formats of R686. -/
inductive CanFormat where
  | xl | fd | classic
  deriving DecidableEq, Repr

/-- A received CAN frame (R686, R687). `basic` is false for a 29-bit identifier or a remote frame. -/
structure CanFrame where
  format : CanFormat
  basic  : Bool
  id     : Nat
  sdt    : Nat
  vcid   : Nat
  data   : List Byte
  deriving DecidableEq, Repr

/-- 66 received bits (R710, R734): the sync header, the 8 payload bytes as they came, scrambled, and how many columns the receiver's own
reference clock has taken from the elastic buffer since the block before (R715). -/
structure LaneBlock where
  header  : BitVec 2
  bytes   : List Byte
  taken   : Nat
  deriving DecidableEq, Repr

/-- A received ALIGN column (R716): its MAP, its ALIGN_SEQ, and each lane's skew in columns behind the earliest. -/
structure AlignColumn where
  map  : Nat
  seq  : Nat
  skew : List (Nat × Nat)
  deriving DecidableEq, Repr

/-- A received STATUS column (R712). -/
structure StatusColumn where
  rxOk     : Nat
  frozen   : Nat
  txActive : Nat
  seq      : Nat
  deriving DecidableEq, Repr

/-- What a read of a 72-bit word finds (R824, R825): no error, a corrected one or an uncorrectable one with its syndrome, or a DDR5
burst whose address CRC fails in both copies. -/
inductive EccFind where
  | clean
  | corrected (syndrome : Nat)
  | uncorrectable (syndrome : Nat)
  | burstCrc
  deriving DecidableEq, Repr

/-- What the owner of a DDR5 word keeps in it (R826, R833), which the manual does not place: a write session, a snapshot, a queued
message by destination and place, an entry of the history by place, a word of a sum, or nothing of these. -/
inductive DdrItem where
  | session (owner : Requester) (key : Nat)
  | snapshot (owner : Requester) (key : Nat)
  | message (dest : Fin 3) (place : Nat)
  | history (place : Nat)
  | sumWord (channel : Fin 256) (word : Nat)
  | other
  deriving DecidableEq, Repr

/-- A 66-bit block after descrambling (R710): its sync header and its 8 bytes. -/
structure FrameBlock where
  header : BitVec 2
  bytes  : List Byte
  deriving DecidableEq, Repr

/-- A received frame (R718): the blocks that follow its START, deskewed and in the order of columns and lanes, up to its END. FILL,
ALIGN and STATUS blocks may lie among them (R713 to R717). -/
structure LaneFrame where
  blocks : List FrameBlock
  deriving DecidableEq, Repr

/-- A command of the block: first the rows with operands, those of the engines after the others, then the rows without. -/
inductive Instr where
  /-- R74: A KOA READ request is checked and answered with one object value sampled at one instant. -/
  | koaRead (req : Requester) (h : KoaHdr) (payload : List Byte)
  /-- R74: A KOA WRITE to an object that has no row of its own is checked and applied whole between two other requests. -/
  | koaWrite (req : Requester) (h : KoaHdr) (payload : List Byte)
  /-- R76: A READ_RANGE samples n elements of an array in one control-complex step and returns them. -/
  | koaReadRange (req : Requester) (h : KoaHdr) (payload : List Byte)
  /-- R76: A WRITE_RANGE applies n array elements in one step, or applies none of them. -/
  | koaWriteRange (req : Requester) (h : KoaHdr) (payload : List Byte)
  /-- R82: A READ_SEG at offset 0 takes a snapshot of a BLOCK object; later READ_SEGs are answered from that snapshot. -/
  | koaReadSeg (req : Requester) (h : KoaHdr) (payload : List Byte)
  /-- R81: A WRITE_SEG opens or continues a segmented write session; the segment with LAST set closes it and runs the owner's validation on the whole value. -/
  | koaWriteSeg (req : Requester) (h : KoaHdr) (payload : List Byte)
  /-- R77: A WRITE_IF compares a scalar object with an expected value and writes the new value in one step, or returns MISMATCH. -/
  | koaWriteIf (req : Requester) (h : KoaHdr) (payload : List Byte)
  /-- R73: A DESCRIBE returns the 56-byte descriptor of an object. -/
  | koaDescribe (req : Requester) (h : KoaHdr) (payload : List Byte)
  /-- R63: A NOP request is answered OK with no payload. -/
  | koaNop (req : Requester) (h : KoaHdr) (payload : List Byte)
  /-- R63: A request with opcode 0x0 or 0xA to 0xF is answered BAD_OPCODE. -/
  | koaUnassignedOpcode (req : Requester) (op : Fin 16) (h : KoaHdr) (payload : List Byte)
  /-- R66: A received PDU shorter than 8 bytes, or with RSP set, is discarded without a response and counted in KOA_DISCARDS. -/
  | koaPduDiscard (req : Requester) (pdu : List Byte)
  /-- R83: A write session or snapshot with no segment request for 100 ms closes and raises event 0x165. -/
  | segmentExpired (owner : Requester) (key : Nat)
  /-- R86: A key write to STORE_ALL starts a STORE_ALL job and returns its handle. -/
  | storeAll (req : Requester) (tag : Nat) (value : Nat)
  /-- R94: A key write to STORE_CAL starts a job that writes the working calibration tables to the older bank. -/
  | storeCal (req : Requester) (tag : Nat) (value : Nat)
  /-- R92: A key write to RESTORE_DEFAULTS starts a job that writes a restore record and a commit record. -/
  | restoreDefaults (req : Requester) (tag : Nat) (value : Nat)
  /-- R98: A write of a finished job's handle to JOB_ACK returns its slot to FREE. -/
  | jobAck (req : Requester) (tag : Nat) (value : Nat)
  /-- R99: A write of a handle to JOB_ABORT aborts a waiting or abortable running job at the end of the current step. -/
  | jobAbort (req : Requester) (tag : Nat) (value : Nat)
  /-- R47: CC1 runs one step of at most 200 µs of the next active job in round-robin order. -/
  | jobStep (input : JobInput)
  /-- R98: A finished job slot returns to FREE 10 s after the job finished. -/
  | jobRetentionExpiry (slot : Nat)
  /-- R91: An NVM record program completes and is verified, or fails its verify. -/
  | nvmProgramDone (ok : Bool)
  /-- R91: An NVM sector erase completes, or fails its verify. -/
  | nvmEraseDone (ok : Bool)
  /-- R28: A monitored clock deviates by more than ±2 % for 1 µs; this trips safety or stops the spoke engines, and raises event 0x15A. -/
  | clockFault (clock : Fin 4)
  /-- R28: A faulted clock returns within ±2 %, and event 0x15A is raised with bit 23 set. -/
  | clockRecovered (clock : Fin 4)
  /-- R118: A level change at an EV input starts its glitch filter; a pulse shorter than the filter time is discarded. -/
  | evRawTransition (input : Fin 16) (level : Bool) (tap : Fin 64)
  /-- R118: An EV level change that has held for the filter time is accepted, stamped and passed to the crank, frequency meter and scan monitor. -/
  | evEdgeAccepted (input : Fin 16)
  /-- R121: A write to EV_BANK_LEVEL switches a bank's thresholds and blocks edge delivery for 1 µs. -/
  | evBankLevelWrite (req : Requester) (tag : Nat) (bank : Fin 2) (value : Nat)
  /-- R121: The 1 µs gap after an EV_BANK_LEVEL write ends without delivering an edge. -/
  | evBankGapEnd (bank : Fin 2)
  /-- R125: A write to AXIS_MODE, ENC_LINES, ENC_FORMAT, AXIS_INPUT, CUE_AXIS, FACETS or FACET_OFFSET is accepted only while stopped and may restart the axis. -/
  | axisConfigWrite (req : Requester) (tag : Nat) (key : Nat) (value : Nat)
  /-- R145: Four expected intervals pass without an accepted edge, and the axis enters FREEWHEEL. -/
  | freewheelEntry (axis : Fin 2)
  /-- R148: FREEWHEEL_TIME reaches FREEWHEEL_LIMIT, and the axis enters STALL. -/
  | freewheelLimitReached (axis : Fin 2)
  /-- R149: A write to FREEWHEEL_LIMIT is checked against the sealed ceiling and takes effect at once, possibly stalling a running freewheel. -/
  | freewheelLimitWrite (req : Requester) (tag : Nat) (value : Nat)
  /-- R138: The predicted position of an axis passes forward through 0, REVOLUTION increments and event 0x02F is raised. -/
  | revolutionA (axis : Fin 2)
  /-- R129: Axis A crosses a facet start, which is delivered to the sequencer and the housekeeping converters. -/
  | facetStart (facet : Fin 16)
  /-- R167: A frequency gate ends, and EV_FREQ takes its result or 0 with event 0x02E. -/
  | evFreqGateEnd (input : Fin 16)
  /-- R190: A CUE_WINDOW value with OP WRITE overwrites staged entries from FIRST. -/
  | cueWindowWrite (req : Requester) (tag : Nat) (first : Nat) (count : Nat) (cues : List Byte)
  /-- R190: A CUE_WINDOW value with OP INSERT places entries before FIRST in the staging bank. -/
  | cueWindowInsert (req : Requester) (tag : Nat) (first : Nat) (count : Nat) (cues : List Byte)
  /-- R190: A CUE_WINDOW value with OP DELETE removes COUNT staged entries from FIRST. -/
  | cueWindowDelete (req : Requester) (tag : Nat) (first : Nat) (count : Nat)
  /-- R190: A CUE_WINDOW value with OP CLEAR sets the staged count to 0. -/
  | cueWindowClear (req : Requester) (tag : Nat)
  /-- R192: A key write to CUE_COMMIT checks the staged list order and sets CUE_PENDING. -/
  | cueCommit (req : Requester) (tag : Nat) (value : Nat)
  /-- R196: A write to CUE_BOOT is validated under R188 and R192 and kept or refused. -/
  | cueBootWrite (req : Requester) (tag : Nat) (value : List Byte)
  /-- R197: A key write to CUE_CAPTURE copies the active bank into CUE_BOOT. -/
  | cueCapture (req : Requester) (tag : Nat) (value : Nat)
  /-- R201: SEQ_CTRL written 1 in STOPPED with a valid list arms the sequencer and loads the LFSRs. -/
  | seqCtrlStart (req : Requester) (tag : Nat)
  /-- R202: SEQ_CTRL written 2 moves ARMED or RUNNING to DRAINING and closes open reel sets early. -/
  | seqCtrlStop (req : Requester) (tag : Nat)
  /-- R219: A write to SEQ_EPOCH_INIT in STOPPED sets SEQ_EPOCH and resets TAKE_SEQ to 0. -/
  | seqEpochInitWrite (req : Requester) (tag : Nat) (value : Nat)
  /-- R253: A TRIG loopback edge is stamped; it becomes a take's start and opens its listen window, or is an unscheduled edge. -/
  | loopbackEdge (out : Fin 32) (tap : Fin 64)
  /-- R260: A column sink's recharge ends after COL_CHARGE_TIME. -/
  | colRechargeEnd (column : Fin 32)
  /-- R264: A chain frame finishes shifting, and its readback is compared. -/
  | chainFrameShiftDone (readback : List Nat)
  /-- R269: A take's capture window ends, giving its energy L and guard integral G. -/
  | captureComplete (samples : CaptureSamples)
  /-- R279: A write to ZONE_DIAG_CLEAR clears the latch, inhibition and count of one zone or of all zones. -/
  | zoneDiagClear (req : Requester) (tag : Nat) (value : Nat)
  /-- R299: The INIT self-test completes; a failure locks out with SELF_TEST. -/
  | safetySelfTestDone (passed : Bool)
  /-- R324: An off-pulse test drives one SUPPLY_EN output low for OFFTEST_PULSE. -/
  | offtestStart (out : Fin 2)
  /-- R306: A key write to TRIP_TEST delivers a trip with cause TRIP_TEST. -/
  | tripTest (req : Requester) (tag : Nat) (value : Nat)
  /-- R303: A rising edge on a gated ball, or an asserted CHAIN_LAT, while the gate is closed trips with GATE_LEAK. -/
  | gateLeak (ball : Fin 65)
  /-- R307: An over-energy integrator reaches OE_THRESHOLD, and the comparator trips. -/
  | overEnergy (input : Fin 2) (integrator : Fin 2)
  /-- R311: A window's oldest bucket leaves its sliding sum at a bucket boundary. -/
  | accBucketRoll (window : Fin 4)
  /-- R317: An EMIT_REQ or ILK channel holds a new level for SAFE_IN_FILTER ticks, and the level is accepted. -/
  | safeInputAccept (channel : Fin 4) (level : Bool)
  /-- R320: The two channels of a pair disagree for T ticks, which trips. -/
  | inputDiscrepancy (pair : Fin 2)
  /-- R322: A SUPPLY_FB input changes level after its 2-sample filter. -/
  | supplyFbChange (out : Fin 2) (level : Bool)
  /-- R323: An FB input stays away from its EN level for SUPPLY_FB_DELAY, which trips. -/
  | supplyReadback (out : Fin 2)
  /-- R328: A SAFE_CMD copy is checked and, if valid, updates its bearer's command and freshness. -/
  | safeCmdReceive (bearer : Fin 2) (data : List Byte)
  /-- R329: A bearer's SAFE_CMD copy ages beyond SAFE_CMD_TIMEOUT, which is a stop. -/
  | safeMsgTimeout (bearer : Fin 2)
  /-- R335: A write to SEAL_COMMIT in OPEN checks the image CRC and validation and sets SEAL_PENDING. -/
  | sealCommit (req : Requester) (tag : Nat) (value : Nat)
  /-- R338: A key write to LOCKOUT_RESET clears a soft lock-out to INHIBITED when its conditions hold. -/
  | lockoutReset (req : Requester) (tag : Nat) (value : Nat)
  /-- R361: An RXREF outside 0.30 to 0.90 V for 1 µs moves its block to REF_FAULT. -/
  | refFaultDetect (block : Fin 16)
  /-- R361: A reference back inside its range for 100 µs returns its block from REF_FAULT. -/
  | refFaultClear (block : Fin 16)
  /-- R364: A write to THRESH_LO, THRESH_HI or RX_HYST is checked for HI above LO and applied at the close of the current window. -/
  | threshWrite (req : Requester) (tag : Nat) (key : Nat) (value : List Byte)
  /-- R377: A low-comparator leading edge is stamped and classified against its take as pre-start, blind, in window or background. -/
  | rxLeadingEdge (channel : Fin 256) (tap : Fin 64)
  /-- R375: The high comparator goes high during a hit, which marks the hit HI. -/
  | rxHighCrossing (channel : Fin 256)
  /-- R368: A trailing edge completes a hit with its tot, and the 2 ns dead time starts. -/
  | rxTrailingEdge (channel : Fin 256) (tap : Fin 64)
  /-- R374: A hit without a trailing edge for 0xFFFF LSB is closed with LONG. -/
  | rxTotLong (channel : Fin 256)
  /-- R372: The dead time ends, and the channel re-arms if its comparator is low. -/
  | rxDeadTimeEnd (channel : Fin 256)
  /-- R376: A recorded hit passes through the channel buffer to the histogram engine and yields one addition per code pulse. -/
  | hitDelivery (channel : Fin 256)
  /-- R370: A DLL out of lock is detected, and its block's hits are discarded or its starts fall back to t_trig. -/
  | dllUnlock (dll : Fin 18)
  /-- R370: A DLL has held lock for 10 µs, and its block returns to service. -/
  | dllLockHeld (dll : Fin 18)
  /-- R382: A write to RX_ENABLE in STOPPED powers a channel up or down, answering after it settles. -/
  | rxEnableWrite (req : Requester) (tag : Nat) (key : Nat) (value : List Byte)
  /-- R384: A low comparator high for RX_STUCK_TIME makes the channel stuck. -/
  | rxStuck (channel : Fin 256)
  /-- R384: A stuck channel's comparator stays low for 1 µs, and the channel leaves the stuck state. -/
  | rxStuckClear (channel : Fin 256)
  /-- R447: A bank serves one queued addition as a read-modify-write of a bin word and updates the candidate tracker. -/
  | binUpdate (bank : Fin 64)
  /-- R413: A valid GEAR_TABLE write becomes pending for its group. -/
  | gearTableWrite (req : Requester) (tag : Nat) (group : Nat) (value : List Byte)
  /-- R416: A CODE_FAMILY write is validated and applies at each group's next fire decision. -/
  | codeFamilyWrite (req : Requester) (tag : Nat) (value : List Byte)
  /-- R446: The copy of a reel export record to DDR5 staging ends, or the record is dropped for lack of room. -/
  | rawExportCopyDone (channel : Fin 256) (buf : Fin 2)
  /-- R423: A CLEARING buffer has been written to 0 and becomes CLEAR. -/
  | reelClearDone (channel : Fin 256) (buf : Fin 2)
  /-- R443: A write to an MREV setting is checked against MREV_POOL and empties the history. -/
  | mrevConfigWrite (req : Requester) (tag : Nat) (key : Nat) (value : List Byte)
  /-- R502: A faulted engine has reloaded its images and restarts at ENTRY. -/
  | seRestartDone (eng : Fin 32)
  /-- R503: A slot stays OPEN for SE_WATCHDOG cycles, which is a WATCHDOG fault. -/
  | seWatchdog (eng : Fin 32)
  /-- R491: A spoke engine accepts a pending enabled interrupt, saves the shadow set and fetches the vector. -/
  | interruptAccept (eng : Fin 32)
  /-- R489: TIMER reaches TIMER_CMP, and IPEND bit 2 is set. -/
  | timerMatch (eng : Fin 32)
  /-- R495: A landing slot finishes filling from the mailbox queue and becomes READY. -/
  | slotReady (eng : Fin 32) (slot : Fin 2)
  /-- R496: A read of MBX_NEXT opens the older READY slot and returns its base address. -/
  | mbxNext (eng : Fin 32)
  /-- R497: A write of the OPEN slot's base to MBX_RELEASE queues its points, releases the reel and empties the slot. -/
  | mbxRelease (eng : Fin 32) (value : BitVec 16)
  /-- R498: A write to PT_OUTn builds a point record; the eighth write appends it to the OPEN slot. -/
  | ptOut (eng : Fin 32) (n : Fin 8) (value : BitVec 16)
  /-- R499: A write of 1 to DMA_CTRL starts a DMA or sets DMA_STATUS ERROR. -/
  | dmaCtrl (eng : Fin 32) (value : BitVec 16)
  /-- R489: A DMA ends and sets IPEND bit 1. -/
  | dmaDone (eng : Fin 32)
  /-- R506: A write to KERNEL_SELECT in STOPPED loads and starts the kernel on all engines. -/
  | kernelSelect (req : Requester) (tag : Nat) (value : Nat)
  /-- R512: A kernel parameter write reaches each engine's Y memory when the engine has no OPEN slot. -/
  | kernelParamDeliver (eng : Fin 32)
  /-- R505: SE_ENABLE written 0 removes an engine from dispatch; written 1 restarts an OFF or OFFLINE engine. -/
  | seEnableWrite (req : Requester) (tag : Nat) (eng : Fin 32) (value : Nat)
  /-- R505: A disabled engine finishes its queue and enters OFF. -/
  | seQueueDrained (eng : Fin 32)
  /-- R569: The next queued message leaves its destination as a KLP frame or UDP datagrams, sent whole once begun. -/
  | streamMessageSend (dest : Fin 3)
  /-- R556: An EXTRINSICS or BEAM_TABLE write is validated and applies at each group's next spoke opening. -/
  | extrinsicsWrite (req : Requester) (tag : Nat) (key : Nat) (value : List Byte)
  /-- R608: CAL_START written 1 starts a TDC calibration job over CAL_UNITS. -/
  | calStartTdc (req : Requester) (tag : Nat)
  /-- R608: CAL_START written 2 starts a threshold calibration job. -/
  | calStartThreshold (req : Requester) (tag : Nat)
  /-- R602: CAL_START written 3 starts a range-offset calibration job when RUNNING and ARMED. -/
  | calStartRangeOffset (req : Requester) (tag : Nat)
  /-- R591: A calibration span begins 5 ns after a window closes, switching a unit under calibration to the oscillator or the pedestal. -/
  | calSpanStart (unit : Fin 304)
  /-- R592: A calibration span ends before the next start, switching the unit back. -/
  | calSpanEnd (unit : Fin 304)
  /-- R594: A calibration repeat reaches its sample count and is judged; after two agreeing repeats the result is accepted or rejected. -/
  | calRepeatDone (unit : Fin 305) (measure : CalMeasure)
  /-- R595: A TDC repeat does not reach 2^20 hits within CAL_TDC_TIMEOUT and fails. -/
  | calTdcTimeout (unit : Fin 304)
  /-- R609: A table's age reaches CAL_MAX_AGE, and the unit becomes due. -/
  | calAgeExpiry (unit : Fin 304)
  /-- R610: A write to CAL_ONLINE; clearing it abandons an online run with 0x02. -/
  | calOnlineWrite (req : Requester) (tag : Nat) (value : Nat)
  /-- R626: The discharge of HK_DISCHARGE ends, and the new mux connections close. -/
  | hkDischargeEnd (m : Fin 16)
  /-- R630: HK_SETTLE ends, and integration may begin at the next boundary. -/
  | hkSettleEnd (m : Fin 16)
  /-- R637: An integration period starts at a locked boundary or on the FIXED timer. -/
  | hkPeriodStart (m : Fin 16)
  /-- R634: An integration period ends with its code; the last period computes and writes the result. -/
  | hkPeriodEnd (m : Fin 16) (n1 : Nat) (ref1 : Nat) (flags : HkFlags)
  /-- R637: No boundary comes 1,000 ms after a locked period started, and the converter falls back to FIXED. -/
  | hkUnlocked (m : Fin 16)
  /-- R638: The 250 µs die-temperature conversion after a period ends, updating HK_DIE_TEMP. -/
  | hkDieTempDone (conv : Fin 2) (reading : Int)
  /-- R644: A write to HK_INJECT requests an injected conversion of a measurement. -/
  | hkInject (req : Requester) (tag : Nat) (value : Nat)
  /-- R649: A pending FC_GAIN applies in the first cycle with no capture window open, and the switch settles for 8 ns. -/
  | fcGainApply (input : Fin 3)
  /-- R650: A write of 1 to FC_TRIM, or a due temperature move while not RUNNING, starts the 50 µs interleave trim. -/
  | fcTrim (write : Option Requester) (tag : Nat) (value : Nat)
  /-- R650: The interleave trim completes and raises event 0x119. -/
  | fcTrimDone (offset : Int) (gain : Int) (skew : Int)
  /-- R661: A host write to CLOCK_INCREMENT under TIME_SOURCE 1 sets the local-time rate from the next cycle. -/
  | clockIncrementWrite (req : Requester) (tag : Nat) (value : Nat)
  /-- R664: A Sync from the selected grandmaster gives an offset that drives the clock state and servo. -/
  | gptpSyncReceive (port : Fin 2) (msg : GptpSync)
  /-- R671: A Follow_Up completes a two-step Sync. -/
  | gptpFollowUpReceive (port : Fin 2) (msg : GptpFollowUp)
  /-- R673: A Pdelay_Req is answered with a one-step Pdelay_Resp. -/
  | gptpPdelayReqReceive (port : Fin 2) (msg : GptpPdelayReq)
  /-- R671: A Pdelay_Resp, or its Follow_Up, updates the port's mean link delay. -/
  | gptpPdelayRespReceive (port : Fin 2) (msg : GptpPdelayResp)
  /-- R671: An Announce feeds the best master clock algorithm. -/
  | gptpAnnounceReceive (port : Fin 2) (msg : GptpAnnounce)
  /-- R671: A Signaling message with an interval request TLV adjusts message intervals. -/
  | gptpSignalingReceive (port : Fin 2) (msg : GptpSignaling)
  /-- R673: As grandmaster, the device sends a one-step Sync. -/
  | gptpSyncTransmit (port : Fin 2) (stamp : Nat)
  /-- R671: A Pdelay_Req is sent each pdelay interval. -/
  | gptpPdelayReqTransmit (port : Fin 2) (stamp : Nat)
  /-- R671: An Announce is sent each announce interval. -/
  | gptpAnnounceTransmit (port : Fin 2)
  /-- R676: A port's sync timeout passes, which may move the clock to HOLDOVER or switch the servo's port. -/
  | syncTimeout (port : Fin 2)
  /-- R676: The announce receipt timeout of a port passes. -/
  | announceReceiptTimeout (port : Fin 2)
  /-- R667: TIME_RESTEP written 1 in FREE or HOLDOVER schedules a step to the servo's grandmaster estimate. -/
  | timeRestepToGptp (req : Requester) (tag : Nat)
  /-- R667: TIME_RESTEP written 2 schedules a step to TIME_SET plus the elapsed time. -/
  | timeRestepToTimeSet (req : Requester) (tag : Nat)
  /-- R918: HOST_LOCKED written 1 in LOCKING under TIME_SOURCE 1 moves the clock to LOCKED. -/
  | hostLockedSet (req : Requester) (tag : Nat)
  /-- R918: HOST_LOCKED written 0 in LOCKED moves the clock to HOLDOVER. -/
  | hostLockedClear (req : Requester) (tag : Nat)
  /-- R677: A write to TIME_SOURCE moves a LOCKING or LOCKED clock to HOLDOVER. -/
  | timeSourceWrite (req : Requester) (tag : Nat) (value : Nat)
  /-- R677: A write to 0x2A60 to 0x2A6B restarts gPTP on the affected ports. -/
  | gptpConfigWrite (req : Requester) (tag : Nat) (key : Nat) (value : List Byte)
  /-- R679: A received Ethernet frame is filtered and passed to ARP, ICMP, UDP services or gPTP. -/
  | ethFrameReceive (port : Fin 2) (frame : EthFrame)
  /-- R684: A port's link state changes and raises event 0x126. -/
  | linkChange (port : Fin 2) (level : Fin 5)
  /-- R684: A write to 0x1100 to 0x110B applies after its response; PORT_ENABLE and LINK_SPEED restart the link. -/
  | portConfigWrite (req : Requester) (tag : Nat) (key : Nat) (value : List Byte)
  /-- R687: A received CAN frame is taken as a KOA request, a SAFE_CMD copy or a speed message, or ignored. -/
  | canFrameReceive (frame : CanFrame)
  /-- R688: The controller's error state changes among active, passive and bus-off. -/
  | canState (errors : Fin 3)
  /-- R688: A write of 1 to CAN_AUTO_RECOVER ends a bus-off that is waiting for it. -/
  | canAutoRecoverWrite (req : Requester) (tag : Nat) (value : Nat)
  /-- R689: A write to 0x1150 to 0x1157 takes the controller off the bus until 11 recessive bits at the new settings. -/
  | canConfigWrite (req : Requester) (tag : Nat) (key : Nat) (value : List Byte)
  /-- R691: A speed message is checked and sets EGO_SPEED, or is counted invalid. -/
  | egoSpeedReceive (source : Fin 2) (data : List Byte)
  /-- R711: A received 66-bit block is checked and passed through the elastic buffer; invalid headers may lose block lock. -/
  | laneBlockReceive (lane : Fin 8) (block : LaneBlock)
  /-- R711: 64 consecutive valid sync headers give block lock. -/
  | laneLocked (lane : Fin 8)
  /-- R716: A received ALIGN column deskews the bond's lanes and applies the peer's MAP. -/
  | alignReceive (lane : Fin 8) (col : AlignColumn)
  /-- R721: A received STATUS column updates lane usability, which may remove a lane from the bond. -/
  | statusReceive (lane : Fin 8) (col : StatusColumn)
  /-- R721: The last STATUS reporting a lane usable becomes older than 32 µs. -/
  | laneStatusAged (bond : Fin 2)
  /-- R716: Every 16,384 columns an ALIGN column is sent, re-adding lanes usable for 1 ms. -/
  | alignColumnSend (bond : Fin 2)
  /-- R717: A STATUS column is sent every 8 µs on the bond's lanes. -/
  | statusColumnSend (bond : Fin 2)
  /-- R720: A received frame is checked and discarded on error, or is passed on as a Farlu frame. -/
  | klpFrameReceive (bond : Fin 2) (frame : LaneFrame)
  /-- R705: A write to LANE_MODE sets a lane OFF, FUNCTION or TEST at once. -/
  | laneModeWrite (req : Requester) (tag : Nat) (lane : Fin 8) (value : Nat)
  /-- R728: A KLP_WIDTH or BOND_RATE write restarts the bond in TRAINING. -/
  | bondConfigWrite (req : Requester) (tag : Nat) (key : Nat) (value : List Byte)
  /-- R729: A 2^16 UI transition-density window ends, freezing or resuming adaptation. -/
  | adaptWindowEnd (lane : Fin 8) (transitions : Nat)
  /-- R730: A write to EYE_SCAN starts an eye-scan job on a lane. -/
  | eyeScan (req : Requester) (tag : Nat) (value : Nat)
  /-- R734: PRBS_CTRL bit GEN on a TEST lane starts or stops PRBS31 transmission. -/
  | prbsGenWrite (req : Requester) (tag : Nat) (lane : Fin 8) (value : Nat)
  /-- R734: PRBS_CTRL bit CHECK on a TEST lane starts the checker and clears PRBS_ERRORS. -/
  | prbsCheckWrite (req : Requester) (tag : Nat) (lane : Fin 8) (value : Nat)
  /-- R734: 64 error-free bits lock the PRBS checker. -/
  | prbsLockAcquired (lane : Fin 8)
  /-- R734: 64 errors within 1,024 bits clear PRBS_LOCK. -/
  | prbsLoss (lane : Fin 8)
  /-- R735: A write to LANE_LOOP on a TEST lane selects a loop. -/
  | laneLoopWrite (req : Requester) (tag : Nat) (lane : Fin 8) (value : Nat)
  /-- R755: The I3C private write command 0x01 hands a KOA PDU to the object server. -/
  | koaRequest (pdu : List Byte)
  /-- R753: The I3C command 0x02 selects the live window from a half address as read source. -/
  | liveSelect (half : Fin 512)
  /-- R753: A private write with an unknown command, bad length, parity or CRC error is discarded and sets PROTOCOL_ERROR. -/
  | i3cWriteDiscard (data : List Byte)
  /-- R759: A private read returns live-window halves, latching high halves and setting TORN as R759 states. -/
  | liveWindowRead (count : Nat)
  /-- R756: A private read transfers the ready KOA response, collecting it when its last byte is read, or is NACKed. -/
  | koaResponseRead (count : Nat)
  /-- R770: A private read removes event records from the IBI queue, oldest first. -/
  | eventQueueRead (count : Nat)
  /-- R769: At a bus-free condition the device requests an IBI for a ready response or a queued record. -/
  | ibiRequest (acked : Bool)
  /-- R748: CCC ENTDAA assigns a dynamic address by arbitration. -/
  | entdaa (won : Bool) (address : BitVec 7)
  /-- R748: CCC SETDASA assigns a dynamic address from the static address. -/
  | setdasa (staticAddr : BitVec 7) (address : BitVec 7)
  /-- R748: CCC SETNEWDA changes the dynamic address. -/
  | setnewda (address : BitVec 7)
  /-- R750: CCC SETMWL lowers the maximum write length. -/
  | setmwl (length : Nat)
  /-- R750: CCC SETMRL lowers the maximum read length and may select short IBIs. -/
  | setmrl (length : Nat) (ibi : Option Nat)
  /-- R773: A write to EVENT_ACK clears pending bits of one event, one block or all. -/
  | eventAck (req : Requester) (tag : Nat) (value : Nat)
  /-- R774: A write to EVENT_MASK or EVENT_ROUTE applies from the next cycle, and disabling clears pending bits. -/
  | eventMaskWrite (req : Requester) (tag : Nat) (key : Nat) (value : List Byte)
  /-- R771: An event datagram is queued when it holds 64 records or 1 ms after its first record. -/
  | eventDatagramFlush (port : Fin 2)
  /-- R761: A validated LIVE_MAP write applies after its response, drops the latch and sets MAP_CHANGED. -/
  | liveMapWrite (req : Requester) (tag : Nat) (value : List Byte)
  /-- R788: A TRIG pair's level stays in a new band for 200 ns, changing its class and the drive state. -/
  | trigDriveClassChange (pair : Fin 32) (level : DriveLevel)
  /-- R810: A partner HEARTBEAT refreshes partner state and is checked for position and seal conflicts. -/
  | heartbeatReceive (payload : List Byte)
  /-- R800: A SHADOW pairs a TAKE frame with its group's next loopback start. -/
  | takeFrameReceive (payload : List Byte)
  /-- R800: A start or TAKE frame unpaired for 4 µs is a divergence, and the SHADOW requests a resync. -/
  | takeDivergence (group : Fin 4)
  /-- R802: A SPOKE_SUM frame is compared with the SHADOW's own spoke sum. -/
  | spokeSumReceive (payload : List Byte)
  /-- R799: The SHADOW applies a mirrored object write, or a BLOCK value when LAST arrives. -/
  | objectFrameReceive (payload : List Byte)
  /-- R798: The SHADOW takes a CUE frame as its cue list. -/
  | cueFrameReceive (payload : List Byte)
  /-- R803: The SHADOW steers its clock, epoch and clock state to a TIME frame. -/
  | timeFrameReceive (payload : List Byte)
  /-- R798: The SHADOW stores the mirrored accountant sums of an ACCOUNT frame. -/
  | accountFrameReceive (payload : List Byte)
  /-- R808: An exchanged EPOCH frame is compared to give the pairing verdict, or a conflict that leads to a pair-conflict reset. -/
  | epochFrameReceive (payload : List Byte)
  /-- R793: A YIELD frame from the partner has no effect of its own. -/
  | yieldFrameReceive (payload : List Byte)
  /-- R803: The ACTIVE device answers a RESYNC_REQ with OBJECT, CUE, TIME and ACCOUNT frames. -/
  | resyncReqReceive (payload : List Byte)
  /-- R805: A key write to PAIR_HANDOVER on the ACTIVE device yields to the partner and enters SHADOW. -/
  | pairHandover (req : Requester) (tag : Nat) (value : Nat)
  /-- R828: The SRAM scrubber reads a word, correcting a correctable error and reporting an uncorrectable one. -/
  | sramScrubRead (mem : Fin 6) (addr : Nat) (found : EccFind) (owner : Bool) (passEnd : Bool)
  /-- R828: The DDR5 scrubber reads a burst and corrects or reports errors. -/
  | ddrScrubRead (addr : Nat) (found : EccFind) (item : DdrItem) (passEnd : Bool)
  /-- R832: DDR5 training ends, starting the wipe job or setting FAILED. -/
  | ddrTrainingDone (lanesOk : Bool) (org : Fin 5)
  /-- R831: Every 32 ms the component temperatures are read, and tREFI halves or returns. -/
  | ddrTempPoll (temps : List Int)
  /-- R842: A write to RECORD_RESOLVE in SAFE_DEFAULT rewrites a conflicting critical record from the chosen copy. -/
  | recordResolve (req : Requester) (tag : Nat) (value : Nat)
  /-- R844: A write to KEY_PROGRAM programs an empty key slot's hash. -/
  | keyProgram (req : Requester) (tag : Nat) (value : List Byte)
  /-- R844: A keyed write to KEY_REVOKE blows a slot's revoke bit. -/
  | keyRevoke (req : Requester) (tag : Nat) (value : Nat)
  /-- R840: A write to IDENTITY_SET updates the IDENTITY critical record. -/
  | identitySet (req : Requester) (tag : Nat) (value : List Byte)
  /-- R846: A valid LIFECYCLE_REQUEST sets LIFECYCLE_PENDING for the fuse to be blown at the next reset. -/
  | lifecycleRequest (req : Requester) (tag : Nat) (value : List Byte)
  /-- R851: A key write to FW_COMMIT starts the firmware update job on the inactive image region. -/
  | fwCommit (req : Requester) (tag : Nat) (value : Nat)
  /-- R851: A key write to SVN_COMMIT raises MIN_SVN to the running image's SVN. -/
  | svnCommit (req : Requester) (tag : Nat) (value : Nat)
  /-- R853: A write to SELFTEST_START in STOPPED starts a self-test job on the selected blocks. -/
  | selftestStart (req : Requester) (tag : Nat) (value : Nat)
  /-- R854: A write to NVM_VERIFY starts a margin-read job over the selected regions. -/
  | nvmVerify (req : Requester) (tag : Nat) (value : Nat)
  /-- R856: A write to TRACE_CTRL is checked against life cycle and KLP_WIDTH and sets trace routing. -/
  | traceCtrlWrite (req : Requester) (tag : Nat) (value : Nat)
  /-- R871: A supply below its brown-out threshold for 1 µs sets the trip latch and resets the device. -/
  | brownout (supply : Fin 7)
  /-- R874: A key write to RESET_REQUEST schedules a device reset 1 ms after the response is queued. -/
  | resetRequest (req : Requester) (tag : Nat) (value : Nat)
  /-- R877: Reset is released, straps are sampled and the boot ROM resolves the critical records. -/
  | resetRelease (levels : StrapLevels)
  /-- R337: A lockstep mismatch between the two cores of CC0 or CC1 is a safety trip with cause LOCKSTEP, blocking all triggers within 60 ns. -/
  | lockstepDivergence (complex : Fin 2)
  /-- R481: The signed product of two 16-bit halves is added to or subtracted from an accumulator. -/
  | seMac (eng : Fin 34) (w : BitVec 26)
  /-- R481: The signed product, or its negation, is placed in an accumulator. -/
  | seMpy (eng : Fin 34) (w : BitVec 26)
  /-- R481: The unsigned product is added to or subtracted from an accumulator. -/
  | seMacu (eng : Fin 34) (w : BitVec 26)
  /-- R481: The signed-by-unsigned product is added to or subtracted from an accumulator. -/
  | seMacsu (eng : Fin 34) (w : BitVec 26)
  /-- R481: The instruction performs its parallel moves only. -/
  | seMove (eng : Fin 34) (w : BitVec 26)
  /-- R481: A-format 32-bit addition of two D registers. -/
  | seAdd (eng : Fin 34) (w : BitVec 26)
  /-- R481: A-format 32-bit subtraction. -/
  | seSub (eng : Fin 34) (w : BitVec 26)
  /-- R481: A-format 32-bit bitwise AND. -/
  | seAnd (eng : Fin 34) (w : BitVec 26)
  /-- R481: A-format 32-bit bitwise OR. -/
  | seOr (eng : Fin 34) (w : BitVec 26)
  /-- R481: A-format 32-bit bitwise XOR. -/
  | seXor (eng : Fin 34) (w : BitVec 26)
  /-- R481: A-format signed minimum. -/
  | seMin (eng : Fin 34) (w : BitVec 26)
  /-- R481: A-format signed maximum. -/
  | seMax (eng : Fin 34) (w : BitVec 26)
  /-- R481: A-format shift by a signed amount. -/
  | seShift (eng : Fin 34) (w : BitVec 26)
  /-- R481: A D register, sign-extended, is added to an accumulator. -/
  | seAdda (eng : Fin 34) (w : BitVec 26)
  /-- R481: A D register is subtracted from an accumulator. -/
  | seSuba (eng : Fin 34) (w : BitVec 26)
  /-- R481: An accumulator is shifted left by N. -/
  | seShla (eng : Fin 34) (w : BitVec 26)
  /-- R481: An accumulator is shifted right arithmetically by N. -/
  | seShra (eng : Fin 34) (w : BitVec 26)
  /-- R477: Accumulator bits [31:0] move to a D register, saturating when SAT is set. -/
  | seMova (eng : Fin 34) (w : BitVec 26)
  /-- R477: Accumulator bits [31:16] move to Dn.L, rounded if RND is set and saturating. -/
  | seMovah (eng : Fin 34) (w : BitVec 26)
  /-- R481: An accumulator is cleared. -/
  | seClra (eng : Fin 34) (w : BitVec 26)
  /-- R481: A register takes a sign-extended 16-bit immediate. -/
  | seMovi (eng : Fin 34) (w : BitVec 26)
  /-- R481: A register's upper 16 bits take an immediate. -/
  | seMovih (eng : Fin 34) (w : BitVec 26)
  /-- R481: A sign-extended immediate is added to a register. -/
  | seAddi (eng : Fin 34) (w : BitVec 26)
  /-- R481: Flags are set from a register minus an immediate. -/
  | seCmpi (eng : Fin 34) (w : BitVec 26)
  /-- R481: R-format addition on D0 to D15. -/
  | seAluAdd (eng : Fin 34) (w : BitVec 26)
  /-- R481: R-format subtraction. -/
  | seAluSub (eng : Fin 34) (w : BitVec 26)
  /-- R481: R-format bitwise AND. -/
  | seAluAnd (eng : Fin 34) (w : BitVec 26)
  /-- R481: R-format bitwise OR. -/
  | seAluOr (eng : Fin 34) (w : BitVec 26)
  /-- R481: R-format bitwise XOR. -/
  | seAluXor (eng : Fin 34) (w : BitVec 26)
  /-- R481: R-format signed minimum. -/
  | seAluMin (eng : Fin 34) (w : BitVec 26)
  /-- R481: R-format signed maximum. -/
  | seAluMax (eng : Fin 34) (w : BitVec 26)
  /-- R481: R-format shift. -/
  | seAluShift (eng : Fin 34) (w : BitVec 26)
  /-- R481: R-format compare, setting flags only. -/
  | seAluCmp (eng : Fin 34) (w : BitVec 26)
  /-- R481: R-format absolute value. -/
  | seAluAbs (eng : Fin 34) (w : BitVec 26)
  /-- R481: R-format negation. -/
  | seAluNeg (eng : Fin 34) (w : BitVec 26)
  /-- R481: R-format count of leading zeros. -/
  | seAluClz (eng : Fin 34) (w : BitVec 26)
  /-- R481: R-format unsigned minimum. -/
  | seAluMinu (eng : Fin 34) (w : BitVec 26)
  /-- R481: R-format unsigned maximum. -/
  | seAluMaxu (eng : Fin 34) (w : BitVec 26)
  /-- R481: A 16-bit sign-extended load under the L-format addressing mode. -/
  | seLdW (eng : Fin 34) (w : BitVec 26)
  /-- R481: A 16-bit zero-extended load. -/
  | seLdUw (eng : Fin 34) (w : BitVec 26)
  /-- R481: A 32-bit load from an even address. -/
  | seLdL (eng : Fin 34) (w : BitVec 26)
  /-- R481: A 16-bit store of register bits [15:0], including I/O registers without behaviour of their own. -/
  | seStW (eng : Fin 34) (w : BitVec 26)
  /-- R481: A 32-bit store of register bits [31:0]. -/
  | seStL (eng : Fin 34) (w : BitVec 26)
  /-- R481: A register takes an access address without an access. -/
  | seLea (eng : Fin 34) (w : BitVec 26)
  /-- R481: MOVC KIND 0 moves a control register to a D register. -/
  | seMovcRead (eng : Fin 34) (w : BitVec 26)
  /-- R481: MOVC KIND 1 moves a D register to a control register. -/
  | seMovcWrite (eng : Fin 34) (w : BitVec 26)
  /-- R481: MOVC KIND 2 writes an immediate to a control register. -/
  | seMovcImmediate (eng : Fin 34) (w : BitVec 26)
  /-- R481: A pointer register takes Dn[19:0]. -/
  | seMovp (eng : Fin 34) (w : BitVec 26)
  /-- R481: A pointer register takes a 20-bit immediate. -/
  | seMovpi (eng : Fin 34) (w : BitVec 26)
  /-- R484: A conditional branch to TARGET, with two delay slots. -/
  | seB (eng : Fin 34) (w : BitVec 26)
  /-- R481: The return address is pushed, with a conditional branch. -/
  | seCall (eng : Fin 34) (w : BitVec 26)
  /-- R481: A branch to Dn.L. -/
  | seBr (eng : Fin 34) (w : BitVec 26)
  /-- R481: The return stack is popped, with a conditional branch. -/
  | seRet (eng : Fin 34) (w : BitVec 26)
  /-- R491: A return from interrupt restores the shadow set. -/
  | seReti (eng : Fin 34) (w : BitVec 26)
  /-- R487: The innermost block repeat is left. -/
  | seBreak (eng : Fin 34) (w : BitVec 26)
  /-- R485: The next instruction is repeated COUNT times. -/
  | seRpt (eng : Fin 34) (w : BitVec 26)
  /-- R486: The next LEN instructions are repeated COUNT times at the next depth. -/
  | seBrpt (eng : Fin 34) (w : BitVec 26)
  /-- R481: No operation. -/
  | seNop (eng : Fin 34)
  /-- R481: A spoke engine waits for an interrupt or a READY slot; an audit engine waits for the audit boundary. -/
  | seWait (eng : Fin 34)
  /-- R481: An undefined opcode or code is executed, which is a spoke-engine fault or an audit-engine trip. -/
  | seIllegalOpcode (eng : Fin 34)
  /-- R72: An I3C response not collected within 10 ms of being ready is discarded and counted. -/
  | koaI3cResponseTimeout
  /-- R85: Wear levelling carries live records forward and starts the erase of the sector ahead of the log head. -/
  | nvmWearLevelErase
  /-- R28: The spoke PLL stays within ±2 % for 1 ms, and the engines restart at ENTRY within 50 µs. -/
  | spokePllStable
  /-- R164: At a virtual revolution boundary, the VIRTUAL axis position is recomputed from local time, and pending period and phase writes apply. -/
  | virtualBoundary
  /-- R193: The cue banks swap at once or when the cue axis look-ahead passes 0, and CUE_PENDING clears. -/
  | cueSwap
  /-- R195: The copy of the new active bank into the staging bank ends, and a held CUE_WINDOW write is applied. -/
  | stagingCopyDone
  /-- R208: A crossed cue is checked for in-flight, rate and slack limits and, if it passes, is decided as a take with code, dither, number and trigger time. -/
  | fireDecision
  /-- R257: In MATRIX mode, a take's matrix interval and column pre-charge begin at t_trig − PRECHARGE. -/
  | prechargeStart
  /-- R256: A matrix interval ends 2 ns after the last pulse, ROW goes low and column recharge starts. -/
  | matrixIntervalEnd
  /-- R251: At t_trig the first trigger edge of a take, followed by its code's pulses, leaves through the trigger gate. -/
  | triggerIssue
  /-- R254: No loopback stamp arrives within t_trig ± 2 ns, and the take uses t_trig as its start. -/
  | startMissing
  /-- R210: A take's listen window closes after LG_WINDOW, and pending threshold writes apply to the DACs. -/
  | takeWindowClose
  /-- R266: CHAIN_LAT is raised once no matrix interval or pulse is in progress or due within 30 ns. -/
  | chainLatch
  /-- R280: At a diagnostic interval boundary, each zone's coverage is judged and DUE is set after 2 uncovered intervals. -/
  | diagIntervalBoundary
  /-- R226: The sequencer inserts a diagnostic pulse on the oldest due zone when the conditions of R225 hold. -/
  | diagPulseInsert
  /-- R227: At the end of a turnaround, each due zone not served increments DIAG_DEFERRED. -/
  | diagTurnaroundEnd
  /-- R300: When every arming condition holds in INHIBITED, the safety island enters ARMING and drives SUPPLY_EN high. -/
  | armingStart
  /-- R300: REARM_HOLD passes after reset release, meeting the Hold elapsed condition. -/
  | rearmHoldElapsed
  /-- R324: At the end of OFFTEST_PULSE, the tested EN output goes high again. -/
  | offtestEnRise
  /-- R324: At the end of a readback interval, the off-pulse test passes or trips; passing B in ARMING enters ARMED. -/
  | offtestCheck
  /-- R315: At each 1 ms boundary, the accountant freezes a snapshot, and the audit engines resume or are found overrun. -/
  | auditBoundary
  /-- R315: The audit engines finish comparing their sums, exchange CRCs and check the sealed set; any inequality trips. -/
  | auditCompareDone
  /-- R316: No rising edge arrives on SCAN_MONITOR_INPUT for SCAN_EDGE_TIMEOUT, which trips with SCAN_MONITOR. -/
  | scanMonitor
  /-- R327: SAFE_STATUS is sent on both bearers every SAFE_MSG_PERIOD and within 20 µs of a state change. -/
  | safeStatusSend
  /-- R330: The bearers' last commands disagree for DISCREPANCY_TIME, which trips. -/
  | safeMsgDiscrepancy
  /-- R387: At the end of each 10 ms interval, RX_BG_RATE is replaced, and a rate above RX_BG_ALARM raises event 0x083. -/
  | rxBgInterval
  /-- R421: A reel set completes 60 ns after its last window; its reels become HELD, rates are computed and descriptors are posted. -/
  | reelSetComplete
  /-- R39: A waiting reel descriptor is posted to the engine with the shortest queue once a queue has room. -/
  | descriptorPost
  /-- R439: A sum reel is built from the completed reel and shifted history entries, searched by scan and posted as a KIND 1 descriptor. -/
  | mrevSumBuild
  /-- R442: The vehicle speed ages beyond EGO_TIMEOUT, which stops sum builds. -/
  | egoStale
  /-- R545: A spoke closes after SPOKE_HOLD; crosstalk, transform, slate and sum are applied, and a message is queued to each stream. -/
  | spokeClose
  /-- R546: A spoke not closed SPOKE_MAX_AGE after its first take is closed by force. -/
  | spokeSplit
  /-- R570: When local nanoseconds pass 0, the dailies digest is assembled and queued. -/
  | dailiesDigest
  /-- R609: Online calibration starts on the highest-priority due unit. -/
  | calOnlineStart
  /-- R643: The next enabled measurement starts when its resources are free, breaking the mux and starting the discharge. -/
  | hkMeasurementStart
  /-- R666: A pending step applies at axis A's pass through 0 or within 1 µs; local time takes its target and TIME_EPOCH increments. -/
  | timeStepped
  /-- R664: HOST_TIMEOUT passes without a CLOCK_INCREMENT write, and the clock enters HOLDOVER. -/
  | hostTimeout
  /-- R669: An hour spent continuously in LOCKED ends, and XTAL_AGEING is learned. -/
  | xtalLearned
  /-- R682: A resolution request is repeated each 1 s until the address resolves. -/
  | addressResolutionRetry
  /-- R681: ARP cache entries are refreshed every 60 s. -/
  | arpRefresh
  /-- R688: Bus-off ends after 128 occurrences of 11 recessive bits with CAN_AUTO_RECOVER set. -/
  | canBusOffRecovery
  /-- R688: A CAN frame still queued 100 ms after queuing is discarded. -/
  | canTxTimeout
  /-- R753: The I3C command 0x03 selects the event queue as read source. -/
  | eventRead
  /-- R751: 100 µs without an SCL edge inside a transfer abandons it. -/
  | i3cTransferTimeout
  /-- R769: CCC ENEC enables IBIs. -/
  | enec
  /-- R780: CCC DISEC disables IBIs. -/
  | disec
  /-- R748: CCC RSTDAA clears the dynamic address. -/
  | rstdaa
  /-- R750: CCC GETMWL returns the maximum write length. -/
  | getmwl
  /-- R750: CCC GETMRL returns the maximum read length and IBI payload size. -/
  | getmrl
  /-- R748: CCC GETPID returns the provisional ID. -/
  | getpid
  /-- R748: CCC GETBCR returns 0x26. -/
  | getbcr
  /-- R748: CCC GETDCR returns 0x00. -/
  | getdcr
  /-- R751: CCC GETSTATUS returns the status word and clears PROTOCOL_ERROR. -/
  | getstatus
  /-- R748: CCC GETMXDS returns the maximum data speed. -/
  | getmxds
  /-- R748: CCC GETCAPS returns the capabilities. -/
  | getcaps
  /-- R748: CCC ENTHDR0 enters HDR-DDR mode. -/
  | enthdr0
  /-- R748: CCC RSTACT with defining byte 0x00 performs no reset. -/
  | rstactNoReset
  /-- R752: CCC RSTACT 0x01 resets the I3C interface, clearing its address, settings, response place and IBI queue. -/
  | rstactResetI3c
  /-- R793: A SHADOW's drive state stays UNDRIVEN for DRIVE_LOSS_TIME, and it starts a claim. -/
  | takeover
  /-- R790: ALONE_WAIT passes with no partner heartbeat and undriven lines, and a PAIRING device starts a claim. -/
  | aloneWaitExpiry
  /-- R791: The claim quiet time ends, and the device drives its emitter pins idle and watches for contention. -/
  | claimQuietEnd
  /-- R795: 20 µs pass without failing contention; the device becomes ACTIVE, seeds its state and re-epochs. -/
  | claimComplete
  /-- R798: A HEARTBEAT frame is sent every 10 µs. -/
  | heartbeatSend
  /-- R804: No heartbeat for HEARTBEAT_TIMEOUT, or the bond is DOWN; PARTNER_SEEN and MIRROR_SYNC clear. -/
  | heartbeatLost
  /-- R802: A spoke left without a counterpart for 10 ms counts in SUM_UNPAIRED. -/
  | sumUnpairedTimeout
  /-- R798: The ACTIVE device sends a TIME frame every 1 ms. -/
  | timeFrameSend
  /-- R835: A 64 MiB DDR5 region is wiped and becomes usable; the last raises event 0x155. -/
  | ddrWipeRegionDone
  /-- R834: The SRAM wipe after reset completes, enabling the blocks that read it. -/
  | sramWipeDone
  /-- R839: Each powered hour a record with POWER_ON_HOURS, RESET_COUNT and peak temperature is appended. -/
  | operatingLogAppend
  /-- R857: Every SNAP_PERIOD ms, counter snapshot records enter the trace stream. -/
  | traceSnapshot
  /-- R870: Every supply has stayed above its power-on threshold for 2 ms, ending power-on reset. -/
  | supplyPowerOn
  /-- R873: RESET_N low for 500 ns resets the device. -/
  | resetPin
  /-- R881: WAKE low for 10 ms puts the device in standby reset. -/
  | standbyEntry
  /-- R880: WAKE high for 100 µs allows reset release. -/
  | wakeHigh
  /-- R873: The control-complex watchdog unserviced for 100 ms resets the device. -/
  | ccWatchdogExpiry
  /-- R874: The 1 ms after a RESET_REQUEST response ends, and the device resets. -/
  | resetRequestDelayEnd
  /-- R849: The boot ROM finishes verifying the images and boots the bootable one with the higher SEQ, or stays in recovery. -/
  | bootImageVerified
  /-- R90: At boot, the stored RWS candidate set is checked and applied, and calibration, cue list, kernels, channels and axes start. -/
  | bootApplyStored
  deriving DecidableEq, Repr

end Sys2Proof
end

