-- ==== Sys2Proof/WellFormed.lean ====
section
/-! DEFINITION. Well-formed commands: every operand fits the field that carries it. exec is total without it; the checks say what a
sender of commands can put into the spec's own fields. -/

namespace Sys2Proof

open Sys2Proof.Machine

/-- A TAG is one byte (R61). -/
def tagOk (t : Nat) : Bool := decide (t < 2 ^ 8)

/-- A scalar value takes at most 8 bytes (R59). -/
def valueOk (v : Nat) : Bool := decide (v < 2 ^ 64)

/-- A key is an index and a subindex (R61). -/
def keyOk (k : Nat) : Bool := decide (k < 2 ^ 24)

/-- A 16-bit operand. -/
def halfOk (n : Nat) : Bool := decide (n < 2 ^ 16)

/-- A job slot is 1 to 16 (R95). -/
def slotOk (n : Nat) : Bool := decide (1 ≤ n) && decide (n ≤ 16)

/-- A group is 0 to 3 (R29). -/
def groupOk (g : Nat) : Bool := decide (g < 4)

/-- The fields of a request's header fit their bits (R61). -/
def KoaHdr.ok (h : KoaHdr) : Bool :=
  decide (h.ver < 2 ^ 3) && tagOk h.tag && halfOk h.index && decide (h.sub < 2 ^ 8) && decide (h.flags < 2 ^ 8) && halfOk h.len

/-- A code-density figure has 64 taps and 8 coarse phases, and each of its at most 2^20 hits a tap and a phase (R594); a search has at most
seven steps of 2^14 samples (R599). -/
def CalMeasure.ok (m : CalMeasure) : Bool :=
  m.taps.length == 64 && m.phases.length == 8 && decide (m.taps.sum ≤ 2 ^ 20) && m.phases.sum == m.taps.sum &&
    [m.lo, m.hi].all (fun l => decide (l.length ≤ 7) && l.all (fun n => decide (n ≤ 2 ^ 14)))

/-- Samples of the fast converters are 10 bits (R269, R647). -/
def CaptureSamples.ok (c : CaptureSamples) : Bool := (c.base ++ c.guard ++ c.rest ++ c.isense).all (fun n => decide (n < 2 ^ 10))

/-- Header fields of the gPTP messages (R671): domain of 8 bits, sequence of 16, clock identity of 64. -/
def gptpOk (domain seq source : Nat) : Bool := decide (domain < 2 ^ 8) && halfOk seq && decide (source < 2 ^ 64)
def GptpSync.ok (m : GptpSync) : Bool := gptpOk m.domain m.seq m.source
def GptpFollowUp.ok (m : GptpFollowUp) : Bool := gptpOk m.domain m.seq m.source
def GptpPdelayReq.ok (m : GptpPdelayReq) : Bool := gptpOk m.domain m.seq m.source && decide (m.sdo < 2 ^ 4) && halfOk m.port
def GptpPdelayResp.ok (m : GptpPdelayResp) : Bool := gptpOk m.domain m.seq 0
def GptpAnnounce.ok (m : GptpAnnounce) : Bool := gptpOk m.domain 0 m.source && decide (m.vector.identity < 2 ^ 64)
def GptpSignaling.ok (m : GptpSignaling) : Bool :=
  gptpOk m.domain 0 0 && [m.pdelay, m.sync, m.announce].all (fun i => decide (-128 ≤ i) && decide (i ≤ 127))

/-- The fields of a UDP packet. -/
def IpPayload.ok : IpPayload → Bool
  | .udp s d _ => halfOk s && halfOk d
  | .solicitation t => decide (t < 2 ^ 128)
  | .advertisement t => decide (t < 2 ^ 128)
  | _ => true

/-- The fields of an Ethernet frame: addresses of 48, 32 and 128 bits, VLAN_IDs of 12 (R679, R683). -/
def EthFrame.ok (f : EthFrame) : Bool :=
  decide (f.dst < 2 ^ 48) && f.tags.all (fun t => decide (t < 2 ^ 12)) &&
    (match f.body with
     | .arp _ s t => decide (s < 2 ^ 32) && decide (t < 2 ^ 32)
     | .ip p => decide (p.src < 2 ^ 128) && decide (p.dst < 2 ^ 128) && p.payload.ok
     | _ => true)

/-- The most data a CAN frame of a format carries (R686). -/
def CanFormat.limit : CanFormat → Nat
  | .xl => 2048 | .fd => 64 | .classic => 8

/-- The fields of a CAN frame: an identifier of 11 bits where it is basic, else of 29 (R686, R687). -/
def CanFrame.ok (f : CanFrame) : Bool :=
  decide (f.id < if f.basic then 2 ^ 11 else 2 ^ 29) && decide (f.data.length ≤ f.format.limit) && decide (f.sdt < 2 ^ 8) &&
    decide (f.vcid < 2 ^ 8)

/-- A block holds 8 bytes (R710). -/
def LaneBlock.ok (b : LaneBlock) : Bool := b.bytes.length == 8

/-- The fields of ALIGN and STATUS columns (R712). -/
def AlignColumn.ok (c : AlignColumn) : Bool := decide (c.map < 2 ^ 8) && halfOk c.seq
def StatusColumn.ok (c : StatusColumn) : Bool :=
  decide (c.rxOk < 2 ^ 8) && decide (c.frozen < 2 ^ 8) && decide (c.txActive < 2 ^ 8) && halfOk c.seq

/-- PAD is 3 bits (R712). -/
def LaneFrame.ok (f : LaneFrame) : Bool := f.blocks.all (fun b => b.bytes.length == 8)

/-- A syndrome is 8 bits (R824). -/
def EccFind.ok : EccFind → Bool
  | .corrected n => decide (n < 2 ^ 8)
  | .uncorrectable n => decide (n < 2 ^ 8)
  | _ => true

/-- The readback of the chain: one word of 32 bits an IC (R263). -/
def readbackOk (l : List Nat) : Bool := l.all (fun w => decide (w < 2 ^ 32))

/-- A command is well formed. -/
def Instr.wf : Instr → Bool
  | .koaRead _ h _ => h.ok
  | .koaWrite _ h _ => h.ok
  | .koaReadRange _ h _ => h.ok
  | .koaWriteRange _ h _ => h.ok
  | .koaReadSeg _ h _ => h.ok
  | .koaWriteSeg _ h _ => h.ok
  | .koaWriteIf _ h _ => h.ok
  | .koaDescribe _ h _ => h.ok
  | .koaNop _ h _ => h.ok
  | .koaUnassignedOpcode _ _ h _ => h.ok
  | .koaPduDiscard _ _ => true
  | .koaI3cResponseTimeout => true
  | .segmentExpired _ key => keyOk key
  | .storeAll _ tag value => tagOk tag && valueOk value
  | .storeCal _ tag value => tagOk tag && valueOk value
  | .restoreDefaults _ tag value => tagOk tag && valueOk value
  | .jobAck _ tag value => tagOk tag && valueOk value
  | .jobAbort _ tag value => tagOk tag && valueOk value
  | .jobStep _ => true
  | .jobRetentionExpiry slot => slotOk slot
  | .nvmProgramDone _ => true
  | .nvmEraseDone _ => true
  | .nvmWearLevelErase => true
  | .clockFault _ => true
  | .clockRecovered _ => true
  | .spokePllStable => true
  | .evRawTransition _ _ _ => true
  | .evEdgeAccepted _ => true
  | .evBankLevelWrite _ tag _ value => tagOk tag && valueOk value
  | .evBankGapEnd _ => true
  | .axisConfigWrite _ tag key value => tagOk tag && keyOk key && valueOk value
  | .freewheelEntry _ => true
  | .freewheelLimitReached _ => true
  | .freewheelLimitWrite _ tag value => tagOk tag && valueOk value
  | .revolutionA _ => true
  | .facetStart _ => true
  | .virtualBoundary => true
  | .evFreqGateEnd _ => true
  | .cueWindowWrite _ tag first count _ => tagOk tag && halfOk first && halfOk count
  | .cueWindowInsert _ tag first count _ => tagOk tag && halfOk first && halfOk count
  | .cueWindowDelete _ tag first count => tagOk tag && halfOk first && halfOk count
  | .cueWindowClear _ tag => tagOk tag
  | .cueCommit _ tag value => tagOk tag && valueOk value
  | .cueSwap => true
  | .stagingCopyDone => true
  | .cueBootWrite _ tag _ => tagOk tag
  | .cueCapture _ tag value => tagOk tag && valueOk value
  | .seqCtrlStart _ tag => tagOk tag
  | .seqCtrlStop _ tag => tagOk tag
  | .seqEpochInitWrite _ tag value => tagOk tag && valueOk value
  | .fireDecision => true
  | .prechargeStart => true
  | .matrixIntervalEnd => true
  | .triggerIssue => true
  | .loopbackEdge _ _ => true
  | .startMissing => true
  | .takeWindowClose => true
  | .colRechargeEnd _ => true
  | .chainFrameShiftDone readback => readbackOk readback
  | .chainLatch => true
  | .captureComplete samples => samples.ok
  | .zoneDiagClear _ tag value => tagOk tag && valueOk value
  | .diagIntervalBoundary => true
  | .diagPulseInsert => true
  | .diagTurnaroundEnd => true
  | .safetySelfTestDone _ => true
  | .armingStart => true
  | .rearmHoldElapsed => true
  | .offtestStart _ => true
  | .offtestEnRise => true
  | .offtestCheck => true
  | .tripTest _ tag value => tagOk tag && valueOk value
  | .gateLeak _ => true
  | .overEnergy _ _ => true
  | .accBucketRoll _ => true
  | .auditBoundary => true
  | .auditCompareDone => true
  | .scanMonitor => true
  | .safeInputAccept _ _ => true
  | .inputDiscrepancy _ => true
  | .supplyFbChange _ _ => true
  | .supplyReadback _ => true
  | .safeStatusSend => true
  | .safeCmdReceive _ _ => true
  | .safeMsgTimeout _ => true
  | .safeMsgDiscrepancy => true
  | .sealCommit _ tag value => tagOk tag && valueOk value
  | .lockoutReset _ tag value => tagOk tag && valueOk value
  | .refFaultDetect _ => true
  | .refFaultClear _ => true
  | .threshWrite _ tag key _ => tagOk tag && keyOk key
  | .rxLeadingEdge _ _ => true
  | .rxHighCrossing _ => true
  | .rxTrailingEdge _ _ => true
  | .rxTotLong _ => true
  | .rxDeadTimeEnd _ => true
  | .hitDelivery _ => true
  | .dllUnlock _ => true
  | .dllLockHeld _ => true
  | .rxEnableWrite _ tag key _ => tagOk tag && keyOk key
  | .rxStuck _ => true
  | .rxStuckClear _ => true
  | .rxBgInterval => true
  | .binUpdate _ => true
  | .gearTableWrite _ tag group _ => tagOk tag && groupOk group
  | .codeFamilyWrite _ tag _ => tagOk tag
  | .reelSetComplete => true
  | .descriptorPost => true
  | .rawExportCopyDone _ _ => true
  | .reelClearDone _ _ => true
  | .mrevSumBuild => true
  | .mrevConfigWrite _ tag key _ => tagOk tag && keyOk key
  | .egoStale => true
  | .seMac _ _ => true
  | .seMpy _ _ => true
  | .seMacu _ _ => true
  | .seMacsu _ _ => true
  | .seMove _ _ => true
  | .seAdd _ _ => true
  | .seSub _ _ => true
  | .seAnd _ _ => true
  | .seOr _ _ => true
  | .seXor _ _ => true
  | .seMin _ _ => true
  | .seMax _ _ => true
  | .seShift _ _ => true
  | .seAdda _ _ => true
  | .seSuba _ _ => true
  | .seShla _ _ => true
  | .seShra _ _ => true
  | .seMova _ _ => true
  | .seMovah _ _ => true
  | .seClra _ _ => true
  | .seMovi _ _ => true
  | .seMovih _ _ => true
  | .seAddi _ _ => true
  | .seCmpi _ _ => true
  | .seAluAdd _ _ => true
  | .seAluSub _ _ => true
  | .seAluAnd _ _ => true
  | .seAluOr _ _ => true
  | .seAluXor _ _ => true
  | .seAluMin _ _ => true
  | .seAluMax _ _ => true
  | .seAluShift _ _ => true
  | .seAluCmp _ _ => true
  | .seAluAbs _ _ => true
  | .seAluNeg _ _ => true
  | .seAluClz _ _ => true
  | .seAluMinu _ _ => true
  | .seAluMaxu _ _ => true
  | .seLdW _ _ => true
  | .seLdUw _ _ => true
  | .seLdL _ _ => true
  | .seStW _ _ => true
  | .seStL _ _ => true
  | .seLea _ _ => true
  | .seMovcRead _ _ => true
  | .seMovcWrite _ _ => true
  | .seMovcImmediate _ _ => true
  | .seMovp _ _ => true
  | .seMovpi _ _ => true
  | .seB _ _ => true
  | .seCall _ _ => true
  | .seBr _ _ => true
  | .seRet _ _ => true
  | .seReti _ _ => true
  | .seBreak _ _ => true
  | .seRpt _ _ => true
  | .seBrpt _ _ => true
  | .seNop _ => true
  | .seWait _ => true
  | .seIllegalOpcode _ => true
  | .seRestartDone _ => true
  | .seWatchdog _ => true
  | .interruptAccept _ => true
  | .timerMatch _ => true
  | .slotReady _ _ => true
  | .mbxNext _ => true
  | .mbxRelease _ _ => true
  | .ptOut _ _ _ => true
  | .dmaCtrl _ _ => true
  | .dmaDone _ => true
  | .kernelSelect _ tag value => tagOk tag && valueOk value
  | .kernelParamDeliver _ => true
  | .seEnableWrite _ tag _ value => tagOk tag && valueOk value
  | .seQueueDrained _ => true
  | .spokeClose => true
  | .spokeSplit => true
  | .streamMessageSend _ => true
  | .dailiesDigest => true
  | .extrinsicsWrite _ tag key _ => tagOk tag && keyOk key
  | .calStartTdc _ tag => tagOk tag
  | .calStartThreshold _ tag => tagOk tag
  | .calStartRangeOffset _ tag => tagOk tag
  | .calSpanStart _ => true
  | .calSpanEnd _ => true
  | .calRepeatDone _ measure => measure.ok
  | .calTdcTimeout _ => true
  | .calAgeExpiry _ => true
  | .calOnlineStart => true
  | .calOnlineWrite _ tag value => tagOk tag && valueOk value
  | .hkMeasurementStart => true
  | .hkDischargeEnd _ => true
  | .hkSettleEnd _ => true
  | .hkPeriodStart _ => true
  | .hkPeriodEnd _ _ _ _ => true
  | .hkUnlocked _ => true
  | .hkDieTempDone _ _ => true
  | .hkInject _ tag value => tagOk tag && valueOk value
  | .fcGainApply _ => true
  | .fcTrim _ tag value => tagOk tag && valueOk value
  | .fcTrimDone _ _ _ => true
  | .clockIncrementWrite _ tag value => tagOk tag && valueOk value
  | .gptpSyncReceive _ msg => msg.ok
  | .gptpFollowUpReceive _ msg => msg.ok
  | .gptpPdelayReqReceive _ msg => msg.ok
  | .gptpPdelayRespReceive _ msg => msg.ok
  | .gptpAnnounceReceive _ msg => msg.ok
  | .gptpSignalingReceive _ msg => msg.ok
  | .gptpSyncTransmit _ _ => true
  | .gptpPdelayReqTransmit _ _ => true
  | .gptpAnnounceTransmit _ => true
  | .syncTimeout _ => true
  | .announceReceiptTimeout _ => true
  | .timeRestepToGptp _ tag => tagOk tag
  | .timeRestepToTimeSet _ tag => tagOk tag
  | .timeStepped => true
  | .hostLockedSet _ tag => tagOk tag
  | .hostLockedClear _ tag => tagOk tag
  | .hostTimeout => true
  | .xtalLearned => true
  | .timeSourceWrite _ tag value => tagOk tag && valueOk value
  | .gptpConfigWrite _ tag key _ => tagOk tag && keyOk key
  | .ethFrameReceive _ frame => frame.ok
  | .addressResolutionRetry => true
  | .arpRefresh => true
  | .linkChange _ _ => true
  | .portConfigWrite _ tag key _ => tagOk tag && keyOk key
  | .canFrameReceive frame => frame.ok
  | .canState _ => true
  | .canBusOffRecovery => true
  | .canAutoRecoverWrite _ tag value => tagOk tag && valueOk value
  | .canTxTimeout => true
  | .canConfigWrite _ tag key _ => tagOk tag && keyOk key
  | .egoSpeedReceive _ _ => true
  | .laneBlockReceive _ block => block.ok
  | .laneLocked _ => true
  | .alignReceive _ col => col.ok
  | .statusReceive _ col => col.ok
  | .laneStatusAged _ => true
  | .alignColumnSend _ => true
  | .statusColumnSend _ => true
  | .klpFrameReceive _ frame => frame.ok
  | .laneModeWrite _ tag _ value => tagOk tag && valueOk value
  | .bondConfigWrite _ tag key _ => tagOk tag && keyOk key
  | .adaptWindowEnd _ _ => true
  | .eyeScan _ tag value => tagOk tag && valueOk value
  | .prbsGenWrite _ tag _ value => tagOk tag && valueOk value
  | .prbsCheckWrite _ tag _ value => tagOk tag && valueOk value
  | .prbsLockAcquired _ => true
  | .prbsLoss _ => true
  | .laneLoopWrite _ tag _ value => tagOk tag && valueOk value
  | .koaRequest _ => true
  | .liveSelect _ => true
  | .eventRead => true
  | .i3cWriteDiscard _ => true
  | .liveWindowRead count => halfOk count
  | .koaResponseRead count => halfOk count
  | .eventQueueRead count => halfOk count
  | .i3cTransferTimeout => true
  | .ibiRequest _ => true
  | .enec => true
  | .disec => true
  | .rstdaa => true
  | .entdaa _ _ => true
  | .setdasa _ _ => true
  | .setnewda _ => true
  | .setmwl length => halfOk length
  | .setmrl length _ => halfOk length
  | .getmwl => true
  | .getmrl => true
  | .getpid => true
  | .getbcr => true
  | .getdcr => true
  | .getstatus => true
  | .getmxds => true
  | .getcaps => true
  | .enthdr0 => true
  | .rstactNoReset => true
  | .rstactResetI3c => true
  | .eventAck _ tag value => tagOk tag && valueOk value
  | .eventMaskWrite _ tag key _ => tagOk tag && keyOk key
  | .eventDatagramFlush _ => true
  | .liveMapWrite _ tag _ => tagOk tag
  | .trigDriveClassChange _ _ => true
  | .takeover => true
  | .aloneWaitExpiry => true
  | .claimQuietEnd => true
  | .claimComplete => true
  | .heartbeatSend => true
  | .heartbeatReceive _ => true
  | .heartbeatLost => true
  | .takeFrameReceive _ => true
  | .takeDivergence _ => true
  | .spokeSumReceive _ => true
  | .sumUnpairedTimeout => true
  | .objectFrameReceive _ => true
  | .cueFrameReceive _ => true
  | .timeFrameSend => true
  | .timeFrameReceive _ => true
  | .accountFrameReceive _ => true
  | .epochFrameReceive _ => true
  | .yieldFrameReceive _ => true
  | .resyncReqReceive _ => true
  | .pairHandover _ tag value => tagOk tag && valueOk value
  | .sramScrubRead _ _ found _ _ => found.ok
  | .ddrScrubRead _ found _ _ => found.ok
  | .ddrTrainingDone _ _ => true
  | .ddrWipeRegionDone => true
  | .ddrTempPoll _ => true
  | .sramWipeDone => true
  | .operatingLogAppend => true
  | .recordResolve _ tag value => tagOk tag && valueOk value
  | .keyProgram _ tag _ => tagOk tag
  | .keyRevoke _ tag value => tagOk tag && valueOk value
  | .identitySet _ tag _ => tagOk tag
  | .lifecycleRequest _ tag _ => tagOk tag
  | .fwCommit _ tag value => tagOk tag && valueOk value
  | .svnCommit _ tag value => tagOk tag && valueOk value
  | .selftestStart _ tag value => tagOk tag && valueOk value
  | .nvmVerify _ tag value => tagOk tag && valueOk value
  | .traceCtrlWrite _ tag value => tagOk tag && valueOk value
  | .traceSnapshot => true
  | .supplyPowerOn => true
  | .brownout _ => true
  | .resetPin => true
  | .standbyEntry => true
  | .wakeHigh => true
  | .ccWatchdogExpiry => true
  | .resetRequest _ tag value => tagOk tag && valueOk value
  | .resetRequestDelayEnd => true
  | .resetRelease _ => true
  | .bootImageVerified => true
  | .bootApplyStored => true
  | .lockstepDivergence _ => true

end Sys2Proof
end

