-- ==== Sys2Proof/Decode.lean ====
section
/-! DEFINITION. Words of commands. The block takes its commands from outside, and spec/opcode_table.json gives no bits to any of
its rows: no word of the table spells a command. The instructions of the spoke and audit engines have words of their own, of 32 bits
(R479, R481), which an engine reads from its program memory. -/

namespace Sys2Proof

/-- The command that a word of a number of bits spells by the table's bits: none, since no row has bits. -/
def decodeTableWord (_nbits _w : Nat) : Option Instr := none

/-- The instructions of the engines (R481): one for each of their rows. -/
inductive EngineOp where
  | mac | mpy | macu | macsu | move | add | sub | and_ | or_ | xor | min | max | shift | adda | suba | shla | shra
  | mova | movah | clra | movi | movih | addi | cmpi | aluAdd | aluSub | aluAnd | aluOr | aluXor | aluMin | aluMax
  | aluShift | aluCmp | aluAbs | aluNeg | aluClz | aluMinu | aluMaxu | ldW | ldUw | ldL | stW | stL | lea | movcRead
  | movcWrite | movcImmediate | movp | movpi | b | call | br | ret | reti | break_ | rpt | brpt | nop | wait
  | illegalOpcode
  deriving DecidableEq, Repr

/-- FUNC of format R: the ALU operations (R481). -/
def decodeAlu (w : BitVec 26) : EngineOp :=
  match (w.extractLsb' 6 5).toNat with
  | 0 => .aluAdd
  | 1 => .aluSub
  | 2 => .aluAnd
  | 3 => .aluOr
  | 4 => .aluXor
  | 5 => .aluMin
  | 6 => .aluMax
  | 7 => .aluShift
  | 8 => .aluCmp
  | 9 => .aluAbs
  | 10 => .aluNeg
  | 11 => .aluClz
  | 12 => .aluMinu
  | 13 => .aluMaxu
  | _ => .illegalOpcode

/-- KIND of format C: the control-register moves (R479). -/
def decodeMovc (w : BitVec 26) : EngineOp :=
  match (w.extractLsb' 24 2).toNat with
  | 0 => .movcRead
  | 1 => .movcWrite
  | 2 => .movcImmediate
  | _ => .illegalOpcode

/-- The instruction that bits [31:26] of an engine's word select; an opcode, FUNC or KIND that is not listed is illegal (R479, R481). -/
def decodeEngineWord (word : BitVec 32) : EngineOp :=
  let w := word.extractLsb' 0 26
  match (word.extractLsb' 26 6).toNat with
  | 0x00 => .mac
  | 0x01 => .mpy
  | 0x02 => .macu
  | 0x03 => .macsu
  | 0x04 => .move
  | 0x08 => .add
  | 0x09 => .sub
  | 0x0A => .and_
  | 0x0B => .or_
  | 0x0C => .xor
  | 0x0D => .min
  | 0x0E => .max
  | 0x0F => .shift
  | 0x10 => .adda
  | 0x11 => .suba
  | 0x12 => .shla
  | 0x13 => .shra
  | 0x14 => .mova
  | 0x15 => .movah
  | 0x16 => .clra
  | 0x18 => .movi
  | 0x19 => .movih
  | 0x1A => .addi
  | 0x1B => .cmpi
  | 0x1C => decodeAlu w
  | 0x20 => .ldW
  | 0x21 => .ldUw
  | 0x22 => .ldL
  | 0x23 => .stW
  | 0x24 => .stL
  | 0x25 => .lea
  | 0x28 => decodeMovc w
  | 0x29 => .movp
  | 0x2A => .movpi
  | 0x30 => .b
  | 0x31 => .call
  | 0x32 => .br
  | 0x33 => .ret
  | 0x34 => .reti
  | 0x35 => .break_
  | 0x38 => .rpt
  | 0x39 => .brpt
  | 0x3C => .nop
  | 0x3D => .wait
  | _ => .illegalOpcode

end Sys2Proof
end

