-- ==== Sys2Proof/Config.lean ====
section
/-! DEFINITION. The free values: what the manual leaves open (log entry 2). Each is a constant with no
body, so that no proof can rest on a value of it. -/

namespace Sys2Proof.Config

/-- The free value number n of a run: a value that the manual does not state, drawn fresh each time
from the counter State.freeCtr. -/
opaque freeValue : Nat → Nat

/-- The free bit number n of a run. -/
opaque freeBit : Nat → Bool

/-- The delay after which the response number n is queued, in ns; the manual bounds it by 50 µs (R79). -/
opaque responseDelay : Nat → Nat

/-- The word at a data address of X, Y or P in the image of the shipped kernel, which the manual does not print (R506). -/
opaque romKernel : Nat → Nat

/-- The word at a data address of the audit engines' coefficient ROM, which the manual does not print (R465). -/
opaque auditRom : Nat → Nat

/-- How long after the begin of its clearing a word of a reel buffer is written to 0, in ns: the manual gives no order (R423, R424). By the
begin, the channel, the buffer and the word. -/
opaque wordClear : Nat → Nat → Nat → Nat → Nat

/-- What a reading that the manual leaves open answers, by the time and the object's key. -/
opaque reading : Nat → Nat → Nat

end Sys2Proof.Config
end

