-- ==== Sys2Proof/Machine/Dict.lean ====
section
/-! DEFINITION. The object dictionary of the part: one row for each object of the object tables of
chapters 01 to 18 of spec/ (R56 to R59, R73), in index and subindex order, a list for each upper index byte. A row has
index, first subindex, element count, type, access, LIVE,
default, lowest and highest value (raw 16.16 for Q16.16; lengths in bytes for BLOCK), the defaults of
the elements where they differ, the listed values where the range is a list, and the name. -/

namespace Sys2Proof.Machine

/-- Objects 0x10xx. -/
def objects10 : List ObjDesc := [
  ⟨0x1000, 0x00, 1, .block, .ro, false, 16, 16, 16, [], [], "DEVICE_ID"⟩,
  ⟨0x1002, 0x00, 1, .u8, .ro, true, 1, 1, 2, [], [], "BOOT_IMAGE"⟩,
  ⟨0x1003, 0x01, 2, .u64, .ro, false, 0, 0, 18446744073709551615, [], [], "IMAGE_INFO"⟩,
  ⟨0x1004, 0x00, 1, .u8, .ro, false, 0, 0, 32, [], [], "MIN_SVN"⟩,
  ⟨0x1010, 0x00, 1, .u8, .ro, true, 0, 0, 3, [], [], "LIFECYCLE"⟩,
  ⟨0x1011, 0x00, 1, .block, .wo, false, 0, 24, 88, [], [], "LIFECYCLE_REQUEST"⟩,
  ⟨0x1012, 0x00, 1, .u32, .ro, false, 0, 0, 4294967295, [], [], "LIFECYCLE_NONCE"⟩,
  ⟨0x1013, 0x00, 1, .bool, .ro, true, 0, 0, 1, [], [], "LIFECYCLE_PENDING"⟩,
  ⟨0x1014, 0x00, 1, .u8, .ro, false, 0, 0, 16, [], [], "LIFECYCLE_FUSES"⟩,
  ⟨0x1020, 0x00, 1, .block, .wo, false, 0, 33, 33, [], [], "KEY_PROGRAM"⟩,
  ⟨0x1021, 0x00, 1, .u16, .wo, false, 0, 42240, 42246, [], [], "KEY_REVOKE"⟩,
  ⟨0x1022, 0x00, 8, .u8, .ro, false, 0, 0, 2, [], [], "KEY_STATE"⟩,
  ⟨0x1023, 0x00, 1, .block, .wo, false, 0, 1, 64, [], [], "IDENTITY_SET"⟩,
  ⟨0x1030, 0x01, 3, .u8, .ro, true, 0, 0, 3, [], [], "RECORD_STATE"⟩,
  ⟨0x1031, 0x00, 1, .u16, .wo, false, 0, 0, 65535, [], [], "RECORD_RESOLVE"⟩,
  ⟨0x1032, 0x01, 9, .block, .ro, false, 0, 0, 4096, [], [], "RECORD_COPY"⟩,
  ⟨0x1040, 0x00, 1, .block, .wo, false, 0, 0, 3145696, [], [], "FW_IMAGE"⟩,
  ⟨0x1041, 0x00, 1, .u32, .wo, false, 0, 1970300020, 1970300020, [], [], "FW_COMMIT"⟩,
  ⟨0x1042, 0x00, 1, .u32, .wo, false, 0, 1937141347, 1937141347, [], [], "SVN_COMMIT"⟩,
  ⟨0x1050, 0x00, 1, .u32, .ro, true, 0, 0, 4294967295, [], [], "POWER_ON_HOURS"⟩,
  ⟨0x1051, 0x00, 1, .u32, .ro, false, 0, 0, 4294967295, [], [], "RESET_COUNT"⟩,
  ⟨0x1052, 0x00, 1, .u8, .ro, true, 0, 0, 7, [], [], "RESET_CAUSE"⟩,
  ⟨0x1053, 0x00, 1, .u32, .wo, false, 0, 1920168992, 1920168992, [], [], "RESET_REQUEST"⟩,
  ⟨0x1054, 0x00, 1, .u8, .ro, false, 255, 0, 255, [], [0, 1, 2, 3, 4, 5, 6, 255], "BROWNOUT_SUPPLY"⟩,
  ⟨0x1055, 0x00, 1, .u8, .ro, false, 0, 0, 255, [], [], "STRAPS"⟩]

/-- Objects 0x11xx. -/
def objects11 : List ObjDesc := [
  ⟨0x1100, 0x01, 2, .u64, .rws, false, 0, 0, 281474976710655, [], [], "MAC_ADDR"⟩,
  ⟨0x1101, 0x01, 2, .bool, .rws, false, 1, 0, 1, [1, 0], [], "PORT_ENABLE"⟩,
  ⟨0x1102, 0x01, 2, .u8, .rws, false, 0, 0, 4, [], [], "LINK_SPEED"⟩,
  ⟨0x1103, 0x01, 2, .u8, .ro, true, 0, 0, 4, [], [], "LINK_STATE"⟩,
  ⟨0x1104, 0x01, 2, .u32, .rws, false, 0, 0, 4294967295, [], [], "IPV4_ADDR"⟩,
  ⟨0x1105, 0x01, 2, .u8, .rws, false, 24, 1, 30, [], [], "IPV4_PREFIX"⟩,
  ⟨0x1106, 0x01, 2, .u32, .rws, false, 0, 0, 4294967295, [], [], "IPV4_GATEWAY"⟩,
  ⟨0x1107, 0x01, 2, .block, .rws, false, 16, 16, 16, [], [], "IPV6_ADDR"⟩,
  ⟨0x1108, 0x01, 2, .u8, .rws, false, 64, 8, 128, [], [], "IPV6_PREFIX"⟩,
  ⟨0x1109, 0x01, 2, .u16, .rws, false, 0, 0, 4094, [], [], "VLAN_ID"⟩,
  ⟨0x110A, 0x01, 2, .u8, .rws, false, 5, 0, 7, [], [], "VLAN_PCP"⟩,
  ⟨0x110B, 0x01, 2, .block, .rws, false, 0, 0, 48, [], [], "MCAST_FILTER"⟩,
  ⟨0x1120, 0x00, 4, .block, .rws, false, 16, 16, 16, [], [], "STREAM_DEST_IP"⟩,
  ⟨0x1121, 0x00, 4, .u16, .rws, false, 48650, 1024, 65535, [48650, 48651, 48652, 48653], [], "STREAM_DEST_PORT"⟩,
  ⟨0x1122, 0x00, 4, .u16, .rws, false, 48650, 1024, 65535, [48650, 48651, 48652, 48653], [], "STREAM_SRC_PORT"⟩,
  ⟨0x1123, 0x00, 4, .u8, .rws, false, 0, 0, 63, [], [], "STREAM_DSCP"⟩,
  ⟨0x1124, 0x00, 1, .block, .rws, false, 16, 16, 16, [], [], "DAILIES_DEST_IP"⟩,
  ⟨0x1125, 0x00, 1, .block, .rws, false, 16, 16, 16, [], [], "SAFE_DEST_IP"⟩,
  ⟨0x1130, 0x01, 2, .u32, .ro, false, 0, 0, 4294967295, [], [], "RX_FRAMES"⟩,
  ⟨0x1131, 0x01, 2, .u32, .ro, false, 0, 0, 4294967295, [], [], "TX_FRAMES"⟩,
  ⟨0x1132, 0x01, 2, .u32, .ro, false, 0, 0, 4294967295, [], [], "RX_FCS_ERRORS"⟩,
  ⟨0x1133, 0x01, 2, .u32, .ro, false, 0, 0, 4294967295, [], [], "RX_DISCARDS"⟩,
  ⟨0x1134, 0x01, 2, .u32, .ro, false, 0, 0, 4294967295, [], [], "PAUSE_RX"⟩,
  ⟨0x1135, 0x01, 2, .u32, .ro, false, 0, 0, 4294967295, [], [], "UNRESOLVED_DROPS"⟩,
  ⟨0x1140, 0x01, 1, .u16, .rws, false, 48640, 1024, 65535, [], [], "KOA_UDP_PORT"⟩,
  ⟨0x1140, 0x02, 1, .u16, .rws, false, 1600, 0, 2047, [], [], "KOA_CAN_REQ_ID"⟩,
  ⟨0x1140, 0x03, 1, .u16, .rws, false, 1601, 0, 2047, [], [], "KOA_CAN_RSP_ID"⟩,
  ⟨0x1140, 0x04, 1, .u8, .rws, false, 15, 1, 15, [], [], "KOA_BEARER_ENABLE"⟩,
  ⟨0x1150, 0x00, 1, .u8, .rws, false, 0, 0, 2, [], [], "CAN_MODE"⟩,
  ⟨0x1151, 0x00, 1, .u32, .rws, false, 500000, 125000, 1000000, [], [125000, 250000, 500000, 1000000], "CAN_NOM_RATE"⟩,
  ⟨0x1152, 0x00, 1, .u32, .rws, false, 10000000, 1000000, 20000000, [], [], "CAN_DATA_RATE"⟩,
  ⟨0x1153, 0x00, 1, .u8, .rws, false, 80, 60, 90, [], [], "CAN_NOM_SP"⟩,
  ⟨0x1154, 0x00, 1, .u8, .rws, false, 70, 50, 90, [], [], "CAN_DATA_SP"⟩,
  ⟨0x1155, 0x00, 1, .u8, .rws, false, 0, 0, 255, [], [], "CAN_XL_SDT"⟩,
  ⟨0x1156, 0x00, 1, .u8, .rws, false, 0, 0, 255, [], [], "CAN_XL_VCID"⟩,
  ⟨0x1157, 0x00, 1, .bool, .rws, false, 0, 0, 1, [], [], "CAN_XL_PWM"⟩,
  ⟨0x1158, 0x00, 1, .bool, .rws, false, 1, 0, 1, [], [], "CAN_AUTO_RECOVER"⟩,
  ⟨0x1159, 0x00, 1, .u8, .ro, true, 0, 0, 3, [], [], "CAN_STATE"⟩,
  ⟨0x115A, 0x00, 1, .u32, .ro, false, 0, 0, 4294967295, [], [], "CAN_TX_DROPS"⟩,
  ⟨0x1160, 0x00, 1, .u8, .ro, false, 104, 104, 107, [], [], "I3C_STATIC_ADDR"⟩,
  ⟨0x1161, 0x00, 1, .u8, .ro, true, 0, 0, 125, [], [], "I3C_DYN_ADDR"⟩,
  ⟨0x1162, 0x00, 1, .bool, .ro, true, 0, 0, 1, [], [], "I3C_IBI_ENABLED"⟩,
  ⟨0x1163, 0x01, 1, .u32, .ro, false, 0, 0, 4294967295, [], [], "IBI_DROPS"⟩,
  ⟨0x1163, 0x02, 1, .u32, .ro, false, 0, 0, 4294967295, [], [], "I3C_ABANDONED"⟩,
  ⟨0x1163, 0x03, 1, .u32, .ro, false, 0, 0, 4294967295, [], [], "I3C_ERRORS"⟩,
  ⟨0x1163, 0x04, 1, .u32, .ro, false, 0, 0, 4294967295, [], [], "LIVE_TORN"⟩]

/-- Objects 0x12xx. -/
def objects12 : List ObjDesc := [
  ⟨0x1210, 0x01, 1, .u32, .wo, false, 0, 1935767141, 1935767141, [], [], "STORE_ALL"⟩,
  ⟨0x1210, 0x02, 1, .u32, .wo, false, 0, 1935767141, 1935767141, [], [], "STORE_CAL"⟩,
  ⟨0x1211, 0x00, 1, .u32, .wo, false, 0, 1819238756, 1819238756, [], [], "RESTORE_DEFAULTS"⟩,
  ⟨0x1220, 0x01, 16, .u64, .ro, true, 0, 0, 18446744073709551615, [], [], "JOB"⟩,
  ⟨0x1221, 0x00, 1, .u16, .wo, false, 0, 256, 4351, [], [], "JOB_ACK"⟩,
  ⟨0x1222, 0x00, 1, .u16, .wo, false, 0, 256, 4351, [], [], "JOB_ABORT"⟩,
  ⟨0x1223, 0x00, 1, .u8, .ro, true, 0, 0, 16, [], [], "JOB_COUNT"⟩,
  ⟨0x1230, 0x01, 1, .u32, .ro, false, 0, 0, 4294967295, [], [], "PARAM_LOG_SEQ"⟩,
  ⟨0x1230, 0x02, 1, .u32, .ro, false, 0, 0, 524288, [], [], "PARAM_LOG_USED"⟩,
  ⟨0x1230, 0x03, 1, .u32, .ro, false, 0, 0, 4294967295, [], [], "PARAM_LOG_ERASES"⟩,
  ⟨0x1230, 0x04, 1, .u8, .ro, false, 0, 0, 100, [], [], "PARAM_LOG_WEAR"⟩,
  ⟨0x1240, 0x01, 1, .u32, .ro, false, 0, 0, 4294967295, [], [], "KOA_REQUESTS"⟩,
  ⟨0x1240, 0x02, 1, .u32, .ro, false, 0, 0, 4294967295, [], [], "KOA_ERRORS"⟩,
  ⟨0x1240, 0x03, 1, .u32, .ro, false, 0, 0, 4294967295, [], [], "KOA_DISCARDS"⟩,
  ⟨0x1250, 0x00, 1, .u16, .ro, false, 0, 0, 65535, [], [], "STORED_REJECTS"⟩]

/-- Objects 0x13xx. -/
def objects13 : List ObjDesc := [
  ⟨0x1300, 0x00, 1, .block, .rws, false, 48, 48, 48, [], [], "EVENT_MASK"⟩,
  ⟨0x1310, 0x00, 1, .block, .rws, false, 384, 384, 384, [], [], "EVENT_ROUTE"⟩,
  ⟨0x1320, 0x00, 1, .block, .ro, false, 48, 48, 48, [], [], "EVENT_PENDING"⟩,
  ⟨0x1321, 0x00, 1, .u16, .wo, false, 0, 0, 65535, [], [], "EVENT_ACK"⟩,
  ⟨0x1322, 0x00, 1, .u16, .ro, true, 0, 0, 4095, [], [], "EVENT_SUMMARY"⟩,
  ⟨0x1330, 0x00, 256, .u32, .ro, false, 0, 0, 4294967295, [], [], "EVENT_COUNT"⟩,
  ⟨0x1331, 0x00, 128, .u32, .ro, false, 0, 0, 4294967295, [], [], "EVENT_COUNT_HI"⟩,
  ⟨0x1332, 0x00, 256, .block, .ro, false, 16, 16, 16, [], [], "EVENT_LAST"⟩,
  ⟨0x1333, 0x00, 128, .block, .ro, false, 16, 16, 16, [], [], "EVENT_LAST_HI"⟩,
  ⟨0x133F, 0x00, 1, .u16, .ro, false, 384, 384, 384, [], [], "EVENT_SOURCES"⟩,
  ⟨0x1340, 0x00, 1, .u16, .rws, false, 48644, 1024, 65535, [], [], "EVENT_UDP_PORT"⟩,
  ⟨0x1341, 0x00, 1, .block, .rws, false, 16, 16, 16, [], [], "EVENT_DEST_IP"⟩,
  ⟨0x1350, 0x00, 1, .block, .rws, false, 32, 0, 1020, [], [], "LIVE_MAP"⟩,
  ⟨0x1351, 0x00, 1, .u8, .ro, true, 0, 0, 32, [], [], "IBI_QUEUE_COUNT"⟩]

/-- Objects 0x20xx. -/
def objects20 : List ObjDesc := [
  ⟨0x2001, 0x01, 2, .u8, .rws, false, 1, 0, 3, [1, 0], [], "AXIS_MODE"⟩,
  ⟨0x2002, 0x01, 2, .u32, .rws, false, 4096, 1, 1048576, [], [], "ENC_LINES"⟩,
  ⟨0x2003, 0x01, 2, .u8, .rws, false, 0, 0, 1, [], [], "ENC_FORMAT"⟩,
  ⟨0x2004, 0x01, 2, .u16, .rws, false, 64, 4, 256, [], [], "GATE_EDGES"⟩,
  ⟨0x2005, 0x01, 2, .u8, .rws, false, 25, 1, 45, [], [], "RESID_LIMIT"⟩,
  ⟨0x2006, 0x01, 2, .u8, .rws, false, 3, 3, 16, [], [], "STEP_CONFIRM"⟩,
  ⟨0x2007, 0x01, 2, .q16, .rws, false, 65536, 4096, 327680000, [], [], "SPEED_MIN"⟩,
  ⟨0x2008, 0x01, 2, .q16, .rws, false, 6553600, 4096, 327680000, [], [], "SPEED_MAX"⟩,
  ⟨0x2009, 0x01, 2, .u32, .rws, false, 0, 0, 4294967295, [], [], "INDEX_OFFSET"⟩,
  ⟨0x200A, 0x01, 2, .u16, .rws, false, 8, 1, 1024, [], [], "INDEX_WINDOW"⟩,
  ⟨0x200B, 0x01, 2, .u16, .rws, false, 4, 1, 1024, [], [], "SLIP_LIMIT"⟩,
  ⟨0x200C, 0x00, 1, .u8, .rws, false, 0, 0, 1, [], [], "CUE_AXIS"⟩,
  ⟨0x200D, 0x00, 1, .u8, .rws, false, 1, 1, 16, [], [], "FACETS"⟩,
  ⟨0x200E, 0x00, 1, .u32, .rws, false, 0, 0, 4294967295, [], [], "FACET_OFFSET"⟩,
  ⟨0x2010, 0x01, 2, .u32, .ro, true, 0, 0, 4294967295, [], [], "POSITION"⟩,
  ⟨0x2011, 0x01, 2, .u64, .ro, true, 0, 0, 1099511627775, [], [], "REVOLUTION"⟩,
  ⟨0x2012, 0x01, 2, .q16, .ro, true, 0, (-2147483648), 2147418112, [], [], "SPEED"⟩,
  ⟨0x2013, 0x01, 2, .u8, .ro, true, 0, 0, 5, [], [], "AXIS_STATE"⟩,
  ⟨0x2014, 0x01, 2, .u32, .ro, true, 0, 0, 4294967295, [], [], "PHASE"⟩,
  ⟨0x2015, 0x01, 2, .u64, .ro, true, 0, 0, 18446744073709551615, [], [], "POSREV"⟩,
  ⟨0x2020, 0x00, 1, .u32, .rws, false, 2000, 100, 10000, [], [], "FREEWHEEL_LIMIT"⟩,
  ⟨0x2021, 0x01, 2, .u32, .ro, true, 0, 0, 10000, [], [], "FREEWHEEL_TIME"⟩,
  ⟨0x2030, 0x01, 6, .u8, .rws, false, 0, 0, 255, [0, 1, 2, 3, 4, 5], [0, 1, 2, 3, 4, 5, 6, 7, 8, 9, 10, 11, 12, 13, 14, 15, 255], "AXIS_INPUT"⟩,
  ⟨0x203F, 0x00, 1, .u8, .ro, false, 16, 16, 16, [], [], "EV_COUNT"⟩,
  ⟨0x2040, 0x00, 16, .u8, .rws, false, 10, 0, 255, [], [], "EV_FILTER"⟩,
  ⟨0x2041, 0x00, 16, .bool, .rws, false, 0, 0, 1, [], [], "EV_INVERT"⟩,
  ⟨0x2042, 0x00, 2, .u8, .rws, false, 0, 0, 1, [], [], "EV_BANK_LEVEL"⟩,
  ⟨0x2043, 0x00, 16, .u64, .ro, true, 0, 0, 50000000000000, [], [], "EV_FREQ"⟩,
  ⟨0x2044, 0x00, 16, .u16, .rws, false, 100, 1, 1000, [], [], "EV_FREQ_GATE"⟩,
  ⟨0x2045, 0x00, 16, .bool, .ro, true, 0, 0, 1, [], [], "EV_STATE"⟩,
  ⟨0x2046, 0x00, 16, .u32, .ro, false, 0, 0, 4294967295, [], [], "EV_DROPS"⟩,
  ⟨0x2050, 0x01, 2, .block, .rws, false, 16384, 16384, 16384, [], [], "LIN_TABLE"⟩,
  ⟨0x2051, 0x01, 2, .u32, .rws, false, 0, 0, 4294967295, [], [], "PHASE_OFFSET"⟩,
  ⟨0x2060, 0x00, 1, .u32, .rws, false, 100000000, 200000, 1000000000, [], [], "VIRTUAL_PERIOD"⟩,
  ⟨0x2061, 0x00, 1, .u32, .rws, false, 0, 0, 999999999, [], [], "VIRTUAL_PHASE"⟩,
  ⟨0x2070, 0x01, 1, .u32, .ro, false, 0, 0, 4294967295, [], [], "OUTLIERS"⟩,
  ⟨0x2070, 0x02, 1, .u32, .ro, false, 0, 0, 4294967295, [], [], "SPEED_STEPS"⟩,
  ⟨0x2070, 0x03, 1, .u32, .ro, false, 0, 0, 4294967295, [], [], "FREEWHEEL_ENTRIES"⟩,
  ⟨0x2070, 0x04, 1, .u32, .ro, false, 0, 0, 4294967295, [], [], "STALLS"⟩,
  ⟨0x2070, 0x05, 1, .u32, .ro, false, 0, 0, 4294967295, [], [], "SLIPS"⟩,
  ⟨0x2070, 0x06, 1, .u32, .ro, false, 0, 0, 4294967295, [], [], "MISSED_INDEX"⟩,
  ⟨0x2070, 0x07, 1, .u32, .ro, false, 0, 0, 4294967295, [], [], "SPURIOUS_INDEX"⟩,
  ⟨0x2070, 0x08, 1, .u32, .ro, false, 0, 0, 4294967295, [], [], "ILLEGAL_TRANSITIONS"⟩,
  ⟨0x2071, 0x01, 1, .u32, .ro, false, 0, 0, 4294967295, [], [], "OUTLIERS"⟩,
  ⟨0x2071, 0x02, 1, .u32, .ro, false, 0, 0, 4294967295, [], [], "SPEED_STEPS"⟩,
  ⟨0x2071, 0x03, 1, .u32, .ro, false, 0, 0, 4294967295, [], [], "FREEWHEEL_ENTRIES"⟩,
  ⟨0x2071, 0x04, 1, .u32, .ro, false, 0, 0, 4294967295, [], [], "STALLS"⟩,
  ⟨0x2071, 0x05, 1, .u32, .ro, false, 0, 0, 4294967295, [], [], "SLIPS"⟩,
  ⟨0x2071, 0x06, 1, .u32, .ro, false, 0, 0, 4294967295, [], [], "MISSED_INDEX"⟩,
  ⟨0x2071, 0x07, 1, .u32, .ro, false, 0, 0, 4294967295, [], [], "SPURIOUS_INDEX"⟩,
  ⟨0x2071, 0x08, 1, .u32, .ro, false, 0, 0, 4294967295, [], [], "ILLEGAL_TRANSITIONS"⟩]

/-- Objects 0x21xx. -/
def objects21 : List ObjDesc := [
  ⟨0x2100, 0x00, 1, .u8, .wo, false, 0, 1, 2, [], [], "SEQ_CTRL"⟩,
  ⟨0x2101, 0x00, 1, .u8, .rws, false, 1, 1, 4, [], [1, 2, 4], "LISTEN_GROUPS"⟩,
  ⟨0x2102, 0x00, 1, .u8, .ro, true, 0, 0, 3, [], [], "SEQ_STATE"⟩,
  ⟨0x2103, 0x00, 1, .bool, .rws, false, 0, 0, 1, [], [], "SEQ_AUTOSTART"⟩,
  ⟨0x2110, 0x01, 4, .u16, .rws, false, 2048, 64, 4096, [], [], "LG_WINDOW"⟩,
  ⟨0x2111, 0x01, 4, .u16, .rws, false, 100, 0, 1000, [], [], "CUE_SLACK"⟩,
  ⟨0x2112, 0x01, 4, .u8, .rws, false, 255, 0, 255, [], [], "DITHER_MAX"⟩,
  ⟨0x2113, 0x01, 4, .u64, .rws, false, 18446744073709551615, 1, 18446744073709551615, [], [], "HOP_MASK"⟩,
  ⟨0x2114, 0x01, 4, .u32, .rws, false, 1, 1, 2147483647, [], [], "HOP_SEED"⟩,
  ⟨0x2120, 0x00, 1, .u64, .ro, true, 0, 0, 281474976710655, [], [], "TAKE_SEQ"⟩,
  ⟨0x2121, 0x00, 1, .u16, .ro, true, 0, 0, 65535, [], [], "SEQ_EPOCH"⟩,
  ⟨0x2122, 0x00, 1, .u16, .rw, false, 0, 0, 65535, [], [], "SEQ_EPOCH_INIT"⟩,
  ⟨0x2123, 0x00, 1, .u16, .ro, true, 0, 0, 16384, [], [], "TAKES_IN_FLIGHT"⟩,
  ⟨0x2130, 0x00, 1, .u32, .rws, false, 16777216, 0, 268435456, [], [], "TURN_SPAN"⟩,
  ⟨0x2131, 0x00, 1, .u8, .rws, false, 4, 0, 16, [], [], "DIAG_PER_TURN"⟩,
  ⟨0x2140, 0x01, 1, .u32, .ro, false, 0, 0, 4294967295, [], [], "SKIP_IN_FLIGHT"⟩,
  ⟨0x2140, 0x02, 1, .u32, .ro, false, 0, 0, 4294967295, [], [], "SKIP_LATE"⟩,
  ⟨0x2140, 0x03, 1, .u32, .ro, false, 0, 0, 4294967295, [], [], "SKIP_RATE"⟩,
  ⟨0x2141, 0x00, 1, .u32, .ro, false, 0, 0, 4294967295, [], [], "SHORT_REELS"⟩,
  ⟨0x2142, 0x00, 1, .u32, .ro, false, 0, 0, 4294967295, [], [], "DIAG_PULSES"⟩,
  ⟨0x2143, 0x00, 1, .u32, .ro, false, 0, 0, 4294967295, [], [], "DIAG_DEFERRED"⟩,
  ⟨0x2180, 0x00, 1, .block, .wo, false, 0, 8, 131080, [], [], "CUE_WINDOW"⟩,
  ⟨0x2181, 0x00, 1, .u8, .ro, false, 0, 0, 52, [], [0, 48, 49, 50, 51, 52], "CUE_RESULT"⟩,
  ⟨0x2182, 0x00, 1, .u32, .wo, false, 0, 1668638067, 1668638067, [], [], "CUE_COMMIT"⟩,
  ⟨0x2183, 0x00, 1, .u16, .ro, false, 0, 0, 16384, [], [], "CUE_STAGED_COUNT"⟩,
  ⟨0x2184, 0x00, 1, .u16, .ro, true, 0, 0, 16384, [], [], "CUE_ACTIVE_COUNT"⟩,
  ⟨0x2185, 0x00, 1, .block, .ro, false, 0, 0, 131072, [], [], "CUE_ACTIVE"⟩,
  ⟨0x2186, 0x00, 1, .block, .rws, false, 0, 0, 131072, [], [], "CUE_BOOT"⟩,
  ⟨0x2187, 0x00, 1, .u32, .wo, false, 0, 1668638067, 1668638067, [], [], "CUE_CAPTURE"⟩,
  ⟨0x2188, 0x00, 1, .bool, .ro, true, 0, 0, 1, [], [], "CUE_PENDING"⟩,
  ⟨0x2189, 0x00, 1, .u16, .ro, true, 0, 0, 16383, [], [], "CUE_NEXT"⟩]

/-- Objects 0x22xx. -/
def objects22 : List ObjDesc := [
  ⟨0x2200, 0x00, 1, .u8, .rws, false, 0, 0, 1, [], [], "EMIT_MODE"⟩,
  ⟨0x2201, 0x00, 32, .u8, .rws, false, 12, 0, 252, [], [], "TRIG_WIDTH"⟩,
  ⟨0x2202, 0x00, 1, .u8, .ro, false, 32, 32, 32, [], [], "EMIT_LINES"⟩,
  ⟨0x2203, 0x00, 4, .u8, .rws, false, 2, 1, 20, [], [], "PULSE_GAP"⟩,
  ⟨0x2204, 0x00, 1, .u8, .rws, false, 20, 5, 40, [], [], "PRECHARGE"⟩,
  ⟨0x2205, 0x00, 1, .u8, .rws, false, 0, 0, 180, [], [], "PRECHARGE_LEVEL"⟩,
  ⟨0x2210, 0x00, 16, .u8, .rws, false, 128, 0, 255, [], [], "COL_SINK_GLOBAL"⟩,
  ⟨0x2211, 0x00, 32, .u8, .rws, false, 128, 0, 255, [], [], "COL_SINK"⟩,
  ⟨0x2212, 0x00, 32, .i16, .ro, true, 0, (-255), 255, [], [], "COL_TRIM"⟩,
  ⟨0x2213, 0x00, 1, .u16, .rws, false, 500, 100, 10000, [], [], "COL_CHARGE_TIME"⟩,
  ⟨0x2214, 0x00, 1, .u8, .rws, false, 0, 0, 2, [], [], "ENERGY_SOURCE"⟩,
  ⟨0x2220, 0x00, 1, .u8, .rws, false, 0, 0, 16, [], [], "CHAIN_LENGTH"⟩,
  ⟨0x2221, 0x00, 1, .u8, .rws, false, 20, 10, 160, [], [], "CHAIN_CLK_DIV"⟩,
  ⟨0x2222, 0x00, 16, .u8, .rws, false, 0, 0, 3, [], [], "CHAIN_MAP"⟩,
  ⟨0x2223, 0x00, 16, .u8, .rws, false, 128, 0, 255, [], [], "CHAIN_CHARGE"⟩,
  ⟨0x2224, 0x00, 4, .i16, .ro, true, 0, (-255), 255, [], [], "CHAIN_TRIM"⟩,
  ⟨0x2225, 0x00, 1, .u32, .ro, true, 0, 0, 4294967295, [], [], "CHAIN_FRAMES"⟩,
  ⟨0x2230, 0x00, 1, .bool, .rws, false, 0, 0, 1, [], [], "ENERGY_LOOP"⟩,
  ⟨0x2231, 0x00, 16, .u16, .rws, false, 0, 0, 65535, [], [], "ENERGY_TARGET"⟩,
  ⟨0x2232, 0x00, 1, .q16, .rws, false, 16384, 1024, 65536, [], [], "LOOP_GAIN"⟩,
  ⟨0x2233, 0x00, 1, .u8, .rws, false, 10, 0, 30, [], [], "LOOP_DEADBAND"⟩,
  ⟨0x2234, 0x00, 4, .u8, .ro, true, 0, 0, 4, [], [], "ENERGY_STATUS"⟩,
  ⟨0x2235, 0x00, 4, .u16, .ro, true, 0, 0, 65535, [], [], "ENERGY_LAST"⟩,
  ⟨0x2236, 0x00, 1, .u8, .rws, false, 20, 5, 100, [], [], "MPD_TAIL"⟩,
  ⟨0x2237, 0x00, 4, .u8, .rws, false, 0, 0, 1, [], [], "MPD_SELECT"⟩,
  ⟨0x2240, 0x00, 1, .block, .rws, false, 128, 128, 128, [], [], "ZONE_ENABLE"⟩,
  ⟨0x2241, 0x00, 1, .block, .ro, false, 1024, 1024, 1024, [], [], "ZONE_DIAG"⟩,
  ⟨0x2242, 0x00, 1, .u16, .wo, false, 0, 0, 65535, [], [], "ZONE_DIAG_CLEAR"⟩,
  ⟨0x2243, 0x00, 1, .u16, .rws, false, 100, 10, 1000, [], [], "DIAG_INTERVAL"⟩,
  ⟨0x2244, 0x00, 1, .u8, .rws, false, 3, 1, 16, [], [], "DIAG_CONFIRM"⟩,
  ⟨0x2245, 0x00, 1, .u16, .rws, false, 64, 0, 1023, [], [], "ISENSE_MIN"⟩,
  ⟨0x2246, 0x00, 1, .u16, .rws, false, 960, 1, 1023, [], [], "ISENSE_MAX"⟩,
  ⟨0x2247, 0x00, 1, .u8, .rws, false, 25, 1, 100, [], [], "LIGHT_MIN"⟩,
  ⟨0x2248, 0x00, 1, .u16, .rws, false, 50, 0, 65535, [], [], "GHOST_MAX"⟩,
  ⟨0x2249, 0x00, 1, .u8, .rws, false, 28, 12, 252, [], [], "DIAG_WIDTH"⟩,
  ⟨0x2250, 0x01, 1, .u32, .ro, false, 0, 0, 4294967295, [], [], "START_MISSING"⟩,
  ⟨0x2250, 0x02, 1, .u32, .ro, false, 0, 0, 4294967295, [], [], "UNSCHEDULED_EDGES"⟩,
  ⟨0x2250, 0x03, 1, .u32, .ro, false, 0, 0, 4294967295, [], [], "COL_UNDERCHARGE"⟩,
  ⟨0x2250, 0x04, 1, .u32, .ro, false, 0, 0, 4294967295, [], [], "CHAIN_STALE"⟩,
  ⟨0x2250, 0x05, 1, .u32, .ro, false, 0, 0, 4294967295, [], [], "CHAIN_READBACK_ERRORS"⟩,
  ⟨0x2250, 0x06, 1, .u32, .ro, false, 0, 0, 4294967295, [], [], "CAPTURE_CONFLICTS"⟩,
  ⟨0x2250, 0x07, 1, .u32, .ro, false, 0, 0, 4294967295, [], [], "DISABLED_TAKES"⟩]

/-- Objects 0x23xx. -/
def objects23 : List ObjDesc := [
  ⟨0x2300, 0x00, 1, .u8, .ro, true, 0, 0, 5, [], [], "SAFETY_STATE"⟩,
  ⟨0x2301, 0x00, 1, .u32, .ro, true, 0, 0, 4294967295, [], [], "SAFETY_STATUS"⟩,
  ⟨0x2310, 0x01, 1, .u16, .wo, false, 0, 42435, 42435, [], [], "LOCKOUT_RESET"⟩,
  ⟨0x2310, 0x02, 1, .u16, .wo, false, 0, 32343, 32343, [], [], "TRIP_TEST"⟩,
  ⟨0x2311, 0x00, 1, .u32, .ro, true, 0, 0, 4294967295, [], [], "LOCKOUT_CAUSE"⟩,
  ⟨0x2312, 0x00, 1, .u8, .ro, true, 255, 0, 255, [], [0, 1, 2, 3, 4, 5, 6, 7, 8, 9, 10, 11, 12, 13, 14, 15, 16, 17, 18, 19, 20, 255], "LOCKOUT_FIRST"⟩,
  ⟨0x2313, 0x00, 1, .u32, .ro, false, 0, 0, 4294967295, [], [], "LOCKOUT_LAST"⟩,
  ⟨0x2320, 0x00, 1, .u8, .ro, true, 0, 0, 2, [], [], "SEAL_STATE"⟩,
  ⟨0x2321, 0x00, 1, .u32, .wo, false, 0, 0, 4294967295, [], [], "SEAL_COMMIT"⟩,
  ⟨0x2322, 0x00, 1, .u8, .ro, false, 0, 0, 67, [], [0, 64, 65, 66, 67], "SEAL_RESULT"⟩,
  ⟨0x2323, 0x00, 1, .bool, .ro, true, 0, 0, 1, [], [], "SEAL_PENDING"⟩,
  ⟨0x2330, 0x00, 5, .u8, .ro, true, 0, 0, 100, [], [], "ACC_PEAK"⟩,
  ⟨0x2340, 0x01, 1, .u32, .ro, false, 0, 0, 4294967295, [], [], "TRIPS"⟩,
  ⟨0x2340, 0x02, 1, .u32, .ro, false, 0, 0, 4294967295, [], [], "BUDGET_HOLDS"⟩,
  ⟨0x2340, 0x03, 1, .u32, .ro, false, 0, 0, 4294967295, [], [], "OFFTEST_PASSES"⟩,
  ⟨0x2340, 0x04, 1, .u32, .ro, false, 0, 0, 4294967295, [], [], "OFFTEST_ABANDONED"⟩,
  ⟨0x2341, 0x01, 2, .u32, .ro, false, 0, 0, 4294967295, [], [], "SAFE_MSG_INVALID"⟩,
  ⟨0x2380, 0x00, 2, .u16, .seal, false, 1023, 10, 1023, [], [], "OE_THRESHOLD"⟩,
  ⟨0x2381, 0x00, 2, .u8, .seal, false, 3, 0, 3, [], [], "OE_INT_CAP"⟩,
  ⟨0x2382, 0x00, 1, .block, .seal, false, 1280, 1280, 1280, [], [], "ACC_LIMITS"⟩,
  ⟨0x2383, 0x00, 1, .block, .seal, false, 1024, 1024, 1024, [], [], "ZONE_CLASS"⟩,
  ⟨0x2384, 0x00, 1, .u8, .seal, false, 32, 1, 32, [], [], "APERTURE_WIDTH"⟩,
  ⟨0x2385, 0x00, 1, .u16, .seal, false, 10000, 100, 10000, [], [], "REARM_HOLD"⟩,
  ⟨0x2386, 0x00, 1, .u32, .seal, false, 10000, 100, 10000, [], [], "FREEWHEEL_CEILING"⟩,
  ⟨0x2387, 0x00, 1, .bool, .seal, false, 1, 0, 1, [], [], "SCAN_REQUIRED"⟩,
  ⟨0x2388, 0x00, 1, .u8, .seal, false, 0, 0, 15, [], [], "SCAN_MONITOR_INPUT"⟩,
  ⟨0x2389, 0x00, 1, .u32, .seal, false, 10000, 100, 10000, [], [], "SCAN_EDGE_TIMEOUT"⟩,
  ⟨0x238A, 0x00, 2, .u8, .seal, false, 30, 1, 100, [], [], "SAFE_IN_FILTER"⟩,
  ⟨0x238B, 0x00, 2, .u16, .seal, false, 50, 1, 500, [], [], "DISCREPANCY_TIME"⟩,
  ⟨0x238C, 0x00, 1, .u8, .seal, false, 0, 0, 3, [], [], "SAFE_IN_POLARITY"⟩,
  ⟨0x238D, 0x00, 1, .u16, .seal, false, 20, 5, 200, [], [], "SUPPLY_FB_DELAY"⟩,
  ⟨0x238E, 0x00, 1, .u16, .seal, false, 100, 20, 400, [], [], "OFFTEST_PULSE"⟩,
  ⟨0x238F, 0x00, 1, .u8, .seal, false, 1, 1, 60, [], [], "OFFTEST_PERIOD"⟩,
  ⟨0x2390, 0x00, 1, .bool, .seal, false, 0, 0, 1, [], [], "SAFE_CMD_REQUIRED"⟩,
  ⟨0x2391, 0x00, 1, .u16, .seal, false, 50, 10, 500, [], [], "SAFE_CMD_TIMEOUT"⟩,
  ⟨0x2392, 0x00, 1, .u8, .seal, false, 10, 1, 100, [], [], "SAFE_MSG_PERIOD"⟩,
  ⟨0x2393, 0x00, 1, .u8, .seal, false, 0, 0, 2, [], [], "SAFE_NETS"⟩,
  ⟨0x2394, 0x00, 1, .u16, .seal, false, 23040, 0, 65534, [], [], "SAFE_DATA_ID"⟩,
  ⟨0x2395, 0x00, 1, .u16, .seal, false, 16, 0, 2047, [], [], "SAFE_CAN_STATUS_ID"⟩,
  ⟨0x2396, 0x00, 1, .u16, .seal, false, 17, 0, 2047, [], [], "SAFE_CAN_CMD_ID"⟩,
  ⟨0x2397, 0x00, 1, .u16, .seal, false, 48641, 1024, 65535, [], [], "SAFE_UDP_PORT"⟩,
  ⟨0x2398, 0x00, 1, .u8, .seal, false, 0, 0, 1, [], [], "EMIT_REQ_SOURCE"⟩,
  ⟨0x23B0, 0x00, 1, .u32, .ro, false, 0, 0, 4294967295, [], [], "SEAL_CRC"⟩,
  ⟨0x23B1, 0x00, 1, .u32, .ro, false, 0, 0, 4294967295, [], [], "SEAL_SEQ"⟩]

/-- Objects 0x24xx. -/
def objects24 : List ObjDesc := [
  ⟨0x2400, 0x00, 1, .u16, .ro, false, 256, 256, 256, [], [], "RX_CHANNELS"⟩,
  ⟨0x2401, 0x00, 256, .bool, .rws, false, 1, 0, 1, [], [], "RX_ENABLE"⟩,
  ⟨0x2402, 0x00, 256, .bool, .rws, false, 0, 0, 1, [], [], "RX_MASK"⟩,
  ⟨0x2403, 0x00, 256, .u8, .ro, true, 5, 0, 5, [], [], "RX_STATE"⟩,
  ⟨0x2410, 0x00, 256, .u16, .rws, false, 40, 1, 1022, [], [], "THRESH_LO"⟩,
  ⟨0x2411, 0x00, 256, .u16, .rws, false, 800, 2, 1023, [], [], "THRESH_HI"⟩,
  ⟨0x2412, 0x00, 1, .u8, .rws, false, 2, 0, 7, [], [], "RX_HYST"⟩,
  ⟨0x2413, 0x00, 1, .u16, .rws, false, 10, 2, 1000, [], [], "RX_STUCK_TIME"⟩,
  ⟨0x2414, 0x00, 1, .u8, .rws, false, 50, 0, 50, [], [], "PRESTART_SPAN"⟩,
  ⟨0x2420, 0x00, 256, .u8, .rws, false, 0, 0, 255, [], [], "DESKEW"⟩,
  ⟨0x2430, 0x00, 256, .u32, .ro, false, 0, 0, 4294967295, [], [], "HITS"⟩,
  ⟨0x2431, 0x00, 256, .u32, .ro, false, 0, 0, 4294967295, [], [], "BACKGROUND"⟩,
  ⟨0x2432, 0x00, 256, .u32, .ro, false, 0, 0, 4294967295, [], [], "PRESTART"⟩,
  ⟨0x2433, 0x00, 256, .u32, .ro, false, 0, 0, 4294967295, [], [], "SATURATIONS"⟩,
  ⟨0x2434, 0x00, 256, .u32, .ro, false, 0, 0, 4294967295, [], [], "HITS_EXCESS"⟩,
  ⟨0x2435, 0x00, 256, .u32, .ro, false, 0, 0, 420000000, [], [], "RX_BG_RATE"⟩,
  ⟨0x2436, 0x00, 1, .u32, .rws, false, 10000000, 1000, 400000000, [], [], "RX_BG_ALARM"⟩,
  ⟨0x243F, 0x00, 1, .u8, .ro, false, 18, 18, 18, [], [], "TDC_BLOCKS"⟩,
  ⟨0x2440, 0x00, 18, .bool, .ro, true, 0, 0, 1, [], [], "TDC_LOCK"⟩,
  ⟨0x2441, 0x00, 1, .u8, .ro, false, 16, 16, 16, [], [], "RX_BLOCKS"⟩,
  ⟨0x2442, 0x00, 16, .bool, .ro, true, 0, 0, 1, [], [], "RXREF_OK"⟩]

/-- Objects 0x25xx. -/
def objects25 : List ObjDesc := [
  ⟨0x2500, 0x00, 1, .u8, .rws, false, 16, 1, 64, [], [], "REEL_K"⟩,
  ⟨0x2501, 0x00, 1, .u16, .rws, false, 128, 16, 1024, [], [], "TRACK_HALF"⟩,
  ⟨0x2502, 0x00, 1, .u16, .rws, false, 100, 0, 1000, [], [], "SKY_GATE"⟩,
  ⟨0x2503, 0x00, 1, .u8, .rws, false, 1, 1, 255, [], [], "SAT_HI_MIN"⟩,
  ⟨0x2510, 0x00, 4, .block, .rws, false, 32, 32, 32, [], [], "GEAR_TABLE"⟩,
  ⟨0x2511, 0x00, 4, .u8, .ro, true, 0, 0, 15, [], [], "GEAR_GEN"⟩,
  ⟨0x2512, 0x00, 4, .bool, .ro, true, 0, 0, 1, [], [], "GEAR_PENDING"⟩,
  ⟨0x2520, 0x00, 1, .block, .rws, false, 256, 256, 256, [], [], "CODE_FAMILY"⟩,
  ⟨0x2530, 0x01, 1, .u32, .ro, false, 0, 0, 4294967295, [], [], "LATE_HITS"⟩,
  ⟨0x2530, 0x02, 1, .u32, .ro, false, 0, 0, 4294967295, [], [], "SPAN_DROPS"⟩,
  ⟨0x2530, 0x03, 1, .u32, .ro, false, 0, 0, 4294967295, [], [], "BIN_SATURATIONS"⟩,
  ⟨0x2530, 0x04, 1, .u32, .ro, false, 0, 0, 4294967295, [], [], "REEL_ECC_RESETS"⟩,
  ⟨0x2530, 0x05, 1, .u32, .ro, false, 0, 0, 4294967295, [], [], "MREV_SKIPS"⟩,
  ⟨0x2530, 0x06, 1, .u32, .ro, false, 0, 0, 4294967295, [], [], "MREV_RESETS"⟩,
  ⟨0x2530, 0x07, 1, .u32, .ro, false, 0, 0, 4294967295, [], [], "RAW_DROPS"⟩,
  ⟨0x2530, 0x08, 1, .u32, .ro, false, 0, 0, 4294967295, [], [], "REELS_POSTED"⟩,
  ⟨0x2540, 0x00, 256, .u16, .ro, true, 0, 0, 65535, [], [], "BG_LAST"⟩,
  ⟨0x2541, 0x00, 256, .u16, .ro, true, 0, 0, 65535, [], [], "SUN_LAST"⟩,
  ⟨0x2542, 0x00, 1, .block, .ro, false, 1048576, 1048576, 1048576, [], [], "BG_MAP"⟩,
  ⟨0x2550, 0x00, 1, .bool, .rws, false, 0, 0, 1, [], [], "MREV_ENABLE"⟩,
  ⟨0x2551, 0x00, 1, .u8, .rws, false, 4, 2, 8, [], [], "MREV_DEPTH"⟩,
  ⟨0x2552, 0x00, 1, .u16, .rws, false, 2048, 0, 4095, [], [], "MREV_START"⟩,
  ⟨0x2553, 0x00, 1, .block, .rws, false, 128, 128, 128, [], [], "MREV_SPOKES"⟩,
  ⟨0x2554, 0x00, 1, .block, .rws, false, 524288, 524288, 524288, [], [], "MREV_COS"⟩,
  ⟨0x2555, 0x00, 1, .u16, .rws, false, 100, 10, 1000, [], [], "EGO_TIMEOUT"⟩,
  ⟨0x2556, 0x00, 1, .u16, .rws, false, 1024, 0, 15360, [], [], "MREV_POOL"⟩,
  ⟨0x2560, 0x00, 1, .block, .rws, false, 32, 32, 32, [], [], "RAW_CHANNELS"⟩,
  ⟨0x2561, 0x00, 1, .block, .rws, false, 128, 128, 128, [], [], "RAW_SPOKES"⟩,
  ⟨0x2562, 0x00, 1, .u16, .rws, false, 1, 1, 65535, [], [], "RAW_DECIMATE"⟩]

/-- Objects 0x26xx. -/
def objects26 : List ObjDesc := [
  ⟨0x2600, 0x00, 1, .u16, .rws, false, 1, 0, 257, [], [0, 1, 256, 257], "KERNEL_SELECT"⟩,
  ⟨0x2601, 0x00, 1, .u16, .ro, true, 1, 0, 257, [], [0, 1, 256, 257], "KERNEL_ACTIVE"⟩,
  ⟨0x2602, 0x00, 1, .u8, .ro, false, 32, 32, 32, [], [], "SE_COUNT"⟩,
  ⟨0x2603, 0x00, 32, .bool, .rws, false, 1, 0, 1, [], [], "SE_ENABLE"⟩,
  ⟨0x2604, 0x00, 32, .u8, .ro, true, 0, 0, 3, [], [], "SE_STATE"⟩,
  ⟨0x2605, 0x00, 1, .u32, .rws, false, 20000, 4000, 1000000, [], [], "SE_WATCHDOG"⟩,
  ⟨0x2606, 0x00, 32, .u8, .ro, true, 0, 0, 100, [], [], "SE_LOAD"⟩,
  ⟨0x2610, 0x00, 2, .block, .rws, false, 0, 0, 65536, [], [], "KERNEL_IMAGE"⟩,
  ⟨0x2611, 0x00, 1, .u8, .ro, false, 0, 0, 84, [], [0, 80, 81, 82, 83, 84], "KERNEL_RESULT"⟩,
  ⟨0x2612, 0x00, 2, .u64, .ro, false, 0, 0, 18446744073709551615, [], [], "KERNEL_INFO"⟩,
  ⟨0x2620, 0x00, 32, .u32, .ro, false, 0, 0, 4294967295, [], [], "SE_REELS"⟩,
  ⟨0x2621, 0x00, 32, .u32, .ro, false, 0, 0, 4294967295, [], [], "SE_FAULTS"⟩,
  ⟨0x2622, 0x00, 32, .u32, .ro, false, 0, 0, 4294967295, [], [], "SE_CLIPPED"⟩,
  ⟨0x2624, 0x01, 1, .u32, .ro, false, 0, 0, 4294967295, [], [], "PT_OVERFLOWS"⟩,
  ⟨0x2624, 0x02, 1, .u32, .ro, false, 0, 0, 4294967295, [], [], "REELS_UNPROCESSED"⟩,
  ⟨0x262F, 0x00, 1, .u8, .ro, false, 2, 2, 2, [], [], "AE_COUNT"⟩,
  ⟨0x2630, 0x00, 2, .u8, .ro, true, 0, 0, 3, [], [], "AE_STATE"⟩,
  ⟨0x2631, 0x00, 2, .u32, .ro, true, 0, 0, 1000000, [], [], "AE_CYCLES"⟩,
  ⟨0x2632, 0x00, 1, .u32, .ro, false, 11599873, 0, 4294967295, [], [], "AE_ROM_VERSION"⟩]

/-- Objects 0x27xx. -/
def objects27 : List ObjDesc := [
  ⟨0x2700, 0x00, 1, .bool, .rws, false, 1, 0, 1, [], [], "CLASS_ENABLE"⟩,
  ⟨0x2701, 0x00, 1, .q16, .rws, false, 393216, 65536, 4177920, [], [], "DETECT_SNR"⟩,
  ⟨0x2702, 0x00, 1, .block, .rws, false, 64, 64, 64, [], [], "MF_TEMPLATE"⟩,
  ⟨0x2703, 0x00, 1, .u8, .rws, false, 3, 1, 8, [], [], "CENT_HALF"⟩,
  ⟨0x2704, 0x00, 1, .u16, .rws, false, 300, 0, 2000, [], [], "WINDOW_RANGE"⟩,
  ⟨0x2705, 0x00, 1, .q16, .rws, false, 655360, 65536, 4177920, [], [], "SUN_SNR_MIN"⟩,
  ⟨0x2706, 0x00, 1, .u16, .rws, false, 2000, 1, 65535, [], [], "SUN_ALARM"⟩,
  ⟨0x2707, 0x00, 1, .q16, .rws, false, 32768, 6554, 262144, [], [], "FOREIGN_TOL"⟩,
  ⟨0x2708, 0x00, 1, .u16, .rws, false, 1500, 100, 20000, [], [], "FOG_SIGMA"⟩,
  ⟨0x2709, 0x00, 1, .u16, .rws, false, 500, 0, 6140, [], [], "FOG_RANGE"⟩,
  ⟨0x270A, 0x00, 1, .u16, .rws, false, 300, 0, 6140, [], [], "RAIN_RANGE"⟩,
  ⟨0x270B, 0x00, 1, .u8, .rws, false, 50, 1, 100, [], [], "RAIN_FILL"⟩,
  ⟨0x270C, 0x00, 1, .u8, .rws, false, 4, 1, 64, [], [], "MP_RATIO"⟩,
  ⟨0x270D, 0x00, 1, .u16, .rws, false, 500, 10, 10000, [], [], "MP_TOL"⟩,
  ⟨0x270E, 0x00, 4, .block, .rws, false, 66, 66, 66, [], [], "INT_TABLE"⟩,
  ⟨0x2710, 0x00, 1, .block, .rws, false, 48, 48, 48, [], [], "EXTRINSICS"⟩,
  ⟨0x2712, 0x00, 1, .block, .rws, false, 2048, 2048, 2048, [], [], "BEAM_TABLE"⟩,
  ⟨0x2713, 0x00, 1, .q16, .rws, false, 0, (-262144), 262144, [], [], "EL_B_GAIN"⟩,
  ⟨0x2720, 0x00, 1, .bool, .rws, false, 1, 0, 1, [], [], "XT_ENABLE"⟩,
  ⟨0x2721, 0x00, 1, .u8, .rws, false, 2, 1, 8, [], [], "XT_SPAN"⟩,
  ⟨0x2722, 0x00, 1, .u16, .rws, false, 32, 1, 1024, [], [], "XT_TOL"⟩,
  ⟨0x2723, 0x00, 1, .u8, .rws, false, 10, 1, 100, [], [], "XT_RATIO"⟩,
  ⟨0x2724, 0x00, 1, .u16, .rws, false, 10, 0, 1000, [], [], "SPOKE_HOLD"⟩,
  ⟨0x2725, 0x00, 1, .u16, .rws, false, 1000, 100, 1300, [], [], "SPOKE_MAX_AGE"⟩,
  ⟨0x2730, 0x00, 1, .block, .ro, false, 262144, 262144, 262144, [], [], "SOIL_MAP"⟩,
  ⟨0x2731, 0x00, 1, .u8, .rws, false, 4, 1, 8, [], [], "SOIL_SHIFT"⟩,
  ⟨0x2732, 0x00, 1, .block, .ro, false, 32768, 32768, 32768, [], [], "BLOCK_MAP"⟩,
  ⟨0x2733, 0x00, 1, .u8, .rws, false, 64, 1, 255, [], [], "BLOCK_LEVEL"⟩,
  ⟨0x2734, 0x00, 1, .u8, .rws, false, 10, 1, 255, [], [], "BLOCK_REVS"⟩,
  ⟨0x2735, 0x00, 1, .u8, .rws, false, 5, 1, 100, [], [], "BLOCK_ALARM"⟩,
  ⟨0x2736, 0x00, 1, .u8, .ro, true, 0, 0, 100, [], [], "BLOCK_FRACTION"⟩,
  ⟨0x2740, 0x00, 4, .u32, .rws, false, 0, 0, 4294967295, [0x20FFF800, 0, 0, 0], [], "STREAM_CFG"⟩,
  ⟨0x2741, 0x00, 4, .u32, .ro, true, 0, 0, 4294967295, [], [], "STREAM_COUNTER"⟩,
  ⟨0x2742, 0x00, 1, .u16, .rws, false, 1472, 512, 8972, [], [], "UDP_MAX_PAYLOAD"⟩,
  ⟨0x2743, 0x00, 3, .u16, .rws, false, 8, 1, 256, [], [], "OUT_QUEUE"⟩,
  ⟨0x2750, 0x00, 4, .u32, .ro, false, 0, 0, 4294967295, [], [], "STREAM_DROPS"⟩,
  ⟨0x2751, 0x00, 1, .u32, .ro, false, 0, 0, 4294967295, [], [], "RAW_OUT_DROPS"⟩,
  ⟨0x2752, 0x00, 1, .u32, .ro, false, 0, 0, 4294967295, [], [], "SPOKE_SPLITS"⟩,
  ⟨0x2753, 0x00, 1, .u32, .ro, false, 0, 0, 4294967295, [], [], "POINT_LIMIT_DROPS"⟩,
  ⟨0x2754, 0x00, 1, .u64, .ro, true, 0, 0, 18446744073709551615, [], [], "POINTS_OUT"⟩]

/-- Objects 0x28xx. -/
def objects28 : List ObjDesc := [
  ⟨0x2800, 0x00, 1, .u8, .wo, false, 0, 1, 3, [], [], "CAL_START"⟩,
  ⟨0x2801, 0x00, 1, .block, .rw, false, 38, 38, 38, [], [], "CAL_UNITS"⟩,
  ⟨0x2802, 0x00, 1, .bool, .rws, false, 1, 0, 1, [], [], "CAL_ONLINE"⟩,
  ⟨0x2803, 0x00, 1, .u8, .rws, false, 5, 1, 10, [], [], "CAL_TEMP_DELTA"⟩,
  ⟨0x2804, 0x00, 1, .u32, .rws, false, 3600, 60, 86400, [], [], "CAL_MAX_AGE"⟩,
  ⟨0x2805, 0x00, 1, .u16, .rws, false, 2000, 100, 60000, [], [], "CAL_TDC_TIMEOUT"⟩,
  ⟨0x2806, 0x00, 1, .u8, .rws, false, 0, 0, 1, [], [], "CAL_OFFSET_MODE"⟩,
  ⟨0x2807, 0x00, 1, .u8, .rws, false, 64, 8, 255, [], [], "CAL_OFFSET_REELS"⟩,
  ⟨0x2808, 0x00, 1, .u16, .rws, false, 32768, 0, 65535, [], [], "CAL_WALK_STEPS"⟩,
  ⟨0x2809, 0x00, 1, .u16, .rws, false, 640, 16, 6400, [], [], "CAL_TARGET_GATE"⟩,
  ⟨0x2810, 0x00, 256, .u16, .ro, true, 49184, 0, 65535, [], [], "CAL_STATUS"⟩,
  ⟨0x2811, 0x00, 48, .u16, .ro, true, 32800, 0, 65535, [], [], "AUX_CAL_STATUS"⟩,
  ⟨0x2812, 0x00, 1, .u8, .ro, false, 48, 48, 48, [], [], "AUX_CAL_COUNT"⟩,
  ⟨0x2813, 0x00, 1, .u16, .ro, true, 304, 0, 304, [], [], "CAL_DUE_COUNT"⟩,
  ⟨0x2820, 0x00, 1, .u8, .ro, false, 0, 0, 2, [], [], "CAL_BANK"⟩,
  ⟨0x2821, 0x00, 1, .u32, .ro, false, 0, 0, 4294967295, [], [], "CAL_SEQ"⟩,
  ⟨0x2830, 0x00, 1, .block, .rw, false, 1024, 1024, 1024, [], [], "CAL_TARGET"⟩,
  ⟨0x2831, 0x00, 256, .i32, .ro, true, 0, (-65536), 65535, [], [], "ROFF"⟩,
  ⟨0x2832, 0x00, 1, .block, .ro, false, 8192, 8192, 8192, [], [], "WALK_TABLE"⟩,
  ⟨0x2833, 0x00, 256, .i16, .ro, true, 0, (-64), 63, [], [], "TRIM_LO"⟩,
  ⟨0x2834, 0x00, 256, .i16, .ro, true, 0, (-64), 63, [], [], "TRIM_HI"⟩,
  ⟨0x2835, 0x00, 1, .block, .ro, false, 38912, 38912, 38912, [], [], "TDC_TABLES"⟩,
  ⟨0x2836, 0x00, 256, .i16, .ro, false, 0, (-800), 2400, [], [], "CAL_TEMP"⟩,
  ⟨0x2837, 0x00, 48, .i16, .ro, false, 0, (-800), 2400, [], [], "AUX_CAL_TEMP"⟩]

/-- Objects 0x29xx. -/
def objects29 : List ObjDesc := [
  ⟨0x2900, 0x00, 1, .u8, .ro, false, 16, 16, 16, [], [], "HK_PINS"⟩,
  ⟨0x2901, 0x00, 16, .u32, .rws, false, 0, 0, 4294967295, [], [], "HK_MEAS"⟩,
  ⟨0x2902, 0x00, 16, .i32, .ro, true, 0, (-2147483648), 2147483647, [], [], "HK_VALUE"⟩,
  ⟨0x2903, 0x00, 16, .u8, .ro, true, 0, 0, 255, [], [], "HK_STATUS"⟩,
  ⟨0x2904, 0x00, 16, .i32, .rws, false, (-2147483648), (-2147483648), 2147483647, [], [], "HK_LIM_LO"⟩,
  ⟨0x2905, 0x00, 16, .i32, .rws, false, 2147483647, (-2147483648), 2147483647, [], [], "HK_LIM_HI"⟩,
  ⟨0x2906, 0x00, 16, .u32, .rws, false, 0, 0, 100000, [], [], "HK_LEAD_FIXED"⟩,
  ⟨0x2907, 0x00, 16, .u32, .rws, false, 1000000, 10000, 10000000, [], [], "HK_PT_NOMINAL"⟩,
  ⟨0x2910, 0x00, 1, .u8, .rws, false, 0, 0, 2, [], [], "HK_PERIOD_MODE"⟩,
  ⟨0x2911, 0x00, 1, .u8, .rws, false, 20, 1, 100, [], [], "HK_PERIOD_FIXED"⟩,
  ⟨0x2912, 0x00, 1, .u8, .rws, false, 20, 2, 200, [], [], "HK_DISCHARGE"⟩,
  ⟨0x2913, 0x00, 1, .u16, .rws, false, 100, 10, 5000, [], [], "HK_SETTLE"⟩,
  ⟨0x2914, 0x00, 1, .u16, .rws, false, 61184, 0, 65535, [], [], "HK_REF"⟩,
  ⟨0x2915, 0x00, 1, .u32, .rws, false, 0, 0, 100000000, [], [], "HK_REF_R"⟩,
  ⟨0x2916, 0x00, 1, .u8, .wo, false, 0, 0, 15, [], [], "HK_INJECT"⟩,
  ⟨0x2920, 0x00, 18, .i16, .ro, true, 0, (-800), 2400, [], [], "HK_DIE_TEMP"⟩,
  ⟨0x2921, 0x00, 1, .u8, .ro, false, 18, 18, 18, [], [], "HK_DIE_COUNT"⟩,
  ⟨0x2930, 0x00, 1, .u8, .rws, false, 0, 0, 2, [], [], "FC_MODE"⟩,
  ⟨0x2931, 0x00, 3, .u8, .rws, false, 0, 0, 3, [], [], "FC_GAIN"⟩,
  ⟨0x2932, 0x00, 1, .u8, .wo, false, 0, 1, 1, [], [], "FC_TRIM"⟩,
  ⟨0x2933, 0x00, 3, .i16, .ro, true, 0, (-32768), 32767, [], [], "FC_TRIM_STATE"⟩,
  ⟨0x2934, 0x00, 1, .u8, .rws, false, 10, 2, 40, [], [], "FC_TRIM_DELTA"⟩,
  ⟨0x2940, 0x01, 1, .u32, .ro, false, 0, 0, 4294967295, [], [], "FC_OVR_CAPTURES"⟩,
  ⟨0x2940, 0x02, 1, .u32, .ro, false, 0, 0, 4294967295, [], [], "FC_GAIN_DISCARDS"⟩,
  ⟨0x2940, 0x03, 1, .u32, .ro, false, 0, 0, 4294967295, [], [], "HK_OVR_RESULTS"⟩]

/-- Objects 0x2Axx. -/
def objects2A : List ObjDesc := [
  ⟨0x2A00, 0x00, 1, .u8, .ro, true, 0, 0, 4, [], [], "CLOCK_STATE"⟩,
  ⟨0x2A01, 0x00, 1, .block, .ro, false, 12, 12, 12, [], [], "TIME_NOW"⟩,
  ⟨0x2A02, 0x00, 1, .u16, .ro, true, 0, 0, 65535, [], [], "TIME_EPOCH"⟩,
  ⟨0x2A10, 0x00, 1, .u8, .wo, false, 0, 1, 2, [], [], "TIME_RESTEP"⟩,
  ⟨0x2A11, 0x00, 1, .block, .rw, false, 10, 10, 10, [], [], "TIME_SET"⟩,
  ⟨0x2A12, 0x00, 1, .bool, .ro, true, 0, 0, 1, [], [], "RESTEP_PENDING"⟩,
  ⟨0x2A20, 0x00, 1, .u32, .rw, true, 16777216, 16768828, 16785604, [], [], "CLOCK_INCREMENT"⟩,
  ⟨0x2A21, 0x00, 1, .u8, .rws, false, 0, 0, 1, [], [], "TIME_SOURCE"⟩,
  ⟨0x2A22, 0x00, 1, .u16, .rws, false, 2000, 100, 60000, [], [], "HOST_TIMEOUT"⟩,
  ⟨0x2A23, 0x00, 1, .bool, .rw, false, 0, 0, 1, [], [], "HOST_LOCKED"⟩,
  ⟨0x2A30, 0x00, 1, .i32, .rws, false, 0, (-50000), 50000, [], [], "XTAL_AGEING"⟩,
  ⟨0x2A31, 0x00, 1, .bool, .rws, false, 1, 0, 1, [], [], "XTAL_LEARN"⟩,
  ⟨0x2A40, 0x00, 1, .u32, .rws, false, 1000000, 1000, 1000000000, [], [], "TIME_STEP_THRESHOLD"⟩,
  ⟨0x2A41, 0x00, 1, .u32, .rws, false, 1000, 10, 1000000, [], [], "LOCK_WINDOW"⟩,
  ⟨0x2A42, 0x00, 1, .i32, .ro, true, 0, (-2147483648), 2147483647, [], [], "OFFSET_LAST"⟩,
  ⟨0x2A50, 0x00, 1, .u8, .rws, false, 0, 0, 2, [], [], "EGO_SOURCE"⟩,
  ⟨0x2A51, 0x00, 1, .u16, .rws, false, 288, 0, 2047, [], [], "EGO_CAN_ID"⟩,
  ⟨0x2A52, 0x00, 1, .u16, .rws, false, 48643, 1024, 65535, [], [], "EGO_UDP_PORT"⟩,
  ⟨0x2A53, 0x00, 1, .i16, .ro, true, 0, (-10000), 10000, [], [], "EGO_SPEED"⟩,
  ⟨0x2A54, 0x00, 1, .u16, .ro, true, 65535, 0, 65535, [], [], "EGO_AGE"⟩,
  ⟨0x2A55, 0x00, 1, .u32, .ro, false, 0, 0, 4294967295, [], [], "EGO_INVALID"⟩,
  ⟨0x2A60, 0x00, 1, .u8, .rws, false, 1, 0, 3, [], [], "GPTP_PORTS"⟩,
  ⟨0x2A61, 0x00, 1, .u8, .rws, false, 0, 0, 1, [], [], "GPTP_PRIMARY"⟩,
  ⟨0x2A62, 0x00, 1, .u8, .rws, false, 0, 0, 127, [], [], "GPTP_DOMAIN"⟩,
  ⟨0x2A63, 0x00, 1, .u8, .rws, false, 255, 0, 255, [], [], "GPTP_PRIORITY1"⟩,
  ⟨0x2A64, 0x00, 1, .u8, .rws, false, 248, 0, 255, [], [], "GPTP_PRIORITY2"⟩,
  ⟨0x2A65, 0x00, 1, .bool, .rws, false, 0, 0, 1, [], [], "GPTP_EXT_CONFIG"⟩,
  ⟨0x2A66, 0x00, 1, .i16, .rws, false, (-3), (-5), 1, [], [], "LOG_SYNC_INTERVAL"⟩,
  ⟨0x2A67, 0x00, 1, .i16, .rws, false, 0, (-3), 3, [], [], "LOG_PDELAY_INTERVAL"⟩,
  ⟨0x2A68, 0x00, 1, .i16, .rws, false, 0, (-3), 3, [], [], "LOG_ANNOUNCE_INTERVAL"⟩,
  ⟨0x2A69, 0x00, 1, .u32, .rws, false, 800, 10, 100000, [], [], "NEIGHBOR_THRESH"⟩,
  ⟨0x2A6A, 0x01, 2, .u16, .rws, false, 0, 0, 2000, [], [], "TX_LATENCY"⟩,
  ⟨0x2A6B, 0x01, 2, .u16, .rws, false, 0, 0, 2000, [], [], "RX_LATENCY"⟩,
  ⟨0x2A6C, 0x00, 1, .u64, .ro, true, 0, 0, 18446744073709551615, [], [], "GM_IDENTITY"⟩,
  ⟨0x2A6D, 0x01, 2, .u32, .ro, true, 0, 0, 4294967295, [], [], "LINK_DELAY"⟩]

/-- Objects 0x2Bxx. PRBS_CTRL: the spec names bits 0 and 1 only; a write with an upper bit set is refused OUT_OF_RANGE (DESIGN CHOICE,
log entry 71). -/
def objects2B : List ObjDesc := [
  ⟨0x2B00, 0x00, 1, .u8, .ro, false, 8, 8, 8, [], [], "LANE_COUNT"⟩,
  ⟨0x2B01, 0x00, 8, .u8, .rws, false, 1, 0, 2, [1, 1, 1, 1, 1, 0, 0, 0], [], "LANE_MODE"⟩,
  ⟨0x2B02, 0x00, 1, .u8, .rws, false, 4, 1, 4, [], [1, 2, 4], "KLP_WIDTH"⟩,
  ⟨0x2B03, 0x00, 2, .u8, .rws, false, 0, 0, 2, [], [], "BOND_RATE"⟩,
  ⟨0x2B04, 0x00, 8, .u16, .rws, false, 800, 400, 1200, [], [], "TX_SWING"⟩,
  ⟨0x2B05, 0x00, 8, .u8, .rws, false, 2, 0, 12, [], [], "TX_PRE"⟩,
  ⟨0x2B06, 0x00, 8, .u8, .rws, false, 6, 0, 24, [], [], "TX_POST"⟩,
  ⟨0x2B07, 0x00, 8, .bool, .rws, false, 1, 0, 1, [], [], "RX_ADAPT"⟩,
  ⟨0x2B10, 0x00, 8, .u8, .ro, true, 0, 0, 4, [], [], "LANE_STATE"⟩,
  ⟨0x2B11, 0x00, 8, .bool, .ro, true, 0, 0, 1, [], [], "ADAPT_FROZEN"⟩,
  ⟨0x2B12, 0x00, 2, .u8, .ro, true, 0, 0, 3, [], [], "BOND_STATE"⟩,
  ⟨0x2B13, 0x00, 2, .u8, .ro, true, 0, 0, 255, [], [], "BOND_ACTIVE"⟩,
  ⟨0x2B14, 0x00, 8, .u8, .ro, true, 0, 0, 100, [], [], "TRANSITION_DENSITY"⟩,
  ⟨0x2B40, 0x00, 1, .u32, .wo, false, 0, 0, 4294967295, [], [], "EYE_SCAN"⟩,
  ⟨0x2B41, 0x00, 1, .block, .ro, false, 0, 0, 16648, [], [], "EYE_MAP"⟩,
  ⟨0x2B50, 0x00, 8, .u8, .rw, false, 0, 0, 3, [], [], "PRBS_CTRL"⟩,
  ⟨0x2B51, 0x00, 8, .u8, .rw, false, 0, 0, 3, [], [], "LANE_LOOP"⟩,
  ⟨0x2B52, 0x00, 8, .bool, .ro, true, 0, 0, 1, [], [], "PRBS_LOCK"⟩,
  ⟨0x2B53, 0x00, 8, .u32, .ro, true, 0, 0, 4294967295, [], [], "PRBS_ERRORS"⟩,
  ⟨0x2B60, 0x00, 8, .u32, .ro, false, 0, 0, 4294967295, [], [], "LOCK_LOSSES"⟩,
  ⟨0x2B61, 0x00, 8, .u32, .ro, false, 0, 0, 4294967295, [], [], "BLOCK_ERRORS"⟩,
  ⟨0x2B62, 0x00, 8, .u32, .ro, false, 0, 0, 4294967295, [], [], "FILL_DELETES"⟩,
  ⟨0x2B63, 0x00, 8, .u32, .ro, false, 0, 0, 4294967295, [], [], "FILL_INSERTS"⟩,
  ⟨0x2B64, 0x00, 8, .u32, .ro, false, 0, 0, 4294967295, [], [], "ADAPT_FREEZES"⟩,
  ⟨0x2B65, 0x00, 8, .u32, .ro, false, 0, 0, 4294967295, [], [], "ELASTIC_ERRORS"⟩,
  ⟨0x2B66, 0x00, 2, .u32, .ro, false, 0, 0, 4294967295, [], [], "BOND_CHANGES"⟩,
  ⟨0x2B67, 0x00, 2, .u32, .ro, false, 0, 0, 4294967295, [], [], "RX_FRAME_ERRORS"⟩,
  ⟨0x2B68, 0x00, 2, .u32, .ro, false, 0, 0, 4294967295, [], [], "RETRANSMITS"⟩]

/-- Objects 0x2Cxx. -/
def objects2C : List ObjDesc := [
  ⟨0x2C00, 0x00, 1, .u8, .ro, true, 0, 0, 3, [], [], "PAIR_ROLE"⟩,
  ⟨0x2C01, 0x00, 1, .bool, .rws, false, 0, 0, 1, [], [], "PAIR_ENABLE"⟩,
  ⟨0x2C02, 0x00, 1, .u8, .ro, false, 0, 0, 1, [], [], "PAIR_POSITION"⟩,
  ⟨0x2C03, 0x00, 1, .u16, .wo, false, 0, 18597, 18597, [], [], "PAIR_HANDOVER"⟩,
  ⟨0x2C04, 0x00, 1, .u32, .ro, true, 0, 0, 4294967295, [], [], "PAIR_STATUS"⟩,
  ⟨0x2C05, 0x00, 1, .u16, .rws, false, 100, 30, 1000, [], [], "HEARTBEAT_TIMEOUT"⟩,
  ⟨0x2C06, 0x00, 1, .u8, .rws, false, 2, 1, 20, [], [], "DRIVE_LOSS_TIME"⟩,
  ⟨0x2C07, 0x00, 1, .u16, .rws, false, 500, 100, 10000, [], [], "ALONE_WAIT"⟩,
  ⟨0x2C08, 0x00, 1, .u8, .rws, false, 48, 0, 255, [], [], "SUM_SNR_MIN"⟩,
  ⟨0x2C09, 0x00, 1, .u16, .rws, false, 40, 0, 4000, [], [], "SUM_RANGE_TOL"⟩,
  ⟨0x2C0A, 0x00, 1, .u8, .rws, false, 8, 1, 255, [], [], "SUM_MISMATCH_LIMIT"⟩,
  ⟨0x2C10, 0x00, 1, .u32, .ro, true, 0, 0, 4294967295, [], [], "PAIR_EPOCH"⟩,
  ⟨0x2C11, 0x00, 1, .u64, .ro, false, 0, 0, 18446744073709551615, [], [], "PAIR_ACTIVE_ID"⟩,
  ⟨0x2C12, 0x00, 1, .u32, .ro, true, 0, 0, 4294967295, [], [], "PARTNER_EPOCH"⟩,
  ⟨0x2C20, 0x01, 1, .u32, .ro, false, 0, 0, 4294967295, [], [], "TAKEOVERS"⟩,
  ⟨0x2C20, 0x02, 1, .u32, .ro, false, 0, 0, 4294967295, [], [], "CONTENTIONS"⟩,
  ⟨0x2C20, 0x03, 1, .u32, .ro, false, 0, 0, 4294967295, [], [], "SUMS_COMPARED"⟩,
  ⟨0x2C20, 0x04, 1, .u32, .ro, false, 0, 0, 4294967295, [], [], "SUM_MISMATCHES"⟩,
  ⟨0x2C20, 0x05, 1, .u32, .ro, false, 0, 0, 4294967295, [], [], "SUM_UNPAIRED"⟩,
  ⟨0x2C20, 0x06, 1, .u32, .ro, false, 0, 0, 4294967295, [], [], "TAKE_DIVERGENCES"⟩]

/-- Objects 0x2Dxx. -/
def objects2D : List ObjDesc := [
  ⟨0x2D01, 0x00, 1, .u8, .rws, false, 0, 0, 4, [], [], "DDR_CONFIG"⟩,
  ⟨0x2D02, 0x00, 1, .u8, .rws, false, 52, 46, 56, [], [46, 52, 56], "DDR_CL"⟩,
  ⟨0x2D03, 0x00, 1, .u8, .ro, true, 0, 0, 3, [], [], "DDR_STATE"⟩,
  ⟨0x2D04, 0x00, 1, .u16, .ro, false, 0, 0, 16384, [], [0, 4096, 8192, 16384], "DDR_SIZE"⟩,
  ⟨0x2D05, 0x00, 1, .u16, .ro, true, 0, 0, 256, [], [], "DDR_REGIONS_READY"⟩,
  ⟨0x2D10, 0x00, 1, .u32, .rws, false, 0, 0, 4294967295, [], [], "TRACE_CTRL"⟩,
  ⟨0x2D11, 0x00, 1, .u32, .ro, false, 0, 0, 4294967295, [], [], "TRACE_DROPS"⟩,
  ⟨0x2D20, 0x00, 7, .u32, .ro, false, 0, 0, 4294967295, [], [], "ECC_CORRECTED"⟩,
  ⟨0x2D21, 0x00, 7, .u32, .ro, false, 0, 0, 4294967295, [], [], "ECC_UNCORRECTED"⟩,
  ⟨0x2D22, 0x00, 1, .block, .ro, false, 0, 0, 256, [], [], "ECC_LOG"⟩,
  ⟨0x2D23, 0x00, 2, .u32, .ro, false, 0, 0, 4294967295, [], [], "SCRUB_PASSES"⟩,
  ⟨0x2D30, 0x01, 1, .u32, .ro, true, 0, 0, 4294967295, [], [], "HIT_INGEST_DROPS"⟩,
  ⟨0x2D30, 0x02, 1, .u32, .ro, true, 0, 0, 4294967295, [], [], "REEL_OVERRUNS"⟩,
  ⟨0x2D40, 0x00, 1, .u8, .wo, false, 0, 1, 15, [], [], "SELFTEST_START"⟩,
  ⟨0x2D41, 0x00, 1, .block, .ro, false, 4, 4, 4, [], [], "SELFTEST_REPORT"⟩,
  ⟨0x2D42, 0x00, 1, .u8, .wo, false, 0, 1, 255, [], [], "NVM_VERIFY"⟩,
  ⟨0x2D43, 0x00, 1, .block, .ro, false, 0, 0, 8192, [], [], "NVM_VERIFY_REPORT"⟩]

/-- Objects 0x30xx. -/
def objects30 : List ObjDesc := [
  ⟨0x3000, 0x00, 1, .u8, .rws, false, 0, 0, 3, [], [0, 2, 3], "DAILIES_DEST"⟩,
  ⟨0x3001, 0x00, 1, .block, .rws, false, 0, 0, 4096, [], [], "DAILIES_LIST"⟩,
  ⟨0x3002, 0x00, 1, .block, .ro, false, 0, 0, 8208, [], [], "DAILIES_LAST"⟩,
  ⟨0x3003, 0x00, 1, .u32, .ro, true, 0, 0, 4294967295, [], [], "DAILIES_SEQ"⟩,
  ⟨0x3004, 0x00, 1, .u16, .rws, false, 48642, 1024, 65535, [], [], "DAILIES_PORT"⟩]

/-- The objects of an upper index byte. -/
def dictionaryPage (page : Nat) : List ObjDesc :=
  match page with
  | 0x10 => objects10
  | 0x11 => objects11
  | 0x12 => objects12
  | 0x13 => objects13
  | 0x20 => objects20
  | 0x21 => objects21
  | 0x22 => objects22
  | 0x23 => objects23
  | 0x24 => objects24
  | 0x25 => objects25
  | 0x26 => objects26
  | 0x27 => objects27
  | 0x28 => objects28
  | 0x29 => objects29
  | 0x2A => objects2A
  | 0x2B => objects2B
  | 0x2C => objects2C
  | 0x2D => objects2D
  | 0x30 => objects30
  | _ => []

/-- The upper index bytes that hold objects. -/
def dictionaryPages : List Nat := [
  0x10, 0x11, 0x12, 0x13, 0x20, 0x21, 0x22, 0x23, 0x24, 0x25, 0x26, 0x27, 0x28, 0x29, 0x2A, 0x2B, 0x2C, 0x2D, 0x30]

/-- Every object of the dictionary (R56). -/
def dictionary : List ObjDesc := dictionaryPages.flatMap dictionaryPage

end Sys2Proof.Machine
end

