-- ==== Sys2Proof/Machine/State.lean ====
section
/-! DEFINITION. The state of the block: every register, table, queue, mode and pin of the spec, as plain
data. The dictionary's scalar objects stand in `reg` and its BLOCK objects in `blk`, by key (R14); what the
blocks keep besides stands in one structure a chapter. -/

namespace Sys2Proof.Machine

/-- A reason to stop with a fault. No meaning of this model faults: every command of the table completes. -/
inductive Fault where
  /-- Raised by no meaning: kept so that the outcome type has an inhabitant (safe). -/
  | none
  deriving DecidableEq, Repr

/-- A reason to refuse a command. -/
inductive Refusal where
  /-- A command whose meaning is not written yet; raised by exec's arm (safe). -/
  | notModelled (mnemonic : String)
  deriving DecidableEq, Repr

/-! ### Chapter 02: the object server, jobs and the parameter log -/

/-- A response kept for exact retransmissions (R80). -/
structure CacheEntry where
  owner    : Requester
  request  : List Byte
  response : List Byte
  at_      : Time
  deriving DecidableEq, Repr

/-- An open segmented write session (R81, R83). -/
structure WriteSession where
  owner : Requester
  key   : Nat
  data  : List Byte
  last  : Time
  deriving DecidableEq, Repr

/-- A read snapshot (R82, R83). -/
structure Snapshot where
  owner : Requester
  key   : Nat
  data  : List Byte
  last  : Time
  deriving DecidableEq, Repr

/-- The object server's own state. -/
structure KoaState where
  /-- one entry a request that is not yet answered: its bearer and the time its response is queued (R68, R79) -/
  outstanding : List (Bearer × Time)
  cache       : List CacheEntry
  sessions    : List WriteSession
  snapshots   : List Snapshot
  /-- owners whose session or snapshot on an object closed by timeout (R83) -/
  expired     : List (Requester × Nat)
  deriving DecidableEq, Repr

/-- The states of a job slot (R95). -/
inductive JobState where
  | free | running | waiting | done | failed | aborted
  deriving DecidableEq, Repr

/-- The kinds of R100. -/
inductive JobKind where
  | none | storeAll | storeCal | restore | ddrWipe | calTdc | calThreshold | calOffset | firmware
  | selfTest | eyeScan | nvmVerify | serviceWipe
  deriving DecidableEq, Repr

/-- The resource a job holds (R100). -/
inductive Resource where
  | none | paramLog | calBanks | ddr | calChannels (units : Nat) | bootImage | blocksUnderTest (map : Nat) | offsetSampler (lane : Nat)
  | logAndBanks
  deriving DecidableEq, Repr

/-- A value as the parameter log holds it: a scalar or the bytes of a BLOCK. -/
inductive StoredVal where
  | scalar (v : Int)
  | block  (bs : List Byte)
  deriving DecidableEq, Repr

/-- The kinds of a parameter-log record (R85). -/
inductive LogKind where
  | data | commit | restore
  deriving DecidableEq, Repr

/-- A record of the parameter log (R85): the sequence of the STORE or RESTORE that wrote it, its kind, and for a data record the
object's key, which part of its value this is, and that part of up to 232 bytes. -/
structure LogRecord where
  seq    : Nat
  kind   : LogKind
  key    : Nat
  part   : Nat
  val    : StoredVal
  /-- the sector of the log that holds it -/
  sector : Nat
  /-- the record's CRC-32 holds; of a commit record, that its readback has verified it (R114) -/
  crcOk  : Bool
  deriving DecidableEq, Repr

/-- One slot of the job table (R95), with the job's own work. -/
structure Job where
  kind      : JobKind
  state     : JobState
  origin    : Nat
  result    : Nat
  progress  : Nat
  steps     : Nat
  tag       : Nat
  seq       : Nat
  order     : Nat
  resource  : Resource
  finishedAt : Time
  /-- the stage the job's next step is in -/
  stage     : Nat
  /-- records still to be programmed (R86, R92) -/
  records   : List LogRecord
  /-- how many records, regions, units or points the job set out to do, and how many are done -/
  total     : Nat
  doneCount : Nat
  /-- the job's parameter: a lane, an image, a bit map -/
  arg       : Nat
  /-- the job's partial result: an eye map or a report -/
  data      : List Byte
  deriving DecidableEq, Repr

/-- A FREE slot before its first claim (R95). -/
def Job.free : Job := ⟨.none, .free, 0, 0, 0, 0, 0, 0, 0, .none, 0, 0, [], 0, 0, 0, []⟩

/-- The job machinery (R46, R47). -/
structure JobTable where
  slots  : Tab Job
  /-- the round of active jobs: the slot whose step runs next is first (R47) -/
  round  : List Nat
  /-- how many jobs have started: gives their order (R97) -/
  started : Nat
  deriving DecidableEq, Repr

/-- What the NVM programs or erases now. -/
inductive NvmBusy where
  | idle
  | program (slot : Nat) (r : LogRecord)
  | erase (sector : Nat)
  deriving DecidableEq, Repr

/-! ### Chapter 03: the event inputs and the crank -/

/-- One event input (R118 to R122, R166). Its stamps are in 1/1,024 ns (R131, R367). -/
structure EvInput where
  /-- level at the ball -/
  ball   : Bool
  /-- filtered level: EV_STATE; before the inputs start, that of the safety island's copy (R316) -/
  filt   : Bool
  /-- a level change being filtered: its level, its instant in taps of 1/64 ns and the filter time that judges it (R181) -/
  pend   : Option (Bool × Nat × Nat)
  /-- stamp of the last edge that was not dropped (R120) -/
  last   : Option Nat
  /-- the running frequency gate: its start, its length in ms, rising edges and their first and last stamps -/
  gateAt : Time
  gateMs : Nat
  edges  : Nat
  first  : Nat
  latest : Nat
  deriving DecidableEq, Repr

/-- An input at reset. -/
def EvInput.init : EvInput := ⟨false, false, none, none, 0, 100, 0, 0, 0⟩

/-- The states of an axis (R143). -/
inductive AxisSt where
  | off | seek | locked | freewheel | relock | stall
  deriving DecidableEq, Repr

/-- An edge of the gate: stamp in 1/1,024 ns and unwrapped position in tu. -/
structure GateEdge where
  t : Int
  p : Int
  deriving DecidableEq, Repr

/-- What the edges of an axis have built up. -/
structure AxisCore where
  /-- edge count from the qualifying index edge (R132) -/
  count  : Int
  /-- accepted edges of the gate, newest first -/
  gate   : List GateEdge
  /-- consecutive outliers of one sign, newest first, and their sign (R135) -/
  outs   : List GateEdge
  outPos : Bool
  /-- the line in use (R137): its speed in tu per 1/1,024 ns as a fraction, and the sums over its n edges -/
  vNum   : Int
  vDen   : Nat
  tSum   : Int
  pSum   : Int
  n      : Nat
  /-- the line has an in-range speed -/
  fitted : Bool
  /-- the last fit lay in range -/
  inRange : Bool
  /-- stamp of the last edge that was no outlier (R145) -/
  lastEdge : Int
  /-- recent edges, newest first, at most 8: stamp and count -/
  recent : List (Int × Int)
  /-- edges accepted since entry into FREEWHEEL or STALL (R147, R171) -/
  since  : Nat
  /-- 4 evenly spaced edges have been seen in STALL -/
  even   : Bool
  idxSeen : Bool
  /-- stamp of an index that waits for its qualifying edge (R153) -/
  idxPend : Option Int
  /-- count of the last qualified or missed index (R156) -/
  idxAt  : Int
  /-- position of count 0: INDEX_OFFSET in force, or minus PHASE_OFFSET (R130, R132, R159) -/
  offset : Int
  /-- highest count reached forward (R157) -/
  high   : Int
  /-- last direction of counting: 1 up, -1 down, 0 none -/
  dir    : Int
  /-- the gate was emptied by a change of direction and holds fewer than 4 edges (R158) -/
  turned : Bool
  deriving DecidableEq, Repr

/-- An axis that has seen no edge. -/
def AxisCore.init : AxisCore :=
  { count := 0, gate := [], outs := [], outPos := false, vNum := 0, vDen := 1, tSum := 0, pSum := 0, n := 1, fitted := false
    inRange := false, lastEdge := 0, recent := [], since := 0, even := false, idxSeen := false, idxPend := none
    idxAt := 0, offset := 0, high := 0, dir := 0, turned := false }

/-- An edge of channel A or B that waits for the other channel: channel B, level, stamp (R133). -/
structure ChannelEdge where
  isB   : Bool
  level : Bool
  stamp : Int
  deriving DecidableEq, Repr

/-- One axis of the crank. -/
structure Axis where
  st     : AxisSt
  core   : AxisCore
  chA    : Bool
  chB    : Bool
  /-- accepted channel edges that wait for one of the other channel in their core cycle or before (R133) -/
  queue  : List ChannelEdge
  revolution : Nat
  /-- the turn of the unwrapped position that REVOLUTION has counted (R138) -/
  turn   : Int
  /-- the turn whose boundary has applied the pending VIRTUAL writes (R165) -/
  vTurn  : Int
  /-- published position that must not be lowered (R139), unwrapped -/
  floor_ : Option Int
  /-- a forward correction: its cycle, the look-ahead position before and after (R139, R212) -/
  step_  : Option (Time × Int × Int)
  /-- unwrapped position up to which facet starts have been delivered (R129) -/
  facetAt : Int
  /-- a RESONANT axis A: its linearised position, unwrapped cycle by cycle (R129) -/
  swing  : Int
  fwAt   : Time
  /-- FREEWHEEL_TIME as it was held (R152) -/
  fwHeld : Nat
  /-- the VIRTUAL period and phase in force (R165); whole periods in the phase choose the turn's number -/
  vPeriod : Nat
  vPhase : Int
  /-- the linearisation table in use and a pending one (R162): an empty list is the identity default -/
  lin    : List Byte
  linPending : Option (List Byte)
  deriving DecidableEq, Repr

/-- An axis at reset. -/
def Axis.init : Axis :=
  { st := .off, core := AxisCore.init, chA := false, chB := false, queue := []
    revolution := 0, turn := 0, vTurn := 0, floor_ := none, step_ := none, facetAt := 0, swing := 0, fwAt := 0, fwHeld := 0
    vPeriod := 100000000, vPhase := 0, lin := [], linPending := none }

/-- The crank. -/
structure CrankState where
  ev     : Tab EvInput
  /-- end of the running EV_BANK_LEVEL gap of each bank (R121) -/
  gap0   : Option Time
  gap1   : Option Time
  axisA  : Axis
  axisB  : Axis
  deriving DecidableEq, Repr

/-! ### Chapter 04: the cue list and the sequencer -/

/-- A cue entry (R185). -/
structure Cue where
  pos    : BitVec 24
  zone   : BitVec 10
  lg     : BitVec 2
  hop    : Bool
  code   : BitVec 6
  energy : BitVec 4
  k      : BitVec 7
  bind   : BitVec 10
  deriving DecidableEq, Repr

/-- The states of R199. -/
inductive SeqState where
  | stopped | armed | running | draining
  deriving DecidableEq, Repr

/-- A take record (R223), with what the later blocks add to it. Instants are in taps of 1/64 ns. -/
structure Take where
  seq    : Nat
  epoch  : Nat
  /-- numbered 0 by a wrap of TAKE_SEQ (R218) -/
  wrapped : Bool
  group  : Nat
  zone   : Nat
  energy : Nat
  code   : Nat
  dither : Nat
  trig   : Int
  /-- LG_WINDOW in ns as decided (R209) -/
  window : Nat
  posA   : Nat
  posB   : Nat
  rev    : Nat
  bind   : Nat
  freewheel : Bool
  /-- local time at t_trig: seconds, nanoseconds, fraction and epoch -/
  sec    : Nat
  ns     : Nat
  frac   : Nat
  tepoch : Nat
  unsync : Bool
  /-- the take drives no pin: disabled or inhibited zone (R250); budget hold (R313); blocked by the gate (R50) -/
  disabled : Bool
  held   : Bool
  blocked : Bool
  /-- the trigger instant has passed -/
  issued : Bool
  /-- the start stamp once decided (R253, R254), in 1/1,024 ns -/
  start  : Option Int
  /-- pulse offsets of the take's code in ns and the pulse width in taps (R251) -/
  pulses : List Nat
  /-- the code word of R415 that it fires -/
  word   : Nat
  width  : Nat
  /-- the capture window (R269), and whether it is taken and over -/
  capOpen : Int
  capEnd : Int
  captured : Bool
  captureDone : Bool
  /-- the listen window has closed -/
  closed : Bool
  /-- fired on a column in recharge or with another step latched (R261, R267) -/
  offLoop : Bool
  /-- the effective setting S in use at t_trig (R271) -/
  setting : Int
  /-- a diagnostic pulse (R226): no number, no window, no reel -/
  diag   : Bool
  /-- the identity of the reel set the take feeds -/
  set_   : Nat
  /-- the index of its record among the takes in flight (R376) -/
  slot   : Nat
  /-- its record has gone bad (R826) -/
  lost   : Bool
  deriving DecidableEq, Repr

/-- When the take drives its pins (R250, R313, R50). -/
def Take.drives (t : Take) : Bool := !t.disabled && !t.held && !t.blocked

/-- The sequencer. -/
structure SequencerState where
  state   : SeqState
  active  : List Cue
  staging : List Cue
  /-- the entries that are void by an uncorrectable error (R826): of the active bank by index, of the staging bank 16,384 above -/
  void_   : List Nat
  next    : Nat
  /-- the next cue lies at or beyond this unwrapped look-ahead position -/
  lookAt  : Option Int
  /-- the cycle of the last examination of a crossed cue, and how many there were in it (R207) -/
  examAt  : Time
  examined : Nat
  /-- crossed cues that wait for their examination: unwrapped position and crossing instant in taps, fixed in the cycle of the crossing
  (R205, R207) -/
  latched : List (Int × Rat)
  copying : Option Time
  /-- CUE_WINDOW writes received during the copy, oldest first (R195) -/
  heldWindow : List (List Byte)
  pending : Bool
  /-- the look-ahead position at the commit that is pending (R193) -/
  commitAt : Int
  takeSeq : Nat
  epoch   : Nat
  /-- TAKE_SEQ has wrapped and the take numbered 0 carries WRAP (R218) -/
  wrapDue : Bool
  lfsr    : Tab Nat
  /-- ready time of each group in taps (R209) -/
  ready   : Tab Int
  /-- core cycles of the latest fire decisions, newest first, at most 64 (R208) -/
  decisions : List Time
  takes   : List Take
  /-- diagnostic pulses whose capture is not over -/
  diags   : List Take
  /-- the turnaround axis A lies in: when its facet start came; and the pulses inserted in it -/
  turnAt  : Option Time
  turnServed : Nat
  /-- end of the no-trigger span after a diagnostic pulse (R226) -/
  diagUntil : Int
  deriving DecidableEq, Repr

/-! ### Chapter 05: the emitter interface -/

/-- The word of one driver IC (R263): its CRC-8 follows from the rest. -/
structure ChainWord where
  charge : Nat
  step   : Nat
  seq    : Nat
  deriving DecidableEq, Repr

/-- A chain frame that shifts, waits for its latch or is being latched (R264, R266). -/
structure ChainFrame where
  words   : List ChainWord
  startAt : Time
  /-- CHAIN_CLK_DIV as the frame started -/
  div     : Nat
  shifted : Bool
  /-- the rise of CHAIN_LAT, which stays high for 20 ns -/
  latAt   : Option Time
  deriving DecidableEq, Repr

/-- A column sink (R259, R260). -/
structure Column where
  /-- the step of its last recharge -/
  step    : Nat
  /-- the effective setting C that it ran at (R259, R294) -/
  setting : Int
  /-- its current as G_s × C, in units of 50 mA / 65,025 (R259) -/
  drive   : Nat
  /-- when a recharge starts that has not started yet, and when the running one ends, in taps -/
  startAt : Option Int
  endAt   : Option Int
  deriving DecidableEq, Repr

/-- A column that has not charged. -/
def Column.init : Column := ⟨0, 0, 0, none, none⟩

/-- A matrix interval (R256), in taps. -/
structure MatrixInterval where
  row   : Nat
  col   : Nat
  start : Int
  stop  : Int
  deriving DecidableEq, Repr

/-- A scheduled pulse of a TRIG output, in taps (R251). -/
structure TrigPulse where
  out  : Nat
  rise : Int
  fall : Int
  deriving DecidableEq, Repr

/-- What the diagnostics hold of a zone (R277 to R281). -/
structure ZoneDiag where
  status  : Nat
  latched : Bool
  fails   : Nat
  /-- evaluated in the running interval, and in the last complete one -/
  seen    : Bool
  covered : Bool
  missed  : Nat
  due     : Bool
  dueAt   : Time
  /-- a diagnostic pulse has been inserted for it in the running interval (R227) -/
  served  : Bool
  deriving DecidableEq, Repr

/-- A zone that has not been evaluated. -/
def ZoneDiag.init : ZoneDiag := ⟨0, false, 0, false, false, 0, false, 0, false⟩

/-- The emitter interface. -/
structure EmitterState where
  /-- the words to shift next, and the latched ones, by IC position -/
  words   : Tab ChainWord
  latched : Tab ChainWord
  frame   : Option ChainFrame
  requested : Bool
  /-- the frame shifted last, which CHAIN_DIN returns, and the readback errors' run of frames (R268) -/
  previous : List ChainWord
  badFrames : Nat
  columns : Tab Column
  /-- matrix intervals decided and not yet ended, oldest first; the one that runs; and the one whose ROW is high (R256, R302) -/
  matrix  : List MatrixInterval
  matrixNow : Option MatrixInterval
  rowHigh : Option MatrixInterval
  /-- end of the last decided matrix interval (R258) -/
  matrixEnd : Int
  /-- pulses issued, newest first, as the trigger gate cut them (R302) -/
  pulses  : List TrigPulse
  /-- end of the last capture window that was taken (R270) -/
  captureEnd : Int
  /-- the last 16 updating takes of each group: within ±3 % (R273) -/
  tolerance : Tab (List Bool)
  zones   : Tab ZoneDiag
  /-- start of the running diagnostic interval (R280) -/
  diagAt  : Time
  deriving DecidableEq, Repr


/-! ### Chapter 06: the safety island -/

/-- The states of R297. -/
inductive SafetyState where
  | init | inhibited | arming | armed | lockout | safeDefault
  deriving DecidableEq, Repr

/-- A dual-channel pair: EMIT_REQ or ILK (R317 to R320), or the request of the two safe commands (R319). -/
structure SafePair where
  /-- accepted state of the channels: requesting or closed, after filter and polarity -/
  a : Bool
  b : Bool
  /-- the filter has accepted a level since reset release -/
  seenA : Bool
  seenB : Bool
  /-- the pair counts as requesting or closed -/
  on : Bool
  /-- the pair counts again only after an off-then-on sequence (R318) -/
  renew : Bool
  /-- both channels have been off together since this time -/
  offSince : Option Time
  /-- since when the channels disagree (R320) -/
  differSince : Option Time
  /-- the count of this disagreement has been a trip (R320) -/
  judged : Bool
  deriving DecidableEq, Repr

/-- What the last valid SAFE_CMD copy of one network left (R328, R329). -/
structure SafeBearer where
  permit  : Option Bool
  counter : Option Nat
  validAt : Time
  aged    : Bool
  deriving DecidableEq, Repr

/-- An off-pulse test in progress (R324). -/
structure OffTest where
  /-- 0 tests A, 1 tests B -/
  out     : Nat
  startAt : Time
  /-- when EN rose again, once it has -/
  roseAt  : Option Time
  /-- FB has met every condition of R324 so far -/
  good    : Bool
  /-- FB has read low since the falling edge; and high within SUPPLY_FB_DELAY of the rising edge -/
  fbFell  : Bool
  fbRose  : Bool
  deriving DecidableEq, Repr

/-- The charge of one take (R312), kept until its aperture judgement (R314). -/
structure Charge where
  /-- the take's number, its group and its epoch -/
  takeSeq : Nat
  epoch   : Nat
  group   : Nat
  zone    : Nat
  trig    : Int
  energy  : Nat
  /-- the charge is final: measured, or provisional for good -/
  final   : Bool
  /-- the absolute bucket numbers of W1 to W4 that hold the charge -/
  buckets : List Nat
  deriving DecidableEq, Repr

/-- A record of the capture log (R315): a charge, or a replacement of one amount by another; a final one gives the W0 result of its
firing, which fired at a trigger in taps. -/
structure LogCharge where
  zone    : Nat
  buckets : List Nat
  remove  : Nat
  add     : Nat
  trig    : Int
  final   : Bool
  deriving DecidableEq, Repr

/-- A W0 result (R311): a firing's zone, its final charge, and the W0 sums of the apertures that contain it. -/
structure W0Result where
  zone : Nat
  energy : Nat
  sums : List Nat
  deriving DecidableEq, Repr

/-- A final charge of an audit engine's copy (R315). -/
structure FinalCharge where
  zone : Nat
  trig : Int
  energy : Nat
  deriving DecidableEq, Repr

/-- What an audit engine keeps of single takes (R315): the final charges that can still share a span, and the W0 results of the
period. -/
structure W0Copy where
  finals : List FinalCharge
  results : List W0Result
  deriving DecidableEq, Repr

/-- A copy that holds nothing. -/
def W0Copy.init : W0Copy := ⟨[], []⟩

/-- The sums of the accountant, or of an audit engine's copy. Key: bucket × 16,384 + window × 2,048 + kind × 1,024
+ zone, with window 0 to 3 for W1 to W4 and kind 0 for a zone, 1 for an aperture. -/
abbrev Sums := Tab Nat

/-- The safety island. -/
structure SafetyIsland where
  state    : SafetyState
  /-- the trip latch that holds the trigger gate closed -/
  latch    : Bool
  /-- the cycle of the first trip of the present lock-out record (R343) -/
  firstTripAt : Time
  selfTestPassed : Bool
  holdDone : Bool
  auditOk  : Bool
  /-- a clean comparison has been completed since reset (R300) -/
  auditMet : Bool
  enA      : Bool
  enB      : Bool
  /-- SUPPLY_FB after its 2-sample filter -/
  fbA      : Bool
  fbB      : Bool
  /-- since when each FB has differed from its EN (R322) -/
  fbDiffA  : Option Time
  fbDiffB  : Option Time
  req      : SafePair
  ilk      : SafePair
  cmd      : SafePair
  /-- the copies of CAN XL, E0 and E1, of which SAFE_NETS names two as the bearers -/
  copyCan  : SafeBearer
  copyE0   : SafeBearer
  copyE1   : SafeBearer
  /-- since when the two bearers' last COMMANDs disagree (R330) -/
  cmdDiffer : Option Time
  /-- the count of this disagreement has been a trip (R330) -/
  cmdJudged : Bool
  offTest  : Option OffTest
  /-- in ARMING: which tests have passed; in ARMED: when the next tests are due -/
  passedA  : Bool
  passedB  : Bool
  armingAt : Time
  nextA    : Time
  nextB    : Time
  /-- last rising edge the scan monitor accepted, and when it tripped -/
  scanEdge : Time
  scanSeen : Bool
  scanTrip : Option Time
  statusCounter : Nat
  statusDue : Bool
  statusAt  : Time
  /-- the latest crossing of an over-energy threshold: its integrator falls back within 257 ns (R919) -/
  oeAt     : Option Time
  /-- current absolute bucket numbers of W1 to W4 -/
  buckets  : List Nat
  sums     : Sums
  charges  : List Charge
  /-- the W0 results of the period: highest W0 zone and aperture sum in % of its limit -/
  peakW0   : Nat
  captureLog : List LogCharge
  snapshot : Sums
  snapBuckets : List Nat
  auditLog : List LogCharge
  ae0      : Sums
  ae1      : Sums
  /-- the W0 results of the running period, of the frozen one, and those of the engines' copies (R315) -/
  w0       : List W0Result
  snapW0   : List W0Result
  ae0W0    : W0Copy
  ae1W0    : W0Copy
  /-- comparing: the audit engine has not finished the period's comparison -/
  ae0Busy  : Bool
  ae1Busy  : Bool
  aeStopped : Bool
  /-- the last 1 ms boundary (R315) -/
  auditAt  : Time
  /-- the reference CRC of the working sealed set, kept at each accepted write (R315) -/
  sealRef  : Nat
  deriving DecidableEq, Repr

/-! ### Chapter 07: the return channels. Stamps are in 1/1,024 ns -/

/-- What a leading edge was classed as (R377), once the start of the take it may belong to is known. -/
inductive HitClass where
  | undecided
  | notRecorded
  /-- recorded in the window of a take: its number, epoch, reel set and slot, the hit number, TIME, BLIND -/
  | recorded (seq epoch set_ slot num time : Nat) (blind : Bool)
  deriving DecidableEq, Repr

/-- A pulse on the low comparator, in progress or waiting for its classification. -/
structure RxPulse where
  lead  : Int
  trail : Option Int
  hi    : Bool
  long  : Bool
  /-- stuck, or its block out of service, at the leading edge: the hit is discarded (R361, R370, R384) -/
  stuck : Bool
  lost  : Bool
  cls   : HitClass
  deriving DecidableEq, Repr

/-- A hit record (R376) and the identity of its take: number, epoch and reel set. -/
structure Hit where
  seq   : Nat
  epoch : Nat
  set_  : Nat
  /-- TAKE_SLOT: the index of the take's record among the takes in flight (R223) -/
  slot  : Nat
  ch    : Nat
  num   : Nat
  time  : Nat
  tot   : Nat
  blind : Bool
  hi    : Bool
  long  : Bool
  /-- its record has gone bad in the buffer (R826) -/
  bad   : Bool
  deriving DecidableEq, Repr

/-- DESKEW and RX_MASK of a channel from a start of its group on, by that start's stamp (R369, R383). -/
structure RxSetting where
  from_  : Int
  deskew : Nat
  mask   : Bool
  deriving DecidableEq, Repr

/-- One return channel. -/
structure RxChan where
  /-- levels of the comparators -/
  lo     : Bool
  hiLevel : Bool
  /-- the pulse whose trailing edge has not come -/
  cur    : Option RxPulse
  /-- pulses that wait for a start, oldest first -/
  wait   : List RxPulse
  /-- end of the dead time; the channel then re-arms only with the comparator low (R372) -/
  dead   : Option Int
  /-- the comparator must go low before the channel re-arms -/
  waitLow : Bool
  /-- the take of the last recorded hits and how many (R371) -/
  hitSeq : Nat
  hitSet : Nat
  hits   : Nat
  stuck  : Bool
  highSince : Option Time
  lowSince : Option Time
  /-- the 16-hit buffer (R35), oldest first -/
  buf    : List Hit
  /-- DAC settings in force, none while they follow the objects (R365) -/
  dacLo  : Nat
  dacHi  : Nat
  hyst   : Nat
  dacPending : Bool
  /-- the pedestal in mV under the DAC settings: −64 in a span of threshold calibration (R598) -/
  pedestal : Int
  /-- DESKEW and RX_MASK in force (R369, R383), and the ones before while edges wait that precede the last starts -/
  deskew : Nat
  mask   : Bool
  from_  : Int
  past   : List RxSetting
  /-- the objects' values at the triggers, on a SHADOW at the starts, of takes whose start or TAKE frame is awaited, where they differ from
  the ones before, oldest first (R254, R392) -/
  due    : List RxSetting
  /-- BACKGROUND at the start of the running 10 ms interval (R387) -/
  bgAt   : Nat
  deriving DecidableEq, Repr

/-- A channel at boot. -/
def RxChan.init : RxChan :=
  { lo := false, hiLevel := false, cur := none, wait := [], dead := none, waitLow := false, hitSeq := 0, hitSet := 0, hits := 0
    stuck := false, highSince := none, lowSince := none, buf := [], dacLo := 40, dacHi := 800, hyst := 2, dacPending := false, pedestal := 0
    deskew := 0, mask := false, from_ := 0, past := [], due := [], bgAt := 0 }

/-- The return channels. TDC_LOCK and RXREF_OK stand in the object store. -/
structure RxState where
  chans  : Tab RxChan
  /-- a DLL block has locked since reset (R915) -/
  dllSeen : Tab Bool
  bgIntervalAt : Time
  /-- the position tables that the channels' stamps use; [] is the ideal table (R367, R586) -/
  inUse  : Tab (List Nat)
  deriving DecidableEq, Repr


/-! ### Chapter 08: the histogram engine -/

/-- What a take record hands on to the slate, the points and the history (R211, R549, R551). -/
structure FirstTake where
  seq    : Nat
  epoch  : Nat
  rev    : Nat
  trig   : Int
  posA   : Nat
  posB   : Nat
  sec    : Nat
  ns     : Nat
  frac   : Nat
  tepoch : Nat
  unsync : Bool
  /-- the cue axis was axis B -/
  cueB   : Bool
  deriving DecidableEq, Repr

/-- A reel set of a group (R220, R221), with the settings and the tables it opened with (R413, R448). -/
structure ReelSet where
  id     : Nat
  group  : Nat
  bind   : Nat
  k      : Nat
  /-- takes added so far -/
  held   : Nat
  /-- its first take has started, and it has claimed its buffers (R38, R420) -/
  claimed : Bool
  /-- no take is added any more: K reached, or closed early (R222, R202) -/
  closed : Bool
  /-- closes early once the window of its last take has ended (R202) -/
  closing : Bool
  /-- it completes at the end of the running core cycle (R421, R452, R453) -/
  completing : Bool
  /-- completed: its reels are HELD, discarded or released (R421) -/
  completed : Bool
  degraded : Bool
  freewheel : Bool
  first  : FirstTake
  /-- it holds the take numbered 0 by a wrap (R218, R552) -/
  wrap   : Bool
  /-- the codes used and their words as the first take that used each fired them (R495) -/
  codes  : List (Nat × Nat)
  /-- the energy steps of a RANGE_OFFSET job at which its takes fired, none for a take outside one, each once (R602) -/
  steps  : List (Option Nat)
  /-- windows in ns of the takes that opened one (R434) -/
  windows : List Nat
  /-- the end of the window of the last take that has closed (R421), in taps -/
  lastEnd : Int
  /-- takes whose window has not ended -/
  open_  : Nat
  gear   : List Byte
  gearGen : Nat
  trackHalf : Nat
  skyGate : Nat
  satHiMin : Nat
  deriving DecidableEq, Repr

/-- A candidate slot (R429). -/
structure Candidate where
  centre    : Nat
  peakBin   : Nat
  peakCount : Nat
  wsum      : Nat
  prim      : Nat
  totSum    : Nat
  hiCount   : Nat
  deriving DecidableEq, Repr

/-- The states of a reel buffer (R419). -/
inductive BufState where
  | clear | accumulating | held | clearing
  deriving DecidableEq, Repr

/-- A reel buffer: bins as COUNT × 2^18 + RESID, an unlisted bin 0. -/
structure Reel where
  state  : BufState
  /-- claimed while its words are still being cleared: additions wait (R424) -/
  notClear : Bool
  /-- when its clearing began (R423) -/
  clearAt : Time
  set_   : Nat
  bins   : Tab Nat
  /-- bins counted in BIN_SATURATIONS -/
  satBins : List Nat
  saturated : Bool
  degraded : Bool
  blind  : Bool
  stale  : Bool
  slots  : List (Option Candidate)
  hits   : Nat
  sky    : Nat
  /-- an export copy of the reel is running, and a release waits for it (R423, R446) -/
  exporting : Bool
  releaseDue : Bool
  deriving DecidableEq, Repr

/-- A clear buffer. -/
def Reel.clear_ : Reel := ⟨.clear, false, 0, 0, [], [], false, false, false, false, [none, none, none, none], 0, 0, false, false⟩

/-- An addition that waits in a bank queue (R447). -/
structure Addition where
  ch    : Nat
  buf   : Nat
  set_  : Nat
  time  : Nat
  own   : Bool
  tot   : Nat
  hi    : Bool
  blind : Bool
  /-- the cycle of its arrival and its pulse, which order the queue (R447) -/
  at_   : Time
  pulse : Nat
  deriving DecidableEq, Repr

/-- A set that has opened on a channel whose other buffer is HELD: it takes the buffer that is cleared next (R36, R420). -/
structure ReelClaim where
  ch   : Nat
  reel : Reel
  deriving DecidableEq, Repr

/-- A reel descriptor (R436). -/
structure Descriptor where
  ch     : Nat
  lg     : Nat
  kind   : Nat
  takes  : Nat
  spoke  : Nat
  gearGen : Nat
  buf    : Nat
  flags  : Nat
  depth  : Nat
  first  : FirstTake
  bg     : Nat
  sun    : Nat
  hits   : Nat
  /-- the codes used and their words (R495) -/
  codes  : List (Nat × Nat)
  /-- the energy steps of a RANGE_OFFSET job at which its takes fired (R602) -/
  steps  : List (Option Nat)
  cands  : List Candidate
  /-- its set holds the take numbered 0 by a wrap (R552) -/
  wrap   : Bool
  /-- the gear table its bins stand in -/
  gear   : List Byte
  /-- the bins of a KIND 1 sum, which are read from DDR5 -/
  bins   : Tab Nat
  /-- SAT_HI_MIN and TRACK_HALF as the set opened with them (R433, R448) -/
  satHiMin : Nat
  trackHalf : Nat
  deriving DecidableEq, Repr

/-- An entry of the multi-revolution history (R438). -/
structure MrevEntry where
  group : Nat
  spoke : Nat
  ch    : Nat
  /-- the first take of its set -/
  first : FirstTake
  gear  : List Byte
  bins  : Tab Nat
  /-- a word of it is uncorrectable: it is not added (R826) -/
  bad   : Bool
  deriving DecidableEq, Repr

/-- A sum that is due (R439): its base. -/
structure MrevDue where
  desc : Descriptor
  deriving DecidableEq, Repr

/-- The histogram engine. -/
structure HistState where
  sets    : List ReelSet
  nextSet : Nat
  /-- reel buffers by channel × 2 + buffer -/
  reels   : Tab Reel
  claims  : List ReelClaim
  /-- bank queues of R447, oldest first -/
  banks   : Tab (List Addition)
  /-- the cycle from which a bank serves its next addition (R447) -/
  bankFree : Tab Time
  /-- the gear table a group uses, the one before, and a pending one with the cycle of its write (R413, R414, R451) -/
  gears   : Tab (List Byte)
  oldGears : Tab (List Byte)
  pendingGears : Tab (Option (List Byte × Time))
  /-- descriptors that wait for room in a queue (R39) -/
  descWait : List Descriptor
  /-- BG and SUN by 256 × spoke + channel -/
  bgMap   : Tab (Nat × Nat)
  mrev    : List MrevEntry
  mrevDue : List MrevDue
  /-- sums built in the running 1 ms interval and its start (R441) -/
  sumsBuilt : Nat
  sumsAt  : Time
  egoStale : Bool
  /-- bytes of export records in DDR5 staging, and records being copied: channel, buffer, bytes -/
  rawUsed : Nat
  rawCopies : List (Nat × Nat × List Byte)
  /-- a memory word that reads uncorrectable at its next access: channel, buffer, word (R428) -/
  badWords : List (Nat × Nat × Nat)
  /-- the cue axis has entered FREEWHEEL or STALL in the revolution that runs (R443) -/
  axisLost : Bool
  deriving DecidableEq, Repr



/-! ### Chapter 09: the spoke and audit engines -/

/-- The states of a spoke engine (SE_STATE). -/
inductive SeState where
  | off | running | restarting | offline
  deriving DecidableEq, Repr

/-- The states of a landing slot (R495). -/
inductive SlotState where
  | empty | filling | ready | opened
  deriving DecidableEq, Repr

/-- A landing slot. Points are 128-bit records. -/
structure Slot where
  st     : SlotState
  desc   : Option Descriptor
  since  : Time
  /-- the order in which the slots became READY -/
  order  : Nat
  /-- the clip latch (R478) -/
  clip   : Bool
  /-- a window word was uncorrectable (R495) -/
  bad    : Bool
  points : List Nat
  /-- the watchdog in force since the slot opened (R514) -/
  watchdog : Nat
  /-- a release waits for a type-0 DMA to end (R499) -/
  releaseDue : Bool
  /-- the watchdog has expired in the core cycle that runs (R503, R523) -/
  expired : Bool
  deriving DecidableEq, Repr

/-- An EMPTY slot. -/
def Slot.init : Slot := ⟨.empty, none, 0, 0, false, false, [], 0, false, false⟩

/-- The stage at whose end a register is written (R483): D by the address unit, E by the ALU, E by a load. -/
inductive WriteStage where
  | addr | alu | load
  deriving DecidableEq, Repr

/-- The part of a register that a write changes: all of it, bits [31:16], or bits [15:0]. -/
inductive RegPart where
  | whole | high | low
  deriving DecidableEq, Repr

/-- A write to a register that later instructions may not see yet: the number of its instruction. -/
structure RegWrite where
  issue : Nat
  stage : WriteStage
  part  : RegPart
  val   : Nat
  deriving DecidableEq, Repr

/-- A register in the exposed pipeline: its settled value and its recent writes, newest first (R483). -/
structure PipeReg where
  base   : Nat
  recent : List RegWrite
  deriving DecidableEq, Repr

/-- A register at reset. -/
def PipeReg.zero : PipeReg := ⟨0, []⟩

/-- An accumulator of 40 bits, as a signed value, with its recent writes (R467, R483). -/
structure AccReg where
  base   : Int
  recent : List (Nat × Int)
  deriving DecidableEq, Repr

/-- A change of the flags: N, Z, C, V as bits 3 to 0, by the ALU or by an accumulator, and whether it set AOV; or one that only sets V
(R477). -/
structure FlagWrite where
  issue : Nat
  acc   : Bool
  vOnly : Bool
  nzcv  : Nat
  aov   : Bool
  deriving DecidableEq, Repr

/-- An active block repeat (R486): first and last instruction of its body; interruptible (R490); the instructions of it that the repeat
cache holds while it is the innermost one (R488). -/
structure LoopBody where
  first : Nat
  last  : Nat
  irq   : Bool
  cache : List Nat
  deriving DecidableEq, Repr

/-- Where the two delay slots of a branch lead (R484): on, to a target, or back from an interrupt. -/
inductive BranchTo where
  | on | target (a : Nat) | reti
  deriving DecidableEq, Repr

/-- The shadow set (R491). -/
structure ShadowSet where
  pc    : Nat
  sr    : Nat
  lc    : List Nat
  loops : List LoopBody
  deriving DecidableEq, Repr

/-- An engine: SE00 to SE31, and AE0, AE1 as numbers 32 and 33. -/
structure Engine where
  st      : SeState
  /-- instructions issued since the kernel started -/
  issue   : Nat
  d       : Tab PipeReg
  p       : Tab PipeReg
  aca     : AccReg
  acb     : AccReg
  cb      : Tab Nat
  cl      : Tab Nat
  lc      : Tab Nat
  sat     : Bool
  frac    : Bool
  rnd     : Bool
  ie      : Bool
  aov     : Bool
  nzcv    : Nat
  flagW   : List FlagWrite
  pmode   : Nat
  imask   : Nat
  ipend   : Nat
  pc      : Nat
  stack   : List Nat
  /-- active block repeats, innermost first -/
  loops   : List LoopBody
  /-- repetitions left of the RPT that runs, and whether its instruction has been fetched (R485) -/
  rpt     : Option Nat
  rptOn   : Bool
  /-- delay slots left, and where they lead -/
  slots   : Nat
  branch  : BranchTo
  /-- the last instruction was a load; the outermost body has just begun anew (R490) -/
  lastLoad : Bool
  boundary : Bool
  /-- in WAIT, and since when (R531) -/
  waiting : Bool
  waitAt  : Time
  shadow  : Option ShadowSet
  x       : Tab Nat
  y       : Tab Nat
  queue   : List Descriptor
  slotA   : Slot
  slotB   : Slot
  readyCount : Nat
  /-- the words written to PT_OUT0 to PT_OUT7 (R498) -/
  ptOut   : List Nat
  dmaSrc  : Nat
  dmaDst  : Nat
  dmaLen  : Nat
  dmaStatus : Nat
  /-- the DMA that runs: source word, address, words -/
  dmaRun  : Option (Nat × Nat × Nat)
  timerCmp : Nat
  /-- the turn of the 32-bit TIMER in which it has reached TIMER_CMP -/
  timerTurn : Option Nat
  startAt : Time
  faults  : List Time
  faultAt : Time
  /-- parameter writes to deliver: key, Y word offset, bytes (R512) -/
  params  : List (Nat × Nat × List Byte)
  /-- what the engine still sees of the objects 0x2700 to 0x270E that were written and not yet delivered: key, scalar, bytes (R572) -/
  stale   : List (Nat × Int × List Byte)
  /-- SE_ENABLE was written 0: the engine finishes its queue (R505) -/
  leaving : Bool
  /-- the cycle of the last posting, and the descriptors posted in it (R529) -/
  postAt  : Time
  posted  : List Descriptor
  deriving DecidableEq, Repr

/-- An accumulator at reset. -/
def AccReg.zero : AccReg := ⟨0, []⟩

/-- An engine at reset (R467, R920). -/
def Engine.init : Engine :=
  { st := .off, issue := 0, d := [], p := [], aca := AccReg.zero, acb := AccReg.zero, cb := [], cl := [], lc := [], sat := true
    frac := false, rnd := false, ie := false, aov := false, nzcv := 0, flagW := [], pmode := 0, imask := 0, ipend := 0, pc := 0
    stack := [], loops := [], rpt := none, rptOn := false, slots := 0, branch := .on, lastLoad := false, boundary := false, waiting := false, waitAt := 0
    shadow := none, x := [], y := [], queue := [], slotA := Slot.init, slotB := Slot.init, readyCount := 0, ptOut := [], dmaSrc := 0
    dmaDst := 0, dmaLen := 0, dmaStatus := 0, dmaRun := none, timerCmp := 0, timerTurn := none, startAt := 0, faults := [], faultAt := 0, params := [], stale := [], leaving := false
    postAt := 0, posted := [] }

/-- The engines. -/
structure EngineState where
  units : Tab Engine
  /-- the kernel's DDR5 window, in 16-bit words (R499) -/
  ddr   : Tab Nat
  deriving DecidableEq, Repr



/-! ### Chapter 10: the point pipeline -/

/-- A point record of a spoke (R553) with the first take of its reel. -/
structure SpokePoint where
  rec_  : Nat
  ch    : Nat
  first : FirstTake
  deriving DecidableEq, Repr

/-- The settings that a spoke takes at its opening (R556, R557, R572, R576). -/
structure SpokeSettings where
  extrinsics : List Byte
  beam   : List Byte
  elB    : Int
  xt     : Bool
  xtSpan : Nat
  xtTol  : Nat
  xtRatio : Nat
  hold   : Nat
  maxAge : Nat
  deriving DecidableEq, Repr

/-- An open spoke instance (R544). -/
structure Spoke where
  id     : Nat
  group  : Nat
  bind   : Nat
  opened : Time
  /-- the spoke's first take (R551) -/
  first  : FirstTake
  points : List SpokePoint
  /-- since when the conditions of R545 hold -/
  quiet  : Option Time
  /-- it closes as the present core cycle ends: by force, or because its hold has passed (R575) -/
  leaving : Option Bool
  split  : Bool
  wrap   : Bool
  restep : Bool
  degraded : Bool
  settings : SpokeSettings
  deriving DecidableEq, Repr

/-- A message in an output queue (R563, R565, R566): a spoke's slate and records, or a raw-reel record. -/
structure OutMessage where
  stream : Nat
  prio   : Nat
  kind   : Nat
  bind   : Nat
  slate  : List Byte
  records : List (List Byte)
  /-- the UDP payload limit it was queued with (R582) -/
  maxPayload : Nat
  deriving DecidableEq, Repr

/-- The point pipeline. -/
structure PipeState where
  spokes : List Spoke
  nextId : Nat
  /-- reels, and sums, completed and not yet released, of each spoke: key 65536 × group + BIND (R545) -/
  owed   : Tab Nat
  /-- groups whose next spoke carries RESTEP (R552) -/
  restep : List Nat
  /-- groups whose next spoke takes new EXTRINSICS or BEAM_TABLE values (R556) -/
  extrDue : List Nat
  /-- SOIL_MAP and BLOCK_MAP cells by 256 × spoke + channel (R558, R559) -/
  soil   : Tab Nat
  blocked : Tab Bool
  /-- BLOCK_ALARM as the last release left it (R572) -/
  blockAlarm : Nat
  /-- consecutive revolutions without a class 1 record, and the last revolution counted -/
  empty  : Tab (Nat × Nat)
  alarm  : Bool
  /-- output queues of KLP, E0 and E1, oldest first -/
  queueK : List OutMessage
  queue0 : List OutMessage
  queue1 : List OutMessage
  /-- streams whose next message carries DROPPED -/
  dropped : List Nat
  /-- a takeover has completed and no take has fired since: the spoke of the first that fires carries DEGRADED (R797) -/
  firstFire : Bool
  /-- the second for which the last digest was assembled (R570) -/
  dailyAt : Nat
  deriving DecidableEq, Repr

/-! ### Chapter 11: calibration -/

/-- The reels of a channel that a RANGE_OFFSET job has looked at in an energy step: how many, how many of them count, and the sums of t_c
in LSB and of tot_mean over these (R602). -/
structure CalTally where
  channel : Nat
  step    : Nat
  seen    : Nat
  counted : Nat
  sumTime : Rat
  sumTot  : Rat
  deriving DecidableEq, Repr

/-- One repeat of a calibration: the measured figures, the tallies of a RANGE_OFFSET sweep, and the readings of the 18 die sensors at its
start and end. -/
structure CalRepeat where
  result : CalMeasure
  points : List CalTally
  tempStart : List Int
  tempEnd   : List Int
  deriving DecidableEq, Repr

/-- A calibration in progress: of one unit, or of the units of a RANGE_OFFSET job together. -/
structure CalRun where
  /-- 1 TDC, 2 THRESHOLD, 3 RANGE_OFFSET (R588) -/
  kind  : Nat
  unit_ : Nat
  /-- slot of its job; 0 for online calibration -/
  slot  : Nat
  /-- start of the repeat in progress and its first temperature readings, one a die sensor -/
  since : Time
  temps : List Int
  /-- the first reading waits for an injected housekeeping conversion (R615) -/
  waits : Bool
  done  : List CalRepeat
  /-- the unit's input is switched away in a span (R592, R598) -/
  inSpan : Bool
  /-- hits of an EV input in the repeat so far, by tap and by coarse phase (R593, R594) -/
  taps   : Tab Nat
  phases : Tab Nat
  /-- the reels of a RANGE_OFFSET sweep so far (R602) -/
  tally  : List CalTally
  deriving DecidableEq, Repr

/-- A calibration bank of NVM (R611): its programmed bytes from 0x00000 on and its commit record at 0x3F000; every other byte, and all of
them in an empty bank, reads erased (0xFF). -/
structure CalBank where
  data   : List Byte
  commit : List Byte
  deriving DecidableEq, Repr

/-- Calibration: the working tables that no scalar object holds. -/
structure CalState where
  /-- P of a unit, 64 entries; [] is the ideal table (R367) -/
  tables : Tab (List Nat)
  /-- WALK of a channel, 16 entries; [] is all 0 -/
  walk   : Tab (List Int)
  runs   : List CalRun
  /-- units of a job not yet started: slot and unit -/
  waiting : List (Nat × Nat)
  /-- first failure code of a job's units: slot, unit, code -/
  failed : List (Nat × Nat × Nat)
  /-- when a unit failed online calibration (R609) -/
  failAt : Tab (Option Time)
  /-- when a unit's P table and trims were accepted or loaded (R605) -/
  acceptedAt : Tab Time
  /-- when the tables were loaded at reset: their age starts at 0 then (R612) -/
  loadedAt : Time
  /-- the energy step that a RANGE_OFFSET job fires at, and its groups (R602) -/
  stepNow : Option Nat
  stepGroups : List Nat
  /-- the bytes of the working tables as the first step of a STORE_CAL copied them (R613) -/
  copy : List Byte
  /-- the end in taps of the last window of each group that closed (R591) -/
  windowEnd : Tab Int
  deriving DecidableEq, Repr



/-! ### Chapter 12: housekeeping and fast capture -/

/-- Where a measurement stands (R626, R630, R637): the discharge, the settling, the wait for its period, a period that
locks to a boundary or to the fixed timer, and the die conversion after it. -/
inductive HkStage where
  | discharge | settle | wait | locked | fixed (length : Nat) | die
  deriving DecidableEq, Repr

/-- A measurement in progress, with the settings it started with (R651). -/
structure HkRun where
  m        : Nat
  injected : Bool
  word     : Nat
  ref      : Nat
  refR     : Nat
  lead     : Nat
  nominal  : Nat
  /-- HK_DISCHARGE and HK_SETTLE in µs, HK_PERIOD_MODE and HK_PERIOD_FIXED, as of the last mux change -/
  dischargeUs : Nat
  settleUs : Nat
  mode     : Nat
  fixedMs  : Nat
  stage    : HkStage
  since    : Time
  /-- the codes of the periods done: sensor or lead, and reference -/
  codes    : List (Int × Int)
  ovr      : Bool
  range    : Bool
  open_    : Bool
  unlocked : Bool
  deriving DecidableEq, Repr

/-- Housekeeping and fast capture. -/
structure HkState where
  runs     : List HkRun
  /-- the measurement from which the list goes on, and a pending injection (R643, R644) -/
  next     : Nat
  inject   : Option Nat
  /-- the die conversion of each converter: sensor and start; and the sensor that is next (R638) -/
  die0     : Option (Nat × Time)
  die1     : Option (Nat × Time)
  sensor   : Nat
  /-- the last pass of axis A through 0 and the last facet start -/
  revAt    : Option Time
  facetAt  : Option Time
  /-- each converter has fallen back to FIXED periods (R637) -/
  fallback0 : Bool
  fallback1 : Bool
  /-- FC_GAIN in force of MPD_A, MPD_B and ISENSE, when the switch last moved, and a write that waits (R649) -/
  gain     : Tab Nat
  gainAt   : Tab (Option Time)
  gainDue  : Tab Bool
  /-- the interleave trim: its start, and the temperature of sensor 16 at the last one (R650) -/
  trimAt   : Option Time
  trimTemp : Int
  /-- on which side of its limits the last checked value of each measurement lay: −1 below, 1 above (R641) -/
  sides    : Tab Int
  deriving DecidableEq, Repr

/-! ### Chapter 13: local time and networks -/

/-- One PTP port (R671). Times of messages are local times in units of 2^-24 ns. -/
structure GptpPort where
  lastSync  : Option Time
  /-- of the last valid Sync: the grandmaster identity and the offset in units of 2^-24 ns (R674, R699) -/
  syncId    : Option Nat
  offset    : Int
  /-- event 0x124 has been raised for the sync timeout of the port (R676) -/
  timedOut  : Bool
  /-- a two-step Sync that waits for its Follow_Up -/
  waiting   : Option GptpSync
  announce  : Option GptpAnnounce
  announceAt : Time
  /-- the Pdelay_Req sent last: sequence and egress time; and a two-step Pdelay_Resp: t2 and ingress t4 -/
  pdelaySeq : Nat
  pdelayT1  : Int
  pdelayT2  : Option (Int × Int)
  delayKnown : Bool
  syncSeq   : Nat
  announceSeq : Nat
  /-- message intervals in force, log2 s, as a Signaling message adjusts them -/
  logSync   : Int
  logPdelay : Int
  logAnnounce : Int
  syncTxAt  : Time
  pdelayTxAt : Time
  announceTxAt : Time
  /-- a Pdelay_Resp that waits for the Sync due with it (R701) -/
  response  : Option (List Byte)
  deriving DecidableEq, Repr

/-- A PTP port that has seen nothing. -/
def GptpPort.init (now : Time) : GptpPort :=
  ⟨none, none, 0, false, none, none, now, 0, 0, none, false, 0, 0, -3, 0, 0, now, now, now, none⟩

/-- A step of local time that waits (R666, R667): to gPTP, or to TIME_SET from the local time at which it was asked. -/
inductive PendingStep where
  | none
  | gptp
  | timeSet (target : Nat) (asked : Int)
  deriving DecidableEq, Repr

/-- Local time (R660): seconds, nanoseconds and the fraction of a nanosecond to 24 bits; the clock's servo and steps. -/
structure TimeState where
  sec  : Nat
  ns   : Nat
  frac : Nat
  step : PendingStep
  /-- STEP_PENDING was entered from FREE (R663) -/
  fromFree : Bool
  goodSyncs : Nat
  /-- the servo's last increments in LOCKED, newest first, at most 16 (R663) -/
  increments : List Nat
  /-- the increment that host firmware wrote last -/
  hostIncrement : Option Nat
  lockingAt : Time
  /-- the last write of CLOCK_INCREMENT (R700); the last of it or of TIME_SOURCE, and whether event 0x12B has been raised since (R664, R692) -/
  hostAt : Option Time
  writeAt : Time
  hostLate : Bool
  /-- the hour in LOCKED: its start and the sum of increment × ns (R669) -/
  hourAt : Time
  hourMark : Time
  hourSum : Nat
  /-- offset of the last valid Sync that the servo followed, in units of 2^-24 ns -/
  offset : Int
  servoPort : Nat
  /-- when the sync timeout put the clock into HOLDOVER last (R694) -/
  timeoutAt : Option Time
  p0 : GptpPort
  p1 : GptpPort
  /-- speed messages (R691): the last valid counter and its time -/
  egoCounter : Option Nat
  egoAt : Option Time
  deriving DecidableEq, Repr

/-- A CAN frame to send: identifier, kind, data. -/
structure CanTx where
  id   : Nat
  kind : SentKind
  data : List Byte
  at_  : Time
  deriving DecidableEq, Repr

/-- A frame that waits for its Ethernet port, with its class of R680, 0 first. -/
structure EgressFrame where
  port : Nat
  cls  : Fin 4
  msg  : Sent
  deriving DecidableEq, Repr

/-- The Ethernet ports and the CAN controller. -/
structure NetState where
  /-- the caches of ARP and neighbour discovery: port, address, time of the last refresh (R681) -/
  resolved : List (Nat × Nat × Time)
  /-- addresses being resolved and the time of the last request (R682) -/
  asking   : List (Nat × Nat × Time)
  /-- CAN frames that are queued and not yet sent, oldest first (R688) -/
  canQueue : List CanTx
  /-- the controller is off the bus until 11 recessive bits (R689) -/
  canOff   : Bool
  /-- frames that wait for their Ethernet port, oldest first, and until when the frame that has begun lasts, by port (R680) -/
  egress   : List EgressFrame
  wire     : Tab Time
  /-- values that apply once the responses of their bearer have left: bearer, key, value (R71, R684, R689) -/
  held     : List (Bearer × Nat × List Byte)
  deriving DecidableEq, Repr

/-- The networks with nothing learnt and nothing waiting. -/
def NetState.init : NetState :=
  { resolved := [], asking := [], canQueue := [], canOff := false, egress := [], wire := [], held := [] }

/-! ### Chapter 14: serial lanes and the Kelzar Lane Protocol -/

/-- What the lane layer keeps of one lane. LANE_MODE, ADAPT_FROZEN, PRBS_LOCK and the like stand in the object store. -/
structure Lane where
  /-- consecutive valid sync headers before block lock (R711) -/
  valid    : Nat
  /-- the latest sync headers in block lock, newest first, at most 64: true for an invalid one -/
  window   : List Bool
  locked   : Bool
  deskewed : Bool
  /-- the peer's last STATUS reports the lane's RX_OK (R721) -/
  peerOk   : Bool
  /-- since when the lane has been usable (R726) -/
  usable   : Option Time
  /-- the coefficients of the receiver: the CTLE's and the five taps of the DFE (R708, R729) -/
  equaliser : List Nat
  /-- the last 58 bits of the scrambler and of the descrambler, bit 0 the latest (R710) -/
  scrambler : Nat
  descrambler : Nat
  /-- the 66 bits that the lane sends (R710, R734, R735), scrambled; none while it sends nothing -/
  out      : Option FrameBlock
  /-- in TEST, when the next 66 bits are due, in 1/100 ns -/
  wordAt   : Nat
  /-- the last 31 bits of the PRBS31 that the lane sends, and of the one that its checker follows, bit 0 the latest (R734) -/
  prbsTx   : Nat
  prbsRx   : Nat
  /-- error-free bits in a row before the checker's lock, and the latest 1,024 bits in it, newest first: true for one in error -/
  prbsGood : Nat
  prbsErrors : List Bool
  deriving DecidableEq, Repr

/-- A lane that has seen nothing. The PRBS31 starts from 31 ones (DESIGN CHOICE, log entry 33: from zeros it would never leave them). -/
def Lane.init : Lane :=
  { valid := 0, window := [], locked := false, deskewed := false, peerOk := false, usable := none, equaliser := [0, 0, 0, 0, 0, 0]
    scrambler := 0, descrambler := 0, out := none, wordAt := 0, prbsTx := 2 ^ 31 - 1, prbsRx := 0, prbsGood := 0, prbsErrors := [] }

/-- A lane that starts again: it seeks block lock anew, and keeps its coefficients and the state of its scrambler and its patterns. -/
def Lane.restarted (x : Lane) : Lane :=
  { x with valid := 0, window := [], locked := false, deskewed := false, peerOk := false, usable := none }

/-- A frame that has been given to a bond and whose last column has not left (R718, R724): its bytes, its kind, the column that leaves
next, and the message of the output queue that it carries. -/
structure TxFrame where
  kind  : SentKind
  bytes : List Byte
  next  : Nat
  msg   : Option OutMessage
  deriving DecidableEq, Repr

/-- A column of ALIGN or STATUS blocks, or the END that aborts a frame: the lanes that carry it and their blocks. -/
abbrev ControlColumn : Type := List (Nat × FrameBlock)

/-- A bond (R722). BOND_STATE, BOND_ACTIVE and the counters stand in the object store. -/
structure Bond where
  /-- the MAP that the peer sent last (R716) -/
  peerMap   : Nat
  alignSeq  : Nat
  statusSeq : Nat
  alignAt   : Time
  statusTxAt : Time
  /-- the peer's last STATUS: its sequence and when it arrived (R721, R747) -/
  peerStatus : Option (Nat × Time)
  fseq      : Nat
  /-- frames that have not left whole, oldest first -/
  frames    : List TxFrame
  /-- lanes whose block of the column that is arriving has come: lane and whether it is FILL (R715) -/
  column    : List (Nat × Bool)
  /-- how many columns the receiver's elastic buffer holds (R715) -/
  level     : Nat
  /-- control columns that wait to leave, oldest first -/
  control   : List ControlColumn
  /-- how many columns have left since the last whole FILL column (R714) -/
  sinceFill : Nat
  /-- when the next column begins, in 1/100 ns (R707, R713) -/
  columnAt  : Nat
  deriving DecidableEq, Repr

/-- A bond that has sent nothing. Its elastic buffer starts half full (DESIGN CHOICE, log entry 33: R715 names no level to start from). -/
def Bond.init : Bond :=
  { peerMap := 0, alignSeq := 0, statusSeq := 0, alignAt := 0, statusTxAt := 0, peerStatus := none, fseq := 0, frames := [], column := []
    level := 16, control := [], sinceFill := 0, columnAt := 0 }

/-- The lanes and the bonds: 0 KLP, 1 Farlu. -/
structure LaneState where
  units : Tab Lane
  klp   : Bond
  farlu : Bond
  deriving DecidableEq, Repr


/-! ### Chapter 15: events and the I3C target -/

/-- The read source of the I3C target (R753, R754). -/
inductive ReadSource where
  | live (half : Nat)
  | koa
  | events
  deriving DecidableEq, Repr

/-- The state of the I3C target. -/
structure I3cState where
  mwl        : Nat
  mrl        : Nat
  ibiPayload : Nat
  source     : ReadSource
  protocolError : Bool
  /-- the latched high half: its word number and value (R759) -/
  latch      : Option (Nat × Nat)
  torn       : Bool
  mapChanged : Bool
  /-- the response place: the response and when it became ready (R756, R72) -/
  response   : Option (List Byte × Time)
  /-- values that take effect when the response has been sent: key and bytes (R71) -/
  later      : List (Nat × List Byte)
  /-- the waiting BUSY response (R757) -/
  busyResponse : Option (List Byte)
  hdr        : Bool
  /-- the response-ready IBI has still to be requested (R769) -/
  ibiResponse : Bool
  /-- with short IBIs, the queue went from empty to holding a record (R769) -/
  ibiShort   : Bool
  deriving DecidableEq, Repr

/-- An event datagram being gathered for one port (R771). -/
structure EventGather where
  records : List (List Byte)
  since   : Time
  seq     : Nat
  deriving DecidableEq, Repr

/-- An event that has been raised (R763, R765): its number, its payload, whether the clock was not LOCKED, and the local time. -/
structure RaisedEvent where
  event   : Nat
  payload : Nat
  unsync  : Bool
  sec     : Nat
  ns      : Nat
  deriving DecidableEq, Repr

/-- The event matrix. EVENT_COUNT and EVENT_LAST stand in the object store. -/
structure EventState where
  /-- events raised in the present core cycle, which are handled in the next (R765) -/
  raised : List RaisedEvent
  /-- EVENT_MASK and EVENT_ROUTE as they were before the writes of the present core cycle: those in force in it (R774) -/
  maskWas : Option (List Byte)
  routeWas : Option (List Byte)
  /-- EVENT_PENDING, bit e for event e (R765) -/
  pending : BitVec 384
  /-- the events that became pending while their IRQ_N bit was set (R767) -/
  irq : BitVec 384
  ibiQueue : List (List Byte)
  /-- the next queued record carries LOST (R768) -/
  ibiLost : Bool
  gatherE0 : EventGather
  gatherE1 : EventGather
  /-- when each rate-limited event or event source was last raised (the limiters of the owners' chapters) -/
  limiter : Tab (Option Time)
  /-- events of the return channels in a running millisecond: number, its begin, and the lowest channel or block so far (R388) -/
  lows : List (Nat × Time × Nat)
  deriving DecidableEq, Repr

/-! ### Chapter 16: the redundant pair -/

/-- The roles of R789. -/
inductive PairRole where
  | solo | pairing | active | shadow
  deriving DecidableEq, Repr

/-- The class of a TRIG pair (R788). -/
inductive DriveClass where
  | undriven | driven | contention
  deriving DecidableEq, Repr

/-- The drive state of the device (R788). -/
inductive DriveState where
  | undriven | own | partner | contention
  deriving DecidableEq, Repr

/-- A claim in progress (R791). -/
inductive Claim where
  | none
  | quiet (since : Time)
  | watching (since : Time)
  deriving DecidableEq, Repr

/-- What the last HEARTBEAT of the partner said (R798). -/
structure PartnerBeat where
  role     : Nat
  position : Nat
  safety   : Nat
  seq      : Nat
  epoch    : Nat
  sealCrc  : Nat
  takeSeq  : Nat
  seqEpoch : Nat
  counters : List Nat
  sync     : Bool
  at_      : Time
  deriving DecidableEq, Repr

/-- The fields of a TAKE frame (R798). -/
structure TakeFrame where
  takeSeq  : Nat
  seqEpoch : Nat
  lg       : Nat
  outcome  : Nat
  zone     : Nat
  energy   : Nat
  code     : Nat
  dither   : Nat
  bind     : Nat
  k        : Nat
  lfsr     : Nat
  freewheel : Bool
  deriving DecidableEq, Repr

/-- A spoke sum (R801). -/
structure SpokeSum where
  takeSeq  : Nat
  seqEpoch : Nat
  lg       : Nat
  bind     : Nat
  n        : Nat
  crc      : Nat
  rsum     : Nat
  at_      : Time
  deriving DecidableEq, Repr

/-- The pair manager. -/
structure PairState where
  role      : PairRole
  position  : Nat
  classes   : Tab DriveClass
  driving   : Bool
  undrivenSince : Option Time
  claim     : Claim
  /-- the claim is a takeover (R793) -/
  takeover  : Bool
  /-- a verdict of R808 names this device -/
  verdict   : Bool
  beat      : Option PartnerBeat
  partnerSeen : Bool
  /-- the EPOCH frames of R808 are still to be exchanged -/
  exchange  : Bool
  mirrorSync : Bool
  /-- a resync has been requested and its CUE, TIME and ACCOUNT frames received -/
  resyncAsked : Bool
  gotObjects : List Nat
  gotCue    : Bool
  gotTime   : Bool
  gotAccount : Bool
  /-- loopback starts and TAKE frames that wait for each other, per group, with their times (R800) -/
  starts    : Tab (List (Int × Time))
  takes     : Tab (List (TakeFrame × Time))
  /-- pairing in the group waits for the next TAKE frame after a divergence -/
  diverged  : List Nat
  lastTake  : Tab (Option TakeFrame)
  ownSums   : List SpokeSum
  peerSums  : List SpokeSum
  mismatches : Nat
  lastSumOk : Bool
  mirrorSums : Tab Nat
  /-- partly received BLOCK values of OBJECT frames: object key and bytes -/
  partial_  : List (Nat × List Byte)
  /-- the last start of each group, in 1/1,024 ns: the later pulses of its code are no starts (R253) -/
  lastStart : Tab (Option Int)
  /-- when the last HEARTBEAT and TIME frames were sent (R798) -/
  beatTxAt  : Time
  timeTxAt  : Time
  deriving DecidableEq, Repr

/-! ### Chapter 17: memory integrity, life cycle and observation -/

/-- One copy of a critical record (R840): sequence, content, and whether its CRC-32 holds. -/
structure RecordCopy where
  seq     : Nat
  content : List Byte
  deriving DecidableEq, Repr

/-- A critical record: three copies, each absent or valid, and its verdict (R841). -/
structure CriticalRecord where
  copy1 : Option RecordCopy
  copy2 : Option RecordCopy
  copy3 : Option RecordCopy
  deriving DecidableEq, Repr

/-- A key slot of OTP (R843). -/
structure KeySlot where
  hash    : Option (List Byte)
  revoked : Bool
  deriving DecidableEq, Repr

/-- OTP (R843). -/
structure OtpState where
  deviceId : List Byte
  mac0   : Nat
  mac1   : Nat
  keys   : Tab KeySlot
  minSvn : Nat
  /-- blown bits of the life-cycle fuse field (R845) -/
  fuses  : Nat
  deriving DecidableEq, Repr

/-- A boot image region (R849): the SEQ of its valid commit record, and its bytes before that record. -/
structure BootImage where
  commit : Option Nat
  bytes  : List Byte
  deriving DecidableEq, Repr

/-- The NVM (R837). -/
structure NvmState where
  log      : List LogRecord
  /-- records used in the sector under the head, and the head's sector -/
  headSector : Nat
  headUsed : Nat
  /-- sectors ahead of the head that are erased -/
  erasedAhead : Nat
  /-- erase count of every sector of the parameter log -/
  eraseCounts : Tab Nat
  /-- sectors marked worn and skipped (R913) -/
  worn     : List Nat
  busy     : NvmBusy
  bankA    : CalBank
  bankB    : CalBank
  sealRec  : CriticalRecord
  identity : CriticalRecord
  epochRec : CriticalRecord
  imageA   : BootImage
  imageB   : BootImage
  /-- operating log, newest first: hours, resets, peak temperature -/
  opLog    : List (Nat × Nat × Int)
  /-- RESET_COUNT as the NVM keeps it (R859) -/
  resets   : Nat
  deriving DecidableEq, Repr

/-- Memory integrity and observation. -/
structure MemoryState where
  eccLog   : List (List Byte)
  /-- words of the SRAM memories the scrubber found uncorrectable and the owner has still to read (R829): memory, address -/
  badWords : List (Nat × Nat)
  ddrTrained : Bool
  refreshHalved : Bool
  regions  : Nat
  nonce    : Nat
  /-- the running image: 1 A, 2 B, 0 none -/
  image    : Nat
  /-- FW_IMAGE as validated (R851) -/
  staged   : Option (List Byte)
  recordState : List Nat
  traceSeq : Nat
  traceLost : Bool
  trace    : List (List Byte)
  /-- when the trace output is free again, and the FSEQ of its frames on L3 (R858) -/
  traceUntil : Time
  traceFseq : Nat
  snapAt   : Time
  hourAt   : Time
  hourPeak : Int
  deriving DecidableEq, Repr

/-! ### Chapter 18: supplies, reset and boot -/

/-- The reset sources of R873, in the order of R886. -/
inductive ResetSource where
  | por | brownout | pin | standby | memory | watchdog | pairConflict | host
  deriving DecidableEq, Repr

/-- How far the boot has come (R877, boot timeline). -/
inductive BootPhase where
  | held      -- held in reset
  | rom       -- released: boot ROM, self-test and SRAM wipe
  | recovery  -- no bootable image, or BOOT_SEL (R850, R880)
  | firmware  -- the image runs
  | running   -- stored objects applied; blocks started
  deriving DecidableEq, Repr

/-- The straps and SEAL_EN at the balls (R879). -/
structure Straps where
  sealEn  : Bool
  sa1     : Bool
  sa0     : Bool
  pairS   : Bool
  bootSel : Bool
  deriving DecidableEq, Repr

/-- The always-on retained register (R873). -/
structure Retained where
  cause    : ResetSource
  brownout : Nat
  /-- the pending seal: the image of the sealed set (R335) -/
  sealImage : Option (List Byte)
  /-- the pending life-cycle transition: its target state (R846) -/
  lifecycle : Option Nat
  deriving DecidableEq, Repr

/-- Reset and boot. -/
structure ResetState where
  phase      : BootPhase
  /-- supplies above their power-on threshold for 2 ms (R870) -/
  powerGood  : Bool
  resetPin   : Bool
  wake       : Bool
  straps     : Straps
  retained   : Retained
  releasedAt : Time
  /-- when the reset that holds the device came (R886) -/
  heldAt     : Time
  /-- a RESET_REQUEST was accepted: when the reset falls (R874) -/
  requestAt  : Option Time
  sramWiped  : Bool
  /-- event 0x013 is owed once firmware runs (R335) -/
  sealWritten : Bool
  /-- the seal record failed its readback at this release (R335) -/
  sealFailed : Bool
  /-- clocks that deviate (R28): 0 crystal, 1 main PLL, 2 safety PLL, 3 spoke-engine PLL -/
  clockFaults : List Nat
  /-- since when the spoke-engine PLL has been within its limits again -/
  spokeClockAt : Option Time
  deriving DecidableEq, Repr

/-! ### The whole state -/

/-- The state of the block. -/
structure State where
  /-- core cycles since the model's start (the MODEL's own clock, log entry 1) -/
  now      : Time
  /-- the MODEL's own counter of free values drawn (log entry 2) -/
  freeCtr  : Nat
  /-- scalar objects of the dictionary by key; an unlisted one holds its default -/
  reg      : Tab Int
  /-- BLOCK objects of the dictionary by key; an unlisted one holds its default -/
  blk      : Tab (List Byte)
  koa      : KoaState
  jobs     : JobTable
  crank    : CrankState
  seq      : SequencerState
  emit     : EmitterState
  safety   : SafetyIsland
  rx       : RxState
  hist     : HistState
  eng      : EngineState
  pipe     : PipeState
  cal      : CalState
  hk       : HkState
  time     : TimeState
  net      : NetState
  lanes    : LaneState
  ev       : EventState
  i3c      : I3cState
  pair     : PairState
  nvm      : NvmState
  otp      : OtpState
  mem      : MemoryState
  reset_   : ResetState
  /-- messages that left the part, newest first (log entry 3) -/
  sent     : List Sent
  /-- commands that wait, first in, first out -/
  pending  : List Instr
  deriving DecidableEq, Repr

/-! ### After reset -/

/-- A dual-channel pair before its filters have accepted a level. -/
def SafePair.init : SafePair := ⟨false, false, false, false, false, false, none, none, false⟩

/-- A bearer that has brought no SAFE_CMD. -/
def SafeBearer.init : SafeBearer := ⟨none, none, 0, false⟩

/-- The safety island in INIT (R298). -/
def SafetyIsland.init : SafetyIsland :=
  { state := .init, latch := false, firstTripAt := 0, selfTestPassed := false, holdDone := false, auditOk := false
    auditMet := false, enA := false, enB := false, fbA := false, fbB := false, fbDiffA := none, fbDiffB := none
    req := SafePair.init, ilk := SafePair.init, cmd := SafePair.init
    copyCan := SafeBearer.init, copyE0 := SafeBearer.init, copyE1 := SafeBearer.init, cmdDiffer := none, cmdJudged := false, offTest := none, passedA := false
    passedB := false, armingAt := 0, nextA := 0, nextB := 0, scanEdge := 0, scanSeen := false, scanTrip := none
    statusCounter := 0, statusDue := false, statusAt := 0, oeAt := none, buckets := [0, 0, 0, 0], sums := [], charges := []
    peakW0 := 0, captureLog := [], snapshot := [], snapBuckets := [0, 0, 0, 0], auditLog := [], ae0 := [], ae1 := []
    w0 := [], snapW0 := [], ae0W0 := W0Copy.init, ae1W0 := W0Copy.init
    ae0Busy := false, ae1Busy := false, aeStopped := false, auditAt := 0, sealRef := 0 }

/-- The sequencer in STOPPED with empty banks (R199, R218). -/
def SequencerState.init : SequencerState :=
  { state := .stopped, active := [], staging := [], void_ := [], next := 0, lookAt := none, examAt := 0, examined := 0, latched := []
    copying := none, heldWindow := [], pending := false, commitAt := 0, takeSeq := 0, epoch := 0, wrapDue := false, lfsr := []
    ready := [], decisions := [], takes := [], diags := [], turnAt := none, turnServed := 0, diagUntil := 0 }

/-- The emitter interface with nothing decided. -/
def EmitterState.init : EmitterState :=
  { words := [], latched := [], frame := none, requested := false, previous := [], badFrames := 0, columns := [], matrix := []
    matrixNow := none, rowHigh := none, matrixEnd := 0, pulses := [], captureEnd := 0, tolerance := [], zones := [], diagAt := 0 }

/-- The histogram engine with every buffer CLEAR (R419). -/
def HistState.init : HistState :=
  { sets := [], nextSet := 1, reels := [], claims := [], banks := [], bankFree := [], gears := [], oldGears := [], pendingGears := [], descWait := []
    bgMap := [], mrev := [], mrevDue := [], sumsBuilt := 0, sumsAt := 0, egoStale := true, rawUsed := 0, rawCopies := []
    badWords := [], axisLost := false }

/-- The point pipeline with nothing open. -/
def PipeState.init : PipeState :=
  { spokes := [], nextId := 1, owed := [], restep := [], extrDue := [], soil := [], blocked := [], blockAlarm := 5, empty := [], alarm := false
    queueK := [], queue0 := [], queue1 := [], dropped := [], firstFire := false, dailyAt := 0 }

/-- Calibration with ideal tables (R367) and nothing running. -/
def CalState.init : CalState :=
  { tables := [], walk := [], runs := [], waiting := [], failed := [], failAt := [], acceptedAt := [], loadedAt := 0
    stepNow := none, stepGroups := [], copy := [], windowEnd := [] }

/-- Housekeeping with nothing running. -/
def HkState.init : HkState :=
  { runs := [], next := 0, inject := none, die0 := none, die1 := none, sensor := 0, revAt := none, facetAt := none
    fallback0 := false, fallback1 := false, gain := [], gainAt := [], gainDue := [], trimAt := none, trimTemp := 0, sides := [] }

/-- Local time at 0, the clock in FREE (R664). -/
def TimeState.init : TimeState :=
  { sec := 0, ns := 0, frac := 0, step := .none, fromFree := true, goodSyncs := 0, increments := []
    hostIncrement := none, lockingAt := 0, hostAt := none, writeAt := 0, hostLate := false, hourAt := 0, hourMark := 0, hourSum := 0, offset := 0, servoPort := 0, timeoutAt := none
    p0 := GptpPort.init 0, p1 := GptpPort.init 0, egoCounter := none, egoAt := none }

/-- The I3C target without an address (R749): maximum lengths 265 and 264, IBI payload 17 (R750). -/
def I3cState.init : I3cState :=
  { mwl := 265, mrl := 264, ibiPayload := 17, source := .live 0, protocolError := false, latch := none, torn := false
    mapChanged := false, response := none, later := [], busyResponse := none, hdr := false, ibiResponse := false, ibiShort := false }

/-- The event matrix with nothing pending. -/
def EventState.init : EventState :=
  { raised := [], maskWas := none, routeWas := none, pending := 0, irq := 0, ibiQueue := [], ibiLost := false, gatherE0 := ⟨[], 0, 0⟩, gatherE1 := ⟨[], 0, 0⟩, limiter := [], lows := [] }

/-- The pair manager of a SOLO device (R790). -/
def PairState.init : PairState :=
  { role := .solo, position := 0, classes := [], driving := false, undrivenSince := some 0, claim := .none, takeover := false
    verdict := false, beat := none, partnerSeen := false, exchange := false, mirrorSync := false, resyncAsked := false, gotObjects := []
    gotCue := false, gotTime := false, gotAccount := false, starts := [], takes := [], diverged := [], lastTake := []
    ownSums := [], peerSums := [], mismatches := 0, lastSumOk := false, mirrorSums := [], partial_ := [], lastStart := []
    beatTxAt := 0, timeTxAt := 0 }

/-- A boot image region without a commit (R849). -/
def BootImage.none_ : BootImage := ⟨none, []⟩

/-- A calibration bank that reads erased (R612). -/
def CalBank.erased : CalBank := ⟨[], []⟩

/-- A critical record without a valid copy (R841). -/
def CriticalRecord.absent : CriticalRecord := ⟨none, none, none⟩

/-- The NVM as erased: no record, no bank, no image (log entry 6). -/
def NvmState.init : NvmState :=
  { log := [], headSector := 0, headUsed := 0, erasedAhead := 255, eraseCounts := [], worn := [], busy := .idle
    bankA := CalBank.erased, bankB := CalBank.erased, sealRec := CriticalRecord.absent, identity := CriticalRecord.absent
    epochRec := CriticalRecord.absent, imageA := BootImage.none_, imageB := BootImage.none_, opLog := [], resets := 1 }

/-- OTP as manufactured: BLANK, key slots 0 and 1 programmed, serial 1 (R843, log entry 6). -/
def OtpState.init : OtpState :=
  { deviceId := [0x96, 0x80, 0xB1, 0x01, 0, 0, 0, 0, 0, 0, 0, 0, 0, 0, 0, 1], mac0 := 0x020000000000, mac1 := 0x020000000001
    keys := [(0, ⟨some (List.replicate 32 0), false⟩), (1, ⟨some (List.replicate 32 0), false⟩)], minSvn := 0, fuses := 0 }

/-- Memory integrity and observation at reset. -/
def MemoryState.init : MemoryState :=
  { eccLog := [], badWords := [], ddrTrained := false, refreshHalved := false, regions := 0, nonce := 0, image := 0
    staged := none, recordState := [0, 0, 0], traceSeq := 0, traceLost := false, trace := [], traceUntil := 0, traceFseq := 0, snapAt := 0, hourAt := 0
    hourPeak := 0 }

/-- Held in power-on reset (R870, R873). -/
def ResetState.init : ResetState :=
  { phase := .held, powerGood := false, resetPin := true, wake := true, straps := ⟨false, false, false, false, false⟩
    retained := ⟨.por, 0xFF, none, none⟩, releasedAt := 0, heldAt := 0, requestAt := none, sramWiped := false, sealWritten := false, sealFailed := false
    clockFaults := [], spokeClockAt := none }

/-- The machine right after reset: held in power-on reset with every object at its default, every memory clear and every
queue empty. -/
def State.reset : State :=
  { now := 0, freeCtr := 0, reg := [], blk := [], koa := ⟨[], [], [], [], []⟩, jobs := ⟨[], [], 0⟩
    crank := ⟨[], none, none, Axis.init, Axis.init⟩, seq := SequencerState.init, emit := EmitterState.init
    safety := SafetyIsland.init, rx := ⟨[], [], 0, []⟩, hist := HistState.init, eng := ⟨[], []⟩, pipe := PipeState.init
    cal := CalState.init, hk := HkState.init, time := TimeState.init, net := NetState.init
    lanes := ⟨[], Bond.init, Bond.init⟩, ev := EventState.init, i3c := I3cState.init, pair := PairState.init
    nvm := NvmState.init, otp := OtpState.init, mem := MemoryState.init, reset_ := ResetState.init, sent := [], pending := [] }

end Sys2Proof.Machine
end

