-- ==== Sys2Proof/Machine/Ops.lean ====
section
/-! DEFINITION. The named operations over the object store, the counters, the outputs, the free values, the
trace buffer and the event matrix, which every meaning is built from. -/

namespace Sys2Proof.Machine

open Sys2Proof

/-! ### Times -/

/-- Microseconds in core cycles. -/
def us (n : Nat) : Nat := n * 1000

/-- Milliseconds in core cycles. -/
def ms (n : Nat) : Nat := n * 1000000

/-- Seconds in core cycles. -/
def sec (n : Nat) : Nat := n * 1000000000

/-- A duration limit is reached when the elapsed time equals it (R8). -/
def reached (now since limit : Nat) : Bool := decide (since + limit ≤ now)

/-! ### The object dictionary -/

/-- The row holds an index and subindex. The comparisons are those that Lean's kernel computes at once. -/
def ObjDesc.holds (d : ObjDesc) (index sub : Nat) : Bool :=
  Nat.beq d.index index && Nat.ble d.base sub && Nat.blt sub (d.base + d.count)

/-- The row of an index and subindex (R57, R59). -/
def dictFind (index sub : Nat) : Option ObjDesc :=
  (dictionaryPage (index / 256)).find? (fun d => d.holds index sub)

/-- The size in bytes of a scalar type (R16, R60). -/
def typeSize : ObjType → Nat
  | .bool => 1 | .u8 => 1 | .u16 => 2 | .u32 => 4 | .u64 => 8 | .i16 => 2 | .i32 => 4 | .q16 => 4
  | .str => 0 | .block => 0

/-- The value that the KOA form of a type spells (R60). -/
def decodeValue (ty : ObjType) (bs : List Byte) : Int :=
  match ty with
  | .i16 => signed 16 (beNat bs)
  | .i32 => signed 32 (beNat bs)
  | .q16 => signed 32 (beNat bs)
  | _ => (beNat bs : Int)

/-- The KOA form of a value (R60). -/
def encodeValue (ty : ObjType) (v : Int) : List Byte := beBytes (typeSize ty) (unsigned (8 * typeSize ty) v)

/-- The default of an element of a scalar object. -/
def elemDflt (d : ObjDesc) (sub : Nat) : Int :=
  match d.per[sub - d.base]? with
  | some n => (n : Int)
  | none => d.dflt

/-- What a scalar object with no entry in the store holds: its default (R18). The objects of a user kernel (R58) have theirs in
its manifest: for them the answer is a number that no value takes. -/
def objDflt (k : Nat) : Int :=
  match dictFind (k / 256) (k % 256) with
  | some d => elemDflt d (k % 256)
  | none => if k / 2 ^ 20 = 4 then 2 ^ 64 else 0

/-- n bytes of one value. -/
def fill (n : Nat) (b : Byte) : List Byte := List.replicate n b

/-- The default LIVE_MAP (R761). -/
def liveMapDefault : List Byte :=
  [0x230000, 0x231100, 0x201501, 0x210200, 0x2A0000, 0x212000, 0x122300, 0x273600].flatMap
    (fun k => beBytes 4 (k * 256))

/-- EVENT_ROUTE's default: 0x03 for events 0x000 to 0x01F and 0x170, 0x00 otherwise. -/
def eventRouteDefault : List Byte := fill 32 0x03 ++ fill 336 0 ++ [0x03] ++ fill 15 0

/-- The default gear table: 0x40040000, then 28 bytes of 0x00. -/
def gearDefault : List Byte := [0x40, 0x04, 0x00, 0x00] ++ fill 28 0

/-- The default INT_TABLE: e_k = 128 k, e_32 = 4,095. -/
def intTableDefault : List Byte := (List.range 32).flatMap (fun k => beBytes 2 (128 * k)) ++ beBytes 2 4095

/-- The default EXTRINSICS: identity and T = 0; nine elements of Q2.30 and three of I32 (R556). -/
def extrinsicsDefault : List Byte :=
  [0x40000000, 0, 0, 0, 0x40000000, 0, 0, 0, 0x40000000, 0, 0, 0].flatMap (fun v => beBytes 4 v)

/-- The default linearisation table: T[i] = i × 2^20. -/
def linTableDefault : List Byte := (List.range 4096).flatMap (fun i => beBytes 4 (i * 0x100000))

/-- One code word of CODE_FAMILY from its pulses less 1 and its offsets (R415). -/
def codeWord (np o1 o2 o3 : Nat) : Nat := np * 2 ^ 30 + o1 * 2 ^ 24 + o2 * 2 ^ 18 + o3 * 2 ^ 12

/-- The default family of R415. -/
def codeFamilyDefault : List Byte :=
  (List.range 64).flatMap (fun c =>
    beBytes 4 (codeWord 2 (6 + 2 * (c % 8)) (6 + 2 * (c % 8) + 6 + 4 * (c / 8)) 0))

/-- The default MF_TEMPLATE (R914). -/
def mfTemplateDefault : List Byte :=
  [31978, 32414, 32678, 32767, 32678, 32414, 31978, 31378,
   29724, 31378, 32414, 32767, 32414, 31378, 29724, 27554,
   22187, 27554, 31378, 32767, 31378, 27554, 22187, 16384,
   6888, 16384, 27554, 32767, 27554, 16384, 6888, 2048].flatMap (fun v => beBytes 2 v)

/-- What a BLOCK object with no entry in the store holds: its default. The large all-zero maps hold 0 at every
byte and are kept as a list that may be shorter than the object: a byte beyond the list reads 0. -/
def blkDflt (k : Nat) : List Byte :=
  if k = Obj.EVENT_MASK then fill 48 0xFF
  else if k = Obj.EVENT_ROUTE then eventRouteDefault
  else if k = Obj.ZONE_ENABLE then fill 128 0xFF
  else if k / 256 = Obj.GEAR_TABLE / 256 then gearDefault
  else if k = Obj.CODE_FAMILY then codeFamilyDefault
  else if k = Obj.MF_TEMPLATE then mfTemplateDefault
  else if k / 256 = Obj.INT_TABLE / 256 then intTableDefault
  else if k = Obj.EXTRINSICS then extrinsicsDefault
  else if k = Obj.CAL_UNITS then fill 38 0xFF
  else if k = Obj.LIVE_MAP then liveMapDefault
  else if k = Obj.SELFTEST_REPORT then fill 4 0x02
  else if k / 256 = Obj.LIN_TABLE / 256 then linTableDefault
  else []

/-- The value of a scalar object as the store holds it. -/
def State.get (s : State) (k : Nat) : Int := tabGet objDflt s.reg k

/-- The value of an unsigned scalar object. -/
def State.getN (s : State) (k : Nat) : Nat := (s.get k).toNat

/-- The value of a BOOL object. -/
def State.getB (s : State) (k : Nat) : Bool := decide (s.get k ≠ 0)

/-- Sets a scalar object. -/
def State.set (s : State) (k : Nat) (v : Int) : State := { s with reg := tabPut objDflt s.reg k v }

/-- The bytes of a BLOCK object as the store holds them. -/
def State.getBlk (s : State) (k : Nat) : List Byte := tabGet blkDflt s.blk k

/-- Sets a BLOCK object. -/
def State.setBlk (s : State) (k : Nat) (v : List Byte) : State := { s with blk := tabPut blkDflt s.blk k v }

/-- Adds to a counter that saturates at 0xFFFFFFFF (R37, R169 and their like). -/
def State.addSat (s : State) (k n : Nat) : State := s.set k (satAdd 0xFFFFFFFF (s.get k) n)

/-- Adds one to a saturating counter. -/
def State.count (s : State) (k : Nat) : State := s.addSat k 1

/-- Adds to a counter that wraps at 2^32. -/
def State.countWrap (s : State) (k n : Nat) : State := s.set k ((s.get k + n) % 2 ^ 32)

/-- The firmware runs and the blocks have started (R877). -/
def State.running (s : State) : Bool := s.reset_.phase == .running

/-! ### DDR5 areas (R832, R833, R835) -/

/-- The first n regions of 64 MiB have been wiped, so that an area that ends in them is usable (R835). After a failed training
none ever is (R832). -/
def State.ddrHas (s : State) (n : Nat) : Bool := decide (n ≤ s.mem.regions)

/-- KOA sessions and snapshots: the first 24 MiB. -/
def ddrSessions : Nat := 1

/-- Output queues, raw-reel staging and event datagram assembly: up to 798 MiB. -/
def ddrQueues : Nat := 13

/-- User-kernel windows: up to 862 MiB. -/
def ddrKernels : Nat := 14

/-- The multi-revolution area: every region is wiped. -/
def State.ddrReady (s : State) : Bool := s.get Obj.DDR_STATE == 2

/-! ### Free values and outputs -/

/-- Draws a fresh free value. -/
def State.draw (s : State) : Nat × State :=
  (Config.freeValue s.freeCtr, { s with freeCtr := s.freeCtr + 1 })

/-- A message leaves the part. -/
def State.send (s : State) (m : Sent) : State := { s with sent := m :: s.sent }

/-! ### The trace buffer (R857, R858) -/

/-- Records that the 64 KiB trace buffer holds. -/
def traceRoom : Nat := 65536 / 20

/-- Trace is on for a class (R856). -/
def State.traceOn (s : State) (cls : Nat) : Bool :=
  natBit (s.getN Obj.TRACE_CTRL) 31 && natBit (s.getN Obj.TRACE_CTRL) cls

/-- A trace record enters the stream; the first answer says that it was dropped for want of room. The next record
that enters after a drop has bit 7 of CLASS set. -/
def State.traceAdd (s : State) (cls source : Nat) (body : List Byte) : Bool × State :=
  if s.traceOn cls then
    if s.mem.trace.length < traceRoom then
      let lost := b2n s.mem.traceLost
      let r := beBytes 1 (cls + 128 * lost) ++ beBytes 1 source ++ beBytes 2 s.mem.traceSeq ++ (body ++ fill 16 0).take 16
      (false, { s with mem := { s.mem with
        trace := s.mem.trace ++ [r], traceSeq := (s.mem.traceSeq + 1) % 65536, traceLost := false } })
    else
      (true, { (s.count Obj.TRACE_DROPS) with mem := { s.mem with traceLost := true } })
  else (false, s)

/-! ### The event matrix (chapter 15) -/

/-- The key of an event's counter: EVENT_COUNT or EVENT_COUNT_HI. -/
def eventCountKey (e : Nat) : Nat := if e < 256 then Obj.EVENT_COUNT + e else Obj.EVENT_COUNT_HI + (e - 256)

/-- The key of an event's last record: EVENT_LAST or EVENT_LAST_HI. -/
def eventLastKey (e : Nat) : Nat := if e < 256 then Obj.EVENT_LAST + e else Obj.EVENT_LAST_HI + (e - 256)

/-- CLOCK_STATE LOCKED (R663). -/
def State.synced (s : State) : Bool := s.get Obj.CLOCK_STATE == 3

/-- An event record (R763). -/
def eventRecord (e : Nat) (lost unsync : Bool) (payload sec ns : Nat) : List Byte :=
  beBytes 2 e ++ beBytes 1 (128 * b2n lost + 64 * b2n unsync) ++ [0] ++ beBytes 4 payload ++
    beBytes 4 (sec % 2 ^ 32) ++ beBytes 4 ns

/-- The event is enabled in the EVENT_MASK in force (R774). -/
def State.eventEnabled (s : State) (e : Nat) : Bool := bitOf (s.ev.maskWas.getD (s.getBlk Obj.EVENT_MASK)) e

/-- The EVENT_ROUTE byte of an event (R766) in force (R774). -/
def State.eventRoute (s : State) (e : Nat) : Byte := (s.ev.routeWas.getD (s.getBlk Obj.EVENT_ROUTE)).getD e 0

/-- A write to EVENT_MASK or EVENT_ROUTE leaves the value before it in force for the present core cycle (R774, R776). -/
def State.keepMask (s : State) (k : Nat) : State :=
  if k = Obj.EVENT_MASK then { s with ev := { s.ev with maskWas := some (s.ev.maskWas.getD (s.getBlk k)) } }
  else if k = Obj.EVENT_ROUTE then { s with ev := { s.ev with routeWas := some (s.ev.routeWas.getD (s.getBlk k)) } }
  else s

/-- The queue of a destination 1 to 3. -/
def State.outQueue (s : State) (dest : Nat) : List OutMessage :=
  if dest = 1 then s.pipe.queueK else if dest = 2 then s.pipe.queue0 else s.pipe.queue1

/-- Sets the queue of a destination. -/
def State.setOutQueue (s : State) (dest : Nat) (q : List OutMessage) : State :=
  if dest = 1 then { s with pipe := { s.pipe with queueK := q } }
  else if dest = 2 then { s with pipe := { s.pipe with queue0 := q } } else { s with pipe := { s.pipe with queue1 := q } }

/-- A record enters the IBI queue, or is dropped when it holds 32 (R768). With an IBI payload below 17 a short IBI becomes due when the queue
goes from empty to holding a record (R769). -/
def State.ibiAdd (s : State) (r : List Byte) : State :=
  if s.ev.ibiQueue.length < 32 then
    let r' := if s.ev.ibiLost then r.set 2 ((r.getD 2 0) ||| 0x80) else r
    { s with
      ev := { s.ev with ibiQueue := s.ev.ibiQueue ++ [r'], ibiLost := false }
      i3c := { s.i3c with ibiShort := s.i3c.ibiShort || (s.ev.ibiQueue.isEmpty && decide (s.i3c.ibiPayload < 17)) } }
  else
    let s := s.count Obj.IBI_DROPS
    { s with ev := { s.ev with ibiLost := true } }

/-- An event is raised: it is handled in the next core cycle (R765). -/
def State.raise (s : State) (e payload : Nat) : State :=
  { s with ev := { s.ev with raised := s.ev.raised ++ [⟨e, payload, !s.synced, s.time.sec, s.time.ns⟩] } }

/-- The limiter of an event and source has stood for 1 ms. -/
def State.limiterFree (s : State) (key : Nat) : Bool :=
  match tabGet (fun _ => none) s.ev.limiter key with
  | none => true
  | some t => reached s.now t (ms 1)

/-- The limiter of an event and source starts. -/
def State.limiterStart (s : State) (key : Nat) : State :=
  { s with ev := { s.ev with limiter := tabPut (fun _ => none) s.ev.limiter key (some s.now) } }

end Sys2Proof.Machine
end

