-- ==== Sys2Proof/Machine/NetOps.lean ====
section
/-! DEFINITION. Sending on the networks (chapter 13): a frame, which waits for its Ethernet port in strict priority (R680), a UDP datagram,
whose next hop must be resolved, and a CAN frame, which waits while the controller is not on the bus. -/

namespace Sys2Proof.Machine

open Sys2Proof

/-- The port runs: its lane L4 or L5 is in FUNCTION and PORT_ENABLE is set (R705). -/
def State.portOn (s : State) (p : Nat) : Bool := s.getB (Obj.PORT_ENABLE + p) && s.get (Obj.LANE_MODE + 4 + p) == 1

/-- The port can send: it runs and its link is up (R678, R684, R705). -/
def State.portUp (s : State) (p : Nat) : Bool := s.portOn p && s.get (Obj.LINK_STATE + p) != 0

/-- An address of 16 bytes that is an IPv4 address in the mapped form (R683). -/
def isV4 (a : Nat) : Bool := a / 2 ^ 32 == 0xFFFF

/-- The first n of `bits` bits of two addresses agree. -/
def samePrefix (bits n a b : Nat) : Bool := a / 2 ^ (bits - n) == b / 2 ^ (bits - n)

/-! ### Addresses (R681) -/

/-- The port's IPv4 address in the mapped form; 0 for none. -/
def State.ownV4 (s : State) (p : Nat) : Nat :=
  let a := s.getN (Obj.IPV4_ADDR + p)
  if a = 0 then 0 else 0xFFFF * 2 ^ 32 + a

/-- The port's IPv6 address; 0 for none. -/
def State.ownV6 (s : State) (p : Nat) : Nat := beNat (s.getBlk (Obj.IPV6_ADDR + p))

/-- The link-local address derived from MAC_ADDR (R681). -/
def State.linkLocal (s : State) (p : Nat) : Nat :=
  let m := s.getN (Obj.MAC_ADDR + p)
  0xFE80 * 2 ^ 112 + (m / 2 ^ 24 ^^^ 0x020000) * 2 ^ 40 + 0xFFFE * 2 ^ 24 + m % 2 ^ 24

/-- The address is one of the port's own. -/
def State.ownAddress (s : State) (p a : Nat) : Bool := a != 0 && (a == s.ownV4 p || a == s.ownV6 p || a == s.linkLocal p)

/-- A group address: IPv4 limited broadcast or multicast, IPv6 multicast. -/
def groupAddress (a : Nat) : Bool :=
  if isV4 a then a % 2 ^ 32 == 0xFFFFFFFF || a % 2 ^ 32 / 2 ^ 28 == 0xE else a / 2 ^ 120 == 0xFF

/-- The address is an IPv6 link-local one, of a host or of a group. -/
def linkScope (a : Nat) : Bool := a / 2 ^ 118 == 0x3FA || a / 2 ^ 112 == 0xFF02

/-- The address that the port sends from to another (R681; PRESUMED, log entry 30): within a link, or without an IPv6 address, the
link-local one. -/
def State.addressFor (s : State) (p dst : Nat) : Nat :=
  if isV4 dst then s.ownV4 p
  else if linkScope dst || s.ownV6 p == 0 then s.linkLocal p
  else s.ownV6 p

/-- The address can be asked for on the link: an IPv4 gateway or neighbour, an IPv6 address of the prefix or of the link (R681). -/
def State.onLink (s : State) (p a : Nat) : Bool :=
  if isV4 a then a % 2 ^ 32 != 0
  else linkScope a || (s.ownV6 p != 0 && samePrefix 128 (s.getN (Obj.IPV6_PREFIX + p)) a (s.ownV6 p))

/-- The next hop of an address on a port: the address itself on the link, or the gateway (R681). An IPv6 destination
off the prefix has no gateway. -/
def State.nextHop (s : State) (p dst : Nat) : Nat :=
  if isV4 dst then
    if samePrefix 32 (s.getN (Obj.IPV4_PREFIX + p)) (dst % 2 ^ 32) (s.getN (Obj.IPV4_ADDR + p)) then dst
    else 0xFFFF * 2 ^ 32 + s.getN (Obj.IPV4_GATEWAY + p)
  else dst

/-- The address is in the cache of the port, or is a group's, which needs no resolution (PRESUMED, log entry 30). -/
def State.isResolved (s : State) (p hop : Nat) : Bool := groupAddress hop || s.net.resolved.any (fun x => x.1 == p && x.2.1 == hop)

/-- A resolution request for the address is running. -/
def State.isAsking (s : State) (p hop : Nat) : Bool := s.net.asking.any (fun x => x.1 == p && x.2.1 == hop)

/-- The port of an Ethernet port number. -/
def ethPort (p : Nat) : Port := if p = 0 then .e0 else .e1

/-- The tag of every frame but gPTP's, when VLAN_ID is not 0: VLAN_PCP and VLAN_ID (R679); 0 for none. -/
def State.vlanTag (s : State) (p : Nat) : Nat :=
  if s.getN (Obj.VLAN_ID + p) = 0 then 0 else s.getN (Obj.VLAN_PCP + p) * 2 ^ 13 + s.getN (Obj.VLAN_ID + p)

/-! ### The egress of the Ethernet ports (R680) -/

/-- The class of a frame, 0 first: gPTP event messages, SAFE_STATUS, KOA responses with ARP and neighbour discovery, and the output queue.
Echo replies and the general messages of gPTP, which R680 does not name, go with the KOA responses (DESIGN CHOICE, log entry 79). -/
def Sent.egressClass (m : Sent) : Fin 4 :=
  match m.kind with
  | .gptp => if beAt m.data 0 1 % 16 < 4 then 0 else 2
  | .safeStatus => 1
  | .koaResponse => 2
  | .arp => 2
  | .icmp => 2
  | _ => 3

/-- A frame is given to its Ethernet port. It begins when the core cycle ends at the earliest (`servePort`). -/
def State.transmit (s : State) (p : Nat) (m : Sent) : State :=
  { s with net := { s.net with egress := s.net.egress ++ [⟨p, m.egressClass, m⟩] } }

/-- The frames that wait for a port. -/
def State.waitingFrames (s : State) (p : Nat) : List EgressFrame := s.net.egress.filter (fun f => f.port == p)

/-- No frame is on the wire of a port. -/
def State.wireIdle (s : State) (p : Nat) : Bool := decide (tabGet (fun _ => 0) s.net.wire p ≤ s.now)

/-- What an IP packet has around its payload, in octets: IPv4 or IPv6, and UDP or ICMP. -/
def ipOctets (dst : Nat) : Nat := if isV4 dst then 28 else 48

/-- The octets of a frame from its MAC header to its FCS, at least 64 (R679; IEEE 802.3, PRESUMED in log entry 30). -/
def Sent.octets (m : Sent) : Nat :=
  let tag := match m.head with | .eth h => if h.tag = 0 then 0 else 4 | _ => 0
  let body := match m.kind with
    | .gptp => m.data.length
    | .arp => if isV4 m.dst then 28 else 72
    | _ => ipOctets m.dst + m.data.length
  max 64 (18 + tag + body)

/-- The time of an octet at a LINK_STATE, in ps (R678). -/
def octetTime (link : Nat) : Nat := match link with | 2 => 3200 | 3 => 1600 | 4 => 800 | _ => 8000

/-- How long a frame keeps its port in core cycles: its octets with preamble and gap. -/
def State.wireTime (s : State) (p : Nat) (m : Sent) : Nat := ((m.octets + 20) * octetTime (s.getN (Obj.LINK_STATE + p)) + 999) / 1000

/-- The frame that a port takes next: the oldest of the first class that waits (R680). -/
def State.nextFrame (s : State) (p : Nat) : Option EgressFrame :=
  ([0, 1, 2, 3] : List (Fin 4)).findSome? (fun c => (s.waitingFrames p).find? (fun f => f.cls == c))

/-- A frame begins: it leaves its queue for the wire, and no other begins before it has ended (R680). -/
def State.beginFrame (s : State) (f : EgressFrame) : State :=
  ({ s with net := { s.net with
    egress := s.net.egress.erase f
    wire := tabPut (fun _ => 0) s.net.wire f.port (s.now + s.wireTime f.port f.msg) } }.count (Obj.TX_FRAMES + f.port)).send f.msg

/-- A port that is free begins its next frame; on a port that is down nothing leaves, and what waits is discarded (DESIGN CHOICE, log
entry 79). -/
def State.servePort (s : State) (p : Nat) : State :=
  if !s.portUp p then { s with net := { s.net with egress := s.net.egress.filter (fun f => f.port != p) } }
  else if s.wireIdle p then (match s.nextFrame p with | some f => s.beginFrame f | none => s)
  else s

/-- Both ports, as the core cycle ends. -/
def State.servePorts (s : State) : State := (s.servePort 0).servePort 1

/-- The sum of 16-bit words of a checksum. -/
def wordSum : List Byte → Nat
  | a :: b :: l => a.toNat * 256 + b.toNat + wordSum l
  | [a] => a.toNat * 256
  | [] => 0

/-- A sum of 16-bit words in ones' complement, by its number of carries. -/
def foldCarry (n : Nat) : Nat := if n = 0 then 0 else (n - 1) % 65535 + 1

/-- An address as the bytes of its IP version. -/
def ipBytes (a : Nat) : List Byte := if isV4 a then beBytes 4 (a % 2 ^ 32) else beBytes 16 a

/-- The UDP checksum over the pseudo-header, the UDP header and the data (R681). -/
def udpChecksum (src dst sport dport : Nat) (data : List Byte) : Nat :=
  let n := 8 + data.length
  let sum := wordSum (ipBytes src ++ ipBytes dst) + 17 + n + sport + dport + n + wordSum data
  if foldCarry sum = 65535 then 65535 else 65535 - foldCarry sum

/-- A frame of address resolution: ARP or neighbour discovery. -/
def State.resolveFrame (s : State) (p dst : Nat) : Sent :=
  ⟨ethPort p, .arp, dst, 0, beBytes 16 dst, .eth ⟨s.vlanTag p, s.addressFor p dst, false, 0, 0, 0⟩⟩

/-- A resolution request leaves: ARP, or neighbour discovery (R681). -/
def State.sendResolve (s : State) (p hop : Nat) : State := if s.onLink p hop then s.transmit p (s.resolveFrame p hop) else s

/-- A datagram with an unresolved next hop is discarded; a request leaves at once, and event 0x127 is raised at the
first discard for the address (R682). -/
def State.unresolved (s : State) (p hop : Nat) : State :=
  let s := s.count (Obj.UNRESOLVED_DROPS + p)
  if s.isAsking p hop then s
  else
    let s := { s with net := { s.net with asking := s.net.asking ++ [(p, hop, s.now)] } }
    (s.sendResolve p hop).raise 0x127 0

/-- The frame of a datagram, or of an echo reply, which has no UDP header. -/
def State.udpFrame (s : State) (p src dscp dst dport : Nat) (kind : SentKind) (data : List Byte) : Sent :=
  let own := s.addressFor p dst
  let sum := if kind = .icmp then 0 else udpChecksum own dst src dport data
  ⟨ethPort p, kind, dst, dport, data, .eth ⟨s.vlanTag p, own, isV4 dst, src, dscp, sum⟩⟩

/-- A datagram can leave: it has a destination and its next hop is resolved. -/
def State.canSend (s : State) (p dst : Nat) : Bool := dst != 0 && s.portUp p && s.isResolved p (s.nextHop p dst)

/-- A datagram leaves port p (0 E0, 1 E1) with a source port and a DSCP. An all-zero destination is none (log entry 9); on a port that is
down nothing leaves. -/
def State.sendUdpFrom (s : State) (p src dscp dst dport : Nat) (kind : SentKind) (data : List Byte) : State :=
  if dst == 0 || !s.portUp p then s
  else if s.isResolved p (s.nextHop p dst) then s.transmit p (s.udpFrame p src dscp dst dport kind data)
  else s.unresolved p (s.nextHop p dst)

/-- The source port of what the device sends besides its streams, for which the spec states none but KOA's (DESIGN CHOICE, log entry 9). -/
def State.sourcePort (s : State) (kind : SentKind) (dport : Nat) : Nat := if kind = .koaResponse then s.getN Obj.KOA_UDP_PORT else dport

/-- A datagram that is none of a stream leaves, with DSCP 0. -/
def State.sendUdp (s : State) (p dst dport : Nat) (kind : SentKind) (data : List Byte) : State :=
  s.sendUdpFrom p (s.sourcePort kind dport) 0 dst dport kind data

/-- The CAN controller can send: it is on the bus and not bus-off (R688, R689). -/
def State.canUp (s : State) : Bool :=
  !s.net.canOff && (s.get Obj.CAN_STATE == 1 || s.get Obj.CAN_STATE == 2)

/-- What the controller puts around a payload: CAN XL in mode 1, with the SDT and VCID of the objects and an acceptance field of 0, else
CAN FD (R686, R687). -/
def State.canHead (s : State) : Head :=
  .can (if s.get Obj.CAN_MODE = 1 then ⟨true, s.getN Obj.CAN_XL_SDT, s.getN Obj.CAN_XL_VCID, 0⟩ else ⟨false, 0, 0, 0⟩)

/-- A CAN frame is queued, and leaves at once when the controller can send; with CAN_MODE 0 there is no controller. -/
def State.sendCan (s : State) (id : Nat) (kind : SentKind) (data : List Byte) : State :=
  if s.get Obj.CAN_MODE = 0 then s
  else if s.canUp && s.net.canQueue.isEmpty then s.send ⟨.can, kind, id, 0, data, s.canHead⟩
  else { s with net := { s.net with canQueue := s.net.canQueue ++ [⟨id, kind, data, s.now⟩] } }

/-- The queued CAN frames leave when the controller can send. -/
def State.drainCan (s : State) : State :=
  if s.canUp then
    s.net.canQueue.foldl (fun s f => s.send ⟨.can, f.kind, f.id, 0, f.data, s.canHead⟩) { s with net := { s.net with canQueue := [] } }
  else s

end Sys2Proof.Machine
end

