-- ==== Sys2Proof/Machine/EventOps.lean ====
section
/-! DEFINITION. The event matrix's routes (R765, R771), and the job table (R95 to R104): the operations that every
block uses to report. -/

namespace Sys2Proof.Machine

open Sys2Proof

/-- The datagrams gathered for a port. -/
def State.gathered (s : State) (e1 : Bool) : EventGather := if e1 then s.ev.gatherE1 else s.ev.gatherE0

/-- Sets the datagrams gathered for a port. -/
def State.setGathered (s : State) (e1 : Bool) (g : EventGather) : State :=
  if e1 then { s with ev := { s.ev with gatherE1 := g } } else { s with ev := { s.ev with gatherE0 := g } }

/-- The bytes of an event datagram with an EVSEQ (R771). -/
def eventDatagram (seq : Nat) (records : List (List Byte)) : List Byte :=
  beBytes 2 0x4B45 ++ [0x01] ++ beBytes 1 records.length ++ beBytes 4 seq ++ records.flatten

/-- Gathered records as a message of an output queue: stream 5, at priority 0; its header is made as it leaves (R771). -/
def eventMessage (records : List (List Byte)) : OutMessage := ⟨5, 0, 0, 0, [], records, 0⟩

/-- The event datagram gathered for a port is queued (R771); with nothing gathered nothing happens. -/
def State.flushEvents (s : State) (e1 : Bool) : State :=
  let g := s.gathered e1
  if g.records.isEmpty then s
  else
    let s := s.setGathered e1 { g with records := [] }
    s.setOutQueue (2 + b2n e1) (s.outQueue (2 + b2n e1) ++ [eventMessage g.records])

/-- A record is gathered for a port; the datagram of 64 records is queued at once (R771). -/
def State.gather (s : State) (e1 : Bool) (r : List Byte) : State :=
  let g := s.gathered e1
  let g' : EventGather := { g with records := g.records ++ [r], since := if g.records.isEmpty then s.now else g.since }
  let s := s.setGathered e1 g'
  if 64 ≤ g'.records.length then s.flushEvents e1 else s

/-- The Ethernet routes of an event; datagrams are assembled in DDR5 (R833, R835). -/
def State.gatherRoutes (s : State) (e : Nat) (r : List Byte) : State :=
  if !s.ddrHas ddrQueues then s
  else
    let s := if (s.eventRoute e).getLsbD 2 then s.gather false r else s
    if (s.eventRoute e).getLsbD 3 then s.gather true r else s

/-- A trace record enters the stream (R857); one that the full buffer drops raises event 0x159, at most once per 1 ms (R858). -/
def State.traceSend (s : State) (cls source : Nat) (body : List Byte) : State :=
  let p := s.traceAdd cls source body
  if p.1 && p.2.limiterFree 0x159 then (p.2.limiterStart 0x159).raise 0x159 0 else p.2

/-- The record of a raised event (R763). -/
def RaisedEvent.record (r : RaisedEvent) : List Byte := eventRecord r.event false r.unsync r.payload r.sec r.ns

/-- A raised event is counted and recorded (R765). -/
def State.noteEvent (s : State) (r : RaisedEvent) : State := (s.count (eventCountKey r.event)).setBlk (eventLastKey r.event) r.record

/-- The bit of an event in a word of all of them. -/
def eventBit (e : Nat) : BitVec 384 := BitVec.shiftLeft 1#384 e

/-- The pending bit of an event is set (R765); IRQ_N is low for it while its IRQ_N bit was set as it did so (R767). -/
def State.setPending (s : State) (e : Nat) : State :=
  let irq := s.ev.irq &&& s.ev.pending
  { s with ev := { s.ev with
    pending := s.ev.pending ||| eventBit e
    irq := if (s.eventRoute e).getLsbD 0 then irq ||| eventBit e else irq } }

/-- The record of an enabled event goes to the routes of its EVENT_ROUTE byte: IBI, Ethernet, trace (R765, R766). -/
def State.routeEvent (s : State) (r : RaisedEvent) : State :=
  let route := s.eventRoute r.event
  let s := if route.getLsbD 1 then s.ibiAdd r.record else s
  let s := s.gatherRoutes r.event r.record
  if route.getLsbD 4 then s.traceSend 24 0 r.record else s

/-- A raised event is handled: counted, recorded and, if it is enabled, set pending and sent to its routes (R765). -/
def State.handleEvent (s : State) (r : RaisedEvent) : State :=
  let s := s.noteEvent r
  if s.eventEnabled r.event then (s.setPending r.event).routeEvent r else s

/-- The events raised in the core cycle that is over are handled in ascending number under the mask and routes in force in it; writes of
that cycle to EVENT_MASK and EVENT_ROUTE then come into force (R765, R774 to R776). -/
def State.handleEvents (s : State) : State :=
  let rs := sortBy (fun a b => decide (a.event ≤ b.event)) s.ev.raised
  let s := rs.foldl State.handleEvent { s with ev := { s.ev with raised := [] } }
  { s with ev := { s.ev with maskWas := none, routeWas := none } }

/-- An event that is raised at most once per 1 ms for a source; its limiter's key is the event plus 512 times
the source. -/
def State.raiseLimited (s : State) (e source payload : Nat) : State :=
  if s.limiterFree (e + 512 * source) then (s.limiterStart (e + 512 * source)).raise e payload else s

/-- An event of the return channels (R388): it is raised once for a millisecond, at its end, with the lowest channel or block. DESIGN
CHOICE (log entry 77): the millisecond begins with the first occurrence. -/
def State.raiseLow (s : State) (e c : Nat) : State :=
  let l := s.ev.lows
  let l := if l.any (fun x => x.1 == e) then l.map (fun x => if x.1 = e then (x.1, x.2.1, min x.2.2 c) else x)
    else l ++ [(e, s.now, c)]
  { s with ev := { s.ev with lows := l } }

/-- The events whose millisecond is over are raised (R388). -/
def State.flushLows (s : State) : State :=
  let due := s.ev.lows.filter (fun x => reached s.now x.2.1 (ms 1))
  if due.isEmpty then s
  else due.foldl (fun s x => s.raise x.1 (x.2.2 * 2 ^ 24))
    { s with ev := { s.ev with lows := s.ev.lows.filter (fun x => !reached s.now x.2.1 (ms 1)) } }

/-- The pending bits with a bit of block b set (EVENT_SUMMARY). -/
def eventBlockPending (p : BitVec 384) (b : Nat) : Bool := (p.extractLsb' (32 * b) 32) != 0

/-- EVENT_SUMMARY. -/
def State.eventSummary (s : State) : Nat :=
  (List.range 12).foldl (fun a b => a + b2n (eventBlockPending s.ev.pending b) * 2 ^ b) 0

/-- IRQ_N is driven low: some event is pending that became so while its IRQ_N bit was set (R767); the 1 µs of the output is left out. -/
def State.irqActive (s : State) : Bool := s.ev.irq &&& s.ev.pending != 0

/-! ### Jobs (R95 to R104) -/

/-- The slot of the job table. -/
def State.job (s : State) (slot : Nat) : Job := tabGet (fun _ => Job.free) s.jobs.slots slot

/-- Sets a slot. -/
def State.setJob (s : State) (slot : Nat) (j : Job) : State :=
  { s with jobs := { s.jobs with slots := tabPut (fun _ => Job.free) s.jobs.slots slot j } }

/-- The slots 1 to 16. -/
def jobSlots : List Nat := (List.range 16).map (· + 1)

/-- The lowest FREE slot (R96). -/
def State.freeSlot (s : State) : Option Nat := jobSlots.find? (fun n => (s.job n).state == .free)

/-- The job is RUNNING or WAITING. -/
def Job.live (j : Job) : Bool := j.state == .running || j.state == .waiting

/-- Two resources meet (R97): the SERVICE wipe holds both the parameter log and the banks. -/
def Resource.meets (a b : Resource) : Bool :=
  match a, b with
  | .none, _ => false
  | _, .none => false
  | .logAndBanks, .paramLog => true
  | .logAndBanks, .calBanks => true
  | .paramLog, .logAndBanks => true
  | .calBanks, .logAndBanks => true
  | .calChannels x, .calChannels y => x &&& y != 0
  | .blocksUnderTest x, .blocksUnderTest y => x &&& y != 0
  | a, b => a == b

/-- A calibration job of kind 0x05, 0x06 or 0x07. -/
def JobKind.isCal (k : JobKind) : Bool := k == .calTdc || k == .calThreshold || k == .calOffset

/-- A job that has started before order n holds a resource that meets r, or, for STORE_CAL, a calibration job is
RUNNING or WAITING (R97, R101), one that started after the STORE_CAL included, and a WAITING job holds its resource too (DESIGN CHOICES,
log entry 72). -/
def State.resourceHeld (s : State) (k : JobKind) (r : Resource) (n : Nat) : Bool :=
  jobSlots.any (fun m => (s.job m).live &&
    ((r.meets (s.job m).resource && decide ((s.job m).order < n)) || (k == .storeCal && (s.job m).kind.isCal)))

/-- A job starts in the lowest FREE slot (R96, R97), and joins the round after the job that ran last (R47). The
answer is none when no slot is FREE (R49). -/
def State.startJob (s : State) (kind : JobKind) (origin tag : Nat) (r : Resource) (arg total : Nat) :
    Option (Nat × State) :=
  match s.freeSlot with
  | none => none
  | some slot =>
    let order := s.jobs.started + 1
    let wait := s.resourceHeld kind r order
    let j : Job := ⟨kind, if wait then .waiting else .running, origin, 0, 0, 0, tag, ((s.job slot).seq + 1) % 256, order, r,
      0, 0, [], total, 0, arg, []⟩
    let s := s.setJob slot j
    some (slot, { s with jobs := { s.jobs with
      round := if wait then s.jobs.round else s.jobs.round ++ [slot], started := order } })

/-- The handle of a slot (R85). -/
def State.jobHandle (s : State) (slot : Nat) : List Byte := beBytes 1 slot ++ beBytes 1 (s.job slot).seq

/-- Waiting jobs whose resource is free become RUNNING, in the order in which they started (R97). -/
def State.resumeWaiting (s : State) : State :=
  let waiting := sortBy (fun a b => decide ((s.job a).order ≤ (s.job b).order))
    (jobSlots.filter (fun n => (s.job n).state == .waiting))
  waiting.foldl (fun s n =>
    if s.resourceHeld (s.job n).kind (s.job n).resource (s.job n).order then s
    else
      let s := s.setJob n { s.job n with state := .running }
      { s with jobs := { s.jobs with round := s.jobs.round ++ [n] } }) s

/-- A job finishes: its slot keeps the result for 10 s (R98), the event of R103 carries the slot number and SEQ,
and waiting jobs are looked at again. -/
def State.finishJob (s : State) (slot : Nat) (st : JobState) (result : Nat) : State :=
  let j := s.job slot
  let s := s.setJob slot { j with
    state := st, result := result, progress := if st == .done then 100 else j.progress, finishedAt := s.now, records := [] }
  let s := { s with jobs := { s.jobs with round := s.jobs.round.filter (· != slot) } }
  let e := if st == .done then 0x160 else if st == .failed then 0x161 else 0x162
  (s.raise e (slot * 2 ^ 24 + j.seq * 2 ^ 16)).resumeWaiting

end Sys2Proof.Machine
end

