-- ==== Sys2Proof/Machine/LaneOps.lean ====
section
/-! DEFINITION. Bonds and frames of the Kelzar Lane Protocol: what every sender on L0 to L3 and L6 to L7 uses (R710 to R724), the scrambler (R710) and
PRBS31 (R734). -/

namespace Sys2Proof.Machine

open Sys2Proof

/-- What is kept of a lane. -/
def State.lane (s : State) (n : Nat) : Lane := tabGet (fun _ => Lane.init) s.lanes.units n

/-- Sets a lane. -/
def State.setLane (s : State) (n : Nat) (x : Lane) : State :=
  { s with lanes := { s.lanes with units := tabPut (fun _ => Lane.init) s.lanes.units n x } }

/-- The bond: 0 KLP, 1 Farlu. -/
def State.bond (s : State) (b : Nat) : Bond := if b = 0 then s.lanes.klp else s.lanes.farlu

/-- Sets a bond. -/
def State.setBond (s : State) (b : Nat) (x : Bond) : State :=
  if b = 0 then { s with lanes := { s.lanes with klp := x } } else { s with lanes := { s.lanes with farlu := x } }

/-- BOND_STATE. -/
def State.bondState (s : State) (b : Nat) : Nat := s.getN (Obj.BOND_STATE + b)

/-- The bond carries frames: it is FULL or DEGRADED (R722, R727). -/
def State.bondUp (s : State) (b : Nat) : Bool := decide (2 ≤ s.bondState b)

/-- The lanes of a bond: L0 upward, or L6 and L7 (R704). -/
def State.bondLanes (s : State) (b : Nat) : List Nat := if b = 0 then List.range (s.getN Obj.KLP_WIDTH) else [6, 7]

/-- The lane's number in its bond's maps (R712). -/
def mapBit (n : Nat) : Nat := if n < 6 then n else n - 6

/-- A lane is in a map. -/
def inMap (map n : Nat) : Bool := natBit map (mapBit n)

/-- The map of a list of lanes. -/
def mapOf (ns : List Nat) : Nat := ns.foldl (fun a n => a ||| 2 ^ mapBit n) 0

/-- The active lanes: BOND_ACTIVE. -/
def State.activeMap (s : State) (b : Nat) : Nat := s.getN (Obj.BOND_ACTIVE + b)

/-- The active lanes of a bond. -/
def State.activeLanes (s : State) (b : Nat) : List Nat := (s.bondLanes b).filter (fun n => inMap (s.activeMap b) n)

/-- A column's time in 1/100 ns: 66 bits at the bond's rate (R707). -/
def State.columnTime (s : State) (b : Nat) : Nat :=
  match s.getN (Obj.BOND_RATE + b) with
  | 0 => 528 | 1 => 640 | _ => 1056

/-- The bytes of a frame padded to whole blocks, and how many were added (R718). -/
def padBlocks (bs : List Byte) : List Byte × Nat :=
  let pad := (8 - bs.length % 8) % 8
  (bs ++ fill pad 0, pad)

/-- The header of a frame with its CRC-8 (R718). -/
def frameHeader (type stream fseq length : Nat) : List Byte :=
  let h := beBytes 1 type ++ beBytes 1 stream ++ beBytes 2 fseq ++ beBytes 3 length
  h ++ [crc8 h]

/-- The bytes of a frame between START and END: header, payload and CRC-32, padded; END carries the number of pad bytes. -/
def frameBytes (type stream fseq : Nat) (payload : List Byte) : List Byte :=
  (padBlocks (frameHeader type stream fseq payload.length ++ payload ++ beBytes 4 (crc32 payload))).1

/-! ### Blocks and columns (R712 to R714) -/

/-- A FILL block. -/
def fillBlock : FrameBlock := ⟨2#2, [0x11, 0, 0, 0, 0, 0, 0, 0]⟩

/-- A START block. -/
def startBlock : FrameBlock := ⟨2#2, [0x22, 0, 0, 0, 0, 0, 0, 0]⟩

/-- An END block with its two fields. -/
def endBlock (abort : Bool) (pad : Nat) : FrameBlock := ⟨2#2, [0x44, (BitVec.ofBool abort).setWidth 8 <<< 7 ||| BitVec.ofNat 8 pad, 0, 0, 0, 0, 0, 0]⟩

/-- The block is a FILL block. -/
def isFill (x : FrameBlock) : Bool := x.header == 2#2 && beAt x.bytes 0 1 == 0x11

/-- Bytes as data blocks, with a bound on their number. -/
def dataBlocks : Nat → List Byte → List FrameBlock
  | 0, _ => []
  | fuel + 1, bs => if bs.isEmpty then [] else ⟨1#2, bs.take 8⟩ :: dataBlocks fuel (bs.drop 8)

/-- The pad bytes of a frame's bytes (R718). -/
def padOf (bytes : List Byte) : Nat := bytes.length - (12 + beAt bytes 4 3)

/-- The blocks of a frame (R718). -/
def frameBlocks (bytes : List Byte) : List FrameBlock :=
  startBlock :: dataBlocks bytes.length bytes ++ [endBlock false (padOf bytes)]

/-- Blocks dealt into columns of w lanes, with a bound on their number; FILL blocks complete the last (R713). -/
def dealColumns (w : Nat) : Nat → List FrameBlock → List (List FrameBlock)
  | 0, _ => []
  | fuel + 1, bs =>
    if bs.isEmpty then []
    else (bs.take w ++ List.replicate (w - bs.length) fillBlock) :: dealColumns w fuel (bs.drop w)

/-- A whole FILL column. -/
def fillColumn (w : Nat) : List FrameBlock := List.replicate w fillBlock

/-- The columns that carry a frame on w lanes (R713). -/
def frameColumns (w : Nat) (bytes : List Byte) : List (List FrameBlock) := dealColumns w (bytes.length + 2) (frameBlocks bytes)

/-- How long a frame of trace takes on its one lane, in core cycles: its blocks and a FILL block in each 1,024. -/
def State.traceCycles (s : State) (bytes : List Byte) : Nat :=
  let n := bytes.length / 8 + 2
  ((n + n / 1023) * s.columnTime 0 + 99) / 100

/-- The port of a bond. -/
def bondPort (b : Nat) : Port := if b = 0 then .klp else .farlu

/-- Frames that have not left whole. -/
def State.unsentFrames (s : State) (b : Nat) : List TxFrame := (s.bond b).frames

/-- A frame is given to a bond: it follows the frames before it, with the bond's next FSEQ (R718). The message that it carries stays in the
output queue until the frame has left (R724). -/
def State.sendFrame (s : State) (b type stream : Nat) (kind : SentKind) (payload : List Byte) (msg : Option OutMessage) : State :=
  let x := s.bond b
  s.setBond b { x with
    fseq := (x.fseq + 1) % 65536, frames := x.frames ++ [⟨kind, frameBytes type stream x.fseq payload, 0, msg⟩] }

/-- A control column joins those that wait to leave. -/
def State.addControl (s : State) (b : Nat) (c : ControlColumn) : State :=
  s.setBond b { s.bond b with control := (s.bond b).control ++ [c] }

/-- The END block with ABORT set, as a column on some lanes (R713, R724). -/
def abortColumn (lanes : List Nat) : ControlColumn := lanes.zip (endBlock true 0 :: fillColumn (lanes.length - 1))

/-- The set of lanes has changed: the frame in progress ends with ABORT and is sent again whole with the same FSEQ; each resend
counts in RETRANSMITS. A change between two frames aborts none (R724, R742). With no lane left the frames wait as they are (R727). -/
def State.resend (s : State) (b : Nat) : State :=
  if (s.activeLanes b).isEmpty then s
  else match s.unsentFrames b with
    | f :: rest =>
      if 0 < f.next then
        ((s.setBond b { s.bond b with frames := { f with next := 0 } :: rest }).addControl b (abortColumn (s.activeLanes b))).count
          (Obj.RETRANSMITS + b)
      else s
    | [] => s

/-! ### Scrambling (R710) and PRBS31 (R734) -/

/-- The bits of bytes as they are sent, the least significant of each byte first (PRESUMED, log entry 33). -/
def payloadBits (bs : List Byte) : List Bool := bs.flatMap (fun x => (List.range 8).map x.getLsbD)

/-- Bits as bytes. -/
def bitsBytes : List Bool → List Byte
  | a :: b :: c :: d :: e :: f :: g :: h :: rest => boolsByte [a, b, c, d, e, f, g, h] :: bitsBytes rest
  | _ => []
where
  /-- Eight bits as a byte, the first the least significant. -/
  boolsByte (l : List Bool) : Byte := BitVec.ofNat 8 (l.foldr (fun x n => 2 * n + x.toNat) 0)

/-- The self-synchronising scrambler x^58 + x^39 + 1 over its last 58 output bits. -/
def scramble : Nat → List Bool → List Bool × Nat
  | st, [] => ([], st)
  | st, x :: xs =>
    let o := x ^^ st.testBit 57 ^^ st.testBit 38
    let r := scramble ((2 * st + o.toNat) % 2 ^ 58) xs
    (o :: r.1, r.2)

/-- The descrambler over its last 58 input bits. -/
def descramble : Nat → List Bool → List Bool × Nat
  | st, [] => ([], st)
  | st, x :: xs =>
    let o := x ^^ st.testBit 57 ^^ st.testBit 38
    let r := descramble ((2 * st + x.toNat) % 2 ^ 58) xs
    (o :: r.1, r.2)

/-- The next bit of PRBS31, x^31 + x^28 + 1, after its last 31. -/
def prbsNext (st : Nat) : Bool := st.testBit 30 ^^ st.testBit 27

/-- The last 31 bits with a further one. -/
def prbsShift (st : Nat) (x : Bool) : Nat := (2 * st + x.toNat) % 2 ^ 31

/-- n bits of PRBS31. -/
def prbsRun : Nat → Nat → List Bool × Nat
  | 0, st => ([], st)
  | n + 1, st => let x := prbsNext st; let r := prbsRun n (prbsShift st x); (x :: r.1, r.2)

/-- 66 bits on a lane: those of the sync header, and those of the payload. -/
def wireBits (x : FrameBlock) : List Bool := x.header.getLsbD 1 :: x.header.getLsbD 0 :: payloadBits x.bytes

/-- 66 bits as the header and the payload that they are on a lane. -/
def wireBlock : List Bool → FrameBlock
  | a :: b :: rest => ⟨BitVec.ofBool a ++ BitVec.ofBool b, bitsBytes rest⟩
  | _ => ⟨0, []⟩

end Sys2Proof.Machine
end

