-- ==== Sys2Proof/Machine/Position.lean ====
section
/-! DEFINITION. Scan position: the line of an axis, its prediction at an instant, what is published, and the
linearisation table (R137 to R139, R159 to R164). Instants are in taps of 1/64 ns, positions unwrapped in tu. -/

namespace Sys2Proof.Machine

open Sys2Proof

/-- 2^32 tu are one revolution or one oscillation cycle (R10). -/
def revTu : Int := 4294967296

/-- The axis: 0 A, 1 B. -/
def State.axis (s : State) (a : Nat) : Axis := if a = 0 then s.crank.axisA else s.crank.axisB

/-- Sets an axis. -/
def State.setAxis (s : State) (a : Nat) (x : Axis) : State :=
  if a = 0 then { s with crank := { s.crank with axisA := x } } else { s with crank := { s.crank with axisB := x } }

/-- AXIS_MODE of an axis: 0 OFF, 1 ENCODER, 2 RESONANT, 3 VIRTUAL (R123). -/
def State.axisMode (s : State) (a : Nat) : Nat := s.getN (Obj.AXIS_MODE + a)

/-- The cue axis (R127). -/
def State.cueAxis (s : State) : Nat := s.getN Obj.CUE_AXIS

/-- Edges per revolution E (R123). -/
def State.edgesPerRev (s : State) (a : Nat) : Nat :=
  match s.axisMode a with
  | 1 => if s.getN (Obj.ENC_FORMAT + a) = 0 then 4 * s.getN (Obj.ENC_LINES + a) else s.getN (Obj.ENC_LINES + a)
  | 2 => 1
  | _ => 0

/-- The present core cycle in taps. -/
def State.nowTaps (s : State) : Int := 64 * (s.now : Int)

/-- Entry k of the position table of a unit (R367, R586). -/
def State.tapPos (s : State) (unit_ k : Nat) : Nat :=
  let p := tabGet (fun _ => []) (if unit_ < 256 then s.rx.inUse else s.cal.tables) unit_
  if p.isEmpty then 16 * k + 8 else p.getD k 0

/-- The stamp in 1/1,024 ns of a transition of an event input at an instant in taps, by the table in force at its acceptance (R119,
R131, R367, R586). -/
def State.evStamp (s : State) (i t : Nat) : Nat := 1024 * (t / 64 + 1) - s.tapPos (288 + i) (63 - t % 64)

/-- Local time in units of 2^-24 ns (R660). -/
def TimeState.total (t : TimeState) : Nat := (t.sec * 1000000000 + t.ns) * 16777216 + t.frac

/-- Local time at an instant, at the increment in force, in units of 2^-24 ns. -/
def State.localAt (s : State) (t : Int) : Int :=
  (s.time.total : Int) + (t - s.nowTaps) * (s.get Obj.CLOCK_INCREMENT) / 64

/-- Unwrapped position of a VIRTUAL axis from a local time (R163). -/
def virtualPos (period : Nat) (phase : Int) (loc : Int) : Int :=
  if period = 0 then 0 else (loc - phase * 16777216) * revTu / ((period : Int) * 16777216)

/-- The position that the line of an axis reaches at an instant in 1/1,024 ns (R137). -/
def AxisCore.lineAt (c : AxisCore) (t : Int) : Int :=
  (c.pSum * c.vDen + c.vNum * (c.n * t - c.tSum)) / ((c.n : Int) * c.vDen)

/-- The predicted unwrapped position of an axis at an instant: the line, or local time on a VIRTUAL axis. On a RESONANT
axis this is the phase. An OFF axis stands at 0. -/
def State.predict (s : State) (a : Nat) (t : Int) : Int :=
  match s.axisMode a with
  | 0 => 0
  | 3 => virtualPos (s.axis a).vPeriod (s.axis a).vPhase (s.localAt t)
  | _ => (s.axis a).core.lineAt (16 * t)

/-- The published position of the axis is never lowered: the cue axis (R139), and a VIRTUAL axis (R164). -/
def State.monotone (s : State) (a : Nat) : Bool := a == s.cueAxis || s.axisMode a == 3

/-- The published unwrapped position now: it is not lowered on the cue axis or a VIRTUAL axis (R139, R164). -/
def State.published (s : State) (a : Nat) : Int :=
  let p := s.predict a s.nowTaps
  match (s.axis a).floor_ with
  | some f => if p < f && s.monotone a then f else p
  | none => p

/-- The look-ahead position of an axis, 40 ns ahead (R137). -/
def State.lookAhead (s : State) (a : Nat) : Int := s.predict a (s.nowTaps + 40 * 64)

/-- Entry i of a linearisation table; an empty list is the default table. -/
def linEntry (tab : List Byte) (i : Nat) : Nat :=
  if tab.isEmpty then (i % 4096) * 0x100000 else beAt tab (4 * (i % 4096)) 4

/-- The linearised position of a phase (R160): the difference is signed modulo 2^32, the product rounds toward zero. -/
def linPosition (tab : List Byte) (phi : Nat) : Nat :=
  let i := phi / 0x100000
  let f := phi % 0x100000
  let d := signed 32 (unsigned 32 ((linEntry tab (i + 1) : Int) - (linEntry tab i : Int)))
  unsigned 32 ((linEntry tab i : Int) + Int.tdiv (d * (f : Int)) 0x100000)

/-- The wrapped position that records carry: linearised on a RESONANT axis (R161). -/
def State.wrapped (s : State) (a : Nat) (p : Int) : Nat :=
  let w := unsigned 32 p
  if s.axisMode a = 2 then linPosition (s.axis a).lin w else w

/-- POSITION (R138, R139). -/
def State.position (s : State) (a : Nat) : Nat := s.wrapped a (s.published a)

/-- SPEED: 16.16 of tu/ns. -/
def State.speedRaw (s : State) (a : Nat) : Int :=
  match s.axisMode a with
  | 0 => 0
  | 3 =>
    if (s.axis a).vPeriod = 0 then 0
    else clampInt (-2147483648) 2147483647
      (divRound (revTu * 65536 * s.get Obj.CLOCK_INCREMENT) (((s.axis a).vPeriod : Int) * 16777216))
  | _ => clampInt (-2147483648) 2147483647 (divRound ((s.axis a).core.vNum * 1024 * 65536) ((s.axis a).core.vDen : Int))

/-- FREEWHEEL_TIME in whole µs: running in FREEWHEEL, held otherwise (R152). -/
def State.freewheelTime (s : State) (a : Nat) : Nat :=
  if (s.axis a).st = .freewheel then (s.now - (s.axis a).fwAt) / 1000 else (s.axis a).fwHeld

/-- The code of AXIS_STATE (R143). -/
def AxisSt.code : AxisSt → Nat
  | .off => 0 | .seek => 1 | .locked => 2 | .freewheel => 3 | .relock => 4 | .stall => 5

/-- FREEWHEEL or RELOCK, which sets the FREEWHEEL flag of a take (R144). -/
def AxisSt.unsure (x : AxisSt) : Bool := x == .freewheel || x == .relock

/-- The start of facet f of axis A (R129). DESIGN CHOICE (log entry 73): where FACETS is no power of two, f × 2^32 / FACETS is
truncated to whole tu. -/
def State.facetStart (s : State) (f : Nat) : Nat :=
  (s.getN Obj.FACET_OFFSET + f * 4294967296 / s.getN Obj.FACETS) % 4294967296

/-- The position from which facet crossings of an axis count: its prediction, linearised on a RESONANT axis (R129, R160). -/
def State.facetBase (s : State) (a : Nat) : Int :=
  if s.axisMode a = 2 then s.wrapped a (s.predict a s.nowTaps) else s.predict a s.nowTaps

/-- The position of axis A that facet starts are crossed by (R129): a RESONANT axis's linearised position swings, and is unwrapped
from what it was a core cycle ago. -/
def State.facetPos (s : State) : Int :=
  if s.axisMode 0 = 2 then (s.axis 0).swing + signed 32 (unsigned 32 ((s.position 0 : Int) - (s.axis 0).swing))
  else s.published 0

/-- Axis A lies inside the turnaround of some facet (R224). -/
def State.inTurnaround (s : State) : Bool :=
  (List.range (s.getN Obj.FACETS)).any (fun f =>
    decide ((s.position 0 + 4294967296 - s.facetStart f) % 4294967296 < s.getN Obj.TURN_SPAN))

end Sys2Proof.Machine
end

