-- ==== Sys2Proof/Machine/EmitterOps.lean ====
section
/-! DEFINITION. Operations of the emitter interface (chapter 05) that the sequencer and the crank build on: codes and
pulses, banks, column sinks, the chain, and the zone statuses. -/

namespace Sys2Proof.Machine

open Sys2Proof

/-- Groups that exist (R29). -/
def State.groups (s : State) : Nat := s.getN Obj.LISTEN_GROUPS

/-- The trigger gate is open: only in ARMED, and only while the trip latch is clear (R297, R302). -/
def State.gateOpen (s : State) : Bool := s.safety.state == .armed && !s.safety.latch

/-! ### Codes and pulses (R251, R415) -/

/-- The pulse offsets of a code word: the first pulse at 0, then up to three (R415). -/
def codeOffsets (w : Nat) : List Nat :=
  (0 :: [field w 24 6, field w 18 6, field w 12 6]).take (field w 30 2 + 1)

/-- The offsets of code c of a family. -/
def familyOffsets (fam : List Byte) (c : Nat) : List Nat := codeOffsets (beAt fam (4 * c) 4)

/-- A pulse width of 1 ns + w × 250 ps, in taps (R251). -/
def widthTaps (w : Nat) : Nat := 64 + 16 * w

/-- EMIT_MODE is MATRIX (R246). -/
def State.matrixMode (s : State) : Bool := s.getN Obj.EMIT_MODE == 1

/-- The TRIG output of a zone: the zone itself, or its row (R245, R246). -/
def State.trigOf (s : State) (z : Nat) : Nat := if s.matrixMode then z / 32 else z % 32

/-- The column of a zone: the sink of its TRIG output, or the column of the matrix (R248). -/
def columnOf (z : Nat) : Nat := z % 32

/-- The zone lies in the bank of the group (R247). -/
def State.inBank (s : State) (g z : Nat) : Bool :=
  decide (g < s.groups) && decide (z < 1024) && (s.matrixMode || decide (z < 32)) &&
    decide (s.trigOf z / (32 / s.groups) = g)

/-- The fall of the last pulse of a take (R251). -/
def Take.lastFall (t : Take) : Int := t.trig + 64 * ((t.pulses.getLast?.getD 0 : Nat) : Int) + t.width

/-- The matrix interval of a take with a decision in cycle t_d (R256, R257). -/
def State.matrixOf (s : State) (t : Take) (td : Int) : MatrixInterval :=
  let start := t.trig - 64 * s.get Obj.PRECHARGE
  ⟨t.zone / 32, t.zone % 32, if start < td + 64 then td + 64 else start, t.lastFall + 128⟩

/-! ### Pulse spacing (R252) -/

/-- The minimum pulse spacing of a group in quarter ns: the largest width of its TRIG outputs plus PULSE_GAP. -/
def State.minSpacing (s : State) (g : Nat) : Nat :=
  let n := 32 / s.groups
  ((List.range n).map (fun i => 4 + s.getN (Obj.TRIG_WIDTH + g * n + i))).foldl max 0 + 4 * s.getN (Obj.PULSE_GAP + g)

/-- Two offsets of a code lie closer than a spacing in quarter ns. -/
def tooClosePulses (q : Nat) : List Nat → Bool
  | [] => false
  | o :: os => os.any (fun p => decide (4 * ((p : Int) - (o : Int)).natAbs < q)) || tooClosePulses q os

/-- Every code of a family keeps the minimum pulse spacing of every existing group (R252). -/
def State.spacingOk (s : State) (fam : List Byte) : Bool :=
  let q := ((List.range s.groups).map (fun g => s.minSpacing g)).foldl max 0
  (List.range 64).all (fun c => !tooClosePulses q (familyOffsets fam c))

/-! ### Zones (R250, R277 to R281) -/

/-- What the diagnostics hold of a zone. -/
def State.zone (s : State) (z : Nat) : ZoneDiag := tabGet (fun _ => ZoneDiag.init) s.emit.zones z

/-- Sets a zone. -/
def State.setZone (s : State) (z : Nat) (x : ZoneDiag) : State :=
  { s with emit := { s.emit with zones := tabPut (fun _ => ZoneDiag.init) s.emit.zones z x } }

/-- The zone is enabled in ZONE_ENABLE (R250). -/
def State.zoneEnabled (s : State) (z : Nat) : Bool := bitOf (s.getBlk Obj.ZONE_ENABLE) z

/-- A latched SHORT verdict inhibits the zone (R278). -/
def ZoneDiag.inhibited (d : ZoneDiag) : Bool := d.latched && (d.status == 4 || d.status == 5)

/-- A take of the zone drives no pin: disabled or inhibited (R250). -/
def State.zoneDisabled (s : State) (z : Nat) : Bool := !s.zoneEnabled z || (s.zone z).inhibited

/-- The byte of ZONE_DIAG of a zone (R281): a disabled zone reads DISABLED and is not due (R292). -/
def State.zoneByte (s : State) (z : Nat) : Byte :=
  let d := s.zone z
  let on := s.zoneEnabled z
  BitVec.ofNat 8 (128 * b2n d.latched + 64 * b2n d.covered + 32 * b2n (d.due && on) + (if on then d.status else 6))

/-- The zones whose coverage is judged: every enabled one (R280). -/
def State.coverageZones (s : State) : List Nat := (List.range 1024).filter (fun z => s.zoneEnabled z)

/-- The zones that wait for a diagnostic pulse: DUE, and not served in the running interval (R227; DESIGN CHOICE, log entry 75). -/
def State.waitingZones (s : State) : List Nat := s.coverageZones.filter (fun z => (s.zone z).due && !(s.zone z).served)

/-- A turnaround ends: each due zone that was not served in it is counted and reported, and stays due (R227). A SHADOW inserts no
pulses, and counts none. -/
def State.endTurnaround (s : State) : State :=
  match s.seq.turnAt with
  | some _ =>
    let n := if s.pair.role == .shadow || s.pair.role == .pairing then 0 else s.waitingZones.length
    let s := { s with seq := { s.seq with turnAt := none } }
    (List.range n).foldl (fun s _ => (s.count Obj.DIAG_DEFERRED).raise 0x04A 0) s
  | none => s

/-- A facet start begins a turnaround, unless TURN_SPAN is 0, and ends one that still runs (R224, R227). -/
def State.beginTurnaround (s : State) : State :=
  let s := s.endTurnaround
  { s with seq := { s.seq with turnAt := if s.getN Obj.TURN_SPAN = 0 then none else some s.now, turnServed := 0 } }

/-- ZONE_DIAG. -/
def State.zoneDiagBlock (s : State) : List Byte := (List.range 1024).map (fun z => s.zoneByte z)

/-! ### Column sinks (R259 to R261) -/

/-- A column. -/
def State.column (s : State) (c : Nat) : Column := tabGet (fun _ => Column.init) s.emit.columns c

/-- Sets a column. -/
def State.setColumn (s : State) (c : Nat) (x : Column) : State :=
  { s with emit := { s.emit with columns := tabPut (fun _ => Column.init) s.emit.columns c x } }

/-- ENERGY_SOURCE is SINK, CHAIN or FIXED (R248). -/
def State.energySource (s : State) : Nat := s.getN Obj.ENERGY_SOURCE

/-- The energy step of a running range-offset sweep at which the takes of a group fire, if it covers the group (R602). -/
def State.sweepStep (s : State) (g : Nat) : Option Nat := if s.cal.stepGroups.contains g then s.cal.stepNow else none

/-- The energy step that a take of a group fires at: that of its cue, or of a running range-offset sweep (R602). -/
def State.energyStep (s : State) (g : Nat) (step : Nat) : Nat := (s.sweepStep g).getD step

/-- The first active entry with a property from the next-cue pointer on, in list order and wrapping (R260, R265); a void one has no
content (R826). -/
def State.nextEntry (s : State) (p : Cue → Bool) : Option Cue :=
  let l := s.seq.active.zipIdx
  ((l.drop s.seq.next ++ l.take s.seq.next).find? (fun e => !s.seq.void_.contains e.2 && p e.1)).map (·.1)

/-- The decided take or diagnostic pulse with a property that fires next. -/
def State.nextDecided (s : State) (p : Take → Bool) : Option Take :=
  (sortBy (fun a b : Take => decide (a.trig ≤ b.trig))
    ((s.seq.takes ++ s.seq.diags).filter (fun t => t.drives && !t.issued && p t))).head?

/-- The step of the next take that will use a column (R260): of the next decided take that has not fired, else of the next entry whose
zone drives its pins (R250); 0 when no entry uses the column. -/
def State.columnStep (s : State) (c : Nat) : Nat :=
  match s.nextDecided (fun t => columnOf t.zone == c) with
  | some t => t.energy
  | none => match s.nextEntry (fun e => columnOf e.zone.toNat == c && !s.zoneDisabled e.zone.toNat) with
    | some e => s.energyStep e.lg.toNat e.energy.toNat
    | none => 0

/-- The effective column setting C (R259). -/
def State.columnSetting (s : State) (c : Nat) : Int := clampInt 1 255 (s.get (Obj.COL_SINK + c) + s.get (Obj.COL_TRIM + c))

/-- The current of a column's sink at a step as G_s × C, in units of 50 mA / 65,025 (R259). -/
def State.columnDrive (s : State) (c step : Nat) : Nat := s.getN (Obj.COL_SINK_GLOBAL + step) * (s.columnSetting c).toNat

/-- A column's recharge at a step starts at an instant and runs for COL_CHARGE_TIME at the current of its start (R260, R294). -/
def State.recharge (s : State) (c : Nat) (from_ : Int) (step : Nat) : State :=
  if s.energySource = 0 then
    s.setColumn c ⟨step, s.columnSetting c, s.columnDrive c step, none, some (from_ + 64 * s.get Obj.COL_CHARGE_TIME)⟩
  else s

/-- A column's recharge will start at an instant (R260). -/
def State.rechargeAt (s : State) (c : Nat) (from_ : Int) : State :=
  if s.energySource = 0 then s.setColumn c { s.column c with startAt := some from_ } else s

/-- The recharges that start in the present core cycle start (R260). -/
def State.beginRecharges (s : State) : State :=
  s.emit.columns.foldl (fun s e => match e.2.startAt with
    | some t => if t < s.nowTaps + 64 then s.recharge e.1 t (s.columnStep e.1) else s
    | none => s) s

/-- A column is enabled: an enabled zone of a bank uses it (R250, R260; DEDUCED, log entry 75). -/
def State.columnEnabled (s : State) (c : Nat) : Bool :=
  (List.range 32).any (fun r => s.zoneEnabled (32 * r + c) && (List.range s.groups).any (fun g => s.inBank g (32 * r + c)))

/-- At entry into ARMED from STOPPED every enabled column charges once at step 0 (R260). -/
def State.chargeColumns (s : State) : State :=
  (List.range 32).foldl (fun s c => if s.columnEnabled c then s.recharge c s.nowTaps 0 else s) s

/-! ### The chain (R263 to R268) -/

/-- The IC word of a step for group g: CHARGE is clamped (R263). -/
def State.chainCharge (s : State) (g step : Nat) : Nat :=
  (clampInt 0 255 (s.get (Obj.CHAIN_CHARGE + step) + s.get (Obj.CHAIN_TRIM + g))).toNat

/-- An IC that has been loaded with nothing. -/
def ChainWord.zero : ChainWord := ⟨0, 0, 0⟩

/-- The IC positions of the chain. -/
def State.chainIcs (s : State) : List Nat := List.range (s.getN Obj.CHAIN_LENGTH)

/-- The words of the ICs as a list, position 0 first. -/
def State.chainWords (s : State) : List ChainWord :=
  s.chainIcs.map (fun i => { tabGet (fun _ => ChainWord.zero) s.emit.words i with seq := s.getN Obj.CHAIN_FRAMES % 256 })

/-- A frame starts when one is requested, none shifts or is still to be latched, and the chain has ICs (R264, R265). While the trigger
gate is closed CHAIN_CLK and CHAIN_DOUT stay low (R283), so the frame starts once it is open (DEDUCED, log entry 75). -/
def State.startFrame (s : State) : State :=
  if s.emit.requested && s.emit.frame.isNone && decide (0 < s.getN Obj.CHAIN_LENGTH) && s.gateOpen then
    { s with emit := { s.emit with requested := false, frame := some ⟨s.chainWords, s.now, s.getN Obj.CHAIN_CLK_DIV, false, none⟩ } }
  else s

/-- A fire decision of group g in CHAIN mode writes the step of the group's next entry, or that of a running range-offset sweep, into the
words of its ICs and requests a frame (R263, R265, R602). -/
def State.requestFrame (s : State) (g : Nat) : State :=
  if s.energySource = 1 then
    let step := ((s.nextEntry (fun c => c.lg.toNat == g)).map (fun c => s.energyStep g c.energy.toNat)).getD 0
    let w := s.chainIcs.foldl (fun t i =>
      if s.getN (Obj.CHAIN_MAP + i) = g then tabPut (fun _ => ChainWord.zero) t i ⟨s.chainCharge g step, step, 0⟩ else t) s.emit.words
    ({ s with emit := { s.emit with words := w, requested := true } }).startFrame
  else s

/-- The 32 bits of a chain word (R263). -/
def ChainWord.bits (w : ChainWord) (pos : Nat) : Nat :=
  let b := w.charge * 2 ^ 24 + w.step * 2 ^ 20 + pos * 2 ^ 16 + w.seq * 2 ^ 8
  b + (crc8 (beBytes 3 (b / 256))).toNat

/-- A word that CHAIN_DIN returned is wrong in CRC, POS or SEQ against the word that was shifted (R268). -/
def badReadback (pos : Nat) (w : ChainWord) (got : Nat) : Bool :=
  (crc8 (beBytes 3 (got / 256))).toNat != got % 256 || field got 16 4 != pos || field got 8 8 != w.seq

/-! ### The energy loop (R273) -/

/-- ENERGY_STATUS follows a write of ENERGY_LOOP (R273): OFF when it is clear. -/
def State.resetEnergyStatus (s : State) : State :=
  let st := if s.getB Obj.ENERGY_LOOP then 1 else 0
  let s := (List.range 4).foldl (fun s g => s.set (Obj.ENERGY_STATUS + g) st) s
  { s with emit := { s.emit with tolerance := [] } }

end Sys2Proof.Machine
end

