-- ==== Sys2Proof/Machine/SeqOps.lean ====
section
/-! DEFINITION. The operations that change the state of the sequencer and close reel sets early, and the end of a
calibration by an event: shared by the crank, the safety island, the pair manager and the sequencer. -/

namespace Sys2Proof.Machine

open Sys2Proof

/-- The code of SEQ_STATE (R199). -/
def SeqState.code : SeqState → Nat
  | .stopped => 0 | .armed => 1 | .running => 2 | .draining => 3

/-- TAKES_IN_FLIGHT: the take records held (R223). -/
def State.inFlight (s : State) : Nat := s.seq.takes.length

/-- The lowest index that no record of a take in flight has, with a bound on the indices looked at (R376; log entry 77). -/
def freeIndex (used : List Nat) : Nat → Nat → Nat
  | 0, n => n
  | fuel + 1, n => if used.contains n then freeIndex used fuel (n + 1) else n

/-- The index of a new take's record (R376). -/
def State.freeTakeSlot (s : State) : Nat := freeIndex (s.seq.takes.map (·.slot)) s.inFlight 0

/-- The sequencer is stopped and no take is in flight (R30, R125). -/
def State.seqIdle (s : State) : Bool := s.seq.state == .stopped && s.inFlight == 0

/-- The channels of group g: the first, and how many (R29). -/
def State.groupChannels (s : State) (g : Nat) : List Nat :=
  if g < s.groups then (List.range (256 / s.groups)).map (· + g * (256 / s.groups)) else []

/-- Changes one set. -/
def State.mapSet (s : State) (id : Nat) (f : ReelSet → ReelSet) : State :=
  { s with hist := { s.hist with sets := s.hist.sets.map (fun r => if r.id == id then f r else r) } }

/-- The open set of a group that still takes takes. -/
def State.openSet (s : State) (g : Nat) : Option ReelSet := s.hist.sets.find? (fun r => r.group == g && !r.closed)

/-- The open reel set of a group closes early (R222): SHORT_REELS increments and event 0x047 is raised. A group with
no open set is left as it is, and so is a set that has reached K (R243). -/
def State.closeEarly (s : State) (g : Nat) : State :=
  if s.hist.sets.any (fun (r : ReelSet) => r.group == g && !r.closed) then
    let s := { s with hist := { s.hist with
      sets := s.hist.sets.map (fun (r : ReelSet) => if r.group == g && !r.closed then { r with closed := true } else r) } }
    (s.count Obj.SHORT_REELS).raise 0x047 0
  else s

/-- The open reel set of a group closes early once the window of its last take has ended (R202). -/
def State.closeAfterWindow (s : State) (g : Nat) : State :=
  match s.openSet g with
  | some r => if r.open_ = 0 then s.closeEarly g else s.mapSet r.id (fun r => { r with closing := true })
  | none => s

/-- Every group's open reel set closes early once the window of its last take has ended (R202). -/
def State.closeAllEarly (s : State) : State := (List.range 4).foldl (fun s g => s.closeAfterWindow g) s

/-- The window of a take of a set has ended: a set that waited for it closes early (R202). -/
def State.closeIfDue (s : State) (g : Nat) : State :=
  match s.openSet g with
  | some r => if r.closing && r.open_ == 0 then s.closeEarly g else s
  | none => s

/-- The pseudo unit of a RANGE_OFFSET run, whose channels are taken all together (R608). -/
def rangeUnit : Nat := 304

/-- CAL_STATUS or AUX_CAL_STATUS of a unit (R588). -/
def calKey (u : Nat) : Nat := if u < 256 then Obj.CAL_STATUS + u else Obj.AUX_CAL_STATUS + (u - 256)

/-- KIND and CODE of a unit's last outcome; RUNNING clears (R588). -/
def State.setOutcome (s : State) (u kind code : Nat) : State :=
  s.set (calKey u) (s.getN (calKey u) / 2 ^ 14 * 2 ^ 14 + kind * 2 ^ 11 + code : Nat)

/-- The units of a calibration job. -/
def Job.units (j : Job) : List Nat := (List.range 304).filter (fun u => natBit j.arg u)

/-- The units that a job calibrates now: those of its runs, or those of a RANGE_OFFSET job that have not failed. -/
def State.busyUnits (s : State) (slot : Nat) : List (Nat × Nat) :=
  (s.cal.runs.filter (fun r => r.slot == slot)).flatMap (fun r =>
    if r.unit_ = rangeUnit then
      ((s.job slot).units.filter (fun u => !s.cal.failed.any (fun f => f.1 == slot && f.2.1 == u))).map (fun u => (u, r.kind))
    else [(r.unit_, r.kind)])

/-- The calibrations of a job are given up: its runs and waiting units go, and its units take a code (R606, R588). -/
def State.dropJobRuns (s : State) (slot code : Nat) : State :=
  let mine := s.busyUnits slot
  let offset := (s.job slot).kind == .calOffset
  let s := { s with cal := { s.cal with
    runs := s.cal.runs.filter (fun r => r.slot != slot), waiting := s.cal.waiting.filter (fun w => w.1 != slot)
    failed := s.cal.failed.filter (fun f => f.1 != slot)
    stepNow := if offset then none else s.cal.stepNow } }
  mine.foldl (fun s u => s.setOutcome u.1 u.2 code) s

/-- The units of a calibration that an event ends are rejected with code 0x24 (R606, R607). -/
def State.rejectBusy (s : State) (slot : Nat) : State :=
  (s.busyUnits slot).foldl (fun s u => s.raise 0x101 (u.1 * 2 ^ 16 + u.2 * 2 ^ 8 + 0x24)) s

/-- A calibration that an event ends (R606): its job finishes FAILED with result 0x24. -/
def State.calEnd (s : State) (p : JobKind → Bool) : State :=
  jobSlots.foldl (fun s n =>
    if (s.job n).live && p (s.job n).kind then ((s.rejectBusy n).dropJobRuns n 0x24).finishJob n .failed 0x24 else s) s

/-- The cue position in tu (R186). -/
def Cue.tu (c : Cue) : Int := (c.pos.toNat : Int) * 256

/-- The first entry at or beyond the look-ahead position (R203); entry 0 when there is none. -/
def State.entryAhead (s : State) : Nat :=
  let w := (unsigned 32 (s.lookAhead s.cueAxis) : Int)
  (s.seq.active.findIdx? (fun c => decide (w ≤ c.tu))).getD 0

/-- The cues behind the look-ahead position count as passed; the pointer stands at the first entry ahead (R203). -/
def State.seqPoint (s : State) : State :=
  let s := { s with seq := { s.seq with next := s.entryAhead, lookAt := some (s.lookAhead s.cueAxis), latched := [] } }
  if s.seq.active.isEmpty then s.raise 0x046 0 else s

/-- The LFSRs are loaded from HOP_SEED (R213). -/
def State.loadLfsrs (s : State) : State :=
  { s with seq := { s.seq with
    lfsr := (List.range 4).foldl (fun t g => tabPut (fun _ => 0) t g (s.getN (Obj.HOP_SEED + g))) s.seq.lfsr } }

/-- The grid of diagnostic intervals starts at entry into RUNNING, and with it a first interval (R280). -/
def State.startDiagGrid (s : State) : State :=
  { s with emit := { s.emit with
    diagAt := s.now, zones := s.emit.zones.map (fun e => (e.1, { e.2 with seen := false, served := false })) } }

/-- The sequencer changes state (R200): event 0x040 is raised; entry into RUNNING sets the pointer (R203), entry into
ARMED from RUNNING and into DRAINING closes the open reel sets early (R202), entry into ARMED from STOPPED loads the
LFSRs (R213) and charges the columns (R260), and leaving RUNNING ends a range-offset calibration (R606). -/
def State.setSeqState (s : State) (x : SeqState) : State :=
  if s.seq.state = x then s else
    let old := s.seq.state
    let s := ({ s with seq := { s.seq with state := x } }).raise 0x040 0
    let s := if x = .running then s.seqPoint.startDiagGrid else s
    let s := if x = .armed ∧ old = .stopped then s.loadLfsrs.chargeColumns else s
    let s := if (x = .armed ∧ old = .running) ∨ x = .draining then s.closeAllEarly else s
    if old = .running then s.calEnd (· == .calOffset) else s

/-- The sequencer enters RUNNING under R203, also one that is RUNNING already (R795). -/
def State.enterRunning (s : State) : State :=
  if s.seq.state = .running then s.seqPoint.startDiagGrid else s.setSeqState .running

/-- DRAINING ends when no take is in flight (R200). -/
def State.drainCheck (s : State) : State :=
  if s.seq.state = .draining ∧ s.inFlight = 0 then s.setSeqState .stopped else s

/-- The history of a group is emptied (R443). -/
def State.emptyMrev (s : State) (g : Nat) : State :=
  let s := { s with hist := { s.hist with mrev := s.hist.mrev.filter (fun e => e.group != g) } }
  (s.count Obj.MREV_RESETS).raise 0x0A8 (g * 2 ^ 24)

/-- The histories of every existing group are emptied. -/
def State.emptyAllMrev (s : State) : State := (List.range s.groups).foldl (fun s g => s.emptyMrev g) s

/-- The cue axis enters FREEWHEEL or STALL: the histories are emptied, once in a revolution (R443). -/
def State.loseRevolution (s : State) : State :=
  if s.hist.axisLost then s else { s with hist := { s.hist with axisLost := true } }.emptyAllMrev

/-- The cue axis is in a state in which cues fire (R142). -/
def AxisSt.fires (x : AxisSt) : Bool := x == .locked || x == .freewheel || x == .relock

/-- What the state of the cue axis does to the sequencer (R200): ARMED runs on a firing axis, RUNNING returns to ARMED
without one. A SHADOW's sequencer makes no decision of its own but follows the same states. -/
def State.seqFollowAxis (s : State) : State :=
  let st := (s.axis s.cueAxis).st
  if s.seq.state = .armed ∧ st.fires then s.setSeqState .running
  else if s.seq.state = .running ∧ !st.fires then s.setSeqState .armed
  else s

/-- An axis changes state (R143): its event carries the axis, and the sequencer follows the cue axis. -/
def State.setAxisState (s : State) (a : Nat) (x : AxisSt) : State :=
  if (s.axis a).st = x then s else
    let s := (s.setAxis a { s.axis a with st := x }).raise (0x020 + a) (a * 2 ^ 24)
    if a = s.cueAxis then
      (if x = .freewheel ∨ x = .stall then s.loseRevolution else s).seqFollowAxis
    else s

end Sys2Proof.Machine
end

