-- ==== Sys2Proof/Machine/SafetyOps.lean ====
section
/-! DEFINITION. The shared operations of the safety island (chapter 06) and of the pair role (chapter 16): the
change of state, the supply-enable outputs, the stop, the trip, the yield, and the arming conditions. -/

namespace Sys2Proof.Machine

open Sys2Proof

/-- The code of SAFETY_STATE (R297). -/
def SafetyState.code : SafetyState → Nat
  | .init => 0 | .inhibited => 1 | .arming => 2 | .armed => 3 | .lockout => 4 | .safeDefault => 5

/-- The code of PAIR_ROLE (R789). -/
def PairRole.code : PairRole → Nat
  | .solo => 0 | .pairing => 1 | .active => 2 | .shadow => 3

/-- The device is SHADOW or PAIRING, which every rule that names SHADOW applies to (R789). -/
def State.isShadow (s : State) : Bool := s.pair.role == .shadow || s.pair.role == .pairing

/-- A take of the present core cycle whose first edge the gate, closing in that cycle, still blocks (R50, R302). -/
def State.cutTake (s : State) (t : Take) : Take :=
  if t.issued && t.drives && decide (s.nowTaps ≤ t.trig) then { t with blocked := true, captured := false } else t

/-- The trigger gate closes (R302, R348): a pulse in progress is cut short, one whose rising edge has not come is not issued, and ROW goes
low. A take none of whose pulses has come is blocked (R50), and its capture window is not taken. -/
def State.cutPulses (s : State) : State :=
  let takes := s.seq.takes.map s.cutTake
  let diags := s.seq.diags.map s.cutTake
  { s with
    seq := { s.seq with takes := takes, diags := diags }
    emit := { s.emit with
      rowHigh := none
      pulses := (s.emit.pulses.filter (fun p => decide (p.rise < s.nowTaps))).map (fun p =>
        { p with fall := if p.fall < s.nowTaps then p.fall else s.nowTaps })
      captureEnd := ((takes ++ diags).filter (·.captured)).foldl (fun m t => max m t.capEnd) 0 } }

/-- FAULT_N is driven low: INIT, LOCKOUT and SAFE_DEFAULT (R297), and in reset (R882). A read-off of the pin; no command needs it. -/
def State.faultLow (s : State) : Bool :=
  s.safety.state == .init || s.safety.state == .lockout || s.safety.state == .safeDefault || s.reset_.phase == .held

/-- The trip causes of R337. -/
inductive Cause where
  | overEnergy | accountLimit | auditMismatch | auditOverrun | scanStall | scanMonitor | emitReqDiscrepancy
  | ilkDiscrepancy | supplyReadbackA | supplyReadbackB | offtestA | offtestB | safeMsgDiscrepancy | chainFault
  | clockFault | lockstep | safetyMemory | sealIntegrity | gateLeak | selfTest | tripTest
  deriving DecidableEq, Repr

/-- The bit of a cause in LOCKOUT_CAUSE (R337). -/
def Cause.bit : Cause → Nat
  | .overEnergy => 0 | .accountLimit => 1 | .auditMismatch => 2 | .auditOverrun => 3 | .scanStall => 4
  | .scanMonitor => 5 | .emitReqDiscrepancy => 6 | .ilkDiscrepancy => 7 | .supplyReadbackA => 8
  | .supplyReadbackB => 9 | .offtestA => 10 | .offtestB => 11 | .safeMsgDiscrepancy => 12 | .chainFault => 13
  | .clockFault => 14 | .lockstep => 15 | .safetyMemory => 16 | .sealIntegrity => 17 | .gateLeak => 18
  | .selfTest => 19 | .tripTest => 20

/-- The hard causes of R337. -/
def Cause.hard : Cause → Bool
  | .auditMismatch => true | .auditOverrun => true | .supplyReadbackA => true | .supplyReadbackB => true
  | .offtestA => true | .offtestB => true | .clockFault => true | .lockstep => true | .safetyMemory => true
  | .sealIntegrity => true | .gateLeak => true | .selfTest => true | _ => false

/-- The bits of the hard causes in LOCKOUT_CAUSE (R337). -/
def hardMask : Nat := [2, 3, 8, 9, 10, 11, 14, 15, 16, 17, 18, 19].foldl (fun a b => a + 2 ^ b) 0

/-! ### Supply enables -/

/-- SUPPLY_EN_A is driven to a level; a change starts the readback time of its FB (R322). -/
def State.setEnA (s : State) (x : Bool) : State :=
  if s.safety.enA = x then s else
    { s with safety := { s.safety with
      enA := x, fbDiffA := if s.safety.fbA = x then none else some s.now } }

/-- SUPPLY_EN_B is driven to a level (R322). -/
def State.setEnB (s : State) (x : Bool) : State :=
  if s.safety.enB = x then s else
    { s with safety := { s.safety with
      enB := x, fbDiffB := if s.safety.fbB = x then none else some s.now } }

/-- An off-pulse test in progress is abandoned by a stop or trip (R325). -/
def State.abandonOffTest (s : State) : State :=
  match s.safety.offTest with
  | none => s
  | some _ => (({ s with safety := { s.safety with offTest := none } }).count Obj.OFFTEST_ABANDONED).raise 0x00F 0

/-! ### Pairs of channels (R317 to R320) -/

/-- Both channels have an accepted level and both are off. -/
def SafePair.bothOff (p : SafePair) : Bool := p.seenA && p.seenB && !p.a && !p.b

/-- A channel's accepted level changes: the off-then-on rule of R318 and the disagreement of R320. -/
def SafePair.update (p : SafePair) (now : Time) (a b seenA seenB : Bool) : SafePair :=
  let wasOff := p.bothOff
  let isOff := seenA && seenB && !a && !b
  let bothOn := seenA && seenB && a && b
  let offDone := match p.offSince with
    | some t => wasOff && !isOff && reached now t 10000
    | none => false
  let renew := (p.renew || (p.on && !bothOn)) && !offDone
  { a := a, b := b, seenA := seenA, seenB := seenB
    on := bothOn && !renew
    renew := renew
    offSince := if isOff then (if wasOff then p.offSince else some now) else none
    differSince := if seenA && seenB && a != b then (match p.differSince with | some t => some t | none => some now) else none
    judged := p.judged && (seenA && seenB && a != b) }

/-- After a stop or trip the request counts again only after an off-then-on sequence (R318). -/
def SafePair.mustRenew (p : SafePair) (now : Time) : SafePair :=
  { p with on := false, renew := true, offSince := if p.bothOff then some now else none }

/-- The emission request and the request of the safe commands must be renewed (R318, R319). -/
def State.renewRequest (s : State) : State :=
  let was := if s.getN Obj.EMIT_REQ_SOURCE = 0 then s.safety.req.on else s.safety.cmd.on
  let s := { s with safety := { s.safety with req := s.safety.req.mustRenew s.now, cmd := s.safety.cmd.mustRenew s.now } }
  if was then s.raise 0x00B 0 else s

/-! ### Arming conditions (R300) -/

/-- The first or second bearer of SAFE_NETS: 0 CAN XL, 1 E0, 2 E1 (R332). -/
def State.safeNet (s : State) (second : Bool) : Nat :=
  match s.getN Obj.SAFE_NETS, second with
  | 0, false => 0 | 0, true => 1 | 1, false => 0 | 1, true => 2 | _, false => 1 | _, true => 2

/-- What the copies of the first (0) or second bearer of SAFE_NETS have left. -/
def State.safeBearer (s : State) (b : Nat) : SafeBearer :=
  match s.safeNet (b != 0) with
  | 0 => s.safety.copyCan
  | 1 => s.safety.copyE0
  | _ => s.safety.copyE1

/-- A bearer's copy is fresh and its last COMMAND is PERMIT (R329). -/
def State.bearerPermits (s : State) (b : SafeBearer) : Bool :=
  b.permit == some true && !b.aged && !reached s.now b.validAt (ms (s.getN Obj.SAFE_CMD_TIMEOUT))

/-- The emission request (R318, R319). -/
def State.requestOn (s : State) : Bool :=
  if s.getN Obj.EMIT_REQ_SOURCE = 0 then s.safety.req.on else s.safety.cmd.on

/-- Both safe-command copies permit (R329). -/
def State.netPermit (s : State) : Bool := s.bearerPermits (s.safeBearer 0) && s.bearerPermits (s.safeBearer 1)

/-- The network permit condition (R300). -/
def State.networkPermit (s : State) : Bool := s.getN Obj.SAFE_CMD_REQUIRED == 0 || s.netPermit

/-- The scan condition (R300, R316). -/
def State.scanOk (s : State) : Bool :=
  s.getN Obj.SCAN_REQUIRED == 0 ||
    (s.safety.scanSeen && !reached s.now s.safety.scanEdge (us (s.getN Obj.SCAN_EDGE_TIMEOUT)) &&
      s.axisMode s.cueAxis != 3)

/-- SEAL_STATE is SEALED or OPEN (R300). -/
def State.sealedOk (s : State) : Bool := s.getN Obj.SEAL_STATE == 1 || s.getN Obj.SEAL_STATE == 2

/-- The conditions whose loss in ARMING or ARMED is a stop (R300). -/
def State.stayConditions (s : State) : Bool :=
  s.sealedOk && !s.isShadow && s.requestOn && s.safety.ilk.on && s.networkPermit && s.scanOk

/-- Every arming condition of R300. -/
def State.armingConditions (s : State) : Bool :=
  s.stayConditions && s.safety.holdDone && s.safety.auditMet && !s.safety.fbA && !s.safety.fbB

/-! ### State changes -/

/-- The safety island changes state (R298): event 0x000 is raised, a SAFE_STATUS is due (R327), leaving ARMED ends a
range-offset calibration (R606), and entry into ARMED while OPEN raises event 0x015 (R334). -/
def State.setSafetyState (s : State) (x : SafetyState) : State :=
  if s.safety.state = x then s else
    let old := s.safety.state
    let s := ({ s with safety := { s.safety with state := x, statusDue := true } }).raise 0x000 0
    let s := if x = .armed ∧ s.getN Obj.SEAL_STATE = 1 then s.raise 0x015 0 else s
    if old = .armed then s.cutPulses.calEnd (· == .calOffset) else s

/-- Both supply enables go low, a test in progress is abandoned and the request must be renewed (R301, R318, R325). -/
def State.darken (s : State) : State := ((s.abandonOffTest.setEnA false).setEnB false).renewRequest

/-- A stop: ARMING or ARMED returns to INHIBITED (R301). -/
def State.stop (s : State) : State :=
  if s.safety.state = .arming ∨ s.safety.state = .armed then s.darken.setSafetyState .inhibited else s

/-- A stop follows when an arming condition is lost in ARMING or ARMED (R300). -/
def State.recheck (s : State) : State := if s.stayConditions then s else s.stop

/-- The event of a pair whose request or interlock changes (R342), and the stop that its loss is (R300). -/
def State.pairChanged (s : State) (was now_ : Bool) (e : Nat) : State :=
  (if was == now_ then s else s.raise e 0).recheck

/-- A Farlu frame leaves while the Farlu bond has an active lane (R727, R798). -/
def State.sendFarlu (s : State) (type : Nat) (payload : List Byte) : State :=
  if s.bondUp 1 then s.sendFrame 1 type 0 (.farlu type) payload none else s

/-- The parts of a value that OBJECT frames carry: offset and bytes, 65,536 at most (R798). The bound is the number of bytes. -/
def objectParts : Nat → Nat → List Byte → List (Nat × List Byte × Bool)
  | 0, off, bs => [(off, bs, true)]
  | n + 1, off, bs =>
    if bs.length ≤ 65536 then [(off, bs, true)] else (off, bs.take 65536, false) :: objectParts n (off + 65536) (bs.drop 65536)

/-- A value goes to the partner in OBJECT frames (R798). -/
def State.sendObject (s : State) (k : Nat) (bs : List Byte) : State :=
  (objectParts bs.length 0 bs).foldl (fun s p =>
    s.sendFarlu 0x13 (beBytes 3 k ++ beBytes 1 (b2n p.2.2) ++ beBytes 4 p.1 ++ p.2.1)) s

/-- MIRROR_SYNC changes, which raises event 0x14B (R803). -/
def State.setMirrorSync (s : State) (x : Bool) : State :=
  if s.pair.mirrorSync = x then s else ({ s with pair := { s.pair with mirrorSync := x } }).raise 0x14B 0

/-- A SHADOW asks for a resync (R803): the parts of the resync that follows are awaited anew. -/
def State.requestResync (s : State) (reason : Nat) : State :=
  let s := { s with pair := { s.pair with
    resyncAsked := true, gotObjects := [], gotCue := false, gotTime := false, gotAccount := false } }
  (s.setMirrorSync false).sendFarlu 0x19 (beBytes 1 reason ++ fill 7 0)

/-- The role changes, which raises event 0x140 (R790); on entering SHADOW a RESYNC_REQ is sent (R803),
and on entering PAIRING (R789). -/
def State.setRole (s : State) (x : PairRole) : State :=
  if s.pair.role = x then s else
    let s := ({ s with pair := { s.pair with role := x } }).raise 0x140 0
    if s.isShadow then s.requestResync 1 else s

/-- The pins are released (R787, R791, R805). -/
def State.releasePins (s : State) : State :=
  (({ s with pair := { s.pair with driving := false, claim := .none } }).setEnA false).setEnB false

/-- The heartbeat is fresh (R804 to R806). -/
def State.beatFresh (s : State) : Bool :=
  match s.pair.beat with
  | some b => s.pair.partnerSeen && !reached s.now b.at_ (us (s.getN Obj.HEARTBEAT_TIMEOUT))
  | none => false

/-- The number of the last take: TAKE_SEQ less 1. -/
def State.lastTakeSeq (s : State) : Nat := (s.seq.takeSeq + (2 ^ 48 - 1)) % 2 ^ 48

/-- A yield (R805, R806): a stop, the open reel sets close early, YIELD is sent with its reason, and the device
releases its pins and enters SHADOW. -/
def State.yieldRole (s : State) (reason : Nat) : State :=
  let s := s.stop.closeAllEarly
  let s := s.sendFarlu 0x18 (beBytes 6 s.lastTakeSeq ++ beBytes 2 s.seq.epoch ++ beBytes 1 reason ++ fill 3 0)
  s.releasePins.setRole .shadow

/-- LOCKOUT_CAUSE gains the cause; LOCKOUT_FIRST takes the first cause after LOCKOUT_CAUSE was last cleared, of
several in one cycle the lowest bit (R337, R343). -/
def State.recordCause (s : State) (bit : Nat) : State :=
  let first := s.getN Obj.LOCKOUT_FIRST
  let fresh : Bool := first == 0xFF
  let s := s.set Obj.LOCKOUT_CAUSE (s.getN Obj.LOCKOUT_CAUSE ||| 2 ^ bit : Nat)
  let s := bif fresh || (s.safety.firstTripAt == s.now && decide (bit < first)) then s.set Obj.LOCKOUT_FIRST bit else s
  bif fresh then { s with safety := { s.safety with firstTripAt := s.now } } else s

/-- The trip latch closes the gate (R302, R337). -/
def State.latchGate (s : State) : State := { s with safety := { s.safety with latch := true } }.cutPulses

/-- A state that a trip takes to LOCKOUT (R337): INIT, INHIBITED, ARMING, ARMED. -/
def SafetyState.trips : SafetyState → Bool
  | .init => true | .inhibited => true | .arming => true | .armed => true | .lockout => false | .safeDefault => false

/-- The entry into LOCKOUT: an ACTIVE device with a hard cause yields when its partner is fresh (R806). -/
def State.enterLockout (s : State) (hard : Bool) : State :=
  let s := s.darken.setSafetyState .lockout
  bif hard && s.pair.role == .active && s.beatFresh then s.yieldRole 2 else s

/-- A trip (R337): the cause bit and LOCKOUT_FIRST are recorded, TRIPS increments, event 0x001 carries the bit, the
latch closes the gate, and from INIT, INHIBITED, ARMING and ARMED the state becomes LOCKOUT. -/
def State.trip (s : State) (c : Cause) : State :=
  let s := (((s.recordCause c.bit).latchGate).count Obj.TRIPS).raise 0x001 (c.bit * 2 ^ 24)
  bif s.safety.state.trips then s.enterLockout c.hard else s.darken

end Sys2Proof.Machine
end

