-- ==== Sys2Proof/Machine/Accountant.lean ====
section
/-! DEFINITION. The energy accountant and the audit engines (R310 to R315): charges, sliding sums, the budget check,
the judgement of a measured charge, the snapshot and the comparison. -/

namespace Sys2Proof.Machine

open Sys2Proof

/-- The class of a zone (R310). -/
def State.zoneClass (s : State) (z : Nat) : Nat := ((s.getBlk Obj.ZONE_CLASS).getD z 0).toNat % 16

/-- A limit of a zone (kind 0) or of the aperture around it (kind 1) in window w, 0 to 4 (R310, R332). -/
def State.accLimit (s : State) (z kind w : Nat) : Nat :=
  beAt (s.getBlk Obj.ACC_LIMITS) (s.zoneClass z * 80 + kind * 40 + w * 8) 8

/-- The zones of the aperture of z, which are also the centres of the apertures that contain z (R310). -/
def State.aperture (s : State) (z : Nat) : List Nat :=
  let w := s.getN Obj.APERTURE_WIDTH
  let r := z / w
  let c := z % w
  (List.range 3).flatMap (fun i => (List.range 3).filterMap (fun j =>
    let zz := (r + i - 1) * w + (c + j - 1)
    if 1 ≤ r + i ∧ 1 ≤ c + j ∧ c + j - 1 < w ∧ zz < 1024 then some zz else none))

/-- The bucket of W1 to W4 in ns (R311). -/
def bucketSpan (w : Nat) : Nat :=
  match w with
  | 0 => 625 | 1 => 62500 | 2 => 6250000 | _ => 625000000

/-- The key of a bucket of a sum. -/
def sumKey (b w kind z : Nat) : Nat := b * 16384 + w * 2048 + kind * 1024 + z

/-- What a sum holds in a bucket. -/
def sumAt (t : Sums) (b w kind z : Nat) : Nat := tabGet (fun _ => 0) t (sumKey b w kind z)

/-- A sliding sum: the current bucket and the 16 before it (R311). -/
def windowSum (t : Sums) (cur w kind z : Nat) : Nat :=
  ((List.range 17).map (fun i => if i ≤ cur then sumAt t (cur - i) w kind z else 0)).sum

/-- The current bucket of window w (0 to 3 for W1 to W4). -/
def State.bucket (s : State) (w : Nat) : Nat := s.safety.buckets.getD w 0

/-- One sum changes by a replacement. -/
def sumReplace (t : Sums) (k remove add : Nat) : Sums := tabUpd (fun _ => 0) t k (fun v => v - remove + add)

/-- A replacement of one amount by another in a zone's sums and in those of the apertures that contain it. -/
def sumsReplace (aps : List Nat) (t : Sums) (r : LogCharge) : Sums :=
  (List.range 4).foldl (fun t w =>
    let b := r.buckets.getD w 0
    aps.foldl (fun t c => sumReplace t (sumKey b w 1 c) r.remove r.add) (sumReplace t (sumKey b w 0 r.zone) r.remove r.add)) t

/-- The accountant books a replacement, and the capture log records it (R312, R315). -/
def State.book (s : State) (r : LogCharge) : State :=
  { s with safety := { s.safety with
    sums := sumsReplace (s.aperture r.zone) s.safety.sums r, captureLog := s.safety.captureLog ++ [r] } }

/-- The provisional energy P of a zone: its W0 limit (R312). -/
def State.provisional (s : State) (z : Nat) : Nat := s.accLimit z 0 0

/-- S + P < L for every window W1 to W4 of the zone and of every aperture that contains it (R313). -/
def State.budgetOk (s : State) (z : Nat) : Bool :=
  (List.range 4).all (fun w =>
    decide (windowSum s.safety.sums (s.bucket w) w 0 z + s.provisional z < s.accLimit z 0 (w + 1)) &&
    (s.aperture z).all (fun c =>
      decide (windowSum s.safety.sums (s.bucket w) w 1 c + s.provisional z < s.accLimit c 1 (w + 1))))

/-- A take's provisional charge (R312). -/
def State.charge (s : State) (seq epoch group zone : Nat) (trig : Int) : State :=
  let p := s.provisional zone
  let s := s.book ⟨zone, s.safety.buckets, 0, p, trig, false⟩
  { s with safety := { s.safety with
    charges := s.safety.charges ++ [⟨seq, epoch, group, zone, trig, p, false, s.safety.buckets⟩] } }

/-- A budget hold (R313). -/
def State.budgetHold (s : State) : State := (s.count Obj.BUDGET_HOLDS).raise 0x006 0

/-- The charge of a take. -/
def Charge.isOf (c : Charge) (seq epoch group : Nat) (trig : Int) : Bool :=
  c.takeSeq == seq && c.epoch == epoch && c.group == group && decide (c.trig = trig)

/-- Changes the charges of a take. -/
def State.mapCharge (s : State) (seq epoch group : Nat) (trig : Int) (f : Charge → Charge) : State :=
  { s with safety := { s.safety with
    charges := s.safety.charges.map (fun c => if c.isOf seq epoch group trig then f c else c) } }

/-- The charge of a take whose edge the gate blocked is withdrawn (R312). -/
def State.uncharge (s : State) (seq epoch group : Nat) (trig : Int) : State :=
  let mine := s.safety.charges.filter (fun c => c.isOf seq epoch group trig)
  let s := mine.foldl (fun s c => s.book ⟨c.zone, c.buckets, c.energy, 0, trig, false⟩) s
  { s with safety := { s.safety with
    charges := s.safety.charges.filter (fun c => !c.isOf seq epoch group trig) } }

/-- Two triggers, in taps, lie within 128 ns (R311). -/
def within128 (a b : Int) : Bool := decide ((a - b).natAbs ≤ 128 * 64)

/-- The aperture W0 sum of the aperture of c around a take: the final charges within 128 ns of its trigger (R311). -/
def State.apertureW0 (s : State) (c : Nat) (trig : Int) : Nat :=
  let zs := s.aperture c
  ((s.safety.charges.filter (fun x => x.final && zs.contains x.zone && within128 x.trig trig)).map (·.energy)).sum

/-- The W0 result of a charge that has become final enters those of the period (R311, R315). -/
def State.noteW0 (s : State) (z e : Nat) (trig : Int) : State :=
  { s with safety := { s.safety with w0 := s.safety.w0 ++ [⟨z, e, (s.aperture z).map (fun c => s.apertureW0 c trig)⟩] } }

/-- A sum in % of its limit, at most 100 (ACC_PEAK); of a limit of 0, a sum of 0 is 0 %. -/
def percentOf (v lim : Nat) : Nat := if lim = 0 then (if v = 0 then 0 else 100) else min 100 (100 * v / lim)

/-- A charge that has become final reaches a limit (R314): a measured E its zone's W0 limit, or any sum its own. -/
def State.limitReached (s : State) (z : Nat) (measured : Option Nat) (trig : Int) : Bool :=
  measured.any (fun e => decide (s.accLimit z 0 0 ≤ e)) ||
  (s.aperture z).any (fun c => decide (s.accLimit c 1 0 ≤ s.apertureW0 c trig)) ||
  (List.range 4).any (fun w =>
    decide (s.accLimit z 0 (w + 1) ≤ windowSum s.safety.sums (s.bucket w) w 0 z) ||
    (s.aperture z).any (fun c => decide (s.accLimit c 1 (w + 1) ≤ windowSum s.safety.sums (s.bucket w) w 1 c)))

/-- An accountant trip (R314). -/
def State.accountTrip (s : State) : State := (s.raise 0x005 0).trip .accountLimit

/-- The highest W0 result of the period, in %. -/
def State.notePeak (s : State) (z : Nat) (measured : Option Nat) (trig : Int) : State :=
  let own := (measured.map (fun e => percentOf e (s.accLimit z 0 0))).getD 0
  let p := (s.aperture z).foldl (fun m c => max m (percentOf (s.apertureW0 c trig) (s.accLimit c 1 0))) own
  { s with safety := { s.safety with peakW0 := max s.safety.peakW0 p } }

/-- A charge becomes final and is judged (R312, R314): with a measured E it replaces P; without one P stays, and only
a measured E is compared with the zone's W0 limit. -/
def State.finishCharge (s : State) (seq epoch group : Nat) (trig : Int) (measured : Option Nat) : State :=
  match s.safety.charges.find? (fun c => c.isOf seq epoch group trig) with
  | none => s
  | some c =>
    let e := measured.getD c.energy
    let s := s.book ⟨c.zone, c.buckets, c.energy, e, trig, true⟩
    let s := s.mapCharge seq epoch group trig (fun c => { c with energy := e, final := true })
    let s := (s.noteW0 c.zone e trig).notePeak c.zone measured trig
    if s.limitReached c.zone measured trig then s.accountTrip else s

/-- The sum of a zone (kind 0) or of the aperture around it (kind 1) is at or above its limit, in window w, 0 to 3 for W1 to W4. -/
def State.sumFull (s : State) (t : Sums) (buckets : List Nat) (w kind z : Nat) : Bool :=
  decide (s.accLimit z kind (w + 1) ≤ windowSum t (buckets.getD w 0) w kind z)

/-- Any zone or aperture sum of W1 to W4 is at or above its limit (R919): a sum of 0 reaches a limit of 0. -/
def State.sumAtLimit (s : State) : Bool :=
  (List.range 4).any (fun w => (List.range 2).any (fun kind => (List.range 1024).any (fun z =>
    s.sumFull s.safety.sums s.safety.buckets w kind z)))

/-- A bucket leaves the sums for good. -/
def sumsDrop (t : Sums) (w oldest : Nat) : Sums := t.filter (fun e => e.1 / 2048 % 8 != w || decide (oldest ≤ e.1 / 16384))

/-- ACC_BUCKET_ROLL: at a bucket boundary the oldest bucket of a window leaves its sums (R311). -/
def execAccBucketRoll (window : Fin 4) (s : State) : Host.Outcome State Fault Refusal :=
  let b := s.now / bucketSpan window
  if s.bucket window < b ∧ s.reset_.phase ≠ .held then
    .next { s with safety := { s.safety with
      buckets := s.safety.buckets.set window b, sums := sumsDrop s.safety.sums window (b - 16) } }
  else .next s

/-- The highest sum of window w over all zones and apertures, in % of its limit. -/
def State.peakOf (s : State) (w : Nat) : Nat :=
  s.safety.sums.foldl (fun m e =>
    if e.1 / 2048 % 8 = w then
      let kind := e.1 / 1024 % 2
      let z := e.1 % 1024
      max m (percentOf (windowSum s.safety.sums (s.bucket w) w kind z) (s.accLimit z kind (w + 1)))
    else m) 0

/-- ACC_PEAK takes the values of the 1 ms boundary. -/
def State.setPeaks (s : State) : State :=
  let s := (s.set Obj.ACC_PEAK s.safety.peakW0)
  let s := (List.range 4).foldl (fun s w => s.set (Obj.ACC_PEAK + 1 + w) (s.peakOf w)) s
  { s with safety := { s.safety with peakW0 := 0 } }

/-- The 1 ms boundary resumes an audit engine from WAIT (R493). -/
def wakeAudit (t : Tab Engine) : Tab Engine :=
  [32, 33].foldl (fun t n => tabUpd (fun _ => Engine.init) t n (fun e => { e with waiting := false })) t

/-- The accountant freezes a snapshot and hands over the log of the period (R315). -/
def State.freeze (s : State) : State :=
  { s with
    eng := { s.eng with units := wakeAudit s.eng.units }
    safety := { s.safety with
    snapshot := s.safety.sums, snapBuckets := s.safety.buckets
    snapW0 := if s.safety.ae0Busy || s.safety.ae1Busy then s.safety.snapW0 ++ s.safety.w0 else s.safety.w0, w0 := []
    auditLog := s.safety.auditLog ++ s.safety.captureLog, captureLog := []
    charges := s.safety.charges.filter (fun c => !c.final || decide (s.nowTaps < c.trig + 64 * 100000))
    ae0Busy := true, ae1Busy := true, auditAt := s.now } }

/-- The sums of a zone in an ACCOUNT frame: W1 to W4 of the zone, then of its aperture (R798). -/
def State.accountZone (s : State) (z : Nat) : List Byte :=
  [0, 1].flatMap (fun kind => (List.range 4).flatMap (fun w => beBytes 8 (windowSum s.safety.sums (s.bucket w) w kind z)))

/-- An ACTIVE device sends its sums at each audit boundary (R798). -/
def State.sendAccount (s : State) : State :=
  if s.pair.role = .active then s.sendFarlu 0x16 ((List.range 1024).flatMap (fun z => s.accountZone z)) else s

/-- An audit engine, 32 or 33, waits at a boundary: its WAIT entered D before the boundary cycle (R493, R531). -/
def State.auditWaits (s : State) (n : Nat) : Bool :=
  let e := tabGet (fun _ => Engine.init) s.eng.units n
  e.waiting && decide (e.waitAt < s.now)

/-- An audit engine has overrun: it does not wait, has not compared, or has stopped (R315, R493, R531). -/
def State.auditLate (s : State) : Bool :=
  !s.auditWaits 32 || !s.auditWaits 33 || s.safety.ae0Busy || s.safety.ae1Busy || s.safety.aeStopped

/-- AUDIT_BOUNDARY: at each 1 ms boundary (R315), once the SRAM that the audit engines read is wiped (R42). An engine that has overrun
trips with AUDIT_OVERRUN; engines that a failed clock stopped do not resume (R354). -/
def execAuditBoundary (s : State) : Host.Outcome State Fault Refusal :=
  if reached s.now s.safety.auditAt (ms 1) && s.reset_.phase != .held && s.reset_.sramWiped then
    let late := s.auditLate
    let s := s.freeze.setPeaks.sendAccount
    .next (if late then (s.raise 0x008 0).trip .auditOverrun else s)
  else .next s

/-- An audit engine brings its copy up to the boundary from the log alone (R315). -/
def State.auditCopy (s : State) (t : Sums) : Sums :=
  let t := s.safety.auditLog.foldl (fun t r => sumsReplace (s.aperture r.zone) t r) t
  (List.range 4).foldl (fun t w => sumsDrop t w (s.safety.snapBuckets.getD w 0 - 16)) t

/-- A final record of the log gives the W0 result of its firing (R315). -/
def State.auditFinal (s : State) (x : W0Copy) (r : LogCharge) : W0Copy :=
  if r.final then
    let fin := ⟨r.zone, r.trig, r.add⟩ :: x.finals
    let sum := fun c => ((fin.filter (fun f => (s.aperture c).contains f.zone && within128 f.trig r.trig)).map (·.energy)).sum
    ⟨fin, x.results ++ [⟨r.zone, r.add, (s.aperture r.zone).map sum⟩]⟩
  else x

/-- An audit engine brings its W0 results up to the boundary from the log alone (R315). -/
def State.auditW0 (s : State) (x : W0Copy) : W0Copy :=
  let fin := x.finals.filter (fun f => decide (64 * (s.safety.auditAt : Int) < f.trig + 64 * 1100000))
  s.safety.auditLog.foldl (fun x r => s.auditFinal x r) ⟨fin, []⟩

/-- The objects of the sealed set (R332), in index and subindex order. -/
def sealObjects : List ObjDesc := dictionary.filter (fun d => d.access == .seal)

/-- A list brought to a length with zero bytes. -/
def padTo (n : Nat) (bs : List Byte) : List Byte := (bs ++ fill (n - bs.length) 0).take n

/-- The image of one object of the sealed set: each element in its KOA form (R335). -/
def State.objImage (s : State) (d : ObjDesc) : List Byte :=
  (List.range d.count).flatMap (fun i =>
    let k := d.index * 256 + d.base + i
    if d.ty = .block then padTo d.hi.toNat (s.getBlk k) else encodeValue d.ty (s.get k))

/-- The image of the sealed set (R335). -/
def State.sealImage (s : State) : List Byte := sealObjects.flatMap (fun d => s.objImage d)

/-- The CRC-32 of the working sealed set (R315, R335). -/
def State.sealImageCrc (s : State) : Nat := crc32 s.sealImage

/-- What the engines compare the sealed set with: SEAL_CRC in SEALED, else the reference (R315). -/
def State.sealIntact (s : State) : Bool :=
  s.sealImageCrc == (if s.get Obj.SEAL_STATE = 2 then s.getN Obj.SEAL_CRC else s.safety.sealRef)

/-- The comparison of the period (R315): both copies equal the snapshot, in every sum and in the W0 results. -/
def State.auditEqual (s : State) : Bool :=
  s.safety.ae0 == s.safety.snapshot && s.safety.ae1 == s.safety.snapshot &&
    s.safety.ae0W0.results == s.safety.snapW0 && s.safety.ae1W0.results == s.safety.snapW0

/-- A copy holds a sum at or above its sealed limit (R315). Only a sum with a charge in it is a trip: the device starts with every limit
at 0 (DESIGN CHOICE, log entry 76). -/
def State.copyAtLimit (s : State) (t : Sums) : Bool :=
  t.any (fun e => s.sumFull t s.safety.snapBuckets (e.1 / 2048 % 8) (e.1 / 1024 % 2) (e.1 % 1024))

/-- A clean comparison meets the Audit condition until the next reset (R300). -/
def State.auditVerdict (s : State) (ok : Bool) : State :=
  { s with safety := { s.safety with auditOk := ok, auditMet := s.safety.auditMet || ok } }

/-- AUDIT_COMPARE_DONE: AE0 and AE1 compare, exchange their CRCs and check the sealed set (R315). -/
def execAuditCompareDone (s : State) : Host.Outcome State Fault Refusal :=
  if s.safety.ae0Busy && s.safety.ae1Busy && !s.safety.aeStopped then
    let s := { s with safety := { s.safety with
      ae0 := s.auditCopy s.safety.ae0, ae1 := s.auditCopy s.safety.ae1, auditLog := []
      ae0W0 := s.auditW0 s.safety.ae0W0, ae1W0 := s.auditW0 s.safety.ae1W0
      ae0Busy := false, ae1Busy := false } }
    let ok := s.auditEqual
    let s := s.auditVerdict ok
    let s := if ok then s else (s.raise 0x007 0).trip .auditMismatch
    let s := if s.copyAtLimit s.safety.ae0 || s.copyAtLimit s.safety.ae1 then s.accountTrip else s
    .next (if s.sealIntact then s else s.trip .sealIntegrity)
  else .next s

end Sys2Proof.Machine
end

