-- ==== Sys2Proof/Machine/HistOps.lean ====
section
/-! DEFINITION. Operations of the histogram engine (chapter 08): gears and bins, code families, reel buffers and sets,
additions and the candidate tracker. -/

namespace Sys2Proof.Machine

open Sys2Proof

/-! ### Gears (R408 to R412) -/

/-- A region of a gear: its bounds in LSB, its bin width in LSB and its first bin. -/
structure GearRegion where
  lo    : Nat
  hi    : Nat
  width : Nat
  first : Nat
  deriving DecidableEq, Repr

/-- Entry i of a gear table: END in ns and WIDTH. -/
def gearEntry (g : List Byte) (i : Nat) : Nat := beAt g (4 * i) 4

/-- Width code w in LSB. -/
def gearWidth (w : Nat) : Nat := 8 * 2 ^ w

/-- The regions of a table from entry i on, with a bound on the entries looked at. -/
def gearRegionsFrom (g : List Byte) : Nat → Nat → Nat → Nat → List GearRegion
  | 0, _, _, _ => []
  | fuel + 1, i, lo, first =>
    let e := gearEntry g i
    let hi := 64 * field e 19 13
    if hi = 0 then [] else
      let w := gearWidth (field e 17 2)
      ⟨lo, hi, w, first⟩ :: gearRegionsFrom g fuel (i + 1) hi (first + (hi - lo) / w)

/-- The regions of a gear table (R409). -/
def gearRegions (g : List Byte) : List GearRegion := gearRegionsFrom g 8 0 0 0

/-- The reel span B_R (R409). -/
def gearSpan (g : List Byte) : Nat := ((gearRegions g).getLast?.map (·.hi)).getD 0

/-- The bins of a table. -/
def gearBins (g : List Byte) : Nat := ((gearRegions g).getLast?.map (fun r => r.first + (r.hi - r.lo) / r.width)).getD 0

/-- The bin and residual of an addition at time t (R411); none above the reel span (R412). -/
def binOf (g : List Byte) (t : Nat) : Option (Nat × Nat) :=
  match (gearRegions g).find? (fun r => decide (t ≤ r.hi)) with
  | none => none
  | some r =>
    let i := (t - r.lo + r.width - 1) / r.width - 1
    some (r.first + i, t - (r.lo + i * r.width))

/-- The start of a bin in LSB. -/
def binStart (g : List Byte) (j : Nat) : Nat :=
  match (gearRegions g).find? (fun r => decide (j < r.first + (r.hi - r.lo) / r.width)) with
  | none => gearSpan g
  | some r => r.lo + (j - r.first) * r.width

/-- The entries of a table that end it are all zero, and no reserved bit is set (R410). -/
def gearShapeOk (g : List Byte) : Bool :=
  let es := (List.range 8).map (gearEntry g)
  let used := es.takeWhile (fun e => field e 19 13 != 0)
  !used.isEmpty && (es.drop used.length).all (· == 0) &&
    used.all (fun e => field e 0 17 == 0 && decide (field e 19 13 ≤ 4096)) &&
    (used.zip (used.drop 1)).all (fun p => decide (field p.1 19 13 < field p.2 19 13))

/-- A GEAR_TABLE value passes the owner's validation (R410). -/
def gearValid (g : List Byte) : Bool := gearShapeOk g && decide (gearBins g ≤ 4096)

/-- A code word passes the field checks of R416: used offsets rise strictly, unused ones and reserved bits are 0. -/
def codeWordOk (w : Nat) : Bool :=
  let np := field w 30 2
  let os := [field w 24 6, field w 18 6, field w 12 6]
  let used := 0 :: os.take np
  field w 0 12 == 0 && (os.drop np).all (· == 0) && (used.zip (used.drop 1)).all (fun p => decide (p.1 < p.2))

/-- Every word of a family passes. -/
def familyOk (f : List Byte) : Bool := (List.range 64).all (fun c => codeWordOk (beAt f (4 * c) 4))

/-- The gear table that a group uses (R413). -/
def State.gear (s : State) (g : Nat) : List Byte := tabGet (fun _ => gearDefault) s.hist.gears g

/-- A return channel. -/
def State.rxChan (s : State) (c : Nat) : RxChan := tabGet (fun _ => RxChan.init) s.rx.chans c

/-- Sets a return channel. -/
def State.setRxChan (s : State) (c : Nat) (x : RxChan) : State :=
  { s with rx := { s.rx with chans := tabPut (fun _ => RxChan.init) s.rx.chans c x } }

/-! ### Reel buffers (R419 to R425) -/

/-- The key of a buffer. -/
def reelKey (ch buf : Nat) : Nat := 2 * ch + buf

/-- A reel buffer. -/
def State.reel (s : State) (ch buf : Nat) : Reel := tabGet (fun _ => Reel.clear_) s.hist.reels (reelKey ch buf)

/-- Sets a reel buffer. -/
def State.setReel (s : State) (ch buf : Nat) (r : Reel) : State :=
  { s with hist := { s.hist with reels := tabPut (fun _ => Reel.clear_) s.hist.reels (reelKey ch buf) r } }

/-- The buffer in which a set accumulates on a channel. -/
def State.reelOf (s : State) (ch set_ : Nat) : Option Nat :=
  [0, 1].find? (fun b => (s.reel ch b).state == .accumulating && (s.reel ch b).set_ == set_)

/-- The channel is enabled (R382). -/
def State.rxEnabled (s : State) (c : Nat) : Bool := s.getB (Obj.RX_ENABLE + c)

/-- A channel table is not valid: a DUE bit stands (R590). -/
def State.channelStale (s : State) (c : Nat) : Bool := decide (0x4000 ≤ s.getN (Obj.CAL_STATUS + c))

/-- The buffer that a set starting on a channel takes: a CLEAR one, or else one being cleared, whose additions wait (R420, R424); none
while the one that does not accumulate is HELD. -/
def State.claimable (s : State) (ch : Nat) : Option Nat :=
  match [0, 1].find? (fun b => (s.reel ch b).state == .clear) with
  | some b => some b
  | none => [0, 1].find? (fun b => (s.reel ch b).state == .clearing)

/-- A buffer starts to accumulate a reel. -/
def State.beginReel (s : State) (ch b : Nat) (r : Reel) : State :=
  s.setReel ch b { r with notClear := (s.reel ch b).state == .clearing, clearAt := (s.reel ch b).clearAt }

/-- The reel that a set begins on a channel: STALE where the channel's table is not valid at its first take (R45, R590), DEGRADED while the channel is stuck
(R384). -/
def State.newReel (s : State) (ch set_ : Nat) : Reel :=
  { Reel.clear_ with state := .accumulating, set_ := set_, stale := s.channelStale ch, degraded := (s.rxChan ch).stuck }

/-- A set claims the buffer of a channel that is not ACCUMULATING (R420), or, while that is HELD, the one that is cleared next (R36). -/
def State.claimReel (s : State) (ch set_ : Nat) : State :=
  match s.claimable ch with
  | none => { s with hist := { s.hist with claims := s.hist.claims ++ [⟨ch, s.newReel ch set_⟩] } }
  | some b => s.beginReel ch b (s.newReel ch set_)

/-- The claim of a set that waits on a channel takes a buffer that is being cleared (R36, R424). -/
def State.settleClaim (s : State) (ch : Nat) : State :=
  match s.hist.claims.find? (fun c => c.ch == ch), s.claimable ch with
  | some c, some b => { s with hist := { s.hist with claims := s.hist.claims.erase c } }.beginReel ch b c.reel
  | _, _ => s

/-- A buffer enters CLEARING (R423), and a set that waits for one takes it. -/
def State.clearReel (s : State) (ch b : Nat) : State :=
  (s.setReel ch b { s.reel ch b with
    state := .clearing, notClear := false, clearAt := s.now, exporting := false, releaseDue := false }).settleClaim ch

/-- Changes the open reels of a channel for which a condition on the set holds. -/
def State.mapOpen (s : State) (ch : Nat) (p : Nat → Bool) (f : Reel → Reel) : State :=
  let s := [0, 1].foldl (fun s b =>
    if (s.reel ch b).state == .accumulating && p (s.reel ch b).set_ then s.setReel ch b (f (s.reel ch b)) else s) s
  if s.hist.claims.isEmpty then s
  else { s with hist := { s.hist with claims := s.hist.claims.map (fun c =>
    if c.ch == ch && p c.reel.set_ then { c with reel := f c.reel } else c) } }

/-- The open reels of a channel carry DEGRADED (R384). -/
def State.degradeChannel (s : State) (ch : Nat) : State := s.mapOpen ch (fun _ => true) (fun r => { r with degraded := true })

/-- A posted descriptor carries DEGRADED where it stands for a buffer. -/
def Descriptor.degrade (d : Descriptor) (ch buf : Nat) : Descriptor :=
  if d.kind = 0 ∧ d.ch = ch ∧ d.buf = buf then { d with flags := d.flags ||| 4 } else d

/-- The descriptors of a buffer, waiting or posted, carry DEGRADED. -/
def State.degradePosted (s : State) (ch buf : Nat) : State :=
  let f := fun d : Descriptor => d.degrade ch buf
  { s with
    hist := { s.hist with descWait := s.hist.descWait.map f }
    eng := { s.eng with units := s.eng.units.map (fun u => (u.1, { u.2 with
      queue := u.2.queue.map f, slotA := { u.2.slotA with desc := u.2.slotA.desc.map f }
      slotB := { u.2.slotB with desc := u.2.slotB.desc.map f } })) } }

/-- The reel of a set on a channel has lost a hit: its points carry DEGRADED, also where it has completed (R35, R361, R370). -/
def State.degradeReel (s : State) (ch set_ : Nat) : State :=
  let s := s.mapOpen ch (fun id => id == set_) (fun r => { r with degraded := true })
  match [0, 1].find? (fun b => (s.reel ch b).state == .held && (s.reel ch b).set_ == set_) with
  | some b => (s.setReel ch b { s.reel ch b with degraded := true }).degradePosted ch b
  | none => s

/-- A set. -/
def State.set? (s : State) (id : Nat) : Option ReelSet := s.hist.sets.find? (fun r => r.id == id)

/-- A limited event of chapter 08: at most once per 1 ms and event number (R450). -/
def State.raiseMs (s : State) (e payload : Nat) : State := s.raiseLimited e 0 payload

/-- A hit is dropped for want of room in its channel's buffer, or waits when its set completes (R35, R424). -/
def State.ingestDrop (s : State) (ch set_ : Nat) : State :=
  ((s.degradeReel ch set_).count Obj.HIT_INGEST_DROPS).raiseMs 0x0A5 (ch * 2 ^ 24)

/-! ### Additions (R417, R427 to R430) -/

/-- COUNT and RESID of a bin record (R405). -/
def binCount (b : Nat) : Nat := b / 2 ^ 18
def binResid (b : Nat) : Nat := b % 2 ^ 18

/-- A bin record after an addition of residual ρ, and whether it saturated (R427). -/
def binAdd (b rho : Nat) : Nat × Bool :=
  let c := binCount b + 1
  let r := binResid b + rho
  (min c 16383 * 2 ^ 18 + min r 262143, decide (16383 < c ∨ 262143 < r))

/-- The slot of a list of candidate slots that lies nearest a time within TRACK_HALF, the lowest number on a tie: its
number and distance (R430). -/
def nearSlot (half t : Nat) : List (Option Candidate) → Nat → Option (Nat × Nat)
  | [], _ => none
  | c :: cs, i =>
    let rest := nearSlot half t cs (i + 1)
    match c with
    | none => rest
    | some c =>
      let d := ((t : Int) - (c.centre : Int)).natAbs
      if d ≤ half then (match rest with | some (j, e) => if e < d then some (j, e) else some (i, d) | none => some (i, d))
      else rest

/-- The occupied slot with least WSUM, the highest number on a tie. -/
def weakSlot : List (Option Candidate) → Nat → Option (Nat × Nat)
  | [], _ => none
  | c :: cs, i =>
    let rest := weakSlot cs (i + 1)
    match c with
    | none => rest
    | some c => match rest with
      | some (j, w) => if c.wsum < w then some (i, c.wsum) else some (j, w)
      | none => some (i, c.wsum)

/-- An addition counted to a slot (R430). -/
def Candidate.counted (c : Candidate) (a : Addition) (bin n : Nat) : Candidate :=
  { c with
    wsum := min (c.wsum + 1) 0xFFFF, totSum := min (c.totSum + a.tot) 0xFFFFFFFF
    hiCount := if a.hi then min (c.hiCount + 1) 0xFF else c.hiCount
    prim := if a.own then min (c.prim + 1) 0xFFFF else c.prim
    peakBin := if c.peakCount < n then bin else c.peakBin, peakCount := if c.peakCount < n then n else c.peakCount }

/-- A slot seeded by an addition (R430). -/
def Candidate.seed (a : Addition) (bin n : Nat) : Candidate :=
  ⟨a.time, bin, n, min n 0xFFFF, b2n a.own, min (n * a.tot) 0xFFFFFFFF, if a.hi then min n 0xFF else 0⟩

/-- The tracker treats an addition to a bin whose new COUNT is n (R430). -/
def track (half : Nat) (slots : List (Option Candidate)) (a : Addition) (bin n : Nat) : List (Option Candidate) :=
  match nearSlot half a.time slots 0 with
  | some (i, _) => slots.set i ((slots.getD i none).map (fun c => c.counted a bin n))
  | none =>
    match slots.findIdx? (fun c => c.isNone) with
    | some i => slots.set i (some (Candidate.seed a bin n))
    | none => match weakSlot slots 0 with
      | some (i, w) => if w < n then slots.set i (some (Candidate.seed a bin n)) else slots
      | none => slots

/-- The bank of a word of a channel's reel (R407). -/
def bankOf (ch bin : Nat) : Nat := (bin / 2 + 5 * ch) % 64

/-- The queue of a bank. -/
def State.bank (s : State) (b : Nat) : List Addition := tabGet (fun _ => []) s.hist.banks b

/-- Sets the queue of a bank. -/
def State.setBank (s : State) (b : Nat) (q : List Addition) : State :=
  { s with hist := { s.hist with banks := tabPut (fun _ => []) s.hist.banks b q } }

/-- A read of an uncorrectable word of a buffer: both bins become 0, the reel is DEGRADED, also where it is posted, and the reset is
counted and reported (R428). -/
def State.zeroWord (s : State) (ch buf w : Nat) : State :=
  let r := s.reel ch buf
  let bins := tabErase (2 * w) (tabErase (2 * w + 1) r.bins)
  let s := s.setReel ch buf { r with bins := bins, degraded := true }
  let s := { s with hist := { s.hist with badWords := s.hist.badWords.filter (· != (ch, buf, w)) } }
  let s := if r.state = .held then s.degradePosted ch buf else s
  (s.count Obj.REEL_ECC_RESETS).raiseMs 0x0A1 0

/-- The words of a buffer that satisfy p are read: the uncorrectable ones among them are reset (R428). -/
def State.readWords (s : State) (ch buf : Nat) (p : Nat → Bool) : State :=
  (s.hist.badWords.filter (fun x => x.1 == ch && x.2.1 == buf && p x.2.2)).foldl (fun s x => s.zeroWord ch buf x.2.2) s

/-- The word of a bin is read. -/
def State.zeroBadWord (s : State) (ch buf bin : Nat) : State :=
  if s.hist.badWords.contains (ch, buf, bin / 2) then s.zeroWord ch buf (bin / 2) else s

/-- A bin saturates: SATURATED on the reel, counted once per bin and reel (R427). -/
def State.noteSaturation (s : State) (ch buf bin : Nat) : State :=
  let r := s.reel ch buf
  if r.satBins.contains bin then s
  else
    ((s.setReel ch buf { r with saturated := true, satBins := bin :: r.satBins }).count Obj.BIN_SATURATIONS).raiseMs 0x0A6 0

/-- An addition is applied to its bin (R411, R418, R427, R430); one above the span is not added. -/
def State.applyAddition (s : State) (a : Addition) : State :=
  match s.set? a.set_ with
  | none => s
  | some st =>
    match binOf st.gear a.time with
    | none => s
    | some (bin, rho) =>
      let s := s.zeroBadWord a.ch a.buf bin
      let r := s.reel a.ch a.buf
      let x := binAdd (tabGet (fun _ => 0) r.bins bin) rho
      let s := s.setReel a.ch a.buf { r with
        bins := tabPut (fun _ => 0) r.bins bin x.1, blind := r.blind || a.blind
        slots := track st.trackHalf r.slots a bin (binCount x.1) }
      if x.2 then s.noteSaturation a.ch a.buf bin else s

/-- A bank can serve an addition now: the cycle of its arrival is over, so the order of R447 and R454 is settled, and two cycles have
passed since the one before. -/
def State.bankServes (s : State) (b : Nat) (a : Addition) : Bool :=
  decide (a.at_ < s.now) && decide (tabGet (fun _ => 0) s.hist.bankFree b ≤ s.now)

/-- A bank is busy for the two cycles of a read-modify-write (R447). -/
def State.busyBank (s : State) (b : Nat) : State :=
  { s with hist := { s.hist with bankFree := tabPut (fun _ => 0) s.hist.bankFree b (s.now + 2) } }

/-- BIN_UPDATE: a bank serves its oldest addition (R447). -/
def execBinUpdate (bank : Fin 64) (s : State) : Host.Outcome State Fault Refusal :=
  match s.bank bank with
  | [] => .next s
  | a :: q => .next (if s.bankServes bank a then ((s.busyBank bank).setBank bank q).applyAddition a else s)

/-- The additions of a hit with the offsets of its take (R417). -/
def hitAdditions (h : Hit) (buf set_ now : Nat) (offs : List Nat) : List Addition :=
  (offs.zip (List.range offs.length)).filterMap (fun p =>
    if 64 * p.1 ≤ h.time then some ⟨h.ch, buf, set_, h.time - 64 * p.1, p.2 == 0, h.tot, h.hi, h.blind, now, p.2⟩ else none)

/-- The bank of an addition; none above the span. -/
def Addition.bank? (a : Addition) (g : List Byte) : Option Nat := (binOf g a.time).map (fun p => bankOf a.ch p.1)

/-- Of two additions of one cycle the first is served first: channel order, then pulse order (R447, R454). -/
def Addition.before (a b : Addition) : Bool :=
  a.at_ == b.at_ && (decide (a.ch < b.ch) || (a.ch == b.ch && decide (a.pulse < b.pulse)))

/-- An addition takes its place in a queue in order of arrival (R447). -/
def insertAddition (a : Addition) : List Addition → List Addition
  | [] => [a]
  | b :: q => if a.before b then a :: b :: q else b :: insertAddition a q

/-- Queues an addition at its bank. -/
def State.queueAddition (s : State) (g : List Byte) (a : Addition) : State :=
  match a.bank? g with
  | some b => s.setBank b (insertAddition a (s.bank b))
  | none => s

/-- A take record, by number and epoch. -/
def State.take? (s : State) (seq epoch : Nat) : Option Take := s.seq.takes.find? (fun t => t.seq == seq && t.epoch == epoch)

/-! ### Sets -/

/-- A reel of the set is HELD. -/
def State.setHeld (s : State) (id : Nat) : Bool := s.hist.reels.any (fun e => e.2.set_ == id && e.2.state == .held)

/-- A pending gear table applies at an opening at which no reel of the group is held, or is still to be held, under another table than
the current one (R413). -/
def State.gearFree (s : State) (g : Nat) : Bool :=
  s.hist.sets.all (fun r => r.group != g || r.gearGen == s.getN (Obj.GEAR_GEN + g) || (r.completed && !s.setHeld r.id))

/-- The application of a pending table at an opening (R413): not of one written in the cycle of the opening (R451); the
multi-revolution history of the group is emptied (R443). -/
def State.applyGear (s : State) (g : Nat) : State :=
  match tabGet (fun _ => none) s.hist.pendingGears g with
  | none => s
  | some (t, at_) =>
    if s.gearFree g && decide (at_ < s.now) then
      let old := s.gear g
      let s := { s with hist := { s.hist with
        gears := tabPut (fun _ => gearDefault) s.hist.gears g t
        oldGears := tabPut (fun _ => gearDefault) s.hist.oldGears g old
        pendingGears := tabPut (fun _ => none) s.hist.pendingGears g none } }
      let s := s.set (Obj.GEAR_GEN + g) ((s.getN (Obj.GEAR_GEN + g) + 1) % 16)
      ((s.set (Obj.GEAR_PENDING + g) 0).raise 0x0A0 (g * 2 ^ 24)).emptyMrev g
    else s

/-- What a take hands on (R211, R549, R551). -/
def Take.firstTake (t : Take) (cueA : Bool) : FirstTake :=
  { seq := t.seq, epoch := t.epoch, rev := t.rev, trig := t.trig, posA := t.posA, posB := t.posB, sec := t.sec, ns := t.ns
    frac := t.frac, tepoch := t.tepoch, unsync := t.unsync, cueB := !cueA }

/-- A reel set opens with its first take (R221, R448); it claims its buffers as that take
starts (R38, R420). -/
def State.openReelSet (s : State) (t : Take) (k : Nat) : Nat × State :=
  let g := t.group
  let s := s.applyGear g
  let id := s.hist.nextSet
  let st : ReelSet := {
    id := id, group := g, bind := t.bind, k := k, held := 0, claimed := false, closed := false, closing := false, completing := false
    completed := false, degraded := false
    freewheel := false, first := t.firstTake (s.cueAxis == 0), wrap := false, codes := [], steps := [], windows := [], lastEnd := t.trig
    open_ := 0, gear := s.gear g, gearGen := s.getN (Obj.GEAR_GEN + g), trackHalf := s.getN Obj.TRACK_HALF
    skyGate := s.getN Obj.SKY_GATE, satHiMin := s.getN Obj.SAT_HI_MIN }
  (id, { s with hist := { s.hist with sets := s.hist.sets ++ [st], nextSet := id + 1 } })

/-- The enabled channels of a set's group. -/
def State.setChannels (s : State) (r : ReelSet) : List Nat := (s.groupChannels r.group).filter (fun c => s.rxEnabled c)

/-- The sets whose first take has started by the end of the present core cycle claim a buffer on each channel of their group (R38, R420). -/
def State.openBuffers (s : State) : State :=
  (s.hist.sets.filter (fun r => !r.claimed && decide (r.first.trig < s.nowTaps + 64))).foldl (fun s r =>
    (s.setChannels r).foldl (fun s c => s.claimReel c r.id) (s.mapSet r.id (fun x => { x with claimed := true }))) s

/-- The codes of a set with a take's: the word of the first take that used a code stands (R495). -/
def noteCode (l : List (Nat × Nat)) (code word : Nat) : List (Nat × Nat) :=
  if l.any (fun x => x.1 == code) then l else l ++ [(code, word)]

/-- A take joins a set, which closes at K (R221). -/
def State.joinSet (s : State) (id : Nat) (t : Take) : State :=
  let step := s.sweepStep t.group
  s.mapSet id (fun r => { r with
    held := r.held + 1, open_ := r.open_ + 1, closed := decide (r.k ≤ r.held + 1), freewheel := r.freewheel || t.freewheel
    codes := noteCode r.codes t.code t.word, steps := if r.steps.contains step then r.steps else step :: r.steps })

/-- A take of a set starts on a channel whose table is not valid: the reel carries STALE (R590). -/
def State.staleTake (s : State) (t : Take) : State :=
  (s.groupChannels t.group).foldl (fun s c =>
    if s.channelStale c then s.mapOpen c (fun id => id == t.set_) (fun r => { r with stale := true }) else s) s

/-- The window of a take of the set has ended, whether it opened or not (R379, R421, R459). -/
def ReelSet.windowEnded (r : ReelSet) (opened : Bool) (window : Nat) (stop : Int) : ReelSet :=
  { r with
    open_ := r.open_ - 1, lastEnd := if r.lastEnd < stop then stop else r.lastEnd, degraded := r.degraded || !opened
    windows := if opened then window :: r.windows else r.windows }

end Sys2Proof.Machine
end

