-- ==== Sys2Proof/Machine/PipeOps.lean ====
section
/-! DEFINITION. The point pipeline (chapter 10): point records, the vehicle frame, the cross-channel rule, slates, streams
and their queues, spoke sums, and the opening and closing of spokes. -/

namespace Sys2Proof.Machine

open Sys2Proof

/-! ### Point records (R553) -/

/-- A word with the field of w bits at bit p set to a value. -/
def setField (x p w v : Nat) : Nat := x - field x p w * 2 ^ p + v % 2 ^ w * 2 ^ p

/-- RANGE, INTENSITY, RETURN, CLASS and SNR of a record. -/
def recRange (r : Nat) : Nat := field r 106 22
def recIntensity (r : Nat) : Nat := field r 94 12
def recReturn (r : Nat) : Nat := field r 84 2
def recClass (r : Nat) : Nat := field r 80 4
def recSnr (r : Nat) : Nat := field r 8 8

/-- Sets a flag bit of a record. -/
def setFlag (r bit : Nat) (x : Bool) : Nat := if x then setField r bit 1 1 else r

/-! ### The cross-channel rule (R550) -/

/-- A record is crosstalk of another of its spoke: R549 calls the rule the cross-channel rule, so the other lies on another channel
(R550; DEDUCED, log entry 79). -/
def crosstalk (st : SpokeSettings) (groupSize : Nat) (a b : SpokePoint) : Bool :=
  [1, 2, 3, 8].contains (recClass a.rec_) && natBit b.rec_ 76 && a.ch / groupSize == b.ch / groupSize &&
    decide (((a.ch : Int) - (b.ch : Int)).natAbs ≤ st.xtSpan) && a.ch != b.ch &&
    a.first.seq == b.first.seq && a.first.epoch == b.first.epoch &&
    decide (((recRange a.rec_ : Int) - (recRange b.rec_ : Int)).natAbs ≤ st.xtTol) &&
    decide (recIntensity a.rec_ * 100 ≤ st.xtRatio * recIntensity b.rec_)

/-- The records of a spoke with class 5 where the rule holds (R550). -/
def applyCrosstalk (st : SpokeSettings) (groupSize : Nat) (ps : List SpokePoint) : List SpokePoint :=
  if st.xt then
    ps.map (fun a => if ps.any (fun b => crosstalk st groupSize a b) then { a with rec_ := setField a.rec_ 80 4 5 } else a)
  else ps

/-! ### Filling at close (R549) -/

/-- The cue-axis position of a first take. -/
def FirstTake.position (f : FirstTake) : Nat := if f.cueB then f.posB else f.posA

/-- The fields that assembly fills in a record (R549). -/
def fillPoint (slate : FirstTake) (degraded : Bool) (p : SpokePoint) : SpokePoint :=
  let r := setField p.rec_ 48 24 (p.first.position / 256)
  let r := setField r 32 16 (min 0xFFFF (((p.first.trig - slate.trig) / 1280).toNat))
  let r := setFlag r 77 p.first.unsync
  { p with rec_ := setFlag r 74 degraded }

/-! ### The slate (R551, R552) -/

/-- One bit step of CRC-16 with polynomial 0x1021. -/
def crc16Bit (c : BitVec 16) : BitVec 16 := if c.getLsbD 15 then (c <<< 1) ^^^ 0x1021#16 else c <<< 1

/-- CRC-16 of R551: initial value 0xFFFF, most significant bit first. -/
def crc16 (bs : List Byte) : Nat :=
  (bs.foldl (fun c b =>
    crc16Bit (crc16Bit (crc16Bit (crc16Bit (crc16Bit (crc16Bit (crc16Bit (crc16Bit (c ^^^ ((b.setWidth 16 : BitVec 16) <<< 8)))))))))) 0xFFFF#16).toNat

/-- The first 30 bytes of a slate with its CRC. -/
def slateOf (body : List Byte) : List Byte := body ++ beBytes 2 (crc16 body)

/-- A slate with DROPPED set (R552). -/
def slateDropped (slate : List Byte) : List Byte := slateOf (slate.take 29 ++ (slate.getD 29 0#8 ||| 4#8) :: [])

/-- The slate of a spoke as 32 bytes, but for DROPPED, which each stream's message takes as it leaves. -/
def State.slate (s : State) (sp : Spoke) (points : List SpokePoint) : List Byte :=
  let f := sp.first
  let flags := 128 * b2n sp.wrap + 64 * b2n f.unsync + 32 * b2n sp.split + 16 * b2n (points.any (fun p => natBit p.rec_ 75)) +
    8 * b2n sp.degraded + 2 * b2n sp.restep + b2n (s.axisMode 0 == 3)
  let tail : Nat := (((f.sec * 2 ^ 30 + f.ns) * 2 ^ 16 + f.tepoch) * 4 + sp.group) * 256 + flags
  slateOf (beBytes 6 f.seq ++ beBytes 2 f.epoch ++ beBytes 5 f.rev ++ beBytes 4 f.position ++ beBytes 13 tail)

/-! ### The vehicle frame (R555) -/

/-- 2π in units of 2^-60. -/
def twoPi60 : Int := 7244019458077122842

/-- 1 in units of 2^-60. -/
def one60 : Int := 1152921504606846976

/-- The terms of a Taylor series from one term on: each is the one before times −x² / ((n + 1)(n + 2)). -/
def taylor (x2 : Int) : Nat → Int → Int → Int
  | 0, _, _ => 0
  | fuel + 1, n, t => t + taylor x2 fuel (n + 2) (-(t * x2 / one60) / ((n + 1) * (n + 2)))

/-- Sine and cosine of an angle of 0 to π/2, in units of 2^-60. -/
def sinCosQuarter (x : Int) : Int × Int :=
  let x2 := x * x / one60
  (taylor x2 16 1 x, taylor x2 16 0 one60)

/-- Sine and cosine, in units of 2^-60, of an angle in units of 2^-48 revolution. -/
def sinCos (a : Int) : Int × Int :=
  let m := a % 281474976710656
  let q := m / 70368744177664
  let p := sinCosQuarter (m % 70368744177664 * twoPi60 / 281474976710656)
  if q = 0 then p else if q = 1 then (p.2, -p.1) else if q = 2 then (-p.1, -p.2) else (-p.2, p.1)

/-- The azimuth and elevation of a record, in units of 2^-48 revolution (R555). -/
def State.angles (s : State) (st : SpokeSettings) (p : SpokePoint) : Int × Int :=
  let pA : Int := if s.axisMode 0 = 0 ∨ s.axisMode 0 = 3 then 0 else p.first.posA
  let pB : Int := if s.axisMode 1 = 0 then 0 else signed 32 p.first.posB
  ((pA + beIntAt st.beam (8 * p.ch) 4) * 65536, beIntAt st.beam (8 * p.ch + 4) 4 * 65536 + st.elB * pB)

/-- The unit vector of a record in the sensor frame, in units of 2^-60. -/
def State.direction (s : State) (st : SpokeSettings) (p : SpokePoint) : List Int :=
  let a := s.angles st p
  let az := sinCos a.1
  let el := sinCos a.2
  [el.2 * az.2 / one60, el.2 * az.1 / one60, el.1]

/-- Coordinate i of M × v_s + T in mm, as a numerator over 4,000 × 2^90 (R555). -/
def vehicleNum (st : SpokeSettings) (range : Nat) (u : List Int) (i : Nat) : Int :=
  let row := (List.range 3).map (fun j => beIntAt st.extrinsics (12 * i + 4 * j) 4 * (u.getD j 0) * range)
  row.sum * 1000 + beIntAt st.extrinsics (36 + 4 * i) 4 * (4 * 2 ^ 90)

/-- The denominator of vehicleNum. -/
def vehicleDen : Int := 4000 * 2 ^ 90

/-- The integers within 1 mm of a coordinate, of which the device gives one (R555). -/
def coordinateChoices (num : Int) : List Int :=
  let r := divRound num vehicleDen
  [r - 1, r, r + 1].filter (fun n => decide ((n * vehicleDen - num).natAbs ≤ vehicleDen.toNat))

/-- A coordinate of the vehicle form: one of the values within 1 mm, which one is left open (log entry 2). -/
def State.coordinate (s : State) (num : Int) : Int × State :=
  let c := coordinateChoices num
  (c.getD (s.draw.1 % c.length) 0, s.draw.2)

/-- The 64 bits that follow the point record in vehicle form (R562). -/
def State.vehicleBits (s : State) (st : SpokeSettings) (p : SpokePoint) : Nat × State :=
  let u := s.direction st p
  let x := s.coordinate (vehicleNum st (recRange p.rec_) u 0)
  let y := x.2.coordinate (vehicleNum st (recRange p.rec_) u 1)
  let z := y.2.coordinate (vehicleNum st (recRange p.rec_) u 2)
  (unsigned 21 x.1 * 2 ^ 43 + unsigned 21 y.1 * 2 ^ 22 + unsigned 21 z.1 * 2, z.2)

/-! ### Output queues (R561 to R569) -/

/-- STREAM_CFG of a stream. -/
def State.streamCfg (s : State) (n : Nat) : Nat := s.getN (Obj.STREAM_CFG + n)

/-- DEST of a stream: 0 off, 1 KLP, 2 E0, 3 E1. -/
def State.streamDest (s : State) (n : Nat) : Nat := field (s.streamCfg n) 28 4

/-- The records that one datagram of a message carries; on KLP, 0 for KIND 2, a message is one frame. -/
def OutMessage.perDatagram (m : OutMessage) : Nat :=
  let size := if m.kind = 1 then 24 else 16
  max 1 ((m.maxPayload - 48) / size)

/-- A list cut into pieces of n elements, with a bound on their number. -/
def chunks {α : Type} (n : Nat) : Nat → List α → List (List α)
  | 0, _ => []
  | fuel + 1, l => if l.isEmpty then [] else l.take n :: chunks n fuel (l.drop n)

/-- The pieces of a message without header: the records, or the bytes of a raw record, of each datagram (R564, R566). -/
def OutMessage.pieces (m : OutMessage) (klp : Bool) : List (Nat × List Byte) :=
  if m.kind = 2 then
    let bytes := m.records.flatten
    if klp then [(0, bytes)] else (chunks (m.maxPayload - 16) bytes.length bytes).map (fun b => (0, b))
  else if klp || m.records.isEmpty then [(m.records.length, m.slate ++ m.records.flatten)]
  else (chunks m.perDatagram m.records.length m.records).map (fun rs => (rs.length, m.slate ++ rs.flatten))

/-- The bytes that a message takes in its queue. -/
def OutMessage.size (m : OutMessage) : Nat := 16 + m.slate.length + (m.records.map (·.length)).sum

/-- The bytes that a queue holds. -/
def queueSize (q : List OutMessage) : Nat := (q.map (·.size)).sum

/-- The place of a message in the drop order: raw-reel records first, then priorities 3, 2, 1; never priority 0 (R568). -/
def OutMessage.dropRank (m : OutMessage) : Nat := if m.kind = 2 then 4 else m.prio

/-- The queue holds a message of a lower priority than p; else an arriving message of priority p is the one discarded (R581). -/
def hasLower (q : List OutMessage) (p : Nat) : Bool := q.any (fun m => decide (p < m.prio))

/-- The oldest queued message that is dropped first for one of priority p: it has the highest rank, and no higher priority than the
arriving one; a digest and a spoke message of priority 0 never (R568, R581). -/
def dropVictim (q : List OutMessage) (p : Nat) : Option OutMessage :=
  let can := q.filter (fun m => hasLower q p && decide (p ≤ m.prio) && (m.kind == 2 || m.prio != 0))
  let top := (can.map (·.dropRank)).foldl max 0
  can.find? (fun m => m.dropRank == top)

/-- A message is discarded: counted, reported, and its stream's next message carries DROPPED (R568). A digest and an event
datagram have no stream. -/
def State.dropMessage (s : State) (m : OutMessage) : State :=
  let s := if m.kind = 2 then s.count Obj.RAW_OUT_DROPS else if 4 ≤ m.stream then s else s.count (Obj.STREAM_DROPS + m.stream)
  let s := { s with pipe := { s.pipe with
    dropped := if 4 ≤ m.stream || s.pipe.dropped.contains m.stream then s.pipe.dropped else m.stream :: s.pipe.dropped } }
  s.raiseMs 0x0E1 0

/-- The messages of a queue that may be discarded: those that have not begun to leave (R568, R569, R724). -/
def State.unbegun (s : State) (dest : Nat) : List OutMessage :=
  if dest = 1 then (s.outQueue 1).filter (fun m => !(s.unsentFrames 0).any (fun f => f.msg == some m)) else s.outQueue dest

/-- Room is made in a queue by discarding, with a bound on how many. -/
def State.makeRoom (s : State) (dest need p : Nat) : Nat → State
  | 0 => s
  | fuel + 1 =>
    let q := s.outQueue dest
    if queueSize q + need ≤ s.getN (Obj.OUT_QUEUE + (dest - 1)) * 2 ^ 20 then s
    else match dropVictim (s.unbegun dest) p with
      | none => s
      | some v => State.makeRoom ((s.setOutQueue dest (q.erase v)).dropMessage v) dest need p fuel

/-- A message enters its queue, or is discarded (R568), as it is while no queue can hold it (R832, R835). -/
def State.enqueue (s : State) (dest : Nat) (m : OutMessage) : State :=
  if !s.ddrHas ddrQueues then s.dropMessage m else
  let s := s.makeRoom dest m.size m.prio (s.outQueue dest).length
  if queueSize (s.outQueue dest) + m.size ≤ s.getN (Obj.OUT_QUEUE + (dest - 1)) * 2 ^ 20 then
    let s := s.setOutQueue dest (s.outQueue dest ++ [m])
    let n := if m.kind = 2 then 0 else m.records.length
    s.set Obj.POINTS_OUT ((s.get Obj.POINTS_OUT + n) % 2 ^ 64)
  else s.dropMessage m

/-- The classes that a stream carries. -/
def streamTakes (cfg : Nat) (p : SpokePoint) : Bool := decide (recClass p.rec_ ≤ 8) && natBit cfg (11 + recClass p.rec_)

/-- The records of a spoke in the form of a stream. -/
def State.streamRecords (s : State) (kind : Nat) (st : SpokeSettings) : List SpokePoint → List (List Byte) × State
  | [] => ([], s)
  | p :: ps =>
    if kind = 1 then
      let v := s.vehicleBits st p
      let rest := State.streamRecords v.2 kind st ps
      ((beBytes 16 p.rec_ ++ beBytes 8 v.1) :: rest.1, rest.2)
    else
      let rest := State.streamRecords s kind st ps
      (beBytes 16 p.rec_ :: rest.1, rest.2)

/-- One stream's message of a closed spoke (R563). Its slate takes DROPPED as it leaves (R552). -/
def State.streamSpoke (s : State) (sp : Spoke) (points : List SpokePoint) (n : Nat) : State :=
  let cfg := s.streamCfg n
  let kind := field cfg 24 2
  let ps := points.filter (streamTakes cfg)
  if s.streamDest n = 0 ∨ kind = 2 ∨ !natBit cfg (20 + sp.group) ∨ (ps.isEmpty && !natBit cfg 10) then s
  else
    let r := s.streamRecords kind sp.settings ps
    r.2.enqueue (field cfg 28 4) ⟨n, field cfg 26 2, kind, sp.bind, s.slate sp points, r.1, s.getN Obj.UDP_MAX_PAYLOAD⟩

/-! ### Spoke sums (R801) -/

/-- The records that enter the sum, by ascending channel and return. -/
def State.sumPoints (s : State) (points : List SpokePoint) : List SpokePoint :=
  sortBy (fun a b => decide (a.ch * 4 + recReturn a.rec_ ≤ b.ch * 4 + recReturn b.rec_))
    (points.filter (fun p => decide (s.getN Obj.SUM_SNR_MIN ≤ recSnr p.rec_)))

/-- The spoke sum of a closed spoke (R801). -/
def State.spokeSum (s : State) (sp : Spoke) (points : List SpokePoint) : SpokeSum :=
  let ps := s.sumPoints points
  let head := beBytes 6 sp.first.seq ++ beBytes 2 sp.first.epoch ++ beBytes 1 sp.group ++ beBytes 2 sp.bind
  { takeSeq := sp.first.seq, seqEpoch := sp.first.epoch, lg := sp.group, bind := sp.bind, n := ps.length
    crc := crc32 (head ++ ps.flatMap (fun p => beBytes 1 p.ch ++ beBytes 1 (recReturn p.rec_) ++ beBytes 1 (recClass p.rec_)))
    rsum := (ps.map (fun p => recRange p.rec_)).sum, at_ := s.now }

/-- Two sums match (R802). -/
def State.sumsMatch (s : State) (a b : SpokeSum) : Bool :=
  a.n == b.n && a.crc == b.crc && decide (((a.rsum : Int) - (b.rsum : Int)).natAbs ≤ s.getN Obj.SUM_RANGE_TOL * a.n)

/-- The sums are of one spoke: they pair by take number, epoch and group (R802). -/
def SpokeSum.pairs (a b : SpokeSum) : Bool := a.takeSeq == b.takeSeq && a.seqEpoch == b.seqEpoch && a.lg == b.lg

/-- The outcome of a comparison (R802). -/
def State.compareSums (s : State) (a b : SpokeSum) : State :=
  let s := s.count Obj.SUMS_COMPARED
  if s.sumsMatch a b then { s with pair := { s.pair with mismatches := 0, lastSumOk := true } }
  else
    let s := { s with pair := { s.pair with mismatches := s.pair.mismatches + 1, lastSumOk := false } }
    let s := (s.count Obj.SUM_MISMATCHES).raiseMs 0x145 0
    if s.pair.mismatches = s.getN Obj.SUM_MISMATCH_LIMIT then s.raise 0x146 0 else s

/-- The spoke sum at a close: an ACTIVE device sends it, a SHADOW compares it with what has come or keeps it (R801,
R802). -/
def State.noteSum (s : State) (x : SpokeSum) : State :=
  if s.pair.role = .active then
    s.sendFarlu 0x12 (beBytes 6 x.takeSeq ++ beBytes 2 x.seqEpoch ++ beBytes 1 x.lg ++ [0] ++ beBytes 2 x.bind ++
      beBytes 2 x.n ++ beBytes 4 x.crc ++ beBytes 8 x.rsum ++ fill 6 0)
  else if s.isShadow then
    match s.pair.peerSums.find? (fun y => y.pairs x) with
    | some y => { s with pair := { s.pair with peerSums := s.pair.peerSums.filter (fun z => !z.pairs x) } }.compareSums y x
    | none => { s with pair := { s.pair with ownSums := s.pair.ownSums ++ [x] } }
  else s

/-! ### Closing (R545, R546, R563) -/

/-- A spoke leaves assembly: its records are completed, summed, and queued to the streams, which a SHADOW does not do,
nor a new ACTIVE device for a spoke whose sum the partner has sent (R549 to R552, R563, R789, R796). -/
def State.closeSpoke (s : State) (sp : Spoke) : State :=
  let s := { s with pipe := { s.pipe with spokes := s.pipe.spokes.filter (fun x => x.id != sp.id) } }
  let points := (applyCrosstalk sp.settings (256 / s.groups) sp.points).map (fillPoint sp.first sp.degraded)
  let sum := s.spokeSum sp points
  let known := s.pair.peerSums.any (fun y => y.pairs sum)
  let s := s.noteSum sum
  if s.isShadow || known then s else [0, 1, 2, 3].foldl (fun s n => s.streamSpoke sp points n) s

/-- A forced close (R546). -/
def State.splitSpoke (s : State) (sp : Spoke) : State := ((s.closeSpoke sp).count Obj.SPOKE_SPLITS).raiseMs 0x0E0 0

/-- The key of spoke (g, b) in the count of its reels. -/
def spokeKey (g b : Nat) : Nat := 65536 * g + b

/-- The reels of (g, b) that have completed and are not yet released. -/
def State.owed (s : State) (g b : Nat) : Nat := tabGet (fun _ => 0) s.pipe.owed (spokeKey g b)

/-- Sets the number of reels of (g, b) not yet released. -/
def State.setOwed (s : State) (g b n : Nat) : State :=
  { s with pipe := { s.pipe with owed := tabPut (fun _ => 0) s.pipe.owed (spokeKey g b) n } }

/-- A reel set of (g, b) is open or has not completed, or a completed reel, or a posted sum, has not been released (R545, R585). -/
def State.spokeBusy (s : State) (g b : Nat) : Bool :=
  decide (0 < s.owed g b) || s.hist.sets.any (fun r => r.group == g && r.bind == b && !r.completed)

/-- Changes the open spoke of (g, b). -/
def State.mapSpoke (s : State) (g b : Nat) (f : Spoke → Spoke) : State :=
  { s with pipe := { s.pipe with spokes := s.pipe.spokes.map (fun x => if x.group == g && x.bind == b then f x else x) } }

/-- The open spoke of (g, b). -/
def State.spoke? (s : State) (g b : Nat) : Option Spoke := s.pipe.spokes.find? (fun x => x.group == g && x.bind == b)

/-- The test of R545 starts when its conditions begin to hold, and stops when they cease. -/
def State.noteQuiet (s : State) : State :=
  { s with pipe := { s.pipe with spokes := s.pipe.spokes.map (fun x =>
    if s.spokeBusy x.group x.bind then { x with quiet := none } else { x with quiet := some (x.quiet.getD s.now) }) } }

/-- The hold of a spoke has passed (R545). -/
def State.holdPassed (s : State) (x : Spoke) : Bool :=
  match x.quiet with | some t => reached s.now t (us x.settings.hold) | none => false

/-- The age of a spoke has reached SPOKE_MAX_AGE after the t_trig of its first take (R546). -/
def State.agedOut (s : State) (x : Spoke) : Bool := decide (x.first.trig + 64 * 1000 * (x.settings.maxAge : Int) ≤ s.nowTaps)

/-- The spokes of a kind leave as the present core cycle ends: a reel released in that cycle still belongs to them (R575). -/
def State.leave (s : State) (p : Spoke → Bool) (forced : Bool) : State :=
  { s with pipe := { s.pipe with spokes := s.pipe.spokes.map (fun x =>
    if p x && x.leaving != some true then { x with leaving := some forced } else x) } }

/-- SPOKE_CLOSE: the spokes whose hold has passed close (R545, R563). -/
def execSpokeClose (s : State) : Host.Outcome State Fault Refusal := .next (s.leave s.holdPassed false)

/-- SPOKE_SPLIT: a spoke not closed SPOKE_MAX_AGE after its first take closes by force (R546). -/
def execSpokeSplit (s : State) : Host.Outcome State Fault Refusal := .next (s.leave s.agedOut true)

/-- A spoke leaves at the end of the cycle: by force, or by its hold unless a set joined it in the cycle (R545, R546). -/
def State.endSpoke (s : State) (x : Spoke) : State :=
  if x.leaving = some true then s.splitSpoke x
  else if s.holdPassed x then s.closeSpoke x
  else s.mapSpoke x.group x.bind (fun y => { y with leaving := none })

/-- The spokes that leave in the core cycle that is over close, by ascending LG (R563, R583). -/
def State.endSpokes (s : State) : State :=
  (sortBy (fun a b => decide (a.group ≤ b.group)) (s.pipe.spokes.filter (·.leaving.isSome))).foldl State.endSpoke s

/-! ### Opening (R544, R547) -/

/-- The settings of a spoke that opens now (R556, R572). -/
def State.spokeSettings (s : State) : SpokeSettings :=
  { extrinsics := s.getBlk Obj.EXTRINSICS, beam := s.getBlk Obj.BEAM_TABLE, elB := s.get Obj.EL_B_GAIN, xt := s.getB Obj.XT_ENABLE
    xtSpan := s.getN Obj.XT_SPAN, xtTol := s.getN Obj.XT_TOL, xtRatio := s.getN Obj.XT_RATIO, hold := s.getN Obj.SPOKE_HOLD
    maxAge := s.getN Obj.SPOKE_MAX_AGE }

/-- A fifth spoke of a group forces the oldest to close (R547). -/
def State.limitSpokes (s : State) (g : Nat) : State :=
  let mine := s.pipe.spokes.filter (fun x => x.group == g && x.leaving != some true)
  match mine with
  | x :: _ => if 4 ≤ mine.length then s.leave (fun y => y.id == x.id) true else s
  | [] => s

/-- New EXTRINSICS or BEAM_TABLE values apply at a group's spoke opening, with event 0x0E4 (R556). -/
def State.applyExtrinsics (s : State) (g : Nat) : State :=
  if s.pipe.extrDue.contains g then
    ({ s with pipe := { s.pipe with extrDue := s.pipe.extrDue.filter (· != g) } }).raise 0x0E4 (g * 2 ^ 24)
  else s

/-- A spoke instance opens (R544). While sets or reels of (g, b) are outstanding with no instance open, a forced close has left
them, and the new instance that they go to carries SPLIT (R546). -/
def State.newSpoke (s : State) (g bind : Nat) (f : FirstTake) : State :=
  let s := (s.limitSpokes g).applyExtrinsics g
  let id := s.pipe.nextId
  let sp : Spoke := { id := id, group := g, bind := bind, opened := s.now, first := f, points := [], quiet := none, leaving := none
                      split := s.spokeBusy g bind, wrap := false, restep := s.pipe.restep.contains g, degraded := false
                      settings := s.spokeSettings }
  { s with pipe := { s.pipe with
    spokes := s.pipe.spokes ++ [sp], nextId := id + 1, restep := s.pipe.restep.filter (· != g) } }

/-- The instance of (g, b) that a reel set or a released reel with first take f goes to: the open one, or a new one (R544, R546). Its
first take is the lowest (R551); one that a reel of an earlier take joins has followed that reel's own instance, and carries SPLIT (R546,
R585). -/
def State.spokeFor (s : State) (g bind : Nat) (f : FirstTake) : State :=
  match s.spoke? g bind with
  | some _ => s.mapSpoke g bind (fun y =>
    if f.trig < y.first.trig then { y with quiet := none, first := f, split := true } else { y with quiet := none })
  | none => s.newSpoke g bind f

/-- A reel, or a sum, of (g, b) is posted: its spoke waits for its release (R545). -/
def State.oweReel (s : State) (g b : Nat) : State := (s.setOwed g b (s.owed g b + 1)).noteQuiet

/-! ### Releases (R494, R497, R502, R548, R558, R559) -/

/-- A record enters its spoke, up to 8,192 (R548). -/
def State.addPoint (s : State) (g b : Nat) (p : SpokePoint) : State :=
  match s.spoke? g b with
  | none => s
  | some sp =>
    if sp.points.length < 8192 then s.mapSpoke g b (fun x => { x with points := x.points ++ [p] })
    else ((s.mapSpoke g b (fun x => { x with degraded := true })).count Obj.POINT_LIMIT_DROPS).raiseMs 0x0E2 0

/-- The key of a cell. -/
def cellKey (bind ch : Nat) : Nat := 256 * bind + ch

/-- The soiling map entry of a reel (R558). -/
def State.soilUpdate (s : State) (bind ch : Nat) (recs : List Nat) : State :=
  let x : Nat := match recs.find? (fun r => recClass r == 7) with | some r => recIntensity r / 16 | none => 0
  let m := tabGet (fun _ => 0) s.pipe.soil (cellKey bind ch)
  let d : Int := ((x : Int) - (m : Int)) / (2 ^ s.getN Obj.SOIL_SHIFT : Int)
  { s with pipe := { s.pipe with soil := tabPut (fun _ => 0) s.pipe.soil (cellKey bind ch) ((m : Int) + d).toNat } }

/-- The blockage of a cell after a release (R559). -/
def State.blockUpdate (s : State) (bind ch rev : Nat) (recs : List Nat) : State :=
  let k := cellKey bind ch
  let solid := recs.any (fun r => recClass r == 1)
  let far := recs.any (fun r => recClass r == 1 && decide (4 * s.getN Obj.WINDOW_RANGE < recRange r))
  let old := tabGet (fun _ => (0, 0)) s.pipe.empty k
  let new_ := if far then (0, rev + 1) else if old.2 = rev + 1 then old else (old.1 + 1, rev + 1)
  let was := tabGet (fun _ => false) s.pipe.blocked k
  let full := decide (s.getN Obj.BLOCK_LEVEL ≤ tabGet (fun _ => 0) s.pipe.soil k) && decide (s.getN Obj.BLOCK_REVS ≤ new_.1)
  { s with pipe := { s.pipe with
    empty := tabPut (fun _ => (0, 0)) s.pipe.empty k new_
    blocked := tabPut (fun _ => false) s.pipe.blocked k ((was || full) && !solid) } }

/-- BLOCK_ALARM takes effect, at boot and at a release (R572). -/
def State.takeAlarm (s : State) : State := { s with pipe := { s.pipe with blockAlarm := s.getN Obj.BLOCK_ALARM } }

/-- A reel leaves its spoke's account: released with records, or with none, lost, which degrades the spoke (R494, R502, R549). Either
release moves the maps (R558, R559), which lie in DDR5 (R832, R833, R835). -/
def State.assembleReel (s : State) (d : Descriptor) (recs : List Nat) (lost : Bool) : State :=
  let s := s.spokeFor d.lg d.spoke d.first
  let s := recs.foldl (fun s r => s.addPoint d.lg d.spoke ⟨r, d.ch, d.first⟩) s
  let s := s.mapSpoke d.lg d.spoke (fun y => { y with wrap := y.wrap || d.wrap, degraded := y.degraded || lost })
  let s := (s.setOwed d.lg d.spoke (s.owed d.lg d.spoke - 1)).noteQuiet.takeAlarm
  if s.ddrHas ddrQueues then (s.soilUpdate d.spoke d.ch recs).blockUpdate d.spoke d.ch d.first.rev recs else s

/-- The buffer of a reel goes to CLEARING, or waits for its export copy (R423, R446). -/
def State.freeBuffer (s : State) (ch buf : Nat) : State :=
  let r := s.reel ch buf
  if r.state = .held then
    (if r.exporting then s.setReel ch buf { r with releaseDue := true } else s.clearReel ch buf)
  else s

/-- The reel of a descriptor is released; a KIND 1 sum has no buffer (R423, R440). -/
def State.releaseReel (s : State) (d : Descriptor) : State := if d.kind = 0 then s.freeBuffer d.ch d.buf else s

/-- A reel is released unprocessed (R494): the spoke's points carry DEGRADED. With no kernel the reels are only counted. -/
def State.releaseUnprocessed (s : State) (d : Descriptor) : State :=
  ((s.releaseReel d).count Obj.REELS_UNPROCESSED).assembleReel d [] true

/-! ### Blockage (R560) -/

/-- The cells that count: an enabled channel and a spoke bound by an entry of the active list. -/
def State.cells (s : State) : List Nat :=
  let binds := (s.seq.active.map (fun c => c.bind.toNat)).eraseDups
  let chans := (List.range 256).filter (fun c => s.rxEnabled c)
  binds.flatMap (fun b => chans.map (fun c => cellKey b c))

/-- BLOCK_FRACTION at a revolution of axis A; a crossing of BLOCK_ALARM raises event 0x0E3 (R560). -/
def State.blockFraction (s : State) : State :=
  let cs := s.cells
  let n := (cs.filter (fun k => tabGet (fun _ => false) s.pipe.blocked k)).length
  let f := if cs.isEmpty then 0 else 100 * n / cs.length
  let s := s.set Obj.BLOCK_FRACTION f
  let alarm := decide (s.pipe.blockAlarm ≤ f)
  if alarm == s.pipe.alarm then s else ({ s with pipe := { s.pipe with alarm := alarm } }).raise 0x0E3 0

/-! ### Sending (R564, R565, R569) -/

/-- The header of R565. -/
def streamHeader (m : OutMessage) (counter fragment count records : Nat) : List Byte :=
  beBytes 2 0x4B5A ++ [0x01] ++ beBytes 1 m.kind ++ beBytes 4 counter ++ beBytes 2 m.bind ++ beBytes 1 m.stream ++
    beBytes 1 fragment ++ beBytes 1 count ++ [0] ++ beBytes 2 records

/-- A piece of a message leaves, with the stream's next COUNTER; on KLP it is the whole message, which stays queued as `queued` until its
frame has left (R724). -/
def State.sendPiece (s : State) (dest : Nat) (queued m : OutMessage) (fragment count : Nat) (piece : Nat × List Byte) : State :=
  let c := s.getN (Obj.STREAM_COUNTER + m.stream)
  let bytes := streamHeader m c fragment count piece.1 ++ piece.2
  let s := s.countWrap (Obj.STREAM_COUNTER + m.stream) 1
  if dest = 1 then s.sendFrame 0 0x01 m.stream .stream bytes (some queued)
  else s.sendUdpFrom (dest - 2) (s.getN (Obj.STREAM_SRC_PORT + m.stream)) (s.getN (Obj.STREAM_DSCP + m.stream))
    (beNat (s.getBlk (Obj.STREAM_DEST_IP + m.stream))) (s.getN (Obj.STREAM_DEST_PORT + m.stream)) .stream bytes

/-- The destination can send: the KLP bond has an active lane and no frame in progress, or the port is up and free, and nothing of a class
before the output queue waits for it (R680). -/
def State.destUp (s : State) (dest : Nat) : Bool :=
  if dest = 1 then s.bondUp 0 && (s.unsentFrames 0).isEmpty
  else s.portUp (dest - 2) && s.wireIdle (dest - 2) && (s.waitingFrames (dest - 2)).isEmpty

/-- The values of a digest, datagram by datagram; one without entries is its header alone. -/
def OutMessage.digestParts (m : OutMessage) : List (List Byte) :=
  let bs := m.records.flatten
  if bs.isEmpty then [[]] else chunks (m.maxPayload - 16) (bs.length + 1) bs

/-- A digest's datagrams leave (R570): each carries the 16-byte header in place of the slate. -/
def State.sendDigest (s : State) (dest : Nat) (m : OutMessage) : State :=
  m.digestParts.foldl (fun s b =>
    s.sendUdp (dest - 2) (beNat (s.getBlk Obj.DAILIES_DEST_IP)) (s.getN Obj.DAILIES_PORT) .dailies (m.slate ++ b)) s

/-- An event datagram leaves (R771). EVSEQ counts those that are sent: one without a destination or with an unresolved next hop is not. -/
def State.sendEvents (s : State) (dest : Nat) (m : OutMessage) : State :=
  let p := dest - 2
  let ip := beNat (s.getBlk Obj.EVENT_DEST_IP)
  let g := s.gathered (p == 1)
  let t := if s.canSend p ip then s.setGathered (p == 1) { g with seq := (g.seq + 1) % 2 ^ 32 } else s
  t.sendUdp p ip (s.getN Obj.EVENT_UDP_PORT) .eventDatagram (eventDatagram g.seq m.records)

/-- The message as it leaves: its slate carries DROPPED when one of its stream was dropped since the last that was sent (R552, R568). -/
def State.marked (s : State) (m : OutMessage) : OutMessage :=
  if m.kind != 2 && s.pipe.dropped.contains m.stream then { m with slate := slateDropped m.slate } else m

/-- A message leaves. -/
def State.sendMessage (s : State) (dest : Nat) (m : OutMessage) : State :=
  if m.stream = 4 then s.sendDigest dest m
  else if m.stream = 5 then s.sendEvents dest m
  else
    let queued := m
    let m := s.marked m
    let s := { s with pipe := { s.pipe with dropped := s.pipe.dropped.filter (fun n => n != m.stream || m.kind == 2) } }
    let ps := m.pieces (dest == 1)
    (ps.zip (List.range ps.length)).foldl (fun s p => s.sendPiece dest queued m p.2 ps.length p.1) s

/-- The oldest message of each stream, the oldest digest and the oldest event datagram: those of one kind leave in their order (R563). -/
def streamHeads (q : List OutMessage) : List OutMessage := [4, 5, 0, 1, 2, 3].filterMap (fun n => q.find? (fun m => m.stream == n))

/-- The message of a queue that leaves next: the oldest of the highest priority among the heads of the streams. -/
def nextMessage (q : List OutMessage) : Option OutMessage :=
  [0, 1, 2, 3].findSome? (fun p => (q.filter (fun m => (streamHeads q).contains m)).find? (fun m => m.prio == p))

/-- The messages of a queue that may leave: a SHADOW sends event datagrams, and neither streams nor dailies (R789). -/
def State.sendable (s : State) (dest : Nat) : List OutMessage := (s.outQueue dest).filter (fun m => !s.isShadow || m.stream == 5)

/-- STREAM_MESSAGE_SEND: the next queued message of a destination (0 KLP, 1 E0, 2 E1) leaves (R569); on KLP it begins, and stays in its
queue until its frame has left (R724). The queues lie in DDR5 and send nothing before their area is wiped (R832, R835). -/
def execStreamMessageSend (dest : Fin 3) (s : State) : Host.Outcome State Fault Refusal :=
  let d := dest.val + 1
  if s.destUp d && s.ddrHas ddrQueues then
    match nextMessage (s.sendable d) with
    | none => .next s
    | some m => .next ((if d = 1 then s else s.setOutQueue d ((s.outQueue d).erase m)).sendMessage d m)
  else .next s

/-! ### Objects -/

/-- A STREAM_CFG value is valid: DEST 0 to 3, KIND 0 to 2 (R561). -/
def streamCfgOk (v : Nat) : Bool := decide (field v 28 4 ≤ 3) && decide (field v 24 2 ≤ 2)

/-- What a scalar write of the pipeline is refused with. -/
def pipeCheck (k : Nat) (v : Int) : Option Status :=
  if k / 256 = Obj.STREAM_CFG / 256 ∧ !streamCfgOk v.toNat then some .outOfRange else none

/-- Entry (i, j) of M. -/
def extrinsic (v : List Byte) (i j : Nat) : Int := beIntAt v (12 * i + 4 * j) 4

/-- Entry (i, j) of M × Mᵀ in units of 2^-60. -/
def gramEntry (v : List Byte) (i j : Nat) : Int := ((List.range 3).map (fun k => extrinsic v i k * extrinsic v j k)).sum

/-- det M in units of 2^-90. -/
def extrinsicDet (v : List Byte) : Int :=
  let m := extrinsic v
  m 0 0 * (m 1 1 * m 2 2 - m 1 2 * m 2 1) - m 0 1 * (m 1 0 * m 2 2 - m 1 2 * m 2 0) + m 0 2 * (m 1 0 * m 2 1 - m 1 1 * m 2 0)

/-- EXTRINSICS passes the owner's validation (R556). -/
def extrinsicsOk (v : List Byte) : Bool :=
  (List.range 3).all (fun i => (List.range 3).all (fun j =>
    decide ((gramEntry v i j - (if i = j then 2 ^ 60 else 0)).natAbs ≤ 2 ^ 40))) &&
    decide (0 < extrinsicDet v) && (List.range 3).all (fun i => decide ((beIntAt v (36 + 4 * i) 4).natAbs ≤ 100000000))

/-- INT_TABLE does not decrease and holds no entry above 4,095 (R572). -/
def intTableOk (v : List Byte) : Bool :=
  let e := (List.range 33).map (fun i => beAt v (2 * i) 2)
  e.all (fun x => decide (x ≤ 4095)) && (e.zip (e.drop 1)).all (fun p => decide (p.1 ≤ p.2))

/-- What a BLOCK write of the pipeline is refused with. -/
def pipeBlkCheck (k : Nat) (v : List Byte) : Option Status :=
  if k = Obj.EXTRINSICS ∧ !extrinsicsOk v then some .outOfRange
  else if k / 256 = Obj.INT_TABLE / 256 ∧ !intTableOk v then some .outOfRange
  else none

/-- What an accepted BLOCK write of the pipeline does: it applies at each group's next spoke opening (R556, R557). -/
def pipeBlkApply (s : State) (k : Nat) : State :=
  if k = Obj.EXTRINSICS ∨ k = Obj.BEAM_TABLE then { s with pipe := { s.pipe with extrDue := [0, 1, 2, 3] } } else s

end Sys2Proof.Machine
end

