-- ==== Sys2Proof/Machine/EngineOps.lean ====
section
/-! DEFINITION. The spoke engines as the rest of the part sees them (chapter 09): states, mailbox queues, dispatch, landing
slots, kernels and their images, faults and restarts. -/

namespace Sys2Proof.Machine

open Sys2Proof

/-! ### Engines -/

/-- An engine: 0 to 31 SE, 32 and 33 AE. -/
def State.engine (s : State) (n : Nat) : Engine := tabGet (fun _ => Engine.init) s.eng.units n

/-- Sets an engine. -/
def State.setEngine (s : State) (n : Nat) (e : Engine) : State :=
  { s with eng := { s.eng with units := tabPut (fun _ => Engine.init) s.eng.units n e } }

/-- The code of SE_STATE. -/
def SeState.code : SeState → Nat
  | .off => 0 | .running => 1 | .restarting => 2 | .offline => 3

/-- The code of a slot in MBX_STATUS (R500). -/
def SlotState.code : SlotState → Nat
  | .empty => 0 | .filling => 1 | .ready => 2 | .opened => 3

/-- The spoke engines. -/
def spokeEngines : List Nat := List.range 32

/-- A landing slot: 0 A, 1 B. -/
def Engine.slot (e : Engine) (b : Nat) : Slot := if b = 0 then e.slotA else e.slotB

/-- Sets a landing slot. -/
def Engine.setSlot (e : Engine) (b : Nat) (x : Slot) : Engine := if b = 0 then { e with slotA := x } else { e with slotB := x }

/-- The number of the OPEN slot (R496). -/
def Engine.openSlot (e : Engine) : Option Nat := [0, 1].find? (fun b => (e.slot b).st == .opened)

/-- The X address of a slot. -/
def slotBase (b : Nat) : Nat := 0x3C00 + 0x200 * b

/-- Descriptors posted and not released (R39, R500). -/
def Engine.load (e : Engine) : Nat :=
  e.queue.length + ([0, 1].filter (fun b => (e.slot b).st != .empty)).length

/-- EMPTY slots fill from the head of the queue, slot A first (R495). -/
def Engine.fillSlots (e : Engine) (now : Time) : Engine :=
  [0, 1].foldl (fun e b =>
    match e.queue with
    | [] => e
    | d :: q => if (e.slot b).st == .empty then
        { (e.setSlot b { Slot.init with st := .filling, desc := some d, since := now }) with queue := q } else e) e

/-- An engine takes part in dispatch (R494, R505). -/
def Engine.dispatchable (e : Engine) : Bool := e.st == .running && !e.leaving

/-! ### Dispatch (R39, R494) -/

/-- The engine that the next descriptor goes to: with room, the shortest queue, the lowest number. -/
def State.bestEngine (s : State) : Option Nat :=
  let room := spokeEngines.filter (fun n => (s.engine n).dispatchable && decide ((s.engine n).load < 8))
  let least := (room.map (fun n => (s.engine n).load)).foldl min 8
  room.find? (fun n => (s.engine n).load == least)

/-- Some engine takes part in dispatch. Where every RUNNING engine has been disabled and only drains its queue, none does, and a completed
reel is released unprocessed (DESIGN CHOICE, log entry 78). -/
def State.someEngine (s : State) : Bool := spokeEngines.any (fun n => (s.engine n).dispatchable)

/-- A descriptor is posted to an engine. -/
def State.postTo (s : State) (n : Nat) (d : Descriptor) : State :=
  let e := s.engine n
  let e := { e with queue := e.queue ++ [d], posted := if e.postAt = s.now then e.posted ++ [d] else [d], postAt := s.now }
  (s.setEngine n (e.fillSlots s.now)).count Obj.REELS_POSTED

/-- A completed reel is dispatched, waits for room, or is released unprocessed (R39, R494). -/
def State.dispatch (s : State) (d : Descriptor) : State :=
  if !s.someEngine then s.releaseUnprocessed d
  else match s.bestEngine, s.hist.descWait with
    | some n, [] => s.postTo n d
    | _, w => { s with hist := { s.hist with descWait := w ++ [d] } }

/-- DESCRIPTOR_POST: the first waiting descriptor is posted once a queue has room (R39), or released where no engine runs
(R494). -/
def execDescriptorPost (s : State) : Host.Outcome State Fault Refusal :=
  match s.hist.descWait with
  | [] => .next s
  | d :: w =>
    let s' := { s with hist := { s.hist with descWait := w } }
    if !s.someEngine then .next (s'.releaseUnprocessed d)
    else match s.bestEngine with
      | some n => .next (s'.postTo n d)
      | none => .next s

/-! ### Kernel images (R506 to R513) -/

/-- The kernel that runs (KERNEL_ACTIVE). -/
def State.kernel (s : State) : Nat := s.getN Obj.KERNEL_ACTIVE

/-- A user kernel is active. -/
def isUserKernel (k : Nat) : Bool := k == 0x100 || k == 0x101

/-- The image of a user slot. -/
def State.image (s : State) (slot : Nat) : List Byte := s.getBlk (Obj.KERNEL_IMAGE + slot)

/-- The image of the active user kernel. -/
def State.activeImage (s : State) : List Byte := s.image (s.kernel % 256)

/-- The header fields of an image (R507). -/
def imgPLen (v : List Byte) : Nat := beAt v 12 2
def imgXLen (v : List Byte) : Nat := beAt v 14 2
def imgYLen (v : List Byte) : Nat := beAt v 16 2
def imgParams (v : List Byte) : Nat := beAt v 18 2
def imgEntry (v : List Byte) : Nat := beAt v 20 2

/-- The offset of the manifest. -/
def imgManifest (v : List Byte) : Nat := 64 + 4 * imgPLen v + 2 * imgXLen v + 2 * imgYLen v

/-- Entry i of the manifest (R508). -/
def imgEntryAt (v : List Byte) (i : Nat) : List Byte := (v.drop (imgManifest v + 64 * i)).take 64

/-- The entries of a manifest. -/
def imgEntries (v : List Byte) : List (List Byte) := (List.range (imgParams v)).map (imgEntryAt v)

/-- The type of a type code of R73 that a manifest entry may have (R508). -/
def manifestType (code : Nat) : Option ObjType :=
  match code with
  | 1 => some .bool | 2 => some .u8 | 3 => some .u16 | 4 => some .u32 | 5 => some .u64 | 6 => some .i16
  | 7 => some .i32 | 8 => some .q16 | _ => none

/-- A field of 8 bytes that holds a value of a type aligned as in R73: the value's bytes come last. -/
def manifestValue (ty : ObjType) (bs : List Byte) : Int := decodeValue ty (bs.drop (8 - typeSize ty))

/-- The descriptor of the object that a manifest entry declares (R512). -/
def manifestDesc (e : List Byte) : Option ObjDesc :=
  match manifestType (beAt e 3 1) with
  | none => none
  | some ty => some {
      index := beAt e 0 2, base := beAt e 2 1, count := 1, ty := ty, access := if beAt e 4 1 = 3 then .rws else .rw, live := false
      dflt := manifestValue ty ((e.drop 8).take 8), lo := manifestValue ty ((e.drop 16).take 8)
      hi := manifestValue ty ((e.drop 24).take 8), per := [], allow := [], name := "" }

/-- The key of the object of an entry. -/
def manifestKey (e : List Byte) : Nat := beAt e 0 2 * 256 + beAt e 2 1

/-- The Y word offset of an entry, and the words that its value takes. -/
def manifestOffset (e : List Byte) : Nat := beAt e 6 2
def manifestWords (e : List Byte) : Nat :=
  match manifestType (beAt e 3 1) with | some ty => (typeSize ty + 1) / 2 | none => 0

/-- The objects of the active user kernel (R512). -/
def State.kernelObjects (s : State) : List ObjDesc :=
  if isUserKernel s.kernel then (imgEntries s.activeImage).filterMap manifestDesc else []

/-- The value that an object of the manifest holds: written, or the entry's default. -/
def State.paramValue (s : State) (e : List Byte) : Int :=
  match s.reg.find? (fun x => x.1 == manifestKey e), manifestDesc e with
  | some x, _ => x.2
  | none, some d => d.dflt
  | none, none => 0

/-- The bytes of a parameter value in Y: its KOA form, to whole words. -/
def paramBytes (ty : ObjType) (v : Int) : List Byte :=
  let b := encodeValue ty v
  if b.length % 2 = 1 then 0 :: b else b

/-- The 16-bit words of bytes. -/
def wordsOf : List Byte → List Nat
  | a :: b :: t => (a.toNat * 256 + b.toNat) :: wordsOf t
  | [a] => [a.toNat * 256]
  | [] => []

/-- What X and Y hold before anything is written: the image of the kernel, and 0 (R513). -/
def State.imgX (s : State) (n a : Nat) : Nat :=
  if 32 ≤ n then 0
  else if s.kernel = 1 then (if a < 0x3C00 then Config.romKernel a % 65536 else 0)
  else if isUserKernel s.kernel && decide (a < imgXLen s.activeImage) then
    beAt s.activeImage (64 + 4 * imgPLen s.activeImage + 2 * a) 2 else 0

/-- Y before anything is written. -/
def State.imgY (s : State) (n a : Nat) : Nat :=
  if 32 ≤ n then 0
  else if s.kernel = 1 then Config.romKernel (0x40000 + a) % 65536
  else if isUserKernel s.kernel && decide (a < imgYLen s.activeImage) then
    beAt s.activeImage (64 + 4 * imgPLen s.activeImage + 2 * imgXLen s.activeImage + 2 * a) 2 else 0

/-- A word of P as data (R469). -/
def State.imgP (s : State) (n a : Nat) : Nat :=
  if 32 ≤ n then Config.auditRom a % 65536
  else if s.kernel = 1 then Config.romKernel (0x80000 + a) % 65536
  else if isUserKernel s.kernel && decide (a < 2 * imgPLen s.activeImage) then beAt s.activeImage (64 + 2 * a) 2 else 0

/-- X and Y of an engine. -/
def State.xAt (s : State) (n a : Nat) : Nat := tabGet (s.imgX n) (s.engine n).x a
def State.yAt (s : State) (n a : Nat) : Nat := tabGet (s.imgY n) (s.engine n).y a

/-- Sets a word of X. -/
def State.setX (s : State) (n a v : Nat) : State :=
  s.setEngine n { s.engine n with x := tabPut (s.imgX n) (s.engine n).x a (v % 65536) }

/-- Sets a word of Y. -/
def State.setY (s : State) (n a v : Nat) : State :=
  s.setEngine n { s.engine n with y := tabPut (s.imgY n) (s.engine n).y a (v % 65536) }

/-- The 64-bit words of an engine's memory that lie wholly in a span of data addresses are written with good check bits (R824). -/
def State.cleanSpan (s : State) (n a len : Nat) : State :=
  let in_ := fun w : Nat × Nat => w.1 == 1 && w.2 / 2 ^ 18 == n && decide (a ≤ 4 * (w.2 % 2 ^ 18) ∧ 4 * (w.2 % 2 ^ 18) + 4 ≤ a + len)
  { s with mem := { s.mem with badWords := s.mem.badWords.filter (fun w => !in_ w) } }

/-- Words are written to X from an address on, one by one. -/
def State.fillX (s : State) (n : Nat) : Nat → List Nat → State
  | _, [] => s
  | a, w :: ws => State.fillX (s.setX n a w) n (a + 1) ws

/-- Words are written to Y from an address on, one by one. -/
def State.fillY (s : State) (n : Nat) : Nat → List Nat → State
  | _, [] => s
  | a, w :: ws => State.fillY (s.setY n a w) n (a + 1) ws

/-- A block of words is written to X; a 64-bit word that it covers whole holds no error any more, where a 16-bit or 32-bit store leaves
the rest of an uncorrectable word lost (R824; DEDUCED, log entry 64). -/
def State.putX (s : State) (n a : Nat) (ws : List Nat) : State := (s.fillX n a ws).cleanSpan n a ws.length

/-- A block of words is written to Y. -/
def State.putY (s : State) (n a : Nat) (ws : List Nat) : State := (s.fillY n a ws).cleanSpan n (0x40000 + a) ws.length

/-- The parameter values of the active user kernel are put into Y (R513). -/
def State.putParams (s : State) (n : Nat) : State :=
  if isUserKernel s.kernel then
    (imgEntries s.activeImage).foldl (fun s e =>
      match manifestDesc e with
      | some d => s.putY n (manifestOffset e) (wordsOf (paramBytes d.ty (s.paramValue e)))
      | none => s) s
  else s

/-- The entry point of the active kernel; that of the ROM kernel is not printed. -/
def State.entryPoint (s : State) : Nat :=
  if isUserKernel s.kernel then imgEntry s.activeImage else Config.romKernel 0x100000 % 8192

/-- The spoke-engine PLL deviates, or has not been within its limits for 1 ms: no engine runs (R28). -/
def State.spokeStopped (s : State) : Bool := s.reset_.clockFaults.contains 3 || s.reset_.spokeClockAt.isSome

/-- An engine starts the active kernel (R513), with nothing of its past. -/
def State.startEngine (s : State) (n : Nat) : State :=
  (s.setEngine n { Engine.init with
    st := if s.spokeStopped then .restarting else .running, pc := s.entryPoint, startAt := s.now }).putParams n

/-- The words of X that a fault leaves: what the landing slots that are READY hold (R502, R513). -/
def Engine.heldX (e : Engine) : Tab Nat :=
  e.x.filter (fun w => [0, 1].any (fun b => (e.slot b).st == .ready && decide (slotBase b ≤ w.1 ∧ w.1 < slotBase b + 0x1C0)))

/-- A restarted engine: registers, P, X and Y as at a start, with its queue, its landing slots and its faults kept (R502). -/
def State.restartEngine (s : State) (n : Nat) : State :=
  let e := s.engine n
  (s.setEngine n { Engine.init with
    st := .running, pc := s.entryPoint, startAt := s.now, queue := e.queue, slotA := e.slotA, slotB := e.slotB
    readyCount := e.readyCount, x := e.heldX, faults := e.faults, faultAt := e.faultAt
    leaving := e.leaving }).putParams n

/-- The kernel that KERNEL_SELECT names starts on every enabled engine, or none does (R506, R920); an OFFLINE engine stays so (R504). -/
def State.startKernel (s : State) : State :=
  let k := s.getN Obj.KERNEL_SELECT
  let s := s.set Obj.KERNEL_ACTIVE k
  spokeEngines.foldl (fun s n =>
    if (s.engine n).st == .offline then s
    else if k != 0 && s.getB (Obj.SE_ENABLE + n) then s.startEngine n else s.setEngine n Engine.init) s

/-! ### Landing slots (R495) -/

/-- A descriptor's 12 words of 64 bits (R436). -/
def Candidate.words (c : Candidate) : List Nat :=
  [(((c.centre * 2 ^ 12 + c.peakBin) * 2 ^ 14 + c.peakCount) * 2 ^ 16 + c.wsum) * 2 ^ 4,
   ((c.totSum * 2 ^ 16 + c.prim) * 2 ^ 8 + c.hiCount) * 2 ^ 8]

/-- Word 0 of a descriptor. -/
def Descriptor.head (d : Descriptor) : Nat :=
  d.ch * 2 ^ 56 + d.lg * 2 ^ 54 + d.kind * 2 ^ 53 + d.takes * 2 ^ 46 + d.cands.length * 2 ^ 43 + d.spoke * 2 ^ 33 +
    d.gearGen * 2 ^ 29 + d.buf * 2 ^ 28 + d.flags * 2 ^ 20 + d.depth * 2 ^ 17

/-- CODES_USED. -/
def Descriptor.codesUsed (d : Descriptor) : Nat := (d.codes.map (fun c => 2 ^ c.1)).sum

/-- The words of a descriptor. -/
def Descriptor.words (d : Descriptor) : List Nat :=
  let cs := d.cands.flatMap (fun c => c.words)
  [d.head, d.first.seq * 65536 + d.first.epoch, d.bg * 2 ^ 48 + d.sun * 2 ^ 32 + d.hits * 2 ^ 16, d.codesUsed] ++
    cs ++ List.replicate (8 - cs.length) 0

/-- The bytes of a descriptor. -/
def Descriptor.bytes (d : Descriptor) : List Byte := d.words.flatMap (fun w => beBytes 8 w)

/-- The reel words of a gear (R432): two bins a word. -/
def gearWords (g : List Byte) : Nat := (gearBins g + 1) / 2

/-- The first word of a candidate's read window (R432). -/
def windowFirst (g : List Byte) (c : Candidate) : Nat := min (c.peakBin / 2 - 8) (gearWords g - 16)

/-- The bins of a descriptor's reel: in its buffer, or of a sum in DDR5. -/
def State.reelBins (s : State) (d : Descriptor) : Tab Nat := if d.kind = 1 then d.bins else (s.reel d.ch d.buf).bins

/-- A reel word is uncorrectable; one of a sum stands under buffer 2. -/
def State.badReelWord (s : State) (d : Descriptor) (w : Nat) : Bool :=
  s.hist.badWords.contains (d.ch, if d.kind = 0 then d.buf else 2, w)

/-- The four 16-bit words of a reel word: bin 2w + 1 before bin 2w (R495). -/
def State.reelWord (s : State) (d : Descriptor) (w : Nat) : List Nat :=
  if s.badReelWord d w || decide (gearWords d.gear ≤ w) then [0, 0, 0, 0]
  else
    let b := s.reelBins d
    let hi := tabGet (fun _ => 0) b (2 * w + 1)
    let lo := tabGet (fun _ => 0) b (2 * w)
    [hi / 65536, hi % 65536, lo / 65536, lo % 65536]

/-- The words of candidate window i. -/
def State.windowWords (s : State) (d : Descriptor) (c : Candidate) : List Nat :=
  (List.range 16).flatMap (fun i => s.reelWord d (windowFirst d.gear c + i))

/-- The code words of a descriptor, 64 of 32 bits (R495). -/
def Descriptor.codeWords (d : Descriptor) : List Nat :=
  (List.range 64).flatMap (fun c =>
    let w := ((d.codes.find? (fun x => x.1 == c)).map (·.2)).getD 0
    [w / 65536, w % 65536])

/-- What a landing slot holds (R495): offsets 0x000 to 0x1BF. -/
def State.slotWords (s : State) (d : Descriptor) : List Nat :=
  let firsts := d.cands.map (fun c => windowFirst d.gear c)
  let wins := d.cands.flatMap (fun c => s.windowWords d c)
  wordsOf d.bytes ++ (firsts ++ List.replicate (16 - firsts.length) 0) ++
    (wins ++ List.replicate (256 - wins.length) 0) ++ d.codeWords

/-- A window word of the descriptor is uncorrectable. -/
def State.slotBad (s : State) (d : Descriptor) : Bool :=
  d.cands.any (fun c => (List.range 16).any (fun i => s.badReelWord d (windowFirst d.gear c + i)))

/-- IPEND bits are set by the hardware (R489). -/
def State.pend (s : State) (n bit : Nat) : State :=
  s.setEngine n { s.engine n with ipend := (s.engine n).ipend ||| 2 ^ bit }

/-- Words of a descriptor's reel are read: those of a buffer are reset where they are uncorrectable (R428); a sum's are not bins of a
buffer (R440). -/
def State.readReel (s : State) (d : Descriptor) (p : Nat → Bool) : State :=
  if d.kind = 0 then s.readWords d.ch d.buf p else s

/-- SLOT_READY: a FILLING slot of an engine finishes filling (R495); bit 0 of IPEND is set (R489). -/
def State.slotReady (s : State) (n b : Nat) : State :=
  let e := s.engine n
  let x := e.slot b
  match x.desc with
  | some d =>
    if x.st == .filling && e.st != .off && e.st != .offline then
      let e := { (e.setSlot b { x with st := .ready, bad := s.slotBad d, order := e.readyCount, since := s.now }) with
        readyCount := e.readyCount + 1 }
      let t := (s.setEngine n e).readReel d (fun w =>
        d.cands.any (fun c => decide (windowFirst d.gear c ≤ w ∧ w < windowFirst d.gear c + 16)))
      let t := (t.putX n (slotBase b) (s.slotWords d)).pend n 0
      { t with hist := { t.hist with badWords := t.hist.badWords.filter (fun w => !(d.kind == 1 && w.1 == d.ch && w.2.1 == 2)) } }
    else s
  | none => s

/-- SLOT_READY. -/
def execSlotReady (eng : Fin 32) (slot : Fin 2) (s : State) : Host.Outcome State Fault Refusal := .next (s.slotReady eng slot)

/-! ### Release (R497, R498) -/

/-- A record as the device completes it: CH, the descriptor's flags but BLIND, CLIPPED and DEGRADED (R498). -/
def Slot.complete (x : Slot) (d : Descriptor) (r : Nat) : Nat :=
  let r := setField r 86 8 d.ch
  let f := (d.flags - field d.flags 1 1 * 2) ||| (64 * b2n x.clip) ||| (4 * b2n x.bad)
  setField r 72 8 (field r 72 8 ||| f)

/-- The OPEN slot closes (R497): its points are queued, it becomes EMPTY, and the reel is released. -/
def State.releaseSlot (s : State) (n b : Nat) : State :=
  let e := s.engine n
  let x := e.slot b
  match x.desc with
  | none => s
  | some d =>
    let s := s.setEngine n ((e.setSlot b Slot.init).fillSlots s.now)
    let s := s.count (Obj.SE_REELS + n)
    let s := if x.clip then s.count (Obj.SE_CLIPPED + n) else s
    (s.assembleReel d (x.points.map (x.complete d)) false).releaseReel d

/-! ### Faults (R502 to R504) -/

/-- The descriptors that an engine holds, oldest first. -/
def Engine.held (e : Engine) : List Descriptor := [e.slotA, e.slotB].filterMap (·.desc) ++ e.queue

/-- The OPEN slot's reel is lost with its points (R502). -/
def State.loseOpen (s : State) (n : Nat) : State :=
  let e := s.engine n
  match e.openSlot with
  | none => s
  | some b =>
    match (e.slot b).desc with
    | none => s
    | some d => ((s.setEngine n (e.setSlot b Slot.init)).assembleReel d [] true).releaseReel d

/-- Event 0x0C0 + n, at most once per 1 ms an engine (R516). -/
def State.raiseSe (s : State) (n cause : Nat) : State := s.raiseLimited (0x0C0 + n) 0 (cause * 2 ^ 24)

/-- The descriptors of an engine that were posted in the present core cycle. -/
def Engine.fresh (e : Engine) (now : Time) : List Descriptor := if e.postAt = now then e.posted else []

/-- The engine enters OFFLINE: its descriptors are released unprocessed (R504), but those posted in this cycle go to another engine
(R529). -/
def State.offline (s : State) (n : Nat) : State :=
  let e := s.engine n
  let fresh := e.held.filter (fun d => (e.fresh s.now).contains d)
  let old := e.held.filter (fun d => !(e.fresh s.now).contains d)
  let s := s.setEngine n { Engine.init with st := .offline, leaving := !s.getB (Obj.SE_ENABLE + n) }
  let s := old.foldl (fun s d => s.releaseUnprocessed d) (s.raise (0x0C0 + n) (8 * 2 ^ 24))
  fresh.foldl (fun s d => s.dispatch d) s

/-- An engine that reloads its images holds no uncorrectable word any more (R502). -/
def State.reloadMemory (s : State) (n : Nat) : State :=
  { s with mem := { s.mem with badWords := s.mem.badWords.filter (fun w => !(w.1 == 1 && w.2 / 2 ^ 18 == n)) } }

/-- A spoke-engine fault (R502, R504). -/
def State.seFault (s : State) (n cause : Nat) : State :=
  let s := s.reloadMemory n
  let s := ((s.loseOpen n).count (Obj.SE_FAULTS + n)).raiseSe n cause
  let e := s.engine n
  let fs := s.now :: e.faults.filter (fun t => decide (s.now ≤ t + sec 1))
  if 3 ≤ fs.length then s.offline n
  else s.setEngine n ({ e with st := .restarting, faults := fs, faultAt := s.now, waiting := false, dmaStatus := 0, dmaRun := none }.fillSlots s.now)

/-- A fault of an engine: a spoke engine restarts, an audit engine trips with AUDIT_OVERRUN (R465, R493). -/
def State.engineFault (s : State) (n cause : Nat) : State :=
  if n < 32 then s.seFault n cause
  else
    let s := { s with safety := { s.safety with aeStopped := true } }
    s.trip .auditOverrun

/-- SE_RESTART_DONE: a faulted or enabled engine has reloaded its images (R502, R505). -/
def execSeRestartDone (eng : Fin 32) (s : State) : Host.Outcome State Fault Refusal :=
  if (s.engine eng).st == .restarting && !s.spokeStopped then .next (s.restartEngine eng) else .next s

/-- SE_WATCHDOG: a slot has stayed OPEN for SE_WATCHDOG cycles of 1.25 GHz (R503). A release written in this cycle or waiting for a DMA
stands (R523), so the fault is judged as the core cycle ends. -/
def execSeWatchdog (eng : Fin 32) (s : State) : Host.Outcome State Fault Refusal :=
  let e := s.engine eng
  match e.openSlot with
  | some b =>
    if e.st == .running && !(e.slot b).releaseDue && decide (4 * (e.slot b).watchdog ≤ 5 * (s.now - (e.slot b).since)) then
      .next (s.setEngine eng (e.setSlot b { e.slot b with expired := true })) else .next s
  | none => .next s

/-- The watchdog of an engine has expired on a slot that is still OPEN and not released (R503, R523). -/
def Engine.overdue (e : Engine) : Bool :=
  e.st == .running && (match e.openSlot with | some b => (e.slot b).expired && !(e.slot b).releaseDue | none => false)

/-- The watchdog fault of an engine at the end of the cycle in which it expired. -/
def State.expire (s : State) (n : Nat) : State := if (s.engine n).overdue then s.seFault n 5 else s

/-- The watchdog faults of the core cycle that is over. -/
def State.expireSlots (s : State) : State := spokeEngines.foldl (fun s n => s.expire n) s

/-! ### Enable (R505) -/

/-- What an accepted write of SE_ENABLE does. -/
def State.seEnable (s : State) (n : Nat) : State :=
  let e := s.engine n
  if s.getB (Obj.SE_ENABLE + n) then
    if e.st == .off || (e.st == .offline && e.leaving) then
      s.setEngine n (if s.kernel = 0 then Engine.init else { Engine.init with st := .restarting, faultAt := s.now })
    else if e.st == .offline then s else s.setEngine n { e with leaving := false }
  else s.setEngine n { e with leaving := true }

/-- SE_QUEUE_DRAINED: a disabled engine that holds no descriptor enters OFF (R505). -/
def execSeQueueDrained (eng : Fin 32) (s : State) : Host.Outcome State Fault Refusal :=
  let e := s.engine eng
  if e.leaving && (e.st == .running || e.st == .restarting) && e.load == 0 then
    .next (s.setEngine eng { Engine.init with leaving := true }) else .next s

/-! ### Parameters (R512) -/

/-- A write to an object of the manifest is on its way to every engine. -/
def State.queueParam (s : State) (k : Nat) : State :=
  match (imgEntries s.activeImage).find? (fun e => manifestKey e == k) with
  | none => s
  | some e =>
    match manifestDesc e with
    | none => s
    | some d => spokeEngines.foldl (fun s n =>
        let x := s.engine n
        s.setEngine n { x with params := x.params ++ [(k, manifestOffset e, paramBytes d.ty (s.paramValue e))] }) s

/-- A key is a parameter of the shipped kernel, 0x2700 to 0x270E (R572). -/
def kernelKey (k : Nat) : Bool := decide (0x2700 ≤ k / 256) && decide (k / 256 ≤ 0x270E)

/-- A parameter of the shipped kernel is about to be written: an engine that runs keeps its value until the new one is delivered (R512,
R572). -/
def State.keepParam (s : State) (k : Nat) : State :=
  if kernelKey k then
    spokeEngines.foldl (fun s n =>
      let e := s.engine n
      if e.st == .off || e.st == .offline || e.stale.any (fun x => x.1 == k) then s
      else s.setEngine n { e with stale := e.stale ++ [(k, s.get k, s.getBlk k)] }) s
  else s

/-- The objects as an engine sees them. -/
def State.seenBy (s : State) (n : Nat) : State :=
  (s.engine n).stale.foldl (fun s x => (s.set x.1 x.2.1).setBlk x.1 x.2.2) s

/-- KERNEL_PARAM_DELIVER: an engine without an OPEN slot takes the parameter values that wait (R512, R572). -/
def execKernelParamDeliver (eng : Fin 32) (s : State) : Host.Outcome State Fault Refusal :=
  let e := s.engine eng
  if e.openSlot.isSome then .next s
  else .next (e.params.foldl (fun s p => s.putY eng p.2.1 (wordsOf p.2.2)) (s.setEngine eng { e with params := [], stale := [] }))

end Sys2Proof.Machine
end

