-- ==== Sys2Proof/Machine/CalOps.lean ====
section
/-! DEFINITION. Operations of calibration (chapter 11): unit status, runs, their ends, and the jobs that hold them. -/

namespace Sys2Proof.Machine

open Sys2Proof

/-- CAL_TEMP or AUX_CAL_TEMP of a unit. -/
def calTempKey (u : Nat) : Nat := if u < 256 then Obj.CAL_TEMP + u else Obj.AUX_CAL_TEMP + (u - 256)

/-- The die temperature that serves a unit: its reference block, sensor 16 for the start TDCs, 17 for the EV stamp TDCs
(R638). -/
def sensorOf (u : Nat) : Nat := if u < 256 then u / 16 else if u < 288 then 16 else 17

/-- The present reading of the sensor that serves a unit. -/
def State.unitTemp (s : State) (u : Nat) : Int := s.get (Obj.HK_DIE_TEMP + sensorOf u)

/-- The present readings of the 18 sensors. -/
def State.dieTemps (s : State) : List Int := (List.range 18).map (fun i => s.get (Obj.HK_DIE_TEMP + i))

/-- TYPE of a measurement: 0 VOLT_SE, 1 VOLT_DIFF, 2 RES_2W, 3 RES_3W, 4 RES_4W (R631). -/
def measType (w : Nat) : Nat := field w 28 3

/-- The measurement is ratiometric (R633). -/
def HkRun.ratiometric (r : HkRun) : Bool := decide (2 ≤ measType r.word) && r.refR != 0

/-- The periods of a measurement (R632, R633). -/
def HkRun.periods (r : HkRun) : Nat :=
  let lead := if measType r.word = 3 then 2 else 1
  if measType r.word < 2 then 1 else if r.ratiometric then 2 * lead else lead

/-- The last period of a measurement has ended, and with it its conversion (R634). -/
def HkRun.converted (r : HkRun) : Bool := decide (r.periods ≤ r.codes.length)

/-- An injected housekeeping conversion is pending or running (R615, R644). -/
def State.injecting (s : State) : Bool := s.hk.inject.isSome || s.hk.runs.any (fun r => r.injected && !r.converted)

/-- The bit of a kind: DUE_TDC or DUE_THR (R588). -/
def dueBit (kind : Nat) : Nat := if kind = 1 then 15 else 14

/-- A DUE bit of a unit is set, with event 0x102 if it was clear (R609). -/
def State.setDue (s : State) (u bit : Nat) : State :=
  if natBit (s.getN (calKey u)) bit then s
  else (s.set (calKey u) (s.getN (calKey u) + 2 ^ bit : Nat)).raise 0x102 (u * 2 ^ 16)

/-- The RUNNING bit of a unit's status (R588). -/
def State.setRunningBit (s : State) (u : Nat) (x : Bool) : State :=
  let v := s.getN (calKey u)
  s.set (calKey u) (v / 2 ^ 14 * 2 ^ 14 + b2n x * 2 ^ 13 + v % 2 ^ 13 : Nat)

/-- The kind number of a calibration job. -/
def JobKind.calKind : JobKind → Nat
  | .calTdc => 1 | .calThreshold => 2 | .calOffset => 3 | _ => 0

/-- The energy steps set in CAL_WALK_STEPS, ascending (R602). -/
def State.walkSteps (s : State) : List Nat := (List.range 16).filter (fun i => natBit (s.getN Obj.CAL_WALK_STEPS) i)

/-- The tallies with which a sweep over the channels of a job begins: one a channel and step (R602). -/
def State.newTally (s : State) (slot : Nat) : List CalTally :=
  (s.job slot).units.flatMap (fun c => s.walkSteps.map (fun j => ⟨c, j, 0, 0, 0, 0⟩))

/-- A run of one unit starts. -/
def State.startRun (s : State) (kind u slot : Nat) : State :=
  let r : CalRun := ⟨kind, u, slot, s.now, s.dieTemps, s.injecting, [], false, [], [], if u = rangeUnit then s.newTally slot else []⟩
  let s := { s with cal := { s.cal with runs := s.cal.runs ++ [r] } }
  if u = rangeUnit then (s.job slot).units.foldl (fun s u => s.setRunningBit u true) s else s.setRunningBit u true

/-- An online run of a unit is abandoned with code 0x02 (R610, R616). -/
def State.abandonOnline (s : State) (u : Nat) : State :=
  match s.cal.runs.find? (fun r => r.slot == 0 && r.unit_ == u) with
  | none => s
  | some r => ({ s with cal := { s.cal with runs := s.cal.runs.filter (fun x => !(x.slot == 0 && x.unit_ == u)) } }).setOutcome u r.kind 0x02

/-- A job's next units start: 8 at a time, in ascending order (R608). -/
def State.fillRuns (s : State) (slot kind : Nat) : State :=
  let room := 8 - (s.cal.runs.filter (fun r => r.slot == slot)).length
  let mine := s.cal.waiting.filter (fun w => w.1 == slot)
  let go := mine.take room
  let s := { s with cal := { s.cal with waiting := s.cal.waiting.filter (fun w => !go.contains w) } }
  go.foldl (fun s w => s.startRun kind w.2 slot) s

/-- The failure of the lowest-numbered unit of a job (R608). -/
def lowestFailure (l : List (Nat × Nat × Nat)) : Nat :=
  match sortBy (fun a b => decide (a.2.1 ≤ b.2.1)) l with
  | [] => 0
  | x :: _ => x.2.2

/-- A calibration job ends when none of its units runs or waits (R608). -/
def State.calJobCheck (s : State) (slot : Nat) : State :=
  if slot = 0 then s
  else
    let s := s.fillRuns slot (s.job slot).kind.calKind
    if s.cal.runs.any (fun r => r.slot == slot) || s.cal.waiting.any (fun w => w.1 == slot) then s
    else
      let code := lowestFailure (s.cal.failed.filter (fun f => f.1 == slot))
      let s := { s with cal := { s.cal with failed := s.cal.failed.filter (fun f => f.1 != slot) } }
      s.finishJob slot (if code = 0 then .done else .failed) code

/-- The next repeat of a run begins, with the one that ended. -/
def State.nextRepeat (s : State) (r : CalRun) (rep : CalRepeat) : State :=
  { s with cal := { s.cal with runs := s.cal.runs.map (fun x =>
    if x.unit_ == r.unit_ && x.kind == r.kind then
      { x with
        done := [rep], since := s.now, temps := s.dieTemps, taps := [], phases := []
        tally := x.tally.map (fun y => { y with seen := 0, counted := 0, sumTime := 0, sumTot := 0 }) }
    else x) } }

/-- A unit's run ends: the run is removed. -/
def State.dropRun (s : State) (u : Nat) (kind : Nat) : State :=
  { s with cal := { s.cal with runs := s.cal.runs.filter (fun x => !(x.unit_ == u && x.kind == kind)) } }

/-- A rejected result sets its CODE and raises event 0x101 with unit, kind and code (R589, R607); a unit that fails online
is not chosen again within 10 s (R609). -/
def State.rejectUnit (s : State) (r : CalRun) (u code : Nat) : State :=
  let s := s.setOutcome u r.kind code
  let s := if r.slot = 0 then { s with cal := { s.cal with failAt := tabPut (fun _ => none) s.cal.failAt u (some s.now) } }
    else { s with cal := { s.cal with failed := s.cal.failed ++ [(r.slot, u, code)] } }
  s.raise 0x101 (u * 2 ^ 16 + r.kind * 2 ^ 8 + code)

/-- A channel of a RANGE_OFFSET run is interrupted: it is rejected, and the run goes on with the others (R606). -/
def State.interruptOffset (s : State) (u : Nat) : State :=
  match s.cal.runs.find? (fun r => r.unit_ == rangeUnit) with
  | none => s
  | some r =>
    if natBit (s.job r.slot).arg u && !s.cal.failed.any (fun f => f.1 == r.slot && f.2.1 == u) then s.rejectUnit r u 0x24 else s

/-- A unit's calibration is interrupted (R606): the run ends with code 0x24. -/
def State.interruptUnit (s : State) (u : Nat) : State :=
  match s.cal.runs.find? (fun r => r.unit_ == u) with
  | none => s.interruptOffset u
  | some r => (((s.dropRun u r.kind).rejectUnit r u 0x24)).calJobCheck r.slot

end Sys2Proof.Machine
end

