-- ==== Sys2Proof/Machine/Rx.lean ====
section
/-! DEFINITION. The return channels (chapter 07): stamps, pulses and hits, windows, references and delay lines, and what
a write to one of their objects checks and does. Stamps are in 1/1,024 ns. -/

namespace Sys2Proof.Machine

open Sys2Proof

/-- The group of a channel (R29). -/
def State.groupOf (s : State) (c : Nat) : Nat := c / (256 / s.groups)

/-- The stamp of an edge at a tap of the present core cycle (R366, R367): the line is sampled at the next clock edge. -/
def State.stampOf (s : State) (unit_ tap : Nat) : Int := 1024 * ((s.now : Int) + 1) - (s.tapPos unit_ (63 - tap) : Int)

/-- The channel's block is in REF_FAULT or its DLL out of service: its hits are discarded (R361, R370). -/
def State.blockLost (s : State) (c : Nat) : Bool :=
  !s.getB (Obj.RXREF_OK + c / 16) || !s.getB (Obj.TDC_LOCK + c / 16)

/-- RX_STATE (R385). -/
def State.rxState (s : State) (c : Nat) : Nat :=
  if !s.rxEnabled c then 0
  else if !s.getB (Obj.TDC_LOCK + c / 16) then 5
  else if !s.getB (Obj.RXREF_OK + c / 16) then 4
  else if (s.rxChan c).stuck then 3
  else if (s.rxChan c).mask then 2
  else 1

/-! ### Classification (R377) -/

/-- DESKEW and RX_MASK that hold for an edge: those taken at the last start before it, or the oldest kept (R369, R383, R398). -/
def RxChan.settingAt (x : RxChan) (stamp : Int) : RxSetting :=
  let all := ⟨x.from_, x.deskew, x.mask⟩ :: x.past
  (all.find? (fun e => decide (e.from_ ≤ stamp))).getD (x.past.getLast?.getD ⟨x.from_, x.deskew, x.mask⟩)

/-- d of a leading edge against a start, in LSB, rounded half up (R368). -/
def hitD (lead start : Int) (deskew : Nat) : Int := (lead - start + 16 * (deskew : Int) + 8) / 16

/-- The takes of a group that opened a window, the latest start first (R379). -/
def State.startedTakes (s : State) (g : Nat) : List (Take × Int) :=
  sortBy (fun a b => decide (b.2 ≤ a.2)) (s.seq.takes.filterMap (fun t =>
    if t.group == g && t.drives && !t.diag then t.start.map (fun x => (t, x)) else none))

/-- An edge follows a start, or lies in the pre-start span before it: d is at least −64 × PRESTART_SPAN (R377, R378). -/
def State.spanReaches (s : State) (c : Nat) (lead start : Int) : Bool :=
  decide (-64 * s.get Obj.PRESTART_SPAN ≤ hitD lead start ((s.rxChan c).settingAt lead).deskew)

/-- The earliest stamp of a start of a group that is not known yet. A take that is still to be decided fires 39 ns after its decision or
later, and not before the group's ready time (R206, R209); on a SHADOW, which makes no decisions, a start may come now, and not before
the window and the recovery of the last one are over (R31, R800). -/
def State.nextStart (s : State) (g : Nat) : Int :=
  if s.isShadow then
    match (s.startedTakes g).head? with
    | some (t, x) => max (1024 * (s.now : Int)) (x + 1024 * (t.window + 48 : Nat))
    | none => 1024 * (s.now : Int)
  else 16 * max (tabGet (fun _ => 0) s.seq.ready g) (s.nowTaps + 39 * 64) - 2048

/-- A take of the group has no start yet, which comes 2 ns before t_trig at the earliest, or on a SHADOW a start has no TAKE frame yet
(R800), or a take is still to come, and may cover the edge: the edge waits for it. -/
def State.startPending (s : State) (c : Nat) (lead : Int) : Bool :=
  let g := s.groupOf c
  s.seq.takes.any (fun t => t.group == g && t.drives && t.start.isNone && s.spanReaches c lead (16 * t.trig - 2048)) ||
    (tabGet (fun _ => []) s.pair.starts g).any (fun x => s.spanReaches c lead x.1) || s.spanReaches c lead (s.nextStart g)

/-- The take that an edge belongs to and its d (R377). -/
def State.takeOf (s : State) (c : Nat) (lead : Int) : Option (Take × Int) :=
  ((s.startedTakes (s.groupOf c)).find? (fun p => s.spanReaches c lead p.2)).map (fun p =>
    (p.1, hitD lead p.2 ((s.rxChan c).settingAt lead).deskew))

/-- The pulse is discarded by RX_MASK or by the stuck state of its channel (R383, R384). -/
def State.pulseMasked (s : State) (c : Nat) (p : RxPulse) : Bool := p.stuck || ((s.rxChan c).settingAt p.lead).mask

/-- A background edge (R377). -/
def State.background (s : State) (c : Nat) : State := s.countWrap (Obj.BACKGROUND + c) 1

/-- An edge in a window: recorded unless it is beyond the eighth hit of its take, masked or discarded (R371, R383). -/
def State.windowEdge (s : State) (c : Nat) (p : RxPulse) (t : Take) (d : Int) : State × HitClass :=
  let x := s.rxChan c
  let n := if x.hitSeq == t.seq && x.hitSet == t.set_ then x.hits else 0
  if s.pulseMasked c p then (s, .notRecorded)
  else if p.lost then (s.degradeReel c t.set_, .notRecorded)
  else if 8 ≤ n then ((s.countWrap (Obj.HITS_EXCESS + c) 1).raiseLow 0x082 c, .notRecorded)
  else
    let s := s.setRxChan c { x with hitSeq := t.seq, hitSet := t.set_, hits := n + 1 }
    if d < 2 then (s.raiseLow 0x081 c, .recorded t.seq t.epoch t.set_ t.slot n 0 true)
    else (s, .recorded t.seq t.epoch t.set_ t.slot n d.toNat false)

/-- The channel is under threshold calibration (R598). -/
def State.underThreshold (s : State) (c : Nat) : Bool := s.cal.runs.any (fun r => r.unit_ == c && r.kind == 2 && !r.waits)

/-- A leading edge before the start (R377); of a channel under threshold calibration it is not counted (R598). -/
def State.preStart (s : State) (c : Nat) (p : RxPulse) : State :=
  if s.pulseMasked c p || p.lost || s.underThreshold c then s else (s.countWrap (Obj.PRESTART + c) 1).raiseLow 0x080 c

/-- The verdict of R377 on a leading edge whose possible starts are all known. -/
def State.classify (s : State) (c : Nat) (p : RxPulse) : State × HitClass :=
  match s.takeOf c p.lead with
  | none => (s.background c, .notRecorded)
  | some (t, d) =>
    if d ≤ -2 then (s.preStart c p, .notRecorded)
    else if d < 64 * (t.window : Int) then s.windowEdge c p t d
    else (s.background c, .notRecorded)

/-- Classifies a pulse when no start is awaited. -/
def State.tryClassify (s : State) (c : Nat) (p : RxPulse) : State × RxPulse :=
  match p.cls with
  | .undecided =>
    if s.startPending c p.lead then (s, p)
    else let r := s.classify c p; (r.1, { p with cls := r.2 })
  | _ => (s, p)

/-- tot of a pulse (R368, R373, R374). -/
def RxPulse.tot (p : RxPulse) : Nat :=
  if p.long then 0xFFFF
  else match p.trail with
    | some t => max 1 (((t - p.lead + 8) / 16).toNat)
    | none => 0xFFFF

/-- The 64-bit hit record of R376. -/
def Hit.word (h : Hit) : BitVec 64 :=
  BitVec.ofNat 14 h.slot ++ BitVec.ofNat 8 h.ch ++ BitVec.ofNat 3 h.num ++ BitVec.ofNat 18 h.time ++ BitVec.ofNat 16 h.tot ++
    BitVec.ofBool h.blind ++ BitVec.ofBool h.hi ++ BitVec.ofBool h.long ++ 0#2

/-- The reel of the hit counts it, for the rates of R434. -/
def State.countHit (s : State) (c : Nat) (h : Hit) : State :=
  match s.take? h.seq h.epoch, s.set? h.set_ with
  | some t, some st =>
    let sky : Bool := decide (64 * t.window ≤ h.time + 64 * st.skyGate)
    s.mapOpen c (fun id => id == h.set_) (fun r => { r with hits := r.hits + 1, sky := r.sky + b2n sky })
  | _, _ => s

/-- A recorded hit is complete: HITS and SATURATIONS count it, LONG is reported, and it enters the channel's buffer or is dropped
(R35, R374, R375, R376). -/
def State.recordHit (s : State) (c : Nat) (h : Hit) : State :=
  let s := (s.countWrap (Obj.HITS + c) 1).countHit c h
  let s := if h.hi then s.countWrap (Obj.SATURATIONS + c) 1 else s
  let s := if h.long then s.raiseLow 0x084 c else s
  let x := s.rxChan c
  if x.buf.length < 16 then s.setRxChan c { x with buf := x.buf ++ [h] } else s.ingestDrop c h.set_

/-- A completed pulse with its class leaves: a recorded one as a hit. -/
def State.finishPulse (s : State) (c : Nat) (p : RxPulse) : State :=
  match p.cls with
  | .recorded seq epoch set_ slot num time blind => s.recordHit c ⟨seq, epoch, set_, slot, c, num, time, p.tot, blind, p.hi, p.long, false⟩
  | _ => s

/-- The pulses of a channel that waited for a start are classified, oldest first, as far as they can be. -/
def State.settleChannel (s : State) (c : Nat) : State :=
  let ps := (s.rxChan c).wait
  let s := s.setRxChan c { s.rxChan c with wait := [] }
  let s := ps.foldl (fun s p =>
    let r := s.tryClassify c p
    match r.2.cls with
    | .undecided => r.1.setRxChan c { r.1.rxChan c with wait := (r.1.rxChan c).wait ++ [r.2] }
    | _ => r.1.finishPulse c r.2) s
  match (s.rxChan c).cur with
  | some p => let r := s.tryClassify c p; r.1.setRxChan c { r.1.rxChan c with cur := some r.2 }
  | none => s

/-- The position table of a channel is taken (R586). -/
def State.takeTable (s : State) (c : Nat) : State :=
  let p := tabGet (fun _ => []) s.cal.tables c
  if tabGet (fun _ => []) s.rx.inUse c == p then s
  else { s with rx := { s.rx with inUse := tabPut (fun _ => []) s.rx.inUse c p } }

/-- DESKEW and RX_MASK of a channel from a stamp on; the ones before stand for the edges before it (R369, R383, R398). -/
def RxChan.settings (x : RxChan) (deskew : Nat) (mask : Bool) (at_ : Int) : RxChan :=
  if x.deskew = deskew ∧ x.mask = mask then { x with due := [] }
  else
    let old : RxSetting := ⟨x.from_, x.deskew, x.mask⟩
    { x with deskew := deskew, mask := mask, from_ := at_, due := []
             past := if x.wait.isEmpty && x.cur.isNone then [old] else old :: x.past }

/-- DESKEW, RX_MASK and the position table are taken at a start of the channel's group (R369, R383, R586). -/
def State.takeSettings (s : State) (at_ : Int) (c : Nat) : State :=
  let s := s.takeTable c
  s.setRxChan c ((s.rxChan c).settings (s.getN (Obj.DESKEW + c)) (s.getB (Obj.RX_MASK + c)) at_)

/-- DESKEW and RX_MASK as the last awaited take found them, or as they are in force. -/
def RxChan.latest (x : RxChan) : Nat × Bool :=
  match x.due.getLast? with | some e => (e.deskew, e.mask) | none => (x.deskew, x.mask)

/-- DESKEW and RX_MASK are kept as they stand at a stamp: the trigger of a take, which is its start if no loopback stamp comes (R254), or
a start on a SHADOW, whose take is not known yet (R800). -/
def State.holdSettings (s : State) (at_ : Int) (c : Nat) : State :=
  let x := s.rxChan c
  let v := (s.getN (Obj.DESKEW + c), s.getB (Obj.RX_MASK + c))
  if v = x.latest then s else s.setRxChan c { x with due := x.due ++ [⟨at_, v.1, v.2⟩] }

/-- The settings kept for a start are taken: of a take whose start is t_trig for want of a stamp, or that a TAKE frame has named (R254,
R369, R383, R392). -/
def State.keptSettings (s : State) (at_ : Int) (c : Nat) : State :=
  let s := s.takeTable c
  let x := s.rxChan c
  match (x.due.filter (fun e => decide (e.from_ ≤ at_))).getLast? with
  | some e => s.setRxChan c { x.settings e.deskew e.mask at_ with due := x.due.filter (fun e => decide (at_ < e.from_)) }
  | none => s

/-- The start of a take of a group is known, or its take opens no window: waiting pulses are classified. -/
def State.startDecided (s : State) (g : Nat) : State :=
  (s.groupChannels g).foldl (fun s c =>
    if (s.rxChan c).wait.isEmpty && (s.rxChan c).cur.isNone then s else s.settleChannel c) s

/-- Edges that waited for a take that could still have been decided are classified once it no longer can. -/
def State.settleWaiting (s : State) : State :=
  s.rx.chans.foldl (fun s e =>
    if e.2.wait.isEmpty && !(e.2.cur.any (fun p => p.cls == .undecided)) then s else s.settleChannel e.1) s

/-- A start of a group at a stamp: its channels take their settings. -/
def State.groupSettings (s : State) (g : Nat) (at_ : Int) : State :=
  (s.groupChannels g).foldl (fun s c => s.takeSettings at_ c) s

/-! ### Thresholds (R362 to R365) -/

/-- The DAC settings of a channel follow the objects (R362, R365). -/
def State.applyDac (s : State) (c : Nat) : State :=
  let lo := (clampInt 0 1023 (s.get (Obj.THRESH_LO + c) + s.get (Obj.TRIM_LO + c))).toNat
  let hi := (clampInt 0 1023 (s.get (Obj.THRESH_HI + c) + s.get (Obj.TRIM_HI + c))).toNat
  s.setRxChan c { s.rxChan c with dacLo := lo, dacHi := hi, hyst := s.getN Obj.RX_HYST, dacPending := false, pedestal := 0 }

/-- A window of the group is open: of a take that has started, also at t_trig for want of a stamp that may still come (R254), or on a
SHADOW of a start that waits for its TAKE frame (R392, R800). -/
def State.windowOpen (s : State) (g : Nat) : Bool :=
  s.seq.takes.any (fun t => t.group == g && t.drives && (t.start.isSome || t.issued) && !t.closed) || !(tabGet (fun _ => []) s.pair.starts g).isEmpty

/-- A new setting of a channel applies at once, or at the close of its group's window (R365); in a span of threshold calibration at the
span's end, with which the DAC returns to its working value (R598, R624). -/
def State.touchDac (s : State) (c : Nat) : State :=
  if s.windowOpen (s.groupOf c) then s.setRxChan c { s.rxChan c with dacPending := true }
  else if (s.rxChan c).pedestal = 0 then s.applyDac c else s

/-- The pending settings of a group's channels apply. -/
def State.pendingDacs (s : State) (g : Nat) : State :=
  (s.groupChannels g).foldl (fun s c => if (s.rxChan c).dacPending then s.applyDac c else s) s

/-- At the close of a window the pending settings of the group's channels apply. -/
def State.applyDacs (s : State) (g : Nat) : State := if s.windowOpen g then s else s.pendingDacs g

/-! ### Calibration spans (R591 to R593, R598) -/

/-- The group that owns a TRIG output (R29). -/
def State.groupOfOut (s : State) (out : Nat) : Nat := out / (32 / s.groups)

/-- The group whose takes bound the spans of a channel or of a start TDC (R591, R593). -/
def State.spanGroup (s : State) (u : Nat) : Nat := if u < 256 then s.groupOf u else s.groupOfOut (u - 256)

/-- An instant in taps lies 5 ns or more after the last window of a channel's group, or after the last pulse of a take of the group that
owns a start TDC's output (R591, R593). -/
def State.spanBegun (s : State) (u : Nat) (x : Int) : Bool :=
  if u < 256 then decide (tabGet (fun _ => -320) s.cal.windowEnd (s.groupOf u) + 320 ≤ x)
  else s.emit.pulses.all (fun p => s.groupOfOut p.out != s.spanGroup u || decide (p.fall + 320 ≤ x))

/-- An instant in taps lies ahead of t_trig of every decided take of the unit's group by 5 ns, or by 41 ns for threshold calibration (R591,
R593, R598). -/
def State.spanLasts (s : State) (u kind : Nat) (x : Int) : Bool :=
  s.seq.takes.all (fun t => t.group != s.spanGroup u || !t.drives || t.issued || decide (x + (if kind = 2 then 2624 else 320) < t.trig))

/-- A calibration span of a unit may lie at an instant in taps: never in an open window of the channel's group; for a channel, at any other
instant while SEQ_STATE is not RUNNING (R591). The EV inputs have no spans (R593). -/
def State.spanAt (s : State) (u kind : Nat) (x : Int) : Bool :=
  if u < 256 then
    !s.windowOpen (s.groupOf u) && (s.seq.state != .running || (s.spanBegun u x && s.spanLasts u kind x))
  else decide (u < 288) && s.spanBegun u x && s.spanLasts u kind x

/-- A run's unit is switched to its calibration source at an instant in taps: its span has begun and lasts, or every cycle lies in one
(R591 to R593, R598). -/
def State.switched (s : State) (r : CalRun) (x : Int) : Bool :=
  !r.waits && (r.inSpan || (decide (r.unit_ < 256) && s.seq.state != .running)) && s.spanAt r.unit_ r.kind x

/-- The channel is switched away from its comparator by a calibration span (R592, R598). -/
def State.inCalSpan (s : State) (c : Nat) (x : Int) : Bool :=
  s.cal.runs.any (fun r => r.unit_ == c && (r.kind == 1 || r.kind == 2) && s.switched r x)

/-- The comparators of a channel at the first setting of the search in a span of threshold calibration: pedestal −64 mV, hysteresis 0 (R598,
R599). -/
def State.searchDac (s : State) (c : Nat) : State :=
  s.setRxChan c { s.rxChan c with dacLo := 63, dacHi := 63, hyst := 0, pedestal := -64 }

/-- The channel lies in a span of threshold calibration now. -/
def State.searching (s : State) (c : Nat) : Bool := s.underThreshold c && s.inCalSpan c s.nowTaps

/-- The DACs follow the spans of threshold calibration (R598). -/
def State.followSpans (s : State) : State :=
  let s := (s.rx.chans.filter (fun e => e.2.pedestal != 0 && !s.searching e.1)).foldl (fun s e => s.applyDac e.1) s
  (s.cal.runs.filter (fun r => r.kind == 2 && s.searching r.unit_)).foldl (fun s r => s.searchDac r.unit_) s

/-- The spans whose end has come are over, and the DACs follow (R591, R593, R598). -/
def State.endSpans (s : State) : State :=
  let runs : List CalRun := s.cal.runs.map (fun r => { r with inSpan := r.inSpan && s.spanAt r.unit_ r.kind s.nowTaps })
  if runs.isEmpty && s.rx.chans.all (fun e => e.2.pedestal == 0) then s
  else { s with cal := { s.cal with runs := runs } }.followSpans

/-! ### Edges -/

/-- The channel takes no new pulse: dead, waiting for its comparator to go low, or in a pulse (R372). -/
def RxChan.blind (x : RxChan) (t : Int) : Bool :=
  x.waitLow || x.cur.isSome || (match x.dead with | some e => decide (t < e) | none => false)

/-- RX_LEADING_EDGE: the low comparator of a channel goes high at a tap of the present cycle (R372, R377). -/
def execRxLeadingEdge (channel : Fin 256) (tap : Fin 64) (s : State) : Host.Outcome State Fault Refusal :=
  let x := s.rxChan channel
  let t := s.stampOf channel tap
  if !s.running || !s.rxEnabled channel || x.lo then .next s
  else
    let s := s.setRxChan channel { x with lo := true, highSince := some s.now, lowSince := none }
    if s.inCalSpan channel (s.nowTaps + tap) then .next s
    else if x.blind t then .next (s.setRxChan channel { s.rxChan channel with waitLow := true })
    else
      let p : RxPulse := ⟨t, none, false, false, x.stuck, s.blockLost channel, .undecided⟩
      let r := s.tryClassify channel p
      .next (r.1.setRxChan channel { r.1.rxChan channel with cur := some r.2, dead := none })

/-- RX_HIGH_CROSSING: the high comparator goes high; a pulse in progress is marked HI (R375, R403). -/
def execRxHighCrossing (channel : Fin 256) (s : State) : Host.Outcome State Fault Refusal :=
  let x := s.rxChan channel
  if s.reset_.phase == .held then .next s else
  .next (s.setRxChan channel { x with hiLevel := true, cur := x.cur.map (fun p => { p with hi := true }) })

/-- A pulse is complete: it leaves, or waits for its start. -/
def State.closePulse (s : State) (c : Nat) (p : RxPulse) : State :=
  let r := s.tryClassify c p
  let s := r.1.setRxChan c { r.1.rxChan c with cur := none }
  match r.2.cls with
  | .undecided => s.setRxChan c { s.rxChan c with wait := (s.rxChan c).wait ++ [r.2] }
  | _ => s.finishPulse c r.2

/-- RX_TRAILING_EDGE: the low comparator goes low: the hit is complete, and the channel is dead for 2 ns (R368, R372,
R374). -/
def execRxTrailingEdge (channel : Fin 256) (tap : Fin 64) (s : State) : Host.Outcome State Fault Refusal :=
  let x := s.rxChan channel
  let t := s.stampOf channel tap
  if !x.lo then .next s
  else
    let s := s.setRxChan channel { x with
      lo := false, hiLevel := false, highSince := none, lowSince := some s.now, dead := some (t + 2048), waitLow := false }
    match x.cur with
    | some p => .next (s.closePulse channel { p with trail := some t })
    | none => .next s

/-- RX_TOT_LONG: no trailing edge for 0xFFFF LSB: the hit is closed with LONG (R374). -/
def execRxTotLong (channel : Fin 256) (s : State) : Host.Outcome State Fault Refusal :=
  let x := s.rxChan channel
  match x.cur with
  | some p =>
    if p.lead + 16 * 0xFFFF ≤ 1024 * ((s.now : Int) + 1) then
      let s := s.setRxChan channel { x with waitLow := true, dead := none }
      .next (s.closePulse channel { p with long := true })
    else .next s
  | none => .next s

/-- RX_DEAD_TIME_END: the channel re-arms if its comparator is low (R372). -/
def execRxDeadTimeEnd (channel : Fin 256) (s : State) : Host.Outcome State Fault Refusal :=
  let x := s.rxChan channel
  match x.dead with
  | some e =>
    if e ≤ 1024 * ((s.now : Int) + 1) then .next (s.setRxChan channel { x with dead := none, waitLow := x.lo && x.cur.isNone })
    else .next s
  | none => .next s

/-! ### Delivery to the histogram engine (R376, R412, R417, R422, R424) -/

/-- The oldest hit leaves the channel's buffer. -/
def State.popHit (s : State) (c : Nat) : State := s.setRxChan c { s.rxChan c with buf := (s.rxChan c).buf.drop 1 }

/-- The additions of the hit find room in their banks' queues (R447). -/
def State.bankRoom (s : State) (g : List Byte) (as : List Addition) : Bool :=
  as.all (fun a => match a.bank? g with
    | some b => decide ((s.bank b).length + (as.filter (fun x => x.bank? g == some b)).length ≤ 32)
    | none => true)

/-- The words of a hit's additions are clear: their buffer is, or the clearing has come to them (R424). -/
def State.wordsClear (s : State) (g : List Byte) (as : List Addition) : Bool :=
  as.all (fun a =>
    let r := s.reel a.ch a.buf
    !r.notClear || (match binOf g a.time with
      | some (j, _) => decide (r.clearAt + Config.wordClear r.clearAt a.ch a.buf (j / 2) ≤ s.now)
      | none => true))

/-- An own addition beyond the reel span (R412). -/
def State.spanCheck (s : State) (g : List Byte) (h : Hit) : State :=
  if gearSpan g < h.time then (s.count Obj.SPAN_DROPS).raiseMs 0x0A3 (h.ch * 2 ^ 24) else s

/-- A hit is added to the reel of its take's set: one addition for each pulse of the code. -/
def State.deliver (s : State) (h : Hit) (t : Take) (st : ReelSet) (b : Nat) : State :=
  let as := hitAdditions h b st.id s.now t.pulses
  if !s.wordsClear st.gear as || !s.bankRoom st.gear as then s
  else (as.foldl (fun s a => s.queueAddition st.gear a) (s.popHit h.ch)).spanCheck st.gear h

/-- The set has claimed no buffer on the channel yet, or waits for one (R36, R420). -/
def State.claimDue (s : State) (st : ReelSet) (ch : Nat) : Bool :=
  !st.claimed || s.hist.claims.any (fun c => c.ch == ch && c.reel.set_ == st.id)

/-- A hit is discarded whose record, or whose take's record, is found bad; its reel carries DEGRADED (R826, R829). -/
def State.discardHit (s : State) (c set_ : Nat) : State := (s.popHit c).degradeReel c set_

/-- HIT_DELIVERY: the oldest hit of a channel's buffer reaches the engine. It waits while one of its words is not clear, its set has no
buffer yet, or a bank's queue is full; a hit whose set has completed is late. -/
def execHitDelivery (channel : Fin 256) (s : State) : Host.Outcome State Fault Refusal :=
  match (s.rxChan channel).buf with
  | [] => .next s
  | h :: _ =>
    if h.bad then .next (s.discardHit channel h.set_)
    else match s.take? h.seq h.epoch with
    | none => .next (((s.popHit channel).count Obj.LATE_HITS).raiseMs 0x0A2 (channel * 2 ^ 24))
    | some t =>
      if t.lost then .next (s.discardHit channel t.set_) else
      match s.set? t.set_ with
      | none => .next (((s.popHit channel).count Obj.LATE_HITS).raiseMs 0x0A2 (channel * 2 ^ 24))
      | some st =>
        match s.reelOf channel t.set_ with
        | some b => .next (s.deliver h t st b)
        | none => .next (if s.claimDue st channel then s else s.popHit channel)

/-! ### References, delay lines, stuck channels -/

/-- The channels of a reference block. -/
def blockChannels (b : Nat) : List Nat := (List.range 16).map (· + 16 * b)

/-- REF_FAULT_DETECT: a reference has been outside 0.30 to 0.90 V for 1 µs (R361). -/
def execRefFaultDetect (block : Fin 16) (s : State) : Host.Outcome State Fault Refusal :=
  if s.running && s.getB (Obj.RXREF_OK + block) then
    let s := (s.set (Obj.RXREF_OK + block) 0).raiseLow 0x085 block
    .next ((blockChannels block).foldl (fun s c => s.interruptUnit c) s)
  else .next s

/-- REF_FAULT_CLEAR: the reference has stayed inside its range for 100 µs (R361, R915). -/
def execRefFaultClear (block : Fin 16) (s : State) : Host.Outcome State Fault Refusal :=
  if s.running then .next (s.set (Obj.RXREF_OK + block) 1) else .next s

/-- The units of a DLL block: the channels of a reference block, or 16 start TDCs (R586). -/
def dllUnits (d : Nat) : List Nat := if d < 16 then blockChannels d else (List.range 16).map (· + 256 + 16 * (d - 16))

/-- DLL_UNLOCK: a DLL out of lock is detected (R370). -/
def execDllUnlock (dll : Fin 18) (s : State) : Host.Outcome State Fault Refusal :=
  if s.running && s.getB (Obj.TDC_LOCK + dll) then
    let s := (s.set (Obj.TDC_LOCK + dll) 0).raiseLow 0x087 dll
    .next ((dllUnits dll).foldl (fun s u => s.interruptUnit u) s)
  else .next s

/-- DLL_LOCK_HELD: the DLL has held lock for 10 µs (R370). A lock regained makes its units due for TDC calibration
(R609); the first lock after reset is none (R915). -/
def execDllLockHeld (dll : Fin 18) (s : State) : Host.Outcome State Fault Refusal :=
  if s.running && !s.getB (Obj.TDC_LOCK + dll) then
    let again := tabGet (fun _ => false) s.rx.dllSeen dll
    let s := s.set (Obj.TDC_LOCK + dll) 1
    let s := { s with rx := { s.rx with dllSeen := tabPut (fun _ => false) s.rx.dllSeen dll true } }
    .next (if again && s.getB Obj.CAL_ONLINE then (dllUnits dll).foldl (fun s u => s.setDue u 15) s else s)
  else .next s

/-- RX_STUCK: the low comparator has stayed high for RX_STUCK_TIME (R384). -/
def execRxStuck (channel : Fin 256) (s : State) : Host.Outcome State Fault Refusal :=
  let x := s.rxChan channel
  match x.highSince with
  | some t =>
    if x.lo && !x.stuck && s.rxEnabled channel && reached s.now t (us (s.getN Obj.RX_STUCK_TIME)) then
      let s := s.setRxChan channel { x with stuck := true }
      .next (((s.degradeChannel channel).raiseLow 0x086 channel).interruptUnit channel)
    else .next s
  | none => .next s

/-- RX_STUCK_CLEAR: the comparator has stayed low for 1 µs (R384). -/
def execRxStuckClear (channel : Fin 256) (s : State) : Host.Outcome State Fault Refusal :=
  let x := s.rxChan channel
  match x.lowSince with
  | some t => if x.stuck && reached s.now t (us 1) then .next (s.setRxChan channel { x with stuck := false }) else .next s
  | none => .next s

/-- RX_BG_RATE of a channel at the end of a 10 ms interval (R387). -/
def State.bgRate (s : State) (c : Nat) : State :=
  let n := s.getN (Obj.BACKGROUND + c)
  let x := s.rxChan c
  let rate : Nat := (n + 2 ^ 32 - x.bgAt) % 2 ^ 32 * 100
  let s := if x.bgAt == n then s else s.setRxChan c { x with bgAt := n }
  let s := s.set (Obj.RX_BG_RATE + c) rate
  if s.rxEnabled c && decide (s.getN Obj.RX_BG_ALARM < rate) then s.raiseLow 0x083 c else s

/-- RX_BG_INTERVAL: the end of a 10 ms interval (R387). -/
def execRxBgInterval (s : State) : Host.Outcome State Fault Refusal :=
  if s.running && reached s.now s.rx.bgIntervalAt (ms 10) then
    let s := { s with rx := { s.rx with bgIntervalAt := s.rx.bgIntervalAt + ms 10 } }
    .next ((List.range 256).foldl (fun s c => s.bgRate c) s)
  else .next s

/-! ### Objects -/

/-- THRESH_HI of a channel exceeds its THRESH_LO (R364). -/
def State.threshOk (s : State) (c : Nat) : Bool := decide (s.get (Obj.THRESH_LO + c) < s.get (Obj.THRESH_HI + c))

/-- What a scalar write of the return channels is refused with (R364, R382). -/
def rxCheck (s : State) (k : Nat) (v : Int) : Option Status :=
  if k / 256 = Obj.THRESH_LO / 256 ∨ k / 256 = Obj.THRESH_HI / 256 then
    (if (s.set k v).threshOk (k % 256) then none else some .outOfRange)
  else if k / 256 = Obj.RX_ENABLE / 256 then (if s.seq.state = .stopped then none else some .state)
  else none

/-- A channel is powered up or down (R382): a disabled one has no hits and no reel. DESKEW and RX_MASK in force stay (R369, R383), and so
does the count at the begin of the interval of R387. -/
def State.powerChannel (s : State) (c : Nat) : State :=
  let x := s.rxChan c
  (s.setRxChan c { RxChan.init with deskew := x.deskew, mask := x.mask, from_ := x.from_, past := x.past, bgAt := x.bgAt }).applyDac c

/-- What an accepted scalar write of the return channels does besides storing the value. -/
def rxApply (s : State) (k : Nat) (old : Int) : State :=
  if k / 256 = Obj.THRESH_LO / 256 ∨ k / 256 = Obj.THRESH_HI / 256 then s.touchDac (k % 256)
  else if k = Obj.RX_HYST then (List.range 256).foldl (fun s c => s.touchDac c) s
  else if k / 256 = Obj.RX_ENABLE / 256 ∧ s.get k ≠ old then s.powerChannel (k % 256)
  else s

/-- The return channels start when the stored objects are applied (R915). -/
def State.startRx (s : State) : State :=
  let s := { s with rx := { chans := [], dllSeen := [], bgIntervalAt := s.now, inUse := [] } }
  (List.range 256).foldl (fun s c => (s.applyDac c).takeSettings 0 c) s

end Sys2Proof.Machine
end

