-- ==== Sys2Proof/Machine/Calib.lean ====
section
/-! DEFINITION. Calibration and trimming (chapter 11): spans, repeats, acceptance, jobs and online calibration. -/

namespace Sys2Proof.Machine

open Sys2Proof

/-! ### Judging a repeat -/

/-- The hits of a TDC repeat (R594). -/
def tdcHits : Nat := 2 ^ 20

/-- Σ (m_i − N/8)² of the coarse phases (R595). -/
def phaseSpread (ms : List Nat) : Nat :=
  ((List.range 8).map (fun i => (((ms.getD i 0 : Nat) : Int) - 131072).natAbs ^ 2)).sum

/-- The phases pass: chi2 < 24.32 (R595). -/
def phasesUniform (ms : List Nat) : Bool := decide (phaseSpread ms * 100 < 2432 * 131072)

/-- The code of a TDC repeat of 2^20 hits: 0x21 with uneven phases, 0x25 with a tap outside 4 to 40 ps, else 0 (R595, R596). -/
def tdcCode (m : CalMeasure) : Nat :=
  if !phasesUniform m.phases then 0x21
  else if (List.range 64).any (fun k => decide (1000 * m.taps.getD k 0 < 4 * tdcHits ∨ 40 * tdcHits < 1000 * m.taps.getD k 0)) then 0x25
  else 0

/-- The search of R599 over the settings l to r: a step halves them at the setting in the middle, the lower one of two, and keeps the half
with the lowest setting at which at most half of the 2^14 samples are high. -/
def searchFrom : Int → Int → List Nat → Int
  | l, _, [] => l
  | l, r, n :: ns => let u := (l + r) / 2; if 2 * n ≤ 2 ^ 14 then searchFrom l u ns else searchFrom (u + 1) r ns

/-- The offset of a comparator: the lowest setting from −64 to +63 mV at which it is high in at most half of the samples (R599). -/
def searchOffset (counts : List Nat) : Int := searchFrom (-64) 63 counts

/-- The offsets of the low and of the high comparator (R599). -/
def offLo (m : CalMeasure) : Int := searchOffset m.lo
def offHi (m : CalMeasure) : Int := searchOffset m.hi

/-- An offset is not bracketed (R599). -/
def unbracketed (o : Int) : Bool := decide (o ≤ -64 ∨ 63 ≤ o)

/-- The code of a threshold repeat: the darkness check comes before the first repeat and after the second (R599, R600). -/
def thresholdCode (first : Bool) (m : CalMeasure) : Nat :=
  let bad := unbracketed (offLo m) || unbracketed (offHi m)
  let bright := decide (10 ≤ m.edges)
  if first then (if bright then 0x22 else if bad then 0x25 else 0) else (if bad then 0x25 else if bright then 0x22 else 0)

/-- Two TDC repeats agree: every width within 2 ps (R604). -/
def tdcAgree (a b : CalMeasure) : Bool :=
  (List.range 64).all (fun k => decide (1000 * (((a.taps.getD k 0 : Nat) : Int) - (b.taps.getD k 0 : Nat)).natAbs ≤ 2 * tdcHits))

/-- Two threshold repeats agree: each offset within 2 mV (R604). -/
def thresholdAgree (a b : CalMeasure) : Bool := decide ((offLo a - offLo b).natAbs ≤ 2 ∧ (offHi a - offHi b).natAbs ≤ 2)

/-- The four readings of a unit's sensor (R605). -/
def unitReadings (u : Nat) (rs : List CalRepeat) : List Int :=
  rs.flatMap (fun r => [r.tempStart.getD (sensorOf u) 0, r.tempEnd.getD (sensorOf u) 0])

/-- The highest reading less the lowest. -/
def spread (l : List Int) : Int :=
  match l with
  | [] => 0
  | x :: xs => xs.foldl max x - xs.foldl min x

/-- The readings spread by more than CAL_TEMP_DELTA / 2 (R605). -/
def State.tempMoved (s : State) (u : Nat) (rs : List CalRepeat) : Bool :=
  decide (8 * s.get Obj.CAL_TEMP_DELTA < spread (unitReadings u rs))

/-- The position table of the summed counts (R597). -/
def tdcTable (taps : List Nat) : List Nat :=
  (List.range 64).map (fun k => (1024 * (2 * (taps.take k).sum + taps.getD k 0) + taps.sum) / (2 * taps.sum))

/-- The mean of two offsets rounded half up (R601). -/
def meanHalfUp (a b : Int) : Int := (a + b + 1) / 2

/-! ### Acceptance (R605, R607) -/

/-- The bits of a unit's status without the DUE bit of a kind. -/
def State.clearDue (s : State) (u kind : Nat) : State :=
  if natBit (s.getN (calKey u)) (dueBit kind) && kind != 3 then s.set (calKey u) (s.getN (calKey u) - 2 ^ dueBit kind : Nat) else s

/-- The table temperature of a unit, and the age of its tables from their acceptance on (R605). -/
def State.noteTable (s : State) (u : Nat) (rs : List CalRepeat) : State :=
  let s := s.set (calTempKey u) (divRound (unitReadings u rs).sum 4)
  { s with cal := { s.cal with acceptedAt := tabPut (fun _ => s.cal.loadedAt) s.cal.acceptedAt u s.now } }

/-- An accepted result sets CODE 0x00, clears the DUE bit of its kind and raises event 0x100 (R607). -/
def State.acceptUnit (s : State) (u kind : Nat) (rs : List CalRepeat) : State :=
  (((s.setOutcome u kind 0).clearDue u kind).noteTable u rs).raise 0x100 (u * 2 ^ 16)

/-- A TDC result installs its table (R597). -/
def State.installTdc (s : State) (u : Nat) (a b : CalMeasure) : State :=
  let taps := (List.range 64).map (fun k => a.taps.getD k 0 + b.taps.getD k 0)
  { s with cal := { s.cal with tables := tabPut (fun _ => []) s.cal.tables u (tdcTable taps) } }

/-- A threshold result installs its trims, which apply under R365 (R601). -/
def State.installTrims (s : State) (u : Nat) (a b : CalMeasure) : State :=
  ((s.set (Obj.TRIM_LO + u) (meanHalfUp (offLo a) (offLo b))).set (Obj.TRIM_HI + u) (meanHalfUp (offHi a) (offHi b))).touchDac u

/-- A unit's result is accepted, with what it installs. -/
def State.installUnit (s : State) (u kind : Nat) (a b : CalMeasure) : State :=
  if kind = 1 then s.installTdc u a b else s.installTrims u a b

/-- A unit's run ends with a code; its job goes on or ends. -/
def State.failRun (s : State) (r : CalRun) (u code : Nat) : State :=
  ((s.dropRun u r.kind).rejectUnit r u code).calJobCheck r.slot

/-- Both repeats of a unit are done: agreement and temperature decide (R604, R605). -/
def State.judgeUnit (s : State) (r : CalRun) (u : Nat) (a b : CalRepeat) : State :=
  let agree := if r.kind = 1 then tdcAgree a.result b.result else thresholdAgree a.result b.result
  if agree && !s.tempMoved u [a, b] then
    (((s.dropRun u r.kind).installUnit u r.kind a.result b.result).acceptUnit u r.kind [a, b]).calJobCheck r.slot
  else s.failRun r u 0x23

/-- A repeat of a unit ends: it fails, or the next begins, or both are judged. -/
def State.unitRepeat (s : State) (r : CalRun) (m : CalMeasure) : State :=
  let code := if r.kind = 1 then tdcCode m else thresholdCode r.done.isEmpty m
  let rep : CalRepeat := ⟨m, [], r.temps, s.dieTemps⟩
  if code ≠ 0 then s.failRun r r.unit_ code
  else match r.done with
    | [] => s.nextRepeat r rep
    | a :: _ => s.judgeUnit r r.unit_ a rep

/-! ### RANGE_OFFSET (R602, R603) -/

/-- t_exp of a channel in LSB: CAL_TARGET × 0.25 mm × 2 / (299,792,458 m/s × 15.625 ps) (R602). -/
def State.expectedTime (s : State) (c : Nat) : Rat :=
  ((beAt (s.getBlk Obj.CAL_TARGET) (4 * c) 4 : Nat) : Rat) * 4000000000 / 37474057250

/-- The tallies of a channel in a sweep, by step. -/
def channelPoints (l : List CalTally) (c : Nat) : List CalTally :=
  sortBy (fun a b => decide (a.step ≤ b.step)) (l.filter (fun p => p.channel == c))

/-- Fewer than 90 % of the reels of a step count, or none does (R602). -/
def CalTally.noTarget (p : CalTally) : Bool := p.counted == 0 || decide (p.counted * 10 < p.seen * 9)

/-- A tally as (T, e) in LSB, for an expected time (R602). -/
def pointFigure (texp : Rat) (p : CalTally) : Rat × Rat := (p.sumTot / (p.counted : Rat), p.sumTime / (p.counted : Rat) - texp)

/-- e interpolated at a tot through points by rising T, held beyond the ends (R602). -/
def interpolate : List (Rat × Rat) → Rat → Rat
  | [], _ => 0
  | [p], _ => p.2
  | p :: q :: ps, t =>
    if t ≤ p.1 then p.2
    else if t ≤ q.1 then p.2 + (q.2 - p.2) * (t - p.1) / (q.1 - p.1)
    else interpolate (q :: ps) t

/-- ROFF of a sweep in LSB: e of the highest step (R602). -/
def sweepRoff (texp : Rat) (ps : List CalTally) : Rat := ((ps.getLast?).map (fun p => (pointFigure texp p).2)).getD 0

/-- The 16 WALK entries of a sweep in LSB (R602). -/
def sweepWalk (texp : Rat) (ps : List CalTally) : List Rat :=
  let f := sortBy (fun a b : Rat × Rat => decide (a.1 ≤ b.1)) (ps.map (pointFigure texp))
  (List.range 16).map (fun k : Nat => interpolate f (128 * k : Nat) - sweepRoff texp ps)

/-- Two sweeps of a channel agree: ROFF within 2 LSB, every WALK entry within 4 LSB (R604). -/
def sweepsAgree (texp : Rat) (a b : List CalTally) : Bool :=
  decide ((sweepRoff texp a - sweepRoff texp b).abs ≤ 2) &&
    ((sweepWalk texp a).zip (sweepWalk texp b)).all (fun x => decide ((x.1 - x.2).abs ≤ 4))

/-- The tallies of two sweeps pooled. -/
def poolPoints (a b : List CalTally) : List CalTally :=
  (a.zip b).map (fun x => { x.1 with
    seen := x.1.seen + x.2.seen, counted := x.1.counted + x.2.counted
    sumTime := x.1.sumTime + x.2.sumTime, sumTot := x.1.sumTot + x.2.sumTot })

/-- A time in LSB rounded to the stored 1/16 LSB, within a range. -/
def sixteenths (lo hi : Int) (v : Rat) : Int := clampInt lo hi (divRound (16 * v).num (16 * v).den)

/-- A channel's range offset and walk are installed (R602). -/
def State.installRange (s : State) (c : Nat) (ps : List CalTally) : State :=
  let s := s.set (Obj.ROFF + c) (sixteenths (-65536) 65535 (sweepRoff (s.expectedTime c) ps))
  { s with cal := { s.cal with
    walk := tabPut (fun _ => []) s.cal.walk c ((sweepWalk (s.expectedTime c) ps).map (sixteenths (-32768) 32767)) } }

/-- The energy steps of a sweep, ascending, as its tallies began (R602). -/
def CalRun.steps (r : CalRun) : List Nat := (r.tally.map (·.step)).eraseDups

/-- A channel of a RANGE_OFFSET job is judged; the answer says that it was accepted. -/
def State.judgeChannel (s : State) (r : CalRun) (c : Nat) (a b : CalRepeat) : Bool × State :=
  let pa := channelPoints a.points c
  let pb := channelPoints b.points c
  if (pa ++ pb).any CalTally.noTarget then (false, s.rejectUnit r c 0x26)
  else if !sweepsAgree (s.expectedTime c) pa pb || s.tempMoved c [a, b] then (false, s.rejectUnit r c 0x23)
  else (true, (s.installRange c (poolPoints pa pb)).acceptUnit c 3 [a, b])

/-- The raw offset of a channel in 1/16 LSB (R603). -/
def State.rawOffset (s : State) (c : Nat) : Int := s.get (Obj.ROFF + c) - 16 * s.get (Obj.DESKEW + c)

/-- A channel is aligned to the largest raw offset of its group (R603). -/
def State.alignChannel (s : State) (c : Nat) (rc rmax : Int) : State :=
  let d := clampInt 0 255 (divRound (rmax - rc) 16)
  (s.set (Obj.DESKEW + c) d).set (Obj.ROFF + c) (rc + 16 * d)

/-- The accepted channels of each group are aligned (R603). -/
def State.alignGroups (s : State) (cs : List Nat) : State :=
  let old := s
  cs.foldl (fun s c =>
    let mates := cs.filter (fun d => old.groupOf d == old.groupOf c)
    s.alignChannel c (old.rawOffset c) ((mates.map old.rawOffset).foldl max (old.rawOffset c))) s

/-- Both sweeps are done: every channel is judged, and with CAL_OFFSET_MODE 1 the groups are aligned (R602 to R605). -/
def State.judgeRange (s : State) (r : CalRun) (a b : CalRepeat) : State :=
  let units := (s.job r.slot).units.filter (fun u => !s.cal.failed.any (fun f => f.1 == r.slot && f.2.1 == u))
  let s := s.dropRun rangeUnit r.kind
  let x := units.foldl (fun (p : List Nat × State) c =>
    let q := p.2.judgeChannel r c a b
    (if q.1 then p.1 ++ [c] else p.1, q.2)) ([], s)
  let s := if s.getN Obj.CAL_OFFSET_MODE = 1 then x.2.alignGroups x.1 else x.2
  ({ s with cal := { s.cal with stepNow := none, stepGroups := [] } }).calJobCheck r.slot

/-- A sweep of a RANGE_OFFSET job ends; the whole sweep is repeated, from the lowest step on (R602). -/
def State.rangeRepeat (s : State) (r : CalRun) (m : CalMeasure) : State :=
  let rep : CalRepeat := ⟨m, r.tally, r.temps, s.dieTemps⟩
  match r.done with
  | [] => { (s.nextRepeat r rep) with cal := { (s.nextRepeat r rep).cal with stepNow := r.steps.head? } }
  | a :: _ => s.judgeRange r a rep

/-- Every channel of the job that can have reels and has not failed has CAL_OFFSET_REELS reels of a step (R602). -/
def State.stepSeen (s : State) (r : CalRun) (j : Nat) : Bool :=
  r.tally.all (fun x => x.step != j || decide (s.getN Obj.CAL_OFFSET_REELS ≤ x.seen) || !s.rxEnabled x.channel ||
    s.cal.failed.any (fun f => f.1 == r.slot && f.2.1 == x.channel))

/-! ### Commands -/

/-- The hits of a run: those it counted itself for an EV input (R593), else those that the oscillator gave (R592, R594). -/
def CalRun.measured (r : CalRun) (m : CalMeasure) : CalMeasure :=
  if 288 ≤ r.unit_ ∧ r.unit_ < 304 then
    { m with
      taps := (List.range 64).map (fun k => tabGet (fun _ => 0) r.taps k), phases := (List.range 8).map (fun k => tabGet (fun _ => 0) r.phases k) }
  else m

/-- A repeat holds what it counts up to: 2^20 hits, each with its tap and phase, the seven steps of both searches, or the reels of every
step of a sweep (R594, R599, R602). -/
def State.repeatFull (s : State) (r : CalRun) (m : CalMeasure) : Bool :=
  if r.kind = 1 then m.taps.sum == tdcHits && m.phases.sum == tdcHits
  else if r.kind = 2 then m.lo.length == 7 && m.hi.length == 7
  else r.steps.all (fun j => s.stepSeen r j)

/-- CAL_REPEAT_DONE: a repeat of a unit (304: of a RANGE_OFFSET job) ends with what it measured (R594 to R607); one that is not full goes
on. -/
def execCalRepeatDone (unit : Fin 305) (measure : CalMeasure) (s : State) : Host.Outcome State Fault Refusal :=
  match s.cal.runs.find? (fun r => r.unit_ == unit.val && !r.waits) with
  | none => .next s
  | some r =>
    if !s.repeatFull r (r.measured measure) then .next s
    else if r.kind = 3 then .next (s.rangeRepeat r measure) else .next (s.unitRepeat r (r.measured measure))

/-- A unit's input is switched in its run, where a span may lie at the end of the present core cycle, or back. -/
def State.setSpan (s : State) (u : Nat) (x : Bool) : State :=
  { s with cal := { s.cal with runs := s.cal.runs.map (fun r =>
    if r.unit_ == u then { r with inSpan := x && s.spanAt u r.kind (s.nowTaps + 63) } else r) } }

/-- CAL_SPAN_START: a calibration span of a unit begins (R591 to R593, R598). -/
def execCalSpanStart (unit : Fin 304) (s : State) : Host.Outcome State Fault Refusal := .next (s.setSpan unit true).followSpans

/-- CAL_SPAN_END: the unit's input is switched back (R592, R598). -/
def execCalSpanEnd (unit : Fin 304) (s : State) : Host.Outcome State Fault Refusal := .next (s.setSpan unit false).followSpans

/-- The time limit of a TDC repeat: 60 s fixed for the EV inputs (R595). -/
def State.tdcTimeout (s : State) (u : Nat) : Time := if 288 ≤ u then sec 60 else ms (s.getN Obj.CAL_TDC_TIMEOUT)

/-- CAL_TDC_TIMEOUT: a TDC repeat has not reached its hits in time, and fails with 0x21 (R595). -/
def execCalTdcTimeout (unit : Fin 304) (s : State) : Host.Outcome State Fault Refusal :=
  match s.cal.runs.find? (fun r => r.unit_ == unit.val && r.kind == 1) with
  | none => .next s
  | some r => if reached s.now r.since (s.tdcTimeout unit) then .next (s.failRun r unit 0x21) else .next s

/-- A unit becomes due in both its kinds (R609); the start and stamp TDCs have the first only. -/
def State.becomeDue (s : State) (u : Nat) : State :=
  let s := s.setDue u 15
  if u < 256 then s.setDue u 14 else s

/-- CAL_AGE_EXPIRY: the age of a unit's table reaches CAL_MAX_AGE (R609). -/
def execCalAgeExpiry (unit : Fin 304) (s : State) : Host.Outcome State Fault Refusal :=
  if s.running && s.getB Obj.CAL_ONLINE &&
      reached s.now (tabGet (fun _ => s.cal.loadedAt) s.cal.acceptedAt unit) (sec (s.getN Obj.CAL_MAX_AGE)) then
    .next (s.becomeDue unit)
  else .next s

/-- How far a unit's temperature is from its table temperature. -/
def State.tempDrift (s : State) (u : Nat) : Nat := (s.unitTemp u - s.get (calTempKey u)).natAbs

/-- The units that a die sensor serves become due when it has moved by CAL_TEMP_DELTA (R609). -/
def State.driftDue (s : State) (sensor : Nat) : State :=
  if s.getB Obj.CAL_ONLINE then
    ((List.range 304).filter (fun u => sensorOf u == sensor)).foldl (fun s u =>
      if 16 * s.getN Obj.CAL_TEMP_DELTA ≤ s.tempDrift u then s.becomeDue u else s) s
  else s

/-- A job holds the unit (R100, R609). -/
def State.unitHeld (s : State) (u : Nat) : Bool :=
  jobSlots.any (fun n => (s.job n).live && (s.job n).kind.isCal && natBit (s.job n).arg u)

/-- The unit failed online calibration within the last 10 s (R609). -/
def State.failedLately (s : State) (u : Nat) : Bool :=
  match tabGet (fun _ => none) s.cal.failAt u with
  | some t => !reached s.now t (sec 10)
  | none => false

/-- The due units and kinds that online calibration may take, in its order (R609). -/
def State.onlineChoices (s : State) : List (Nat × Nat) :=
  let all := (List.range 304).flatMap (fun u => [(u, 1), (u, 2)])
  let due := all.filter (fun x => natBit (s.getN (calKey x.1)) (dueBit x.2) && !s.unitHeld x.1 && !s.failedLately x.1)
  sortBy (fun a b => decide (s.tempDrift b.1 < s.tempDrift a.1 ∨
    (s.tempDrift a.1 = s.tempDrift b.1 ∧ (a.2 < b.2 ∨ (a.2 = b.2 ∧ a.1 ≤ b.1))))) due

/-- CAL_ONLINE_START: online calibration starts on the first due unit, one unit and kind at a time (R609). -/
def execCalOnlineStart (s : State) : Host.Outcome State Fault Refusal :=
  if s.running && s.getB Obj.CAL_ONLINE && !s.cal.runs.any (fun r => r.slot == 0) then
    match s.onlineChoices with
    | [] => .next s
    | x :: _ => .next (s.startRun x.2 x.1 0)
  else .next s

/-- CAL_ONLINE cleared abandons an online run (R610). -/
def State.stopOnline (s : State) : State :=
  (s.cal.runs.filter (fun r => r.slot == 0)).foldl (fun s r => s.abandonOnline r.unit_) s

/-! ### CAL_START (R602, R608) -/

/-- The job kind that a CAL_START value names. -/
def calJobKind (v : Nat) : JobKind := if v = 1 then .calTdc else if v = 2 then .calThreshold else .calOffset

/-- The units that a CAL_START of a kind selects: those of CAL_UNITS that the kind calibrates (R586, R608). -/
def State.calSelection (s : State) (v : Nat) : List Nat :=
  (List.range (if v = 1 then 304 else 256)).filter (fun u => bitOf (s.getBlk Obj.CAL_UNITS) u)

/-- What a CAL_START is refused with (R602, R608). -/
def State.calStartCheck (s : State) (v : Nat) : Option Status :=
  if (s.calSelection v).isEmpty then some .outOfRange
  else if v = 3 && !(s.seq.state == .running && s.safety.state == .armed && s.getN Obj.KERNEL_ACTIVE == 1 &&
      s.getN Obj.CAL_WALK_STEPS != 0) then some .state
  else none

/-- The bit map of units, as a number. -/
def unitMask (us : List Nat) : Nat := us.foldl (fun a u => a + 2 ^ u) 0

/-- The running energy step of a sweep has ended where every channel has its reels: the next one begins; the last one stays until the sweep
ends (R602). -/
def State.nextStep (s : State) (slot : Nat) : State :=
  match s.cal.runs.find? (fun r => r.slot == slot && r.unit_ == rangeUnit), s.cal.stepNow with
  | some r, some x =>
    if s.stepSeen r x then
      { s with cal := { s.cal with stepNow := some ((r.steps.find? (fun y => decide (x < y))).getD x) } }
    else s
  | _, _ => s

/-- The step of a calibration job. The first one puts its units to work: 8 at a time, or all together; a later one of a
RANGE_OFFSET job with `ok` moves its sweep to the next energy step (R602, R608). Online runs of its units are abandoned as it starts
(R616). -/
def State.calJobStep (s : State) (slot : Nat) (ok : Bool) : State :=
  let j := s.job slot
  if j.stage = 0 then
    let s := j.units.foldl (fun s u => s.abandonOnline u) (s.setJob slot { j with stage := 1 })
    if j.kind = .calOffset then
      let gs := (List.range s.groups).filter (fun g => j.units.any (fun u => s.groupOf u == g))
      ({ s with cal := { s.cal with stepNow := s.walkSteps.head?, stepGroups := gs } }).startRun 3 rangeUnit slot
    else
      ({ s with cal := { s.cal with waiting := s.cal.waiting ++ j.units.map (fun u => (slot, u)) } }).fillRuns slot j.kind.calKind
  else if j.kind = .calOffset && ok then s.nextStep slot
  else s

/-- What an accepted scalar write of calibration does besides storing the value: CAL_START selects its units, whose online runs are
abandoned (R616). -/
def calApply (s : State) (k : Nat) : State :=
  if k = Obj.CAL_ONLINE && !s.getB k then s.stopOnline
  else if k = Obj.CAL_START then (s.calSelection (s.getN k)).foldl (fun s u => s.abandonOnline u) s
  else s

/-- CAL_DUE_COUNT: units with a DUE bit set. -/
def State.calDueCount (s : State) : Nat := ((List.range 304).filter (fun u => decide (0x4000 ≤ s.getN (calKey u)))).length

end Sys2Proof.Machine
end

