-- ==== Sys2Proof/Machine/Emitter.lean ====
section
/-! DEFINITION. The emitter interface (chapter 05) and the capture of a take's light (R645 to R648): triggers, the line
scan, column recharge, the chain, the energy loop, and zone diagnostics. Instants are in taps. -/

namespace Sys2Proof.Machine

open Sys2Proof

/-! ### Takes -/

/-- The first tap after the present core cycle. -/
def State.cycleEnd (s : State) : Int := s.nowTaps + 64

/-- Two records are of one take or of one diagnostic pulse. -/
def Take.same (a b : Take) : Bool :=
  a.diag == b.diag && a.seq == b.seq && a.epoch == b.epoch && a.group == b.group && decide (a.trig = b.trig)

/-- Changes the record of a take or of a diagnostic pulse. -/
def State.mapTake (s : State) (t : Take) (f : Take → Take) : State :=
  let g := fun x : Take => if x.same t then f x else x
  { s with seq := { s.seq with takes := s.seq.takes.map g, diags := s.seq.diags.map g } }

/-- A diagnostic pulse leaves the list of those in progress; a take stays until its set closes. -/
def State.dropDiag (s : State) (t : Take) : State :=
  if t.diag then { s with seq := { s.seq with diags := s.seq.diags.filter (fun x => !x.same t) } } else s

/-- The takes and the diagnostic pulses. -/
def State.firings (s : State) : List Take := s.seq.takes ++ s.seq.diags

/-- The earliest of the firings for which a condition holds, by trigger. -/
def State.firstFiring (s : State) (p : Take → Bool) : Option Take :=
  (sortBy (fun a b : Take => decide (a.trig ≤ b.trig)) (s.firings.filter p)).head?

/-- The energy of a capture stays the provisional one (R312). -/
def State.keepProvisional (s : State) (t : Take) : State := s.finishCharge t.seq t.epoch t.group t.trig none

/-! ### Triggers (R251, R261, R267, R302) -/

/-- The pulses of a take on its output (R251). -/
def State.pulsesOf (s : State) (t : Take) : List TrigPulse :=
  t.pulses.map (fun o : Nat => ⟨s.trigOf t.zone, t.trig + 64 * (o : Int), t.trig + 64 * (o : Int) + t.width⟩)

/-- A take fires on a column whose recharge has not ended (R261). -/
def State.undercharged (s : State) (t : Take) : Bool :=
  let x := s.column (columnOf t.zone)
  s.energySource == 0 && (x.startAt.isSome || (match x.endAt with | some e => decide (t.trig < e) | none => false))

/-- A take's ICs hold another step than its own (R267). -/
def State.chainStale (s : State) (t : Take) : Bool :=
  s.energySource == 1 && s.chainIcs.any (fun i =>
    s.getN (Obj.CHAIN_MAP + i) == t.group && (tabGet (fun _ => ChainWord.zero) s.emit.latched i).step != t.energy)

/-- The undercharge of a take is counted (R261). -/
def State.noteUndercharge (s : State) (t : Take) : State :=
  if s.undercharged t then ((s.count Obj.COL_UNDERCHARGE).raise 0x062 0).mapTake t (fun x => { x with offLoop := true }) else s

/-- The stale chain of a take is counted (R267). -/
def State.noteStale (s : State) (t : Take) : State :=
  if s.chainStale t then ((s.count Obj.CHAIN_STALE).raise 0x063 0).mapTake t (fun x => { x with offLoop := true }) else s

/-- The capture window of a take is taken, unless one in progress overlaps it (R270); windows open in the order of the triggers. DESIGN
CHOICE (log entry 75): a take that drives no pin has no window, so it occupies no converter and counts no conflict. -/
def State.scheduleCapture (s : State) (t : Take) : State :=
  if t.capOpen < s.emit.captureEnd then
    (s.count Obj.CAPTURE_CONFLICTS).raise 0x066 0
  else ({ s with emit := { s.emit with captureEnd := t.capEnd } }).mapTake t (fun x => { x with captured := true })

/-- The CHARGE in use of a take's ICs: of the first one, as latched (R263, R271). -/
def State.chargeInUse (s : State) (t : Take) : Nat :=
  match s.chainIcs.find? (fun i => s.getN (Obj.CHAIN_MAP + i) == t.group) with
  | some i => (tabGet (fun _ => ChainWord.zero) s.emit.latched i).charge
  | none => s.chainCharge t.group t.energy

/-- The effective setting S that a take fires at: C of its column's recharge, or the CHARGE of its ICs (R271). -/
def State.settingInUse (s : State) (t : Take) : Int :=
  match s.energySource with
  | 0 => (s.column (columnOf t.zone)).setting
  | 1 => (s.chargeInUse t : Nat)
  | _ => 0

/-- The first take that fires after a takeover: its spoke carries DEGRADED (the timeline of R797). -/
def State.firstFired (s : State) (t : Take) : State :=
  if s.pipe.firstFire && !t.diag then
    ({ s with pipe := { s.pipe with firstFire := false } }).mapSpoke t.group t.bind (fun x => { x with degraded := true })
  else s

/-- The pulses of a take leave; in TRIG mode with SINK its column recharges from the last fall (R260). -/
def State.issueTake (s : State) (t : Take) : State :=
  let s := ((s.noteUndercharge t).noteStale t).firstFired t
  let old := s.emit.pulses.filter (fun p => decide (s.nowTaps < p.fall + 64000))
  let s := { s with emit := { s.emit with pulses := s.pulsesOf t ++ old } }
  let s := if t.diag then s else (s.groupChannels t.group).foldl (fun s c => s.holdSettings (16 * t.trig) c) s
  let s := (s.mapTake t (fun x => { x with issued := true, setting := s.settingInUse t })).scheduleCapture t
  if s.matrixMode then s else s.rechargeAt (columnOf t.zone) t.lastFall

/-- The gate blocks a take's first edge: it consumes its number, is charged nothing and opens no window (R50, R312,
R379). -/
def State.blockTake (s : State) (t : Take) : State :=
  let s := s.mapTake t (fun x => { x with issued := true, blocked := true, captureDone := true })
  let s := (s.uncharge t.seq t.epoch t.group t.trig).dropDiag t
  if t.diag then s else (s.startDecided t.group).applyDacs t.group

/-- The takes of the core cycle that is over whose first edge the gate cut off as it closed are blocked like any other (R50, R302). -/
def State.blockCut (s : State) : State := (s.firings.filter (fun t => t.blocked && !t.captureDone)).foldl State.blockTake s

/-- TRIGGER_ISSUE: the first edge of the next take or diagnostic pulse leaves, or is blocked by the gate (R50, R251). -/
def execTriggerIssue (s : State) : Host.Outcome State Fault Refusal :=
  match s.firstFiring (fun t => t.drives && !t.issued && decide (t.trig < s.cycleEnd)) with
  | none => .next s
  | some t => if s.gateOpen && !s.isShadow then .next (s.issueTake t) else .next (s.blockTake t)

/-- The points of the take's reel carry DEGRADED (R254). -/
def State.degradeTake (s : State) (t : Take) : State := s.mapSet t.set_ (fun r => { r with degraded := true })

/-- START_MISSING: no loopback stamp within 2 ns of t_trig; the take starts at t_trig (R254). -/
def execStartMissing (s : State) : Host.Outcome State Fault Refusal :=
  match s.firstFiring (fun t => !t.diag && t.issued && t.drives && t.start.isNone && decide (t.trig + 128 < s.cycleEnd)) with
  | none => .next s
  | some t =>
    let s := s.mapTake t (fun x => { x with start := some (16 * t.trig) })
    let s := ((s.count Obj.START_MISSING).raise 0x060 0).degradeTake t
    .next (((s.groupChannels t.group).foldl (fun s c => s.keptSettings (16 * t.trig) c) s).startDecided t.group)

/-- The end of the listen window of a take, in taps: from its start, or for one without a window from t_trig. -/
def Take.windowEnd (t : Take) : Int := (match t.start with | some x => x / 16 | none => t.trig) + 64 * (t.window : Int)

/-- TAKE_WINDOW_CLOSE: a listen window closes (R210); a set that waited for it closes early (R202), and pending DAC settings of its
channels apply (R365). A take that opens no window is over at the time its window would have closed (R459). -/
def execTakeWindowClose (s : State) : Host.Outcome State Fault Refusal :=
  match s.firstFiring (fun t => !t.diag && !t.closed && (t.start.isSome || !t.drives) && decide (t.windowEnd < s.cycleEnd)) with
  | none => .next s
  | some t =>
    let opened := t.drives && t.start.isSome
    let s := s.mapTake t (fun x => { x with closed := true })
    let s := s.mapSet t.set_ (fun r => r.windowEnded opened t.window t.windowEnd)
    let s := if opened then
        { s with cal := { s.cal with windowEnd := tabPut (fun _ => -320) s.cal.windowEnd t.group t.windowEnd } } else s
    .next ((s.closeIfDue t.group).applyDacs t.group)

/-! ### Line scan and column sinks (R256 to R260) -/

/-- Recharges that a matrix interval pauses end later by its length (R256, R260). -/
def State.pauseRecharge (s : State) (m : MatrixInterval) : State :=
  { s with emit := { s.emit with columns := s.emit.columns.map (fun e =>
    (e.1, { e.2 with endAt := e.2.endAt.map (fun t => if m.start < t then t + (m.stop - m.start) else t) })) } }

/-- PRECHARGE_START: the next matrix interval begins (R257); ROW goes high while the trigger gate is open (R302). DESIGN CHOICE (log entry
75): where the gate opens inside an interval, ROW stays low for the rest of it. -/
def execPrechargeStart (s : State) : Host.Outcome State Fault Refusal :=
  match s.emit.matrixNow, s.emit.matrix with
  | none, m :: _ =>
    if m.start < s.cycleEnd then
      .next ({ s with emit := { s.emit with matrixNow := some m, rowHigh := if s.gateOpen then some m else none } }.pauseRecharge m)
    else .next s
  | _, _ => .next s

/-- MATRIX_INTERVAL_END: ROW goes low and the column's recharge starts (R256, R260). -/
def execMatrixIntervalEnd (s : State) : Host.Outcome State Fault Refusal :=
  match s.emit.matrixNow with
  | some m =>
    if m.stop < s.cycleEnd then
      let s := { s with emit := { s.emit with matrixNow := none, rowHigh := none, matrix := s.emit.matrix.filter (· != m) } }
      .next (s.recharge m.col m.stop (s.columnStep m.col))
    else .next s
  | none => .next s

/-- COL_RECHARGE_END: the recharge of a column sink has run for COL_CHARGE_TIME (R260). -/
def execColRechargeEnd (column : Fin 32) (s : State) : Host.Outcome State Fault Refusal :=
  match (s.column column).endAt with
  | some e => if e < s.cycleEnd then .next (s.setColumn column { s.column column with endAt := none }) else .next s
  | none => .next s

/-! ### The chain (R264 to R268) -/

/-- The time from the start of a frame to the last rising edge of CHAIN_CLK, in core cycles (R264). -/
def ChainFrame.time (f : ChainFrame) : Nat := 32 * f.words.length * f.div

/-- How many words of a readback are wrong against the frame before (R268). -/
def badWordsOf (sent : List ChainWord) (got : List Nat) : Nat :=
  ((List.range sent.length).filter (fun i => badReadback i (sent.getD i ChainWord.zero) (got.getD i 0))).length

/-- The readback errors of a frame: each counted and reported; in 2 consecutive frames a chain fault (R268). -/
def State.readbackErrors (s : State) (n : Nat) : State :=
  if n = 0 then { s with emit := { s.emit with badFrames := 0 } }
  else
    let s := (List.range n).foldl (fun s _ => (s.count Obj.CHAIN_READBACK_ERRORS).raise 0x064 0) s
    let s := { s with emit := { s.emit with badFrames := s.emit.badFrames + 1 } }
    if 2 ≤ s.emit.badFrames then (s.raise 0x065 0).trip .chainFault else s

/-- CHAIN_FRAME_SHIFT_DONE: a frame has shifted; what CHAIN_DIN returned of the frame before, word of position 0 first,
is compared (R264, R268). -/
def execChainFrameShiftDone (readback : List Nat) (s : State) : Host.Outcome State Fault Refusal :=
  match s.emit.frame with
  | some f =>
    if !f.shifted && reached s.now f.startAt f.time then
      let bad := badWordsOf s.emit.previous readback
      let s := { s with emit := { s.emit with frame := some { f with shifted := true }, previous := f.words } }
      .next (s.readbackErrors bad)
    else .next s
  | none => .next s

/-- A matrix interval or a take's pulses are in progress or begin within 30 ns (R266). -/
def State.latchBlocked (s : State) : Bool :=
  let a := s.nowTaps
  let b := s.nowTaps + 30 * 64
  s.emit.matrix.any (fun m => decide (m.start ≤ b ∧ a ≤ m.stop)) ||
    s.firings.any (fun t => t.drives && decide (t.trig - 5 * 64 ≤ b ∧ a ≤ t.lastFall + 2 * 64))

/-- CHAIN_LATCH: CHAIN_LAT goes high and latches the shifted frame when nothing fires and the gate is open (R264, R266, R295). -/
def execChainLatch (s : State) : Host.Outcome State Fault Refusal :=
  match s.emit.frame with
  | some f =>
    if f.shifted && f.latAt.isNone && reached s.now f.startAt (f.time + 10) && !s.latchBlocked && s.gateOpen then
      let latched := (List.range f.words.length).foldl (fun t i =>
        tabPut (fun _ => ChainWord.zero) t i (f.words.getD i ChainWord.zero)) s.emit.latched
      .next { s with emit := { s.emit with latched := latched, frame := some { f with latAt := some s.now } } }
    else .next s
  | none => .next s

/-- CHAIN_LAT goes low 20 ns after it rose: CHAIN_FRAMES increments, and a requested frame starts (R264, R265), as does one that waited
for the trigger gate (R283). -/
def State.chainFall (s : State) : State :=
  match s.emit.frame with
  | some f => match f.latAt with
    | some t => if reached s.now t 20 then
        ({ s with emit := { s.emit with frame := none } }.countWrap Obj.CHAIN_FRAMES 1).startFrame else s
    | none => s
  | none => s.startFrame

/-! ### Captures (R269, R270, R645 to R649) -/

/-- An event of housekeeping and fast capture, at most once per 100 ms for a measurement (R652). -/
def State.raiseHk (s : State) (e m : Nat) : State :=
  let key := e + 512 * m
  let free := match tabGet (fun _ => none) s.ev.limiter key with
    | none => true
    | some t => reached s.now t (ms 100)
  if free then (s.limiterStart key).raise e 0 else s

/-- The MPD input of a group: 0 MPD_A, 1 MPD_B (R269). -/
def State.mpdInput (s : State) (g : Nat) : Nat := s.getN (Obj.MPD_SELECT + g)

/-- The MPD input is captured: not in INTERLEAVED_ISENSE (R645). -/
def State.mpdCaptured (s : State) : Bool := s.getN Obj.FC_MODE != 2

/-- The inputs that the capture of a group's take uses (R645). -/
def State.captureInputs (s : State) (g : Nat) : List Nat :=
  match s.getN Obj.FC_MODE with
  | 0 => [s.mpdInput g, 2]
  | 1 => [s.mpdInput g]
  | _ => [2]

/-- A capture window opens while the gain switch of one of its inputs settles, 8 ns (R649). -/
def State.gainSettling (s : State) (t : Take) : Bool :=
  (s.captureInputs t.group).any (fun i => match tabGet (fun _ => none) s.hk.gainAt i with
    | some w => decide (64 * (w : Int) ≤ t.capOpen ∧ t.capOpen < 64 * ((w : Int) + 8))
    | none => false)

/-- The gain factor in force of an input (R646). -/
def State.fcGain (s : State) (i : Nat) : Nat := 2 ^ tabGet (fun _ => 0) s.hk.gain i

/-- The capture count of samples against a baseline (R647); the factor is 1.25 GS/s over the rate. -/
def captureCount (factor gain : Nat) (base xs : List Nat) : Int :=
  divRound ((((base.length * xs.sum : Nat) : Int) - ((xs.length * base.sum : Nat) : Int)) * factor) ((base.length * gain : Nat) : Int)

/-- The figures of a capture: the whole integral E, the guard integral G, and the peak ISENSE code. -/
structure CaptureFigures where
  e : Int
  g : Int
  i : Nat
  deriving DecidableEq, Repr

/-- The figures that the samples of a take give (R269, R646, R647). -/
def State.figures (s : State) (t : Take) (c : CaptureSamples) : CaptureFigures :=
  let factor := if s.getN Obj.FC_MODE = 0 then 2 else 1
  let gain := s.fcGain (s.mpdInput t.group)
  ⟨captureCount factor gain c.base (c.guard ++ c.rest), captureCount factor gain c.base c.guard, c.isense.foldl max 0⟩

/-- The pulses n of a take's code. -/
def Take.count (t : Take) : Nat := max 1 t.pulses.length

/-- ENERGY_TARGET of the take's step. -/
def State.target (s : State) (t : Take) : Nat := s.getN (Obj.ENERGY_TARGET + t.energy)

/-! ### The energy loop (R271 to R273) -/

/-- The key of the trim that a take updates, its base setting, its effective setting S, and the bounds of the effective
setting; none in FIXED mode. -/
def State.loopTrim (s : State) (t : Take) : Option (Nat × Int × Int × Int) :=
  match s.energySource with
  | 0 =>
    let c := columnOf t.zone
    some (Obj.COL_TRIM + c, s.get (Obj.COL_SINK + c), t.setting, 1)
  | 1 => some (Obj.CHAIN_TRIM + t.group, s.get (Obj.CHAIN_CHARGE + t.energy), t.setting, 0)
  | _ => none

/-- n × ENERGY_TARGET, the integral that meets the target. -/
def State.wanted (s : State) (t : Take) : Int := ((t.count * s.target t : Nat) : Int)

/-- |e| exceeds LOOP_DEADBAND, in 0.1 % (R271). -/
def State.offTarget (s : State) (t : Take) (e : Int) : Bool :=
  decide (s.get Obj.LOOP_DEADBAND * s.wanted t < ((e - s.wanted t).natAbs : Int) * 1000)

/-- The trims and the zone statuses that a SHADOW holds as the ACTIVE device has them (R282; DESIGN CHOICE, log entry 76). -/
def isEmitterMirror (k : Nat) : Bool := k / 256 == Obj.COL_TRIM / 256 || k / 256 == Obj.CHAIN_TRIM / 256 || k == Obj.ZONE_DIAG

/-- The loop sets a trim, which goes to the partner (R271, R282). -/
def State.setTrim (s : State) (k : Nat) (v : Int) : State :=
  if s.pair.role = .active then (s.set k v).sendObject k (encodeValue .i16 v) else s.set k v

/-- The zone statuses go to the partner (R282). -/
def State.sendZones (s : State) : State := if s.pair.role = .active then s.sendObject Obj.ZONE_DIAG s.zoneDiagBlock else s

/-- A zone takes the status of its byte of ZONE_DIAG (R281, R282). DESIGN CHOICE (log entry 75): its uncovered count, which the byte does
not carry, is 2 while it is due and 0 otherwise, and it became due (R227) when its DUE bit came. -/
def ZoneDiag.mirrored (d : ZoneDiag) (now : Time) (b : Byte) : ZoneDiag :=
  let due := b.getLsbD 5
  { d with
    status := if b.toNat % 8 = 6 then d.status else b.toNat % 8
    latched := b.getLsbD 7, covered := b.getLsbD 6, due := due, missed := if due then 2 else 0
    dueAt := if due && !d.due then now else d.dueAt }

/-- A SHADOW takes a trim or the zone statuses of the ACTIVE device (R282). -/
def State.takeEmitter (s : State) (k : Nat) (bs : List Byte) : State :=
  if k ≠ Obj.ZONE_DIAG then (if bs.length = 2 then s.set k (decodeValue .i16 bs) else s)
  else if bs.length = 1024 then (bs.zipIdx).foldl (fun s x => s.setZone x.2 ((s.zone x.2).mirrored s.now x.1)) s
  else s

/-- The trim update; the answer says that the clamp stopped it (R271, R272). -/
def State.updateTrim (s : State) (t : Take) (e : Int) : Bool × State :=
  match s.loopTrim t with
  | none => (false, s)
  | some (k, base, setting, lo) =>
    if s.offTarget t e then
      let want := s.get k - divRound (s.get Obj.LOOP_GAIN * (e - s.wanted t) * setting) (65536 * s.wanted t)
      let got := clampInt (lo - base) (255 - base) want
      (got != want, s.setTrim k got)
    else (false, s)

/-- ENERGY_STATUS of a group takes a value; entry into OUT_OF_TOLERANCE and AT_LIMIT are reported (R272, R273). -/
def State.setEnergyStatus (s : State) (g : Nat) (st : Nat) : State :=
  let old := s.getN (Obj.ENERGY_STATUS + g)
  let s := s.set (Obj.ENERGY_STATUS + g) st
  if st = 3 ∧ old ≠ 3 then s.raise 0x067 0 else s

/-- The last 16 updating takes of a group with a new one: true within 3 %. -/
def State.noteTolerance (s : State) (g : Nat) (within : Bool) : State :=
  { s with emit := { s.emit with
    tolerance := tabUpd (fun _ => []) s.emit.tolerance g (fun l => (within :: l).take 16) } }

/-- The verdict of the last 16 updating takes (R273). -/
def toleranceStatus (l : List Bool) : Nat :=
  if l.length < 16 then 1 else if l.all id then 2 else if l.all (!·) then 3 else 1

/-- A take updates the loop (R271 to R273). -/
def State.updateLoop (s : State) (t : Take) (e : Int) : State :=
  let within := decide (((e - s.wanted t).natAbs : Int) * 100 ≤ 3 * s.wanted t)
  let s := s.noteTolerance t.group within
  let r := s.updateTrim t e
  if r.1 then (r.2.setEnergyStatus t.group 4).raise 0x068 0
  else r.2.setEnergyStatus t.group (toleranceStatus (tabGet (fun _ => []) r.2.emit.tolerance t.group))

/-- The take updates the loop: ENERGY_LOOP, a target, no diagnostic pulse, not excluded, and not blocked (R271). -/
def State.updatesLoop (s : State) (t : Take) : Bool :=
  s.getB Obj.ENERGY_LOOP && s.target t != 0 && !t.diag && !t.offLoop && !t.blocked && !s.isShadow

/-! ### Zone verdicts (R276 to R280) -/

/-- The take is evaluable for its zone (R276). -/
def State.evaluable (s : State) (t : Take) : Bool :=
  s.getN Obj.FC_MODE == 0 && decide (256 ≤ t.width) && s.target t != 0 && !t.blocked && !s.isShadow

/-- The verdict of an evaluable take: the STATUS code (R277, R281). -/
def State.verdict (s : State) (t : Take) (f : CaptureFigures) : Nat :=
  if s.get Obj.GHOST_MAX < f.g then 5
  else if s.getN Obj.ISENSE_MAX < f.i then 4
  else if f.i < s.getN Obj.ISENSE_MIN then 2
  else if f.e * 100 < s.get Obj.LIGHT_MIN * s.wanted t then 3
  else 1

/-- A zone takes a verdict: DIAG_CONFIRM consecutive failing ones latch; a latched zone keeps its status (R278). An inhibited zone stays
uncovered (R291). -/
def ZoneDiag.judged (d : ZoneDiag) (v confirm : Nat) : ZoneDiag :=
  if d.latched then { d with seen := d.seen || !d.inhibited }
  else if v = 1 then { d with seen := true, status := 1, fails := 0 }
  else { d with seen := true, status := v, fails := d.fails + 1, latched := decide (confirm ≤ d.fails + 1) }

/-- A verdict reaches its zone; a latch raises event 0x069 with zone and status (R278). A status that changes goes to the partner. -/
def State.judgeZone (s : State) (z v : Nat) : State :=
  let old := s.zone z
  let new_ := old.judged v (s.getN Obj.DIAG_CONFIRM)
  let byte := s.zoneByte z
  let s := s.setZone z new_
  let s := if s.zoneByte z = byte then s else s.sendZones
  if new_.latched && !old.latched then s.raise 0x069 (z * 2 ^ 16 + v * 2 ^ 8) else s

/-! ### The capture of a take completes -/

/-- ENERGY_LAST takes L, rounded to the nearest count. -/
def State.noteEnergy (s : State) (t : Take) (e : Int) : State :=
  if t.diag || t.blocked then s else s.set (Obj.ENERGY_LAST + t.group) (clampInt 0 0xFFFF (divRound e t.count))

/-- The use of a good capture of a take that fired: the charge, the loop, the verdict. -/
def State.useCapture (s : State) (t : Take) (f : CaptureFigures) : State :=
  let s := (s.noteEnergy t f.e).finishCharge t.seq t.epoch t.group t.trig (some f.e.toNat)
  let s := if s.updatesLoop t then s.updateLoop t f.e else s
  if s.evaluable t then s.judgeZone t.zone (s.verdict t f) else s

/-- A capture that a gain change or an over-range sample discards leaves the provisional charge (R288, R648, R658); without
an MPD input the charge is provisional as well (R312). -/
def State.endCapture (s : State) (t : Take) (c : CaptureSamples) : State :=
  if t.blocked then s
  else if s.gainSettling t then ((s.count Obj.FC_GAIN_DISCARDS).raiseHk 0x116 0).keepProvisional t
  else if c.ovr then ((s.count Obj.FC_OVR_CAPTURES).raiseHk 0x117 0).keepProvisional t
  else if s.mpdCaptured then s.useCapture t (s.figures t c)
  else s.keepProvisional t

/-- CAPTURE_COMPLETE: the capture window of the take being captured ends with its samples (R269). -/
def execCaptureComplete (samples : CaptureSamples) (s : State) : Host.Outcome State Fault Refusal :=
  match s.firstFiring (fun t => t.captured && !t.captureDone && decide (t.capEnd < s.cycleEnd)) with
  | none => .next s
  | some t => .next (((s.mapTake t (fun x => { x with captureDone := true })).endCapture t samples).dropDiag t)

/-- The capture windows of takes that were not captured end: their provisional charges stay, and are judged (R312, R314). -/
def State.lapseCaptures (s : State) : State :=
  (s.firings.filter (fun t => t.drives && t.issued && !t.captured && !t.captureDone && decide (t.capEnd < s.cycleEnd))).foldl
    (fun s t => ((s.mapTake t (fun x => { x with captureDone := true })).keepProvisional t).dropDiag t) s

/-! ### Coverage (R279, R280) -/

/-- A zone at the end of a diagnostic interval (R280). -/
def ZoneDiag.interval (d : ZoneDiag) (now : Time) : ZoneDiag :=
  if d.seen then { d with seen := false, covered := true, missed := 0, due := false, served := false }
  else
    let due := d.due || decide (2 ≤ d.missed + 1)
    { d with served := false, covered := false, missed := min 2 (d.missed + 1), due := due, dueAt := if due && !d.due then now else d.dueAt }

/-- A count as an event item of 8 bits. -/
def countItem (n : Nat) : Nat := min n 255 * 2 ^ 24

/-- DIAG_INTERVAL_BOUNDARY: coverage is judged and zones become due; events 0x06A and 0x06B carry the numbers (R280). A SHADOW holds
the zone statuses that the ACTIVE device gives it (R282). -/
def execDiagIntervalBoundary (s : State) : Host.Outcome State Fault Refusal :=
  let span := ms (s.getN Obj.DIAG_INTERVAL)
  if s.seq.state == .running && !s.isShadow && reached s.now s.emit.diagAt span then
    let zs := s.coverageZones
    let uncovered := (zs.filter (fun z => !(s.zone z).seen)).length
    let newDue := (zs.filter (fun z => !(s.zone z).due && ((s.zone z).interval s.now).due)).length
    let s := { s with emit := { s.emit with diagAt := s.emit.diagAt + span } }
    let s := (zs.foldl (fun s z => s.setZone z ((s.zone z).interval s.now)) s).sendZones
    let s := if uncovered = 0 then s else s.raise 0x06A (countItem uncovered)
    .next (if newDue = 0 then s else s.raise 0x06B (countItem newDue))
  else .next s

/-- ZONE_DIAG_CLEAR clears the latch, inhibition and count of a zone; its status reads UNKNOWN (R279). -/
def State.clearZone (s : State) (z : Nat) : State :=
  s.setZone z { s.zone z with status := 0, latched := false, fails := 0 }

/-! ### Objects -/

/-- What a scalar write of the emitter interface is refused with (R249, R252, R279 and the object tables). -/
def emitCheck (s : State) (k : Nat) (v : Int) : Option Status :=
  let t := s.set k v
  if (k = Obj.ENERGY_SOURCE ∨ k = Obj.CHAIN_LENGTH) ∧ t.energySource = 1 ∧ t.getN Obj.CHAIN_LENGTH = 0 then some .outOfRange
  else if k / 256 = Obj.CHAIN_MAP / 256 ∧ s.groups ≤ v.toNat then some .outOfRange
  else if (k = Obj.ISENSE_MIN ∨ k = Obj.ISENSE_MAX) ∧ t.getN Obj.ISENSE_MAX ≤ t.getN Obj.ISENSE_MIN then some .outOfRange
  else if (k / 256 = Obj.TRIG_WIDTH / 256 ∨ k / 256 = Obj.PULSE_GAP / 256 ∨ k = Obj.LISTEN_GROUPS) ∧
      !t.spacingOk (t.getBlk Obj.CODE_FAMILY) then some .outOfRange
  else if k = Obj.ZONE_DIAG_CLEAR ∧ 1023 < v ∧ v ≠ 0xFFFF then some .outOfRange
  else if (k = Obj.EMIT_MODE ∨ k = Obj.ENERGY_SOURCE ∨ k = Obj.CHAIN_LENGTH ∨ k = Obj.CHAIN_CLK_DIV ∨
      k / 256 = Obj.CHAIN_MAP / 256) ∧ s.seq.state ≠ .stopped then some .state
  else none

/-- A write of ZONE_ENABLE: a disabled zone is no longer due (R292). -/
def emitBlkApply (s : State) (k : Nat) : State :=
  if k = Obj.ZONE_ENABLE then
    { s with emit := { s.emit with zones := s.emit.zones.map (fun e =>
      (e.1, if s.zoneEnabled e.1 then e.2 else { e.2 with due := false, missed := 0, served := false })) } }
  else s

/-- What an accepted scalar write of the emitter interface does besides storing the value, given the old value: ENERGY_LOOP at the value
it had leaves the loop as it is (R273). -/
def emitApply (s : State) (k : Nat) (old : Int) : State :=
  if k = Obj.ENERGY_LOOP then (if s.get k = old then s else s.resetEnergyStatus)
  else if k = Obj.ZONE_DIAG_CLEAR then
    let v := s.getN k
    if v = 0xFFFF then (List.range 1024).foldl (fun s z => s.clearZone z) s else s.clearZone v
  else s

end Sys2Proof.Machine
end

