-- ==== Sys2Proof/Machine/Housekeeping.lean ====
section
/-! DEFINITION. Housekeeping measurement and fast capture (chapter 12): measurements step by step, the result codes and
formulas, die temperatures, the gain switch and the interleave trim. -/

namespace Sys2Proof.Machine

open Sys2Proof

/-! ### HK_MEAS (R631 to R633) -/

/-- The pins that a measurement uses, in the order A, B, C, D (R632). -/
def measPins (w : Nat) : List Nat :=
  [field w 24 4, field w 20 4, field w 16 4, field w 12 4].take (match measType w with | 0 => 1 | 1 => 2 | 2 => 2 | 3 => 3 | _ => 4)

/-- A list holds no element twice. -/
def distinctNats : List Nat → Bool
  | [] => true
  | x :: xs => !xs.contains x && distinctNats xs

/-- HK_MEAS holds a valid type and unit, no unit 1 on a voltage, and no pin with two roles (R631, R632). -/
def measOk (w : Nat) : Bool :=
  let u := field w 2 2
  decide (measType w ≤ 4) && decide (u ≤ 1) && !(u == 1 && decide (measType w < 2)) && distinctNats (measPins w)

/-- A gain field as its factor. -/
def gainFactor (g : Nat) : Nat := 4 ^ g

/-- The excitation current in µA (R628). -/
def excitation (i : Nat) : Nat := [10, 20, 50, 100, 200, 500, 1000, 2000].getD i 10

/-- The next period needs a new mux connection, not only a swap of the sources (R626, R633). -/
def HkRun.newMux (r : HkRun) : Bool := !r.ratiometric || r.codes.length % 2 == 0

/-- The converters of a measurement. -/
def HkRun.convs (r : HkRun) : List Nat := if r.ratiometric then [0, 1] else [field r.word 11 1]

/-- The sources of a measurement. -/
def HkRun.sources (r : HkRun) : List Nat := if measType r.word < 2 then [] else if r.ratiometric then [0, 1] else [0]

/-- The pins of a measurement, with those of the reference. -/
def HkRun.pins (r : HkRun) : List Nat :=
  measPins r.word ++ (if r.ratiometric then [field r.ref 12 4, field r.ref 8 4] else [])

/-- Two measurements need one resource (R643). -/
def HkRun.meets (a b : HkRun) : Bool :=
  a.convs.any (fun x => b.convs.contains x) || a.sources.any (fun x => b.sources.contains x) ||
    a.pins.any (fun x => b.pins.contains x)

/-! ### Starting -/

/-- The timing of a run is read at a mux change (R651). -/
def State.hkTiming (s : State) (r : HkRun) : HkRun :=
  { r with
    dischargeUs := s.getN Obj.HK_DISCHARGE, settleUs := s.getN Obj.HK_SETTLE, mode := s.getN Obj.HK_PERIOD_MODE
    fixedMs := s.getN Obj.HK_PERIOD_FIXED, stage := .discharge, since := s.now }

/-- A run of measurement m with the settings of now (R651). -/
def State.hkRun (s : State) (m : Nat) (injected : Bool) : HkRun :=
  s.hkTiming {
    m := m, injected := injected, word := s.getN (Obj.HK_MEAS + m), ref := s.getN Obj.HK_REF, refR := s.getN Obj.HK_REF_R
    lead := s.getN (Obj.HK_LEAD_FIXED + m), nominal := s.getN (Obj.HK_PT_NOMINAL + m), dischargeUs := 0, settleUs := 0
    mode := 0, fixedMs := 0, stage := .discharge, since := s.now, codes := [], ovr := false, range := false, open_ := false
    unlocked := false }

/-- The next enabled measurement of the list (R643). -/
def State.hkNext (s : State) : Option Nat :=
  ((List.range 16).map (fun i => (s.hk.next + i) % 16)).find? (fun m => natBit (s.getN (Obj.HK_MEAS + m)) 31)

/-- A run starts. -/
def State.hkBegin (s : State) (r : HkRun) : State := { s with hk := { s.hk with runs := s.hk.runs ++ [r] } }

/-- The resources of a run are free, and its measurement is not running (R643, R653). -/
def State.hkFree (s : State) (r : HkRun) : Bool := !s.hk.runs.any (fun x => x.m == r.m || x.meets r)

/-- HK_MEASUREMENT_START: the pending injection, or else the next enabled measurement, starts when its resources are
free (R643, R644). -/
def execHkMeasurementStart (s : State) : Host.Outcome State Fault Refusal :=
  if s.running then
    match s.hk.inject with
    | some m =>
      if s.hkFree (s.hkRun m true) then .next ({ s with hk := { s.hk with inject := none } }.hkBegin (s.hkRun m true)) else .next s
    | none => match s.hkNext with
      | some m =>
        if s.hkFree (s.hkRun m false) then
          .next ({ s with hk := { s.hk with next := (m + 1) % 16 } }.hkBegin (s.hkRun m false))
        else .next s
      | none => .next s
  else .next s

/-- The run of a measurement. -/
def State.hkFind (s : State) (m : Nat) : Option HkRun := s.hk.runs.find? (fun r => r.m == m)

/-- Changes the run of a measurement. -/
def State.hkPut (s : State) (r : HkRun) : State :=
  { s with hk := { s.hk with runs := s.hk.runs.map (fun x => if x.m == r.m then r else x) } }

/-- HK_DISCHARGE_END: the new connections close and the sources settle (R626, R630). -/
def execHkDischargeEnd (m : Fin 16) (s : State) : Host.Outcome State Fault Refusal :=
  match s.hkFind m with
  | some r =>
    if r.stage == .discharge && reached s.now r.since (us r.dischargeUs) then .next (s.hkPut { r with stage := .settle, since := s.now })
    else .next s
  | none => .next s

/-- HK_SETTLE_END: HK_SETTLE has ended; integration may begin (R630). -/
def execHkSettleEnd (m : Fin 16) (s : State) : Host.Outcome State Fault Refusal :=
  match s.hkFind m with
  | some r =>
    if r.stage == .settle && reached s.now r.since (us r.settleUs) then .next (s.hkPut { r with stage := .wait, since := s.now })
    else .next s
  | none => .next s

/-! ### Periods (R634 to R637) -/

/-- Axis A gives boundaries: not OFF, SEEK, STALL or VIRTUAL (R637). -/
def State.boundaryAxis (s : State) : Bool :=
  s.axisMode 0 != 3 && ((s.axis 0).st == .locked || (s.axis 0).st == .freewheel || (s.axis 0).st == .relock)

/-- The last boundary of a period mode (R636). -/
def State.lastBoundary (s : State) (mode : Nat) : Option Time := if mode = 0 then s.hk.revAt else s.hk.facetAt

/-- A converter falls back to FIXED periods or returns to locked ones; a change raises event 0x114 (R637). -/
def State.setFallback (s : State) (r : HkRun) (x : Bool) : State :=
  let get := fun c => if c = 0 then s.hk.fallback0 else s.hk.fallback1
  let changed := r.convs.any (fun c => get c != x)
  let s := { s with hk := { s.hk with
    fallback0 := if r.convs.contains 0 then x else s.hk.fallback0
    fallback1 := if r.convs.contains 1 then x else s.hk.fallback1 } }
  if changed then s.raiseHk 0x114 r.m else s

/-- HK_PERIOD_START: a period starts at the first boundary after the settling, or on the FIXED timer (R636, R637). -/
def execHkPeriodStart (m : Fin 16) (s : State) : Host.Outcome State Fault Refusal :=
  match s.hkFind m with
  | some r =>
    if r.stage == .wait then
      if r.mode = 2 then .next (s.hkPut { r with stage := .fixed (ms r.fixedMs), since := s.now })
      else if s.boundaryAxis then
        match s.lastBoundary r.mode with
        | some t => if r.since ≤ t then .next ((s.hkPut { r with stage := .locked, since := t }).setFallback r false) else .next s
        | none => .next s
      else .next ((s.hkPut { r with stage := .fixed (ms r.fixedMs), since := s.now, unlocked := true }).setFallback r true)
    else .next s
  | none => .next s

/-- The boundary that ends a locked period. -/
def State.periodBoundary (s : State) (r : HkRun) : Option Time :=
  (s.lastBoundary r.mode).bind (fun t => if r.since < t then some t else none)

/-- HK_UNLOCKED: no boundary 1,000 ms after a locked period started: it ends there, with UNLOCKED (R637). -/
def execHkUnlocked (m : Fin 16) (s : State) : Host.Outcome State Fault Refusal :=
  match s.hkFind m with
  | some r =>
    if r.stage == .locked && (s.periodBoundary r).isNone && reached s.now r.since (ms 1000) then
      .next ((s.hkPut { r with stage := .fixed (ms 1000), unlocked := true }).setFallback r true)
    else .next s
  | none => .next s

/-- The end of the period that runs, once it has come. -/
def State.periodEnd (s : State) (r : HkRun) : Option Time :=
  match r.stage with
  | .locked => s.periodBoundary r
  | .fixed len => if reached s.now r.since len then some (r.since + len) else none
  | _ => none

/-- The code of a period of n modulator cycles with n1 positive ones (R634). -/
def periodCode (n1 n : Nat) : Int := clampInt (-8388608) 8388607 (divRound ((2 * (n1 : Int) - n) * 8388608) n)

/-! ### Results (R639 to R642) -/

/-- The floor of a square root, by its bits from bit `i` down. -/
def isqrtFrom (v : Nat) : Nat → Nat → Nat
  | 0, r => r
  | i + 1, r => if (r + 2 ^ i) * (r + 2 ^ i) ≤ v then isqrtFrom v i (r + 2 ^ i) else isqrtFrom v i r

/-- The floor of the square root of a number below 2^256. -/
def isqrt (v : Nat) : Nat := isqrtFrom v 128 0

/-- The sum of codes of a conversion, sensor or reference: its two phases, or its one period. -/
def HkRun.sum (r : HkRun) (lead : Bool) (ref : Bool) : Int :=
  let per := if r.ratiometric then 2 else 1
  let cs := (r.codes.drop (if lead then per else 0)).take per
  (cs.map (fun c => if ref then c.2 else c.1)).sum

/-- A resistance of a conversion as a quotient in mΩ (R639). -/
def HkRun.ohms (r : HkRun) (lead : Bool) : Int × Int :=
  let g := gainFactor (if lead then field r.word 4 2 else field r.word 6 2)
  if r.ratiometric then
    ((r.refR : Int) * r.sum lead false * gainFactor (field r.ref 6 2), r.sum lead true * g)
  else (r.sum lead false * 2500000000, ((g * 8388608 * excitation (field r.word 8 3) : Nat) : Int))

/-- A quotient with a denominator above 0. -/
def posDen (x : Int × Int) : Int × Int := if x.2 < 0 then (-x.1, -x.2) else x

/-- The value of a measurement as a quotient with a denominator above 0: the voltage in µV or R_T in mΩ (R639); none where a reference sum
of 0 leaves it open. -/
def HkRun.quotient (r : HkRun) : Option (Int × Int) :=
  if measType r.word < 2 then some (r.sum false false * 2500000, ((gainFactor (field r.word 6 2) * 8388608 : Nat) : Int))
  else
    let a := posDen (r.ohms false)
    let b := if measType r.word = 3 then posDen (r.ohms true) else if measType r.word = 2 then ((r.lead : Int), 1) else (0, 1)
    if a.2 = 0 ∨ b.2 = 0 then none else some (a.1 * b.2 - b.1 * a.2, a.2 * b.2)

/-- 10^14 (A² − 4 B (1 − R_T / R_nom)), times nom, where R_T / R_nom is rt / nom (R640). -/
def cvdDisc (rt nom : Int) : Int := 1527480889 * nom + 231000000 * (nom - rt)

/-- T of R640 lies below h / 2 m°C: sqrt(q) > 39,083 − h × 1,155 / 200,000, where q is cvdDisc / nom. -/
def cvdBelow (rt nom h : Int) : Bool :=
  let x := 39083 * 200000 - h * 1155
  decide (x < 0) || decide (x * x * nom < cvdDisc rt nom * 40000000000)

/-- The temperature in m°C, rounded to nearest, where R_T / R_nom is rt / nom (R640); none where the equation has no real solution. -/
def cvdTemp (rt nom : Int) : Option Int :=
  if nom ≤ 0 ∨ cvdDisc rt nom < 0 then none
  else
    let root : Int := (isqrt ((cvdDisc rt nom * 1000000000000 / nom).toNat) : Int)
    let t := divRound ((39083 * 1000000 - root) * 100000) (1155 * 1000000)
    some (if cvdBelow rt nom (2 * t - 1) then t - 1 else t)

/-- UNIT is 1: platinum temperature. -/
def HkRun.platinum (r : HkRun) : Bool := field r.word 2 2 == 1

/-- R_T lies below 0.6 R_nom (R640). -/
def belowPlatinum (rt nom : Int) : Bool := decide (rt * 10 < nom * 6)

/-- The value that a run writes, rounded once; none where the spec leaves it open. -/
def HkRun.result (r : HkRun) : Option Int :=
  match r.quotient with
  | none => none
  | some q => if r.platinum then cvdTemp q.1 (q.2 * r.nominal) else some (divRound q.1 q.2)

/-- The value is out of the range of UNIT 1 (R640). -/
def HkRun.tooCold (r : HkRun) : Bool :=
  r.platinum && (match r.quotient with | some q => belowPlatinum q.1 (q.2 * r.nominal) | none => false)

/-- The result as an I32: a value that the formula leaves open, or that no I32 holds, is a free one (log entry 2). -/
def State.hkNumber (s : State) (r : HkRun) : Int × State :=
  match r.result with
  | some v =>
    if -2147483648 ≤ v ∧ v ≤ 2147483647 then (v, s) else (signed 32 s.draw.1, s.draw.2)
  | none => (signed 32 s.draw.1, s.draw.2)

/-- On which side of the limits of a measurement a value lies: below HK_LIM_LO −1, above HK_LIM_HI 1, between them 0 (R641). -/
def State.limitSide (s : State) (m : Nat) (v : Int) : Int :=
  if v < s.get (Obj.HK_LIM_LO + m) then -1 else if s.get (Obj.HK_LIM_HI + m) < v then 1 else 0

/-- HK_STATUS from its flags (R642). -/
def statusByteOf (valid ovr range open_ unlocked injected limit : Bool) : Nat :=
  128 * b2n valid + 64 * b2n ovr + 32 * b2n range + 16 * b2n open_ + 8 * b2n unlocked + 4 * b2n injected + 2 * b2n limit

/-- A good result is written and checked against its limits; a crossing of one raises event 0x113 (R641). -/
def State.hkWrite (s : State) (r : HkRun) : State :=
  let x := s.hkNumber r
  let s := x.2.set (Obj.HK_VALUE + r.m) x.1
  let was := tabGet (fun _ => 0) s.hk.sides r.m
  let side := s.limitSide r.m x.1
  let s := s.set (Obj.HK_STATUS + r.m) (statusByteOf true false false false r.unlocked r.injected (side != 0))
  let s := { s with hk := { s.hk with sides := tabPut (fun _ => 0) s.hk.sides r.m side } }
  if was != side then s.raiseHk 0x113 r.m else s

/-- A result with OVR, INPUT_RANGE or OPEN keeps the last valid value (R641). -/
def State.hkKeep (s : State) (r : HkRun) (range : Bool) : State :=
  let old := s.getN (Obj.HK_STATUS + r.m)
  let s := s.set (Obj.HK_STATUS + r.m)
    (statusByteOf (natBit old 7) r.ovr range r.open_ r.unlocked r.injected (natBit old 1))
  if r.ovr then s.count Obj.HK_OVR_RESULTS else s

/-- Calibrations whose first reading waited for an injected conversion take it now (R615). -/
def State.releaseReadings (s : State) : State :=
  { s with cal := { s.cal with runs := s.cal.runs.map (fun r => if r.waits then { r with waits := false, temps := s.dieTemps } else r) } }

/-- The end of a measurement's last period (R639, R644); a value below its range raises event 0x118 (R640, R652). -/
def State.hkResult (s : State) (r : HkRun) : State :=
  let cold := r.tooCold
  let s := if cold then s.raiseHk 0x118 r.m else s
  let s := if r.ovr || r.open_ || r.range || cold then s.hkKeep r (r.range || cold) else s.hkWrite r
  if r.injected then (s.raise 0x112 0).releaseReadings else s

/-- The events of a period (R627, R629, R635). -/
def State.hkPeriodEvents (s : State) (m : Nat) (f : HkFlags) : State :=
  let s := if f.ovr then s.raiseHk 0x110 m else s
  let s := if f.open_ then s.raiseHk 0x111 m else s
  if f.range then s.raiseHk 0x118 m else s

/-- A converter starts a die conversion of the next sensor in turn (R638). -/
def State.startDie (s : State) (conv : Nat) : State :=
  let x := some (s.hk.sensor, s.now)
  { s with hk := { s.hk with
    die0 := if conv = 0 then x else s.hk.die0, die1 := if conv = 0 then s.hk.die1 else x, sensor := (s.hk.sensor + 1) % 18 } }

/-- HK_PERIOD_END: an integration period ends, with the counts of its converters and what the pins did (R634, R635). -/
def execHkPeriodEnd (m : Fin 16) (n1 : Nat) (ref1 : Nat) (flags : HkFlags) (s : State) : Host.Outcome State Fault Refusal :=
  match s.hkFind m with
  | some r =>
    match s.periodEnd r with
    | some stop =>
      let n := (stop - r.since) / 100
      let r' := { r with
        codes := r.codes ++ [(periodCode n1 n, periodCode ref1 n)], stage := .die, since := s.now
        ovr := r.ovr || flags.ovr, range := r.range || flags.range, open_ := r.open_ || flags.open_ }
      let s := (s.hkPut r').hkPeriodEvents m flags
      let s := r.convs.foldl (fun s c => s.startDie c) s
      .next (if r'.converted then s.hkResult r' else s)
    | none => .next s
  | none => .next s

/-! ### Die temperatures (R638) -/

/-- The die conversion of a converter. -/
def State.die (s : State) (conv : Nat) : Option (Nat × Time) := if conv = 0 then s.hk.die0 else s.hk.die1

/-- A die conversion ends. -/
def State.endDie (s : State) (conv : Nat) : State :=
  if conv = 0 then { s with hk := { s.hk with die0 := none } } else { s with hk := { s.hk with die1 := none } }

/-- A measurement whose die conversions are over goes on or ends. -/
def State.hkAdvance (s : State) : State :=
  let dieDone := fun r : HkRun => r.stage == .die && r.convs.all (fun c => (s.die c).isNone)
  { s with hk := { s.hk with runs := (s.hk.runs.filter (fun r => !(dieDone r && r.converted))).map (fun r =>
    if dieDone r then (if r.newMux then s.hkTiming r else { r with stage := .settle, since := s.now }) else r) } }

/-- FC_MODE is 1 or 2, in which FCB is trimmed to FCA (R650). -/
def State.trims (s : State) : Bool := decide (0 < s.getN Obj.FC_MODE)

/-- In a mode that is trimmed, sensor 16 has moved by FC_TRIM_DELTA since the last trim (R650). -/
def State.trimDue (s : State) : Bool :=
  s.trims && decide (16 * s.get Obj.FC_TRIM_DELTA ≤ ((s.get (Obj.HK_DIE_TEMP + 16) - s.hk.trimTemp).natAbs : Int))

/-- A move of sensor 16 while RUNNING is reported, and the trim waits (R650). -/
def State.noteTrimDue (s : State) (sensor : Nat) : State :=
  if sensor = 16 && s.seq.state == .running && s.trimDue then s.raiseHk 0x115 0 else s

/-- HK_DIE_TEMP_DONE: a die conversion ends after 250 µs with its reading in 1/16 °C (R638); units may become due
(R609). -/
def execHkDieTempDone (conv : Fin 2) (reading : Int) (s : State) : Host.Outcome State Fault Refusal :=
  match s.die conv with
  | some (sensor, t) =>
    if reached s.now t (us 250) then
      let s := (s.set (Obj.HK_DIE_TEMP + sensor) (clampInt (-800) 2400 reading)).endDie conv
      let s := { s with mem := { s.mem with hourPeak := max s.mem.hourPeak (s.get (Obj.HK_DIE_TEMP + sensor)) } }
      .next (((s.driftDue sensor).noteTrimDue sensor).hkAdvance)
    else .next s
  | none => .next s

/-! ### Fast capture: gain and trim (R649, R650) -/

/-- The converter takes the window of a firing: it has taken it, or will, as no capture in progress overlaps it (R270). -/
def State.takesWindow (s : State) (t : Take) : Bool :=
  t.captured || (t.drives && !t.issued && decide (s.emit.captureEnd ≤ t.capOpen))

/-- A capture window that uses an input is open in the present core cycle, from 6 ns before its t_trig (R269). -/
def State.captureOpen (s : State) (i : Nat) : Bool :=
  s.firings.any (fun t => s.takesWindow t && !t.captureDone && decide (t.capOpen < s.cycleEnd ∧ s.nowTaps < t.capEnd) &&
    (s.captureInputs t.group).contains i)

/-- FC_GAIN_APPLY: a written gain applies with no capture window of its input open and no trim in progress; the switch
settles for 8 ns (R649, R657). -/
def execFcGainApply (input : Fin 3) (s : State) : Host.Outcome State Fault Refusal :=
  if tabGet (fun _ => false) s.hk.gainDue input && !s.captureOpen input && s.hk.trimAt.isNone then
    .next { s with hk := { s.hk with
      gainDue := tabPut (fun _ => false) s.hk.gainDue input false
      gain := tabPut (fun _ => 0) s.hk.gain input (s.getN (Obj.FC_GAIN + input))
      gainAt := tabPut (fun _ => none) s.hk.gainAt input (some s.now) } }
  else .next s

/-- The interleave trim starts, in the modes that have one (R650). -/
def State.startTrim (s : State) : State := if s.trims then { s with hk := { s.hk with trimAt := some s.now } } else s

/-- FC_TRIM_DONE: the trim has run for 50 µs; FC_TRIM_STATE takes offset, gain and skew, and event 0x119 is raised
(R650). -/
def execFcTrimDone (offset gain skew : Int) (s : State) : Host.Outcome State Fault Refusal :=
  match s.hk.trimAt with
  | some t =>
    if reached s.now t (us 50) then
      let s := s.set Obj.FC_TRIM_STATE (clampInt (-32768) 32767 offset)
      let s := s.set (Obj.FC_TRIM_STATE + 1) (clampInt (-32768) 32767 gain)
      let s := s.set (Obj.FC_TRIM_STATE + 2) (clampInt (-64) 64 skew)
      .next ({ s with hk := { s.hk with trimAt := none, trimTemp := s.get (Obj.HK_DIE_TEMP + 16) } }.raise 0x119 0)
    else .next s
  | none => .next s

/-! ### Objects -/

/-- HK_REF_R is 0 or in its range. -/
def refRangeOk (v : Int) : Bool := v == 0 || decide (100000 ≤ v ∧ v ≤ 100000000)

/-- What a scalar write of housekeeping is refused with (R632, R644, R645, R650 and the object table). -/
def hkCheck (s : State) (k : Nat) (v : Int) : Option Status :=
  if k / 256 = Obj.HK_MEAS / 256 then (if measOk v.toNat then none else some .outOfRange)
  else if k / 256 = Obj.HK_LIM_LO / 256 then (if v ≤ s.get (Obj.HK_LIM_HI + k % 256) then none else some .outOfRange)
  else if k / 256 = Obj.HK_LIM_HI / 256 then (if s.get (Obj.HK_LIM_LO + k % 256) ≤ v then none else some .outOfRange)
  else if k = Obj.HK_REF_R then (if refRangeOk v then none else some .outOfRange)
  else if k = Obj.HK_INJECT then (if s.injecting then some .state else none)
  else if k = Obj.FC_MODE then (if s.seq.state = .stopped then none else some .state)
  else if k = Obj.FC_TRIM then (if s.seq.state = .running then some .state else none)
  else none

/-- What an accepted scalar write of housekeeping does besides storing the value. -/
def hkApply (s : State) (k : Nat) : State :=
  if k = Obj.HK_INJECT then { s with hk := { s.hk with inject := some (s.getN k) } }
  else if k = Obj.FC_TRIM then s.startTrim
  else if k = Obj.FC_MODE && !s.trims then { s with hk := { s.hk with trimAt := none } }
  else if k / 256 = Obj.FC_GAIN / 256 then
    { s with hk := { s.hk with gainDue := tabPut (fun _ => false) s.hk.gainDue (k % 256) true } }
  else s

/-- Housekeeping starts at boot, with the stored gains and, in modes 1 and 2, a trim (R650). -/
def State.startHk (s : State) : State :=
  { s with hk := { HkState.init with
    gain := (List.range 3).foldl (fun t i => tabPut (fun _ => 0) t i (s.getN (Obj.FC_GAIN + i))) []
    trimAt := if s.trims then some s.now else none } }

end Sys2Proof.Machine
end

