-- ==== Sys2Proof/Machine/Kernel.lean ====
section
/-! DEFINITION. The shipped point kernel (R532 to R543): from a descriptor and its windows to point records. It runs as one
operation when its slot opens (log entry 41). -/

namespace Sys2Proof.Machine

open Sys2Proof

/-- A bin of a window: its width and start in LSB, COUNT, background level and time (R534, R535). -/
structure WinBin where
  width : Nat
  count : Nat
  bg    : Rat
  time  : Rat
  deriving DecidableEq, Repr

/-- The region that a bin lies in. -/
def regionOf (g : List Byte) (j : Nat) : GearRegion :=
  ((gearRegions g).find? (fun r => decide (j < r.first + (r.hi - r.lo) / r.width))).getD ⟨0, 0, 8, 0⟩

/-- The pulse counts of the codes of a descriptor. -/
def Descriptor.pulseCounts (d : Descriptor) : List Nat := d.codes.map (fun c => (codeOffsets c.2).length)

/-- n of R535: the largest pulse count of the codes used. -/
def Descriptor.pulseMax (d : Descriptor) : Nat := d.pulseCounts.foldl max 1

/-- COUNT and RESID of a bin as a landing slot carries it. -/
def State.slotBin (s : State) (d : Descriptor) (j : Nat) : Nat :=
  if s.badReelWord d (j / 2) then 0 else tabGet (fun _ => 0) (s.reelBins d) j

/-- A bin of a window. -/
def State.winBin (s : State) (d : Descriptor) (j : Nat) : WinBin :=
  let r := regionOf d.gear j
  let start := r.lo + (j - r.first) * r.width
  let b := s.slotBin d j
  let n := binCount b
  { width := r.width, count := n, bg := ((d.bg * d.takes * d.pulseMax * r.width : Nat) : Rat) / 6400000
    time := if n = 0 then (start : Rat) + (r.width : Rat) / 2 else (start : Rat) + (binResid b : Rat) / n }

/-- The bins of a candidate's read window (R432). -/
def State.window (s : State) (d : Descriptor) (c : Candidate) : List WinBin :=
  let f := 2 * windowFirst d.gear c
  ((List.range 32).map (· + f)).filter (fun j => decide (j < gearBins d.gear)) |>.map (fun j => s.winBin d j)

/-- The taps of the row of MF_TEMPLATE for a width (R914). -/
def State.mfTaps (s : State) (width : Nat) : List Int :=
  let row := if width = 8 then 0 else if width = 16 then 1 else if width = 32 then 2 else 3
  (List.range 8).map (fun k => beIntAt (s.getBlk Obj.MF_TEMPLATE) (16 * row + 2 * k) 2)

/-- The narrowest width of a window. -/
def narrowest (l : List WinBin) : Nat := (l.map (·.width)).foldl min 64

/-- The fine cells of a window: the bin that each lies in, and its COUNT less background (R536). -/
def fineCells (w : Nat) (l : List WinBin) : List (Nat × Rat) :=
  (l.zip (List.range l.length)).flatMap (fun p =>
    let m := p.1.width / w
    List.replicate m (p.2, ((p.1.count : Rat) - p.1.bg) / m))

/-- The filter output at cell m (R536). -/
def mfOutput (taps : List Int) (cells : List (Nat × Rat)) (m : Nat) : Rat :=
  ((List.range 8).map (fun k =>
    if m + k < 3 then (0 : Rat) else ((taps.getD k 0 : Int) : Rat) * ((cells[m + k - 3]?).map (·.2)).getD 0)).foldl (· + ·) 0

/-- The place of the largest element, the first on a tie. -/
def argMax : List (Rat × Nat) → Option (Rat × Nat)
  | [] => none
  | x :: xs => match argMax xs with | none => some x | some y => if x.1 < y.1 then some y else some x

/-- The centroid bin: the original bin that holds the filtered peak (R536). -/
def State.centroidBin (s : State) (l : List WinBin) : Nat :=
  let w := narrowest l
  let cells := fineCells w l
  let taps := s.mfTaps w
  ((argMax (cells.zip (List.range cells.length) |>.map (fun p => (mfOutput taps cells p.2, p.1.1)))).map (·.2)).getD 0

/-- A sum of rationals. -/
def sumRat (l : List Rat) : Rat := l.foldl (· + ·) 0

/-- The figures of a candidate (R537): S, B, t_c, and the variance in LSB². -/
structure Centroid where
  cand  : Candidate
  sig   : Rat
  bg    : Rat
  tc    : Rat
  var   : Rat
  deriving DecidableEq, Repr

/-- The bins of the centroid span with their counts above background, and with the background taken as 0 when every level is
below 1/64 (R537). -/
def spanBins (l : List WinBin) : List (Rat × Rat × Rat) :=
  let zero := l.all (fun b => decide (b.bg < 1 / 64))
  (l.map (fun b => let g : Rat := if zero then 0 else b.bg; ((b.count : Rat) - g, g, b.time))).filter (fun x => decide (0 < x.1))

/-- The centroid of a candidate; none where S is 0 (R537, R538). -/
def State.centroid (s : State) (d : Descriptor) (c : Candidate) : Option Centroid :=
  let l := s.window d c
  let i := s.centroidBin l
  let h := s.getN Obj.CENT_HALF
  let bins := spanBins ((l.drop (i - h)).take (min i h + 1 + h))
  let sig := sumRat (bins.map (·.1))
  if sig ≤ 0 then none
  else
    let tc := sumRat (bins.map (fun x => x.1 * x.2.2)) / sig
    some ⟨c, sig, sumRat (bins.map (·.2.1)), tc, sumRat (bins.map (fun x => x.1 * (x.2.2 - tc) * (x.2.2 - tc))) / sig⟩

/-- SNR is at least a Q16.16 limit: S² ≥ limit² (S + B) (R537). -/
def Centroid.snrAtLeast (x : Centroid) (raw : Int) : Bool :=
  let l : Rat := (raw : Rat) / 65536
  decide (l * l * (x.sig + x.bg) ≤ x.sig * x.sig)

/-- The detected candidates (R538). -/
def State.detected (s : State) (d : Descriptor) : List Centroid :=
  (d.cands.filterMap (fun c => s.centroid d c)).filter (fun x => x.snrAtLeast (s.get Obj.DETECT_SNR))

/-- The detected candidate with the largest WSUM, the first on a tie (R539). -/
def mainOf : List Centroid → Option Centroid
  | [] => none
  | x :: xs => match mainOf xs with | none => some x | some y => if x.cand.wsum < y.cand.wsum then some y else some x

/-- Offset differences o_j − o_k in ns of two pulses of one code (R539). -/
def Descriptor.offsetGaps (d : Descriptor) : List Int :=
  d.codes.flatMap (fun c =>
    let os := codeOffsets c.2
    os.flatMap (fun a => (os.filter (· != a)).map (fun (b : Nat) => (a : Int) - (b : Int))))

/-- A candidate is a code side lobe of the main one (R539). -/
def sideLobe (d : Descriptor) (main x : Centroid) : Bool :=
  let n := d.pulseMax
  let m := main.cand.wsum
  let w := x.cand.wsum
  main.cand != x.cand &&
    d.offsetGaps.any (fun g => decide ((x.tc - main.tc - 64 * (g : Rat)).abs ≤ 64)) &&
    (decide (n * w ≤ m) || decide ((n * w - m) * (n * w - m) ≤ 4 * m * (n * n)))

/-- The detected candidates that are no side lobes, in the order of R431. -/
def State.returns (s : State) (d : Descriptor) : List Centroid :=
  let l := s.detected d
  match mainOf l with
  | none => []
  | some m => l.filter (fun x => !sideLobe d m x)

/-- tot_mean (R540). -/
def Candidate.totMean (c : Candidate) : Rat := (c.totSum : Rat) / (max 1 c.wsum : Nat)

/-- WALK_c at tot_mean, in LSB: 16 entries of 1/16 LSB at 128k, the last one held (R540, R602). -/
def State.walkAt (s : State) (c : Nat) (tot : Rat) : Rat :=
  let e := tabGet (fun _ => []) s.cal.walk c
  let k := tot.floor.toNat / 128
  if 15 ≤ k then ((e.getD 15 0 : Int) : Rat) / 16
  else
    let a : Int := e.getD k 0
    let b : Int := e.getD (k + 1) 0
    ((a : Rat) + ((b - a : Int) : Rat) * (tot - 128 * k) / 128) / 16

/-- A rational rounded half up. -/
def roundRat (x : Rat) : Int := (x + 1 / 2).floor

/-- t_corr of a return, in LSB (R540). -/
def State.corrected (s : State) (d : Descriptor) (x : Centroid) : Rat :=
  x.tc - ((s.get (Obj.ROFF + d.ch) : Int) : Rat) / 16 - s.walkAt d.ch x.cand.totMean

/-- The range of a return, exactly rounded (R540). -/
def State.exactRange (s : State) (d : Descriptor) (x : Centroid) : Int :=
  let t := s.corrected d x
  if t ≤ 0 then 0 else roundRat (t * 299792458 / 32000000)

/-- The intensity (R541). -/
def State.intensity (s : State) (lg : Nat) (tot : Rat) : Nat :=
  let tab := s.getBlk (Obj.INT_TABLE + lg)
  let k := min (tot.floor.toNat / 64) 31
  let a := beAt tab (2 * k) 2
  let b := beAt tab (2 * (k + 1)) 2
  let t : Rat := if tot < 2048 then tot else 2048
  min 4095 (a + (((b - a : Nat) : Rat) * (t - 64 * k) / 64).floor.toNat)

/-- The SNR field: min(255, round(4 × SNR)) (R541). -/
def Centroid.snrField (x : Centroid) : Nat :=
  min 255 ((isqrt (64 * x.sig * x.sig / (x.sig + x.bg)).floor.toNat + 1) / 2)

/-- A return with its range and intensity. -/
structure Return where
  cent  : Centroid
  range : Nat
  inten : Nat
  deriving DecidableEq, Repr

/-- The returns with their ranges, which lie within one unit of the formula; which one is open (R540, log entry 2). -/
def State.ranged (s : State) (d : Descriptor) : List Centroid → List Return × State
  | [] => ([], s)
  | x :: xs =>
    let e := s.exactRange d x
    let v := s.draw
    let r := if s.corrected d x ≤ 0 then 0 else (e + (v.1 % 3 : Nat) - 1).toNat
    let rest := State.ranged v.2 d xs
    (⟨x, r, s.intensity d.lg x.cand.totMean⟩ :: rest.1, rest.2)

/-- The return is multipath of a nearer one (R542). -/
def State.multipath (s : State) (all : List Return) (x : Return) : Bool :=
  all.any (fun i => decide (i.range < x.range) && decide (s.getN Obj.MP_RATIO * x.inten ≤ i.inten) &&
    decide (((x.range : Int) - 2 * i.range).natAbs ≤ 4 * s.getN Obj.MP_TOL))

/-- The return is of a foreign emitter (R542). -/
def State.foreign (s : State) (d : Descriptor) (x : Return) : Bool :=
  let n := d.pulseMax
  let q : Rat := ((n * x.cent.cand.prim : Nat) : Rat) / (max 1 x.cent.cand.wsum : Nat) - 1
  decide (2 ≤ n) && d.pulseCounts.all (· == n) && decide ((s.get Obj.FOREIGN_TOL : Rat) / 65536 < q.abs)

/-- The class of a return (R542). -/
def State.classOf (s : State) (d : Descriptor) (all : List Return) (x : Return) : Nat :=
  if !s.getB Obj.CLASS_ENABLE then 0
  else if x.range ≤ 4 * s.getN Obj.WINDOW_RANGE then 7
  else if s.getN Obj.SUN_ALARM ≤ d.sun && !x.cent.snrAtLeast (s.get Obj.SUN_SNR_MIN) then 4
  else if s.foreign d x then 6
  else if ((s.getN Obj.FOG_SIGMA * s.getN Obj.FOG_SIGMA : Nat) : Rat) ≤ x.cent.var * 15625 * 15625 / 1000000 ∧
      x.range ≤ 400 * s.getN Obj.FOG_RANGE then 3
  else if x.range ≤ 400 * s.getN Obj.RAIN_RANGE ∧ 100 * x.cent.cand.prim < s.getN Obj.RAIN_FILL * d.takes then 2
  else if s.multipath all x then 8
  else 1

/-- SATURATED and BLIND as the kernel sets them (R433). -/
def kernelFlags (d : Descriptor) (c : Candidate) : Nat :=
  16 * b2n (decide (d.satHiMin ≤ c.hiCount)) + 2 * b2n (natBit d.flags 1 && windowFirst d.gear c == 0)

/-- The point record of a return at its place (R541, R543, R553). -/
def State.pointRecord (s : State) (d : Descriptor) (all : List Return) (i : Nat) (x : Return) : Nat :=
  let c := x.cent.cand
  let tot := min 0xFFFF (roundRat c.totMean).toNat
  let q := min 255 (roundRat (255 * x.cent.sig / (max 1 c.wsum : Nat))).toNat
  min x.range 4194303 * 2 ^ 106 + x.inten * 2 ^ 94 + i % 4 * 2 ^ 84 + s.classOf d all x * 2 ^ 80 + kernelFlags d c * 2 ^ 72 +
    tot * 2 ^ 16 + x.cent.snrField * 2 ^ 8 + q

/-- The detected candidate of a reel that lies within CAL_TARGET_GATE of a channel's expected time, the one of largest WSUM (R602). -/
def State.targetOf (s : State) (d : Descriptor) (l : List Centroid) : Option Centroid :=
  mainOf (l.filter (fun x => decide ((x.tc - s.expectedTime d.ch).abs ≤ (s.getN Obj.CAL_TARGET_GATE : Rat))))

/-- A tally takes a reel. -/
def CalTally.take (x : CalTally) (c : Option Centroid) : CalTally :=
  match c with
  | some c => { x with seen := x.seen + 1, counted := x.counted + 1, sumTime := x.sumTime + c.tc, sumTot := x.sumTot + c.cand.totMean }
  | none => { x with seen := x.seen + 1 }

/-- A RANGE_OFFSET sweep looks at a reel of one of its channels whose takes all fired at one of its steps, up to CAL_OFFSET_REELS a channel
and step (R602). -/
def State.tallyReel (s : State) (d : Descriptor) (l : List Centroid) : State :=
  match d.steps with
  | [some j] =>
    if d.kind = 0 then
      { s with cal := { s.cal with runs := s.cal.runs.map (fun r =>
        if r.unit_ == rangeUnit && !r.waits then
          { r with tally := r.tally.map (fun x =>
            if x.channel == d.ch && x.step == j && decide (x.seen < s.getN Obj.CAL_OFFSET_REELS) then x.take (s.targetOf d l) else x) }
        else r) } }
    else s
  | _ => s

/-- The records of a reel, in ascending range (R543). -/
def State.kernelPoints (s : State) (d : Descriptor) : List Nat × State :=
  let r := s.ranged d (s.returns d)
  let l := sortBy (fun a b => decide (a.range ≤ b.range)) r.1
  ((l.zip (List.range l.length)).map (fun p => s.pointRecord d l p.2 p.1), r.2)

end Sys2Proof.Machine
end

