-- ==== Sys2Proof/Machine/EngineMem.lean ====
section
/-! DEFINITION. Registers, the exposed pipeline, memories and I/O registers of an engine (R467 to R477, R483, R496 to R501). An
operation answers a state, or the cause of a fault of R502. -/

namespace Sys2Proof.Machine

open Sys2Proof

/-! ### Fault causes (R502) -/

def illegalOpcode : Nat := 1
def badAddress : Nat := 2
def badLoop : Nat := 3
def stackFault : Nat := 4
def badRelease : Nat := 7
def memoryEcc : Nat := 6

/-- Changes an engine. -/
def State.modEngine (s : State) (n : Nat) (f : Engine → Engine) : State := s.setEngine n (f (s.engine n))

/-! ### Registers in the pipeline (R483) -/

/-- When a write commits: at the end of D, or of E two cycles later, in issue numbers. -/
def RegWrite.commit (w : RegWrite) : Nat := match w.stage with | .addr => w.issue | .alu => w.issue + 2 | .load => w.issue + 2

/-- Instruction m reads the write as an operand: ALU results at once, loads one instruction later. -/
def RegWrite.seenByOperand (w : RegWrite) (m : Nat) : Bool :=
  match w.stage with
  | .load => decide (w.issue + 2 ≤ m)
  | .alu => decide (w.issue + 1 ≤ m)
  | .addr => decide (w.issue + 1 ≤ m)

/-- Instruction m reads the write in D: results of E two instructions later. -/
def RegWrite.seenInDecode (w : RegWrite) (m : Nat) : Bool :=
  match w.stage with
  | .addr => decide (w.issue + 1 ≤ m)
  | .alu => decide (w.issue + 3 ≤ m)
  | .load => decide (w.issue + 3 ≤ m)

/-- The register after a write. -/
def RegWrite.apply (w : RegWrite) (old : Nat) : Nat :=
  match w.part with
  | .whole => w.val
  | .high => w.val * 65536 + old % 65536
  | .low => old / 65536 * 65536 + w.val

/-- The value of a register through the writes that are visible, which commit in their order, the newer last on a tie (R480). -/
def PipeReg.through (r : PipeReg) (p : RegWrite → Bool) : Nat :=
  (sortBy (fun a b => decide (a.commit ≤ b.commit)) (r.recent.filter p).reverse).foldl (fun v w => w.apply v) r.base

/-- The value that instruction m takes as an operand, and in D. -/
def PipeReg.operand (r : PipeReg) (m : Nat) : Nat := r.through (fun w => w.seenByOperand m)
def PipeReg.decode (r : PipeReg) (m : Nat) : Nat := r.through (fun w => w.seenInDecode m)

/-- A write enters; writes that have committed for every later instruction settle, in the order in which they commit. -/
def PipeReg.push (r : PipeReg) (w : RegWrite) : PipeReg :=
  let old : RegWrite → Bool := fun x => decide (x.commit + 2 ≤ w.issue)
  ⟨r.through old, w :: r.recent.filter (fun x => !old x)⟩

/-- D and P registers. -/
def Engine.dReg (e : Engine) (i : Nat) : PipeReg := tabGet (fun _ => PipeReg.zero) e.d i
def Engine.pReg (e : Engine) (i : Nat) : PipeReg := tabGet (fun _ => PipeReg.zero) e.p i

/-- Dn as an operand, and in D. -/
def Engine.dOp (e : Engine) (i : Nat) : Nat := (e.dReg i).operand e.issue
def Engine.dDec (e : Engine) (i : Nat) : Nat := (e.dReg i).decode e.issue

/-- Pn as an operand, and in address generation. -/
def Engine.pOp (e : Engine) (i : Nat) : Nat := (e.pReg i).operand e.issue
def Engine.pDec (e : Engine) (i : Nat) : Nat := (e.pReg i).decode e.issue

/-- A write of a part of Dn. -/
def Engine.putD (e : Engine) (i : Nat) (st : WriteStage) (part : RegPart) (v : Nat) : Engine :=
  { e with d := tabPut (fun _ => PipeReg.zero) e.d i ((e.dReg i).push ⟨e.issue, st, part, v⟩) }

/-- A write of a part of Pn. -/
def Engine.putP (e : Engine) (i : Nat) (st : WriteStage) (part : RegPart) (v : Nat) : Engine :=
  { e with p := tabPut (fun _ => PipeReg.zero) e.p i ((e.pReg i).push ⟨e.issue, st, part, v⟩) }

/-- Dn is written, modulo 2^32. -/
def Engine.setD (e : Engine) (i : Nat) (st : WriteStage) (v : Nat) : Engine := e.putD i st .whole (v % 2 ^ 32)

/-- Pn is written, modulo 2^20. -/
def Engine.setP (e : Engine) (i : Nat) (st : WriteStage) (v : Nat) : Engine := e.putP i st .whole (v % 2 ^ 20)

/-! ### Accumulators (R467, R475, R476) -/

/-- An accumulator through the writes of instructions at least k before this one. -/
def AccReg.at_ (r : AccReg) (m k : Nat) : Int :=
  match r.recent.find? (fun w => decide (w.1 + k ≤ m)) with | some w => w.2 | none => r.base

/-- ACA or ACB. -/
def Engine.acc (e : Engine) (b : Bool) : AccReg := if b then e.acb else e.aca

/-- The accumulator as the next accumulation in W sees it, and as an instruction that reads it in E does (R483). -/
def Engine.accW (e : Engine) (b : Bool) : Int := (e.acc b).at_ e.issue 1
def Engine.accE (e : Engine) (b : Bool) : Int := (e.acc b).at_ e.issue 2

/-- A write of an accumulator. -/
def AccReg.push (r : AccReg) (m : Nat) (v : Int) : AccReg := ⟨r.at_ m 5, (m, v) :: r.recent.filter (fun w => decide (m < w.1 + 5))⟩

/-- Sets an accumulator. -/
def Engine.setAcc (e : Engine) (b : Bool) (v : Int) : Engine :=
  if b then { e with acb := e.acb.push e.issue v } else { e with aca := e.aca.push e.issue v }

/-- A result lies outside 40 bits (R476). -/
def accOut (v : Int) : Bool := decide (v < -(2 ^ 39) ∨ 2 ^ 39 - 1 < v)

/-- The accumulator's value of a result: saturated or wrapped (R476). -/
def accValue (sat : Bool) (v : Int) : Int := if sat then clampInt (-(2 ^ 39)) (2 ^ 39 - 1) v else signed 40 (unsigned 40 v)

/-- A value fits in 32 bits signed. -/
def fits32 (v : Int) : Bool := decide (-(2 ^ 31) ≤ v ∧ v < 2 ^ 31)

/-! ### Flags (R468, R481, R483) -/

/-- N, Z, C and V as one number. -/
def nzcvOf (n z c v : Bool) : Nat := 8 * b2n n + 4 * b2n z + 2 * b2n c + b2n v

/-- A flag write is visible to a conditional branch, decided in D. -/
def FlagWrite.seenInDecode (w : FlagWrite) (m : Nat) : Bool := decide (w.issue + (if w.acc then 4 else 3) ≤ m)

/-- A flag write is visible in E. -/
def FlagWrite.seenInE (w : FlagWrite) (m : Nat) : Bool := decide (w.issue + (if w.acc then 2 else 1) ≤ m)

/-- When a flag write commits, in issue numbers. -/
def FlagWrite.commit (w : FlagWrite) : Nat := if w.acc then w.issue + 1 else w.issue

/-- The flags after a write of them. -/
def FlagWrite.apply (w : FlagWrite) (old : Nat) : Nat := if w.vOnly then old ||| 1 else w.nzcv

/-- N, Z, C, V through the visible writes, which commit in their order, and AOV. -/
def Engine.flagsBy (e : Engine) (p : FlagWrite → Bool) : Nat :=
  (sortBy (fun a b => decide (a.commit ≤ b.commit)) (e.flagW.filter p).reverse).foldl (fun v w => w.apply v) e.nzcv
def Engine.aovBy (e : Engine) (p : FlagWrite → Bool) : Bool := e.aov || (e.flagW.filter p).any (·.aov)

/-- The flags as a branch sees them, and as an instruction in E does. -/
def Engine.branchFlags (e : Engine) : Nat := e.flagsBy (fun w => w.seenInDecode e.issue)
def Engine.branchAov (e : Engine) : Bool := e.aovBy (fun w => w.seenInDecode e.issue)
def Engine.flagsE (e : Engine) : Nat := e.flagsBy (fun w => w.seenInE e.issue)
def Engine.aovE (e : Engine) : Bool := e.aovBy (fun w => w.seenInE e.issue)

/-- A flag write enters; old ones settle. -/
def Engine.pushFlags (e : Engine) (w : FlagWrite) : Engine :=
  let old : FlagWrite → Bool := fun x => decide (x.issue + 6 ≤ e.issue)
  { e with nzcv := e.flagsBy old, aov := e.aovBy old, flagW := w :: e.flagW.filter (fun x => !old x) }

/-- The flags take a value. -/
def Engine.setFlags (e : Engine) (acc : Bool) (nzcv : Nat) (aov : Bool) : Engine := e.pushFlags ⟨e.issue, acc, false, nzcv, aov⟩

/-- Every flag write has settled: what is left once all earlier results are in (R468, R491). -/
def Engine.settledFlags (e : Engine) : Engine :=
  { e with nzcv := e.flagsBy (fun _ => true), aov := e.aovBy (fun _ => true), flagW := [] }

/-- A bit that the manual leaves open. -/
def State.drawBit (s : State) : Bool × State := (Config.freeBit s.freeCtr, { s with freeCtr := s.freeCtr + 1 })

/-- An accumulator takes a result: R476, the clip latch of R478, and the flags; C is left open. -/
def State.putAcc (s : State) (n : Nat) (b : Bool) (v : Int) : State :=
  let c := s.drawBit
  let out := accOut v
  let r := accValue (s.engine n).sat v
  let s := c.2.modEngine n (fun e => (e.setAcc b r).setFlags true (nzcvOf (decide (r < 0)) (decide (r = 0)) c.1 (!fits32 r)) out)
  match out, (s.engine n).openSlot with
  | true, some k => s.modEngine n (fun e => e.setSlot k { e.slot k with clip := true })
  | _, _ => s

/-! ### Addressing (R471 to R474) -/

/-- A post-modify of Pn by m (R472). -/
def Engine.postModify (e : Engine) (i : Nat) (m : Int) : Nat :=
  let p : Int := e.pDec i
  let l := tabGet (fun _ => 0) e.cl (i % 4)
  let b : Int := (tabGet (fun _ => 0) e.cb (i % 4) : Nat)
  if natBit e.pmode i && l != 0 then unsigned 20 (b + (p + m - b) % (l : Int)) else unsigned 20 (p + m)

/-- D15.L as a modifier. -/
def Engine.d15 (e : Engine) : Int := signed 16 (e.dDec 15)

/-! ### Memories (R469, R470) -/

/-- A data address is listed: X, Y, P or I/O (R469). -/
def addrOk (n a : Nat) : Bool :=
  if n < 32 then
    decide (a < 0x4000) || decide (0x40000 ≤ a ∧ a < 0x44000) || decide (0x80000 ≤ a ∧ a < 0x84000) || decide (0xC0000 ≤ a ∧ a < 0xC0300)
  else
    decide (a < 0x10000) || decide (0x40000 ≤ a ∧ a < 0x50000) || decide (0x80000 ≤ a ∧ a < 0x84000) || decide (0xC0000 ≤ a ∧ a < 0xC0300)

/-- The region of an address: its memory, where I/O lies on the X bus. -/
def regionBus (a : Nat) : Nat := let r := a / 0x40000 % 4; if r = 3 then 0 else r

/-- Cycles since the kernel started: 1.25 GHz, or 1.0 GHz on an audit engine. -/
def State.engCycles (s : State) (n : Nat) : Nat :=
  let t := s.now - (s.engine n).startAt
  if n < 32 then 5 * t / 4 else t

/-- MBX_STATUS (R500). -/
def Engine.mbxStatus (e : Engine) : Nat := e.load * 4096 + e.slotA.st.code * 64 + e.slotB.st.code * 16

/-- Word `off` of the gear window (g, q) (R501). -/
def State.gearWindow (s : State) (g q off : Nat) : Nat :=
  let gen := s.getN (Obj.GEAR_GEN + g)
  let cur := gen % 2 == q
  let tab := if cur then s.gear g else tabGet (fun _ => gearDefault) s.hist.oldGears g
  let rs := gearRegions tab
  if off = 0 then (if cur then gen else (gen + 15) % 16)
  else if off = 1 then rs.length
  else if off = 0x1A then gearSpan tab / 64
  else if off < 0x1A then
    match rs[(off - 2) / 3]? with
    | none => 0
    | some r => if (off - 2) % 3 = 0 then r.lo / 64 else if (off - 2) % 3 = 1 then r.first else r.width
  else 0

/-- A slot was READY at the start of a cycle (R524). -/
def Slot.readyBefore (x : Slot) (now : Time) : Bool := x.st == .ready && decide (x.since < now)

/-- The older slot that was READY at the start of a cycle (R496, R524). -/
def Engine.oldestReady (e : Engine) (now : Time) : Option Nat :=
  match e.slotA.readyBefore now, e.slotB.readyBefore now with
  | true, true => some (if e.slotA.order < e.slotB.order then 0 else 1)
  | true, false => some 0
  | false, true => some 1
  | false, false => none

/-- A slot opens; under the shipped kernel its points are made (R532), with the parameters that the engine has received (R572), and a
RANGE_OFFSET sweep looks at its reel (R602). -/
def State.openSlot (s : State) (n b : Nat) : State :=
  let x := (s.engine n).slot b
  let s := s.modEngine n (fun e => e.setSlot b { x with st := .opened, since := s.now, watchdog := s.getN Obj.SE_WATCHDOG })
  match x.desc with
  | some d =>
    if s.kernel = 1 then
      let r := (s.seenBy n).kernelPoints d
      let s := s.tallyReel d ((s.seenBy n).detected d)
      { s with freeCtr := r.2.freeCtr }.modEngine n (fun e => e.setSlot b { e.slot b with points := r.1 })
    else s
  | none => s

/-- A read of MBX_NEXT (R496). -/
def State.mbxNext (s : State) (n : Nat) : Nat × State :=
  let e := s.engine n
  match e.openSlot with
  | some b => (slotBase b, s)
  | none => match e.oldestReady s.now with
    | some b => (slotBase b, s.openSlot n b)
    | none => (0, s)

/-- A read of an I/O register. A write-only one reads 0 (R17, R500); what an unlisted one reads as is left open. -/
def State.ioRead (s : State) (n a : Nat) : Nat × State :=
  let e := s.engine n
  let r := a - 0xC0000
  if 32 ≤ n then (s.draw.1 % 65536, s.draw.2)
  else if r = 0 then (e.mbxStatus, s)
  else if r = 1 then s.mbxNext n
  else if r = 2 ∨ (0x10 ≤ r ∧ r < 0x18) ∨ r = 0x25 then (0, s)
  else if r = 3 then (n, s)
  else if r = 0x20 then (e.dmaSrc / 65536, s)
  else if r = 0x21 then (e.dmaSrc % 65536, s)
  else if r = 0x22 then (e.dmaDst / 65536, s)
  else if r = 0x23 then (e.dmaDst % 65536, s)
  else if r = 0x24 then (e.dmaLen, s)
  else if r = 0x26 then (e.dmaStatus, s)
  else if r = 0x30 then (s.engCycles n % 2 ^ 32 / 65536, s)
  else if r = 0x31 then (s.engCycles n % 65536, s)
  else if r = 0x32 then (e.timerCmp / 65536, s)
  else if r = 0x33 then (e.timerCmp % 65536, s)
  else if 0x100 ≤ r ∧ r < 0x200 then (s.gearWindow ((r - 0x100) / 64) ((r - 0x100) / 32 % 2) (r % 32), s)
  else (s.draw.1 % 65536, s.draw.2)

/-! ### Writes of I/O registers (R497 to R500) -/

/-- A type-0 DMA runs. -/
def Engine.dma0 (e : Engine) : Bool := match e.dmaRun with | some r => r.1 / 2 ^ 28 == 0 | none => false

/-- A write of MBX_RELEASE (R497, R499). -/
def State.mbxRelease (s : State) (n v : Nat) : Except Nat State :=
  let e := s.engine n
  match e.openSlot with
  | none => .error badRelease
  | some b =>
    if v = slotBase b then
      .ok (if e.dma0 then s.setEngine n (e.setSlot b { e.slot b with releaseDue := true }) else s.releaseSlot n b)
    else .error badRelease

/-- A record is appended to the OPEN slot, or dropped as a fifth one (R498). -/
def State.appendPoint (s : State) (n b r : Nat) : State :=
  let x := (s.engine n).slot b
  if x.points.length < 4 then s.modEngine n (fun e => e.setSlot b { x with points := x.points ++ [r] })
  else s.count Obj.PT_OVERFLOWS

/-- A write of PT_OUTi (R498): PT_OUT7 completes the record. -/
def State.ptOut (s : State) (n i v : Nat) : Except Nat State :=
  let e := s.engine n
  match e.openSlot with
  | none => .error badRelease
  | some b =>
    let ws := (if i = 0 then List.replicate 8 0 else (e.ptOut ++ List.replicate (8 - e.ptOut.length) 0)).set i (v % 65536)
    let s := s.setEngine n { e with ptOut := if i = 7 then [] else ws }
    .ok (if i = 7 then s.appendPoint n b (ws.foldl (fun a w => a * 65536 + w) 0) else s)

/-- A span of words lies in X or Y. -/
def dmaLocalOk (a len : Nat) : Bool := a % 2 == 0 && (decide (a + len ≤ 0x4000) || decide (0x40000 ≤ a ∧ a + len ≤ 0x44000))

/-- The words of the kernel's DDR5 window (R499, R507). -/
def State.ddrWords (s : State) : Nat := if isUserKernel s.kernel then beAt s.activeImage 22 2 * 512 else 0

/-- A DMA request can run (R499). -/
def State.dmaOk (s : State) (n : Nat) : Bool :=
  let e := s.engine n
  let typ := e.dmaSrc / 2 ^ 28
  let off := e.dmaSrc % 2 ^ 28
  e.dmaRun.isNone && decide (4 ≤ e.dmaLen ∧ e.dmaLen ≤ 16384) && e.dmaLen % 4 == 0 && dmaLocalOk e.dmaDst e.dmaLen &&
    (if typ = 0 then
      (match e.openSlot.bind (fun b => (e.slot b).desc) with
       | some d => decide (off + e.dmaLen / 4 ≤ gearWords d.gear)
       | none => false)
     else if typ = 1 ∨ typ = 2 then decide (32 * off + e.dmaLen ≤ s.ddrWords)
     else false)

/-- A write of DMA_CTRL (R499). -/
def State.dmaCtrl (s : State) (n v : Nat) : State :=
  if v = 1 then
    let e := s.engine n
    if s.dmaOk n then s.setEngine n { e with dmaStatus := 1, dmaRun := some (e.dmaSrc, e.dmaDst, e.dmaLen) }
    else s.setEngine n { e with dmaStatus := 3 }
  else s

/-- Words are written to X or Y. -/
def State.putLocal (s : State) (n a : Nat) (ws : List Nat) : State :=
  if a < 0x40000 then s.putX n a ws else s.putY n (a - 0x40000) ws

/-- A word of X or Y. -/
def State.localWord (s : State) (n a : Nat) : Nat := if a < 0x40000 then s.xAt n a else s.yAt n (a - 0x40000)

/-- A word of the DDR5 window. -/
def State.ddrWord (s : State) (a : Nat) : Nat := tabGet (fun _ => 0) s.eng.ddr a

/-- Words are written to the DDR5 window. -/
def State.putDdr (s : State) : Nat → List Nat → State
  | _, [] => s
  | a, w :: ws => State.putDdr { s with eng := { s.eng with ddr := tabPut (fun _ => 0) s.eng.ddr a w } } (a + 1) ws

/-- The data of a DMA move. -/
def State.dmaMove (s : State) (n src dst len : Nat) : State :=
  let typ := src / 2 ^ 28
  let off := src % 2 ^ 28
  if typ = 0 then
    match (s.engine n).openSlot.bind (fun b => ((s.engine n).slot b).desc) with
    | some d => (s.readReel d (fun w => decide (off ≤ w ∧ w < off + len / 4))).putLocal n dst
        ((List.range (len / 4)).flatMap (fun i => s.reelWord d (off + i)))
    | none => s
  else if typ = 1 then s.putLocal n dst ((List.range len).map (fun i => s.ddrWord (32 * off + i)))
  else s.putDdr (32 * off) ((List.range len).map (fun i => s.localWord n (dst + i)))

/-- A release that waited for the DMA follows (R499, R527). -/
def State.releaseAfterDma (s : State) (n : Nat) : State :=
  match (s.engine n).openSlot with
  | some b => if ((s.engine n).slot b).releaseDue then s.releaseSlot n b else s
  | none => s

/-- A write of TIMER_CMP: TIMER reaches a value at or ahead of it in its present turn, and one that it has passed in its next (R8, R489). -/
def State.setTimerCmp (s : State) (n v : Nat) : State :=
  let c := s.engCycles n
  s.modEngine n (fun e => { e with timerCmp := v, timerTurn := if v < c % 2 ^ 32 then some (c / 2 ^ 32) else none })

/-- A write of an I/O register; one that is read-only or unlisted takes no value. -/
def State.ioWrite (s : State) (n a v : Nat) : Except Nat State :=
  let e := s.engine n
  let r := a - 0xC0000
  if 32 ≤ n then .ok s
  else if r = 2 then s.mbxRelease n v
  else if 0x10 ≤ r ∧ r < 0x18 then s.ptOut n (r - 0x10) v
  else if r = 0x20 then .ok (s.setEngine n { e with dmaSrc := v * 65536 + e.dmaSrc % 65536 })
  else if r = 0x21 then .ok (s.setEngine n { e with dmaSrc := e.dmaSrc / 65536 * 65536 + v })
  else if r = 0x22 then .ok (s.setEngine n { e with dmaDst := v * 65536 + e.dmaDst % 65536 })
  else if r = 0x23 then .ok (s.setEngine n { e with dmaDst := e.dmaDst / 65536 * 65536 + v })
  else if r = 0x24 then .ok (s.setEngine n { e with dmaLen := v })
  else if r = 0x25 then .ok (s.dmaCtrl n v)
  else if r = 0x32 then .ok (s.setTimerCmp n (v * 65536 + e.timerCmp % 65536))
  else if r = 0x33 then .ok (s.setTimerCmp n (e.timerCmp / 65536 * 65536 + v))
  else .ok s

/-! ### Accesses -/

/-- The 64-bit word of memory 1 that holds a data address of a spoke engine (log entry 64). -/
def engineWord (n a : Nat) : Nat := n * 2 ^ 18 + a / 4

/-- The word at an address of X, Y or P of a spoke engine is uncorrectable (R829). -/
def State.engineBad (s : State) (n a : Nat) : Bool := decide (n < 32) && s.mem.badWords.contains (1, engineWord n a)

/-- A word that a DMA of type 2 reads in X or Y is uncorrectable (R502). -/
def State.dmaBad (s : State) (n src dst len : Nat) : Bool :=
  src / 2 ^ 28 == 2 && (List.range len).any (fun i => s.engineBad n (dst + i))

/-- A DMA of the kernel's DDR5 window waits until the window is wiped (R42, R835; DEDUCED, log entry 45). -/
def State.dmaWaits (s : State) (src : Nat) : Bool := src / 2 ^ 28 != 0 && !s.ddrHas ddrKernels

/-- A DMA ends: IPEND bit 1 is set (R489, R499). One that reads an uncorrectable word of X or Y is a MEMORY_ECC fault (R502). -/
def State.dmaDone (s : State) (n : Nat) : Except Nat State :=
  match (s.engine n).dmaRun with
  | none => .ok s
  | some (src, dst, len) =>
    if s.dmaWaits src then .ok s
    else if s.dmaBad n src dst len then .error memoryEcc
    else
      let s := s.dmaMove n src dst len
      let s := s.modEngine n (fun e => { e with dmaRun := none, dmaStatus := 2 })
      .ok ((s.pend n 1).releaseAfterDma n)

/-- A 16-bit read: an uncorrectable word is a MEMORY_ECC fault (R502). -/
def State.read16 (s : State) (n a : Nat) : Except Nat (Nat × State) :=
  if !addrOk n a then .error badAddress
  else if s.engineBad n a then .error memoryEcc
  else if a < 0x40000 then .ok (s.xAt n a, s)
  else if a < 0x80000 then .ok (s.yAt n (a - 0x40000), s)
  else if a < 0xC0000 then .ok (s.imgP n (a - 0x80000), s)
  else .ok (s.ioRead n a)

/-- A 16-bit store; one to P faults. -/
def State.write16 (s : State) (n a v : Nat) : Except Nat State :=
  if !addrOk n a then .error badAddress
  else if a < 0x40000 then .ok (s.setX n a v)
  else if a < 0x80000 then .ok (s.setY n (a - 0x40000) v)
  else if a < 0xC0000 then .error badAddress
  else s.ioWrite n a v

/-- A 32-bit read at an even address (R470). -/
def State.read32 (s : State) (n a : Nat) : Except Nat (Nat × State) :=
  if a % 2 = 1 then .error badAddress
  else match s.read16 n a with
    | .error c => .error c
    | .ok h => match h.2.read16 n (a + 1) with
      | .error c => .error c
      | .ok l => .ok (h.1 * 65536 + l.1, l.2)

/-- A 32-bit store at an even address (R470). -/
def State.write32 (s : State) (n a v : Nat) : Except Nat State :=
  if a % 2 = 1 then .error badAddress
  else match s.write16 n a (v / 65536 % 65536) with
    | .error c => .error c
    | .ok s' => s'.write16 n (a + 1) (v % 65536)

/-! ### Registers by REG code (R479) -/

/-- The value of a register as an operand: D and P as unsigned, an accumulator as it stands in E; none for an undefined code. -/
def Engine.reg? (e : Engine) (c : Nat) : Option Int :=
  if c < 16 then some (e.dOp c) else if c < 24 then some (e.pOp (c - 16))
  else if c = 24 then some (e.accE false) else if c = 25 then some (e.accE true) else none

/-- A register takes a value, whose low 32 or 20 bits or 40 bits it holds. -/
def Engine.setReg (e : Engine) (c : Nat) (st : WriteStage) (v : Int) : Engine :=
  if c < 16 then e.setD c st (unsigned 32 v) else if c < 24 then e.setP (c - 16) st (unsigned 20 v)
  else e.setAcc (c == 25) (signed 40 (unsigned 40 v))

/-- Bits [31:16] of a register take a value, and its other bits stand (R481). -/
def Engine.setRegHigh (e : Engine) (c v : Nat) : Engine :=
  if c < 16 then e.putD c .alu .high (v % 65536) else if c < 24 then e.putP (c - 16) .alu .high (v % 16)
  else
    let a := e.accW (c == 25)
    e.setAcc (c == 25) (a + ((v % 65536 : Nat) - a / 65536 % 65536) * 65536)

/-! ### Parallel moves (R480) -/

/-- The pointer, modifier and destination of a move field. -/
def movePtr (f : Nat) : Nat := field f 5 2
def moveMod (e : Engine) (f : Nat) : Option Int :=
  match field f 3 2 with | 0 => none | 1 => some 2 | 2 => some (-2) | _ => some e.d15

/-- One move of a field, with the pointers from number `base` on. -/
def State.move (s : State) (n f base : Nat) : Except Nat State :=
  if !natBit f 7 then .ok s
  else
    let e := s.engine n
    let p := base + movePtr f
    match s.read32 n (e.pDec p) with
    | .error c => .error c
    | .ok r => .ok (r.2.modEngine n (fun x =>
        let x := x.setD (field f 0 3) .load r.1
        match moveMod e f with | none => x | some m => x.setP p .addr (e.postModify p m)))

/-- Both moves access one memory, which an audit engine does not do (R466). -/
def sameMemory (e : Engine) (w : Nat) : Bool :=
  natBit w 15 && natBit w 7 && regionBus (e.pDec (movePtr (field w 8 8))) == regionBus (e.pDec (4 + movePtr (field w 0 8)))

/-- The parallel moves of an instruction. -/
def State.moves (s : State) (n w : Nat) : Except Nat State :=
  if 32 ≤ n && sameMemory (s.engine n) w then .error illegalOpcode
  else match s.move n (field w 8 8) 0 with
    | .error c => .error c
    | .ok s' => s'.move n (field w 0 8) 4

end Sys2Proof.Machine
end

