-- ==== Sys2Proof/Machine/ClockOps.lean ====
section
/-! DEFINITION. The states of the local clock, its increments and its steps (R660 to R670). Times here are local times in
units of 2^-24 ns. -/

namespace Sys2Proof.Machine

open Sys2Proof

/-- Sets local time; the seconds have 48 bits (R13, R660). -/
def TimeState.withTotal (t : TimeState) (x : Nat) : TimeState :=
  let ns := x / 16777216
  { t with sec := ns / 1000000000 % 2 ^ 48, ns := ns % 1000000000, frac := x % 16777216 }

/-- The increment of FREE: 2^24 × (1 − XTAL_AGEING × 10^-9), rounded half up (R663). -/
def State.freeIncrement (s : State) : Int :=
  (2 * 16777216 * (1000000000 - s.get Obj.XTAL_AGEING) + 1000000000) / 2000000000

/-- The servo's sum of the hour in LOCKED is brought up to now at the increment in force (R669). -/
def State.markHour (s : State) : State :=
  { s with time := { s.time with
    hourSum := s.time.hourSum + s.getN Obj.CLOCK_INCREMENT * (s.now - s.time.hourMark), hourMark := s.now } }

/-- The increment changes. -/
def State.setIncrement (s : State) (inc : Int) : State := s.markHour.set Obj.CLOCK_INCREMENT inc

/-- The mean of the servo's last increments in LOCKED, to the nearest; none when it wrote none there. -/
def TimeState.meanIncrement (t : TimeState) : Option Nat :=
  if t.increments.isEmpty then none else some (natDivRound t.increments.sum t.increments.length)

/-- The increment of HOLDOVER under the time source that steered the clock (R663). -/
def State.holdoverIncrement (s : State) (source : Nat) : Option Nat :=
  if source = 0 then s.time.meanIncrement else s.time.hostIncrement

/-! ### The PTP ports -/

/-- 2^l s in core cycles. -/
def logSec (l : Int) : Nat := 1000000000 * 2 ^ (l + 8).toNat / 256

/-- The PTP port of an Ethernet port. -/
def State.ptp (s : State) (p : Nat) : GptpPort := if p = 0 then s.time.p0 else s.time.p1

/-- Sets a PTP port. -/
def State.setPtp (s : State) (p : Nat) (x : GptpPort) : State :=
  if p = 0 then { s with time := { s.time with p0 := x } } else { s with time := { s.time with p1 := x } }

/-- The sync timeout in core cycles (R676). -/
def State.syncTimeout (s : State) : Nat := 3 * logSec (s.get Obj.LOG_SYNC_INTERVAL)

/-- The port has had a valid Sync within the last sync timeout. -/
def State.hasSync (s : State) (p : Nat) : Bool :=
  match (s.ptp p).lastSync with
  | some t => !reached s.now t s.syncTimeout
  | none => false

/-- The sync timeout has passed since the port's last valid Sync, or since reset release for one that has had none (R676). -/
def State.syncLapsed (s : State) (p : Nat) : Bool := reached s.now ((s.ptp p).lastSync.getD s.reset_.releasedAt) s.syncTimeout

/-! ### States -/

/-- An hour in core cycles. -/
def hour : Nat := sec 3600

/-- The hour of R669 begins anew. -/
def State.newHour (s : State) : State :=
  { s with time := { s.time with hourAt := s.now, hourMark := s.now, hourSum := 0 } }

/-- The clock changes state: event 0x120 is raised (R664). Entry into LOCKING starts the counts of R664 and R676; entry into
LOCKED starts the hour of R669. -/
def State.setClock (s : State) (x : Nat) : State :=
  if s.getN Obj.CLOCK_STATE = x then s
  else
    let s := (s.set Obj.CLOCK_STATE x).raise 0x120 0
    if x = 2 then { s with time := { s.time with lockingAt := s.now, goodSyncs := 0, hostLate := false } }
    else if x = 3 then s.newHour
    else s

/-- HOLDOVER is entered from LOCKING or LOCKED: its increment comes into use (R663, R664). -/
def State.enterHoldover (s : State) (source : Nat) : State :=
  let s := match s.holdoverIncrement source with | some i => s.setIncrement i | none => s
  s.setClock 4

/-- LOCKING or LOCKED. -/
def State.steered (s : State) : Bool := s.get Obj.CLOCK_STATE == 2 || s.get Obj.CLOCK_STATE == 3

/-- A step is asked for: STEP_PENDING (R664). -/
def State.askStep (s : State) (p : PendingStep) : State :=
  ({ s with time := { s.time with step := p, fromFree := s.get Obj.CLOCK_STATE == 0 } }).setClock 1

/-- The offset by which the servo estimates grandmaster time: that of the port it follows, or, when this has had no valid Sync within the
sync timeout, the last it followed, from which the holdover increment has carried local time on (R667, R699). -/
def State.servoOffset (s : State) : Int := if s.hasSync s.time.servoPort then (s.ptp s.time.servoPort).offset else s.time.offset

/-- The local time that a step takes now (R667): the servo's estimate of grandmaster time, which is local time less the offset
of the last valid Sync; or TIME_SET with the local time elapsed since the write. -/
def State.stepTarget (s : State) : Nat :=
  match s.time.step with
  | .none => s.time.total
  | .gptp => ((s.time.total : Int) - s.servoOffset).toNat
  | .timeSet target asked => ((target : Int) + ((s.time.total : Int) - asked)).toNat

/-- The offsets that the ports keep move with a step of local time. -/
def TimeState.stepped (t : TimeState) (d : Int) : TimeState :=
  { t with offset := t.offset + d, p0 := { t.p0 with offset := t.p0.offset + d }, p1 := { t.p1 with offset := t.p1.offset + d } }

/-- A CLOCK_INCREMENT that host firmware wrote in the cycle of a step comes after the step (R700). -/
def State.lateIncrement (s : State) : State :=
  match s.time.hostIncrement with
  | some v => if s.get Obj.TIME_SOURCE = 1 ∧ s.time.hostAt = some s.now then s.setIncrement v else s
  | none => s

/-- The pending step applies (R666, R668): local time takes the target, TIME_EPOCH increments, event 0x122 carries it, the
clock enters LOCKING, the next spoke of each group carries RESTEP, and the histories are emptied. -/
def State.applyStep (s : State) : State :=
  let target := s.stepTarget
  let t := { (s.time.withTotal target).stepped ((target : Int) - s.time.total) with step := .none }
  let epoch := (s.getN Obj.TIME_EPOCH + 1) % 65536
  let s := ({ s with time := t }).set Obj.TIME_EPOCH epoch
  let s := (((s.raise 0x122 (epoch * 2 ^ 16)).setClock 2).lateIncrement).emptyAllMrev
  { s with pipe := { s.pipe with restep := List.range s.groups } }

/-- An hour in LOCKED ends from which nothing is learned, because XTAL_LEARN is clear or the source is no grandmaster: the next one begins
(R669). -/
def State.endHour (s : State) : State :=
  if s.synced && reached s.now s.time.hourAt hour && (!s.getB Obj.XTAL_LEARN || s.get Obj.TIME_SOURCE != 0) then s.newHour
  else s

/-- Local time advances by one core cycle (R660). -/
def TimeState.advance (t : TimeState) (inc : Nat) : TimeState := t.withTotal (t.total + inc)

end Sys2Proof.Machine
end

