-- ==== Sys2Proof/Machine/Gptp.lean ====
section
/-! DEFINITION. gPTP (R671 to R677) and the servo's part in the clock states (R664, R665). Times are local times in units of
2^-24 ns. -/

namespace Sys2Proof.Machine

open Sys2Proof

/-- Nanoseconds in units of 2^-24 ns. -/
def nsUnits (ns : Int) : Int := ns * 16777216

/-- The PTP port is enabled and its Ethernet port can carry frames (R671). -/
def State.ptpOn (s : State) (p : Nat) : Bool := natBit (s.getN Obj.GPTP_PORTS) p && s.portUp p

/-- The port is asCapable: its mean link delay is known and below NEIGHBOR_THRESH (R676). -/
def State.asCapable (s : State) (p : Nat) : Bool :=
  (s.ptp p).delayKnown && decide (s.getN (Obj.LINK_DELAY + p) < s.getN Obj.NEIGHBOR_THRESH)

/-- A Pdelay message on an enabled port: of the common mean link delay service, whose domain is 0, or of the device's domain (R671;
PRESUMED, log entry 25). -/
def State.pdelayTakes (s : State) (p domain : Nat) : Bool := s.ptpOn p && (domain == 0 || domain == s.getN Obj.GPTP_DOMAIN)

/-- A message of the device's domain on an enabled port. -/
def State.ptpTakes (s : State) (p domain : Nat) : Bool := s.ptpOn p && domain == s.getN Obj.GPTP_DOMAIN

/-! ### The best master clock algorithm -/

/-- The clock identity of the device: the EUI-64 made from the MAC address of E0. -/
def State.clockIdentity (s : State) : Nat :=
  let m := s.getN Obj.MAC_ADDR
  m / 2 ^ 24 * 2 ^ 40 + 0xFFFE * 2 ^ 24 + m % 2 ^ 24

/-- The fields of a vector in their order of comparison. -/
def gmFields (v : GmVector) : List Nat :=
  [v.priority1, v.class_, v.accuracy, v.variance, v.priority2, v.identity, v.steps]

/-- The first of two lists of numbers that differ is smaller. -/
def lexLe : List Nat → List Nat → Bool
  | a :: as, b :: bs => decide (a < b) || (a == b && lexLe as bs)
  | [], _ => true
  | _ :: _, [] => false

/-- The device's own vector: a clock that is not traceable (class 248). -/
def State.ownVector (s : State) : GmVector :=
  ⟨s.getN Obj.GPTP_PRIORITY1, 248, 0xFE, 0xFFFF, s.getN Obj.GPTP_PRIORITY2, s.clockIdentity, 0⟩

/-- Vectors announced on the enabled ports. -/
def State.announced (s : State) : List GmVector :=
  [0, 1].filterMap (fun p => if s.ptpOn p then (s.ptp p).announce.map (·.vector) else none)

/-- The candidates: what is announced, and the device when it is capable (R671). -/
def State.candidates (s : State) : List GmVector :=
  s.announced ++ (if s.getN Obj.GPTP_PRIORITY1 < 255 then [s.ownVector] else [])

/-- The best vector. -/
def State.bestVector (s : State) : Option GmVector :=
  (sortBy (fun a b => lexLe (gmFields a) (gmFields b)) s.candidates).head?

/-- The device is the grandmaster (R671); with external port configuration each port is a slave. -/
def State.isGrandmaster (s : State) : Bool :=
  !s.getB Obj.GPTP_EXT_CONFIG && (match s.bestVector with | some v => v.identity == s.clockIdentity | none => false)

/-- The grandmaster identity changes: event 0x123 carries the upper half of the new one; the first identity is no change. -/
def State.noteGm (s : State) (id : Nat) : State :=
  let old := s.getN Obj.GM_IDENTITY
  if old = id then s
  else
    let s := s.set Obj.GM_IDENTITY id
    if old = 0 then s else s.raise 0x123 (id / 2 ^ 32)

/-- The algorithm runs: the identity it selects is noted. -/
def State.selectGm (s : State) : State :=
  if s.getB Obj.GPTP_EXT_CONFIG then s
  else match s.bestVector with
    | some v => s.noteGm v.identity
    | none => s

/-- The identity of the grandmaster that a Sync from a sender on a port stands for; none when it is not the selected one's. -/
def State.syncIdentity (s : State) (p source : Nat) : Option Nat :=
  match (s.ptp p).announce with
  | some a =>
    if s.getB Obj.GPTP_EXT_CONFIG then some a.vector.identity
    else if a.source == source && s.bestVector.any (fun v => v.identity == a.vector.identity) && !s.isGrandmaster then
      some a.vector.identity
    else none
  | none => if s.getB Obj.GPTP_EXT_CONFIG then some source else none

/-! ### The servo -/

/-- The servo writes an increment, which the spec bounds and does not compute (R661, R663). In LOCKED it joins the last 16. -/
def State.servoWrite (s : State) : State :=
  let (v, s) := s.draw
  let inc := 0x00FFDF3C + v % (0x010020C4 - 0x00FFDF3C + 1)
  let s := s.setIncrement inc
  if s.synced then { s with time := { s.time with increments := (inc :: s.time.increments).take 16 } } else s

/-- TIME_STEP_THRESHOLD is reached by an offset (R664). -/
def State.overThreshold (s : State) (o : Int) : Bool :=
  decide (nsUnits (s.get Obj.TIME_STEP_THRESHOLD) ≤ (o.natAbs : Int))

/-- The offset in ns as an I32, saturated. -/
def offsetNs (o : Int) : Int := clampInt (-2147483648) 2147483647 (divRound o 16777216)

/-- Event 0x121 with an offset (R665). -/
def State.reportOffset (s : State) (o : Int) : State := s.raise 0x121 (unsigned 32 (clampInt (-2147483647) 2147483647 (offsetNs o)))

/-- A discontinuity: event 0x121 with the offset, and HOLDOVER (R665). -/
def State.discontinuity (s : State) (o : Int) : State := (s.reportOffset o).enterHoldover (s.getN Obj.TIME_SOURCE)

/-- A Sync in LOCKING counts toward LOCKED under TIME_SOURCE 0 (R664). -/
def State.countSync (s : State) (o : Int) : State :=
  let n := if (o.natAbs : Int) < nsUnits (s.get Obj.LOCK_WINDOW) then s.time.goodSyncs + 1 else 0
  let s := { s with time := { s.time with goodSyncs := n } }
  if 8 ≤ n then s.setClock 3 else s

/-- What a valid Sync's offset does to the clock (R664, R665). One that reaches the threshold in the cycle in which the sync timeout has
put the clock into HOLDOVER still raises event 0x121 (R694). -/
def State.judgeOffset (s : State) (o : Int) : State :=
  let s := ({ s with time := { s.time with offset := o } }).set Obj.OFFSET_LAST (offsetNs o)
  let gptp := s.get Obj.TIME_SOURCE == 0
  match s.getN Obj.CLOCK_STATE with
  | 0 => if gptp then s.askStep .gptp else s
  | 1 => s
  | 2 =>
    if s.overThreshold o then s.discontinuity o
    else if gptp then (s.servoWrite).countSync o else s
  | 3 => if s.overThreshold o then s.discontinuity o else if gptp then s.servoWrite else s
  | _ => if !s.overThreshold o then s.setClock 2 else if s.time.timeoutAt = some s.now then s.reportOffset o else s

/-- The servo moves to a port: event 0x125 with the port (R674). -/
def State.moveServo (s : State) (p : Nat) : State :=
  if s.time.servoPort = p then s
  else ({ s with time := { s.time with servoPort := p } }).raise 0x125 (p * 2 ^ 24)

/-- The port that the servo prefers: the one that GPTP_PRIMARY names with both enabled, or else the one that is enabled (R674). -/
def State.primaryPort (s : State) : Nat :=
  let p := s.getN Obj.GPTP_PRIMARY
  if natBit (s.getN Obj.GPTP_PORTS) p || !natBit (s.getN Obj.GPTP_PORTS) (1 - p) then p else 1 - p

/-- The servo follows this port for a Sync on it (R674): the primary at once, the other once the primary has reached its sync timeout. -/
def State.follows (s : State) (p : Nat) : Bool := p == s.primaryPort || s.syncLapsed s.primaryPort

/-- The sync timeout of an enabled port has passed and is not reported yet (R676). -/
def State.portTimedOut (s : State) (p : Nat) : Bool :=
  natBit (s.getN Obj.GPTP_PORTS) p && !(s.ptp p).timedOut && s.syncLapsed p

/-- The sync timeout of a port is reported once: event 0x124 with the port (R676). -/
def State.reportTimeout (s : State) (p : Nat) : State :=
  if s.portTimedOut p then (s.setPtp p { s.ptp p with timedOut := true }).raise 0x124 (p * 2 ^ 24) else s

/-- A valid Sync with its offset (R664, R674, R675); a sync timeout that falls due with it is reported too (R694). -/
def State.validSync (s : State) (p id : Nat) (o : Int) : State :=
  let s := s.reportTimeout p
  let s := s.setPtp p { s.ptp p with lastSync := some s.now, syncId := some id, offset := o, timedOut := false }
  if s.follows p then ((s.moveServo p).noteGm id).judgeOffset o else s

/-- The offset of a Sync: local time less grandmaster time at its ingress timestamp (R664, R672). -/
def State.syncOffset (s : State) (p stamp origin : Nat) (correction : Int) : Int :=
  let ingress := (stamp : Int) - s.get (Obj.RX_LATENCY + p)
  nsUnits (ingress - (origin : Int) - s.get (Obj.LINK_DELAY + p)) - correction * 256

/-- GPTP_SYNC_RECEIVE: a one-step Sync gives its offset; a two-step one waits for its Follow_Up (R671). -/
def execGptpSyncReceive (port : Fin 2) (msg : GptpSync) (s : State) : Host.Outcome State Fault Refusal :=
  if s.ptpTakes port msg.domain && s.asCapable port then
    match s.syncIdentity port msg.source with
    | some id =>
      if msg.twoStep then .next (s.setPtp port { s.ptp port with waiting := some msg })
      else .next (s.validSync port id (s.syncOffset port msg.stamp msg.origin msg.correction))
    | none => .next s
  else .next s

/-- GPTP_FOLLOW_UP_RECEIVE: the Follow_Up of the waiting Sync completes it (R671). -/
def execGptpFollowUpReceive (port : Fin 2) (msg : GptpFollowUp) (s : State) : Host.Outcome State Fault Refusal :=
  match (s.ptp port).waiting, s.syncIdentity port msg.source with
  | some w, some id =>
    if s.ptpTakes port msg.domain && w.source == msg.source && w.seq == msg.seq then
      let s := s.setPtp port { s.ptp port with waiting := none }
      .next (s.validSync port id (s.syncOffset port w.stamp msg.origin (w.correction + msg.correction)))
    else .next s
  | _, _ => .next s

/-! ### Messages sent -/

/-- The header of a PTP message (IEEE 802.1AS-2020): majorSdoId and type, length, domain, flags, correction, sequence, log interval. -/
def State.ptpHeader (s : State) (p sdo domain type length flags : Nat) (correction : Int) (seq : Nat) (log : Int) : List Byte :=
  beBytes 1 (sdo * 16 + type) ++ [0x12] ++ beBytes 2 length ++ beBytes 1 domain ++ [0] ++ beBytes 2 flags ++
    beBytes 8 (unsigned 64 correction) ++ fill 4 0 ++ beBytes 8 s.clockIdentity ++ beBytes 2 (p + 1) ++ beBytes 2 seq ++ [0] ++
    beBytes 1 (unsigned 8 log)

/-- A time in ns as a PTP timestamp: 6 bytes of seconds and 4 of nanoseconds. -/
def ptpTime (ns : Nat) : List Byte := beBytes 6 (ns / 1000000000) ++ beBytes 4 (ns % 1000000000)

/-- A gPTP message leaves a port. -/
def State.sendPtp (s : State) (p : Nat) (bytes : List Byte) : State :=
  s.transmit p ⟨ethPort p, .gptp, 0x0180C200000E, 0, bytes, noHead⟩

/-- An egress timestamp: the stamp plus TX_LATENCY (R672). -/
def State.egress (s : State) (p stamp : Nat) : Nat := stamp + s.getN (Obj.TX_LATENCY + p)

/-- As grandmaster, a Sync is due on a port (R671). -/
def State.syncDue (s : State) (p : Nat) : Bool :=
  s.ptpOn p && s.isGrandmaster && s.asCapable p && reached s.now (s.ptp p).syncTxAt (logSec (s.ptp p).logSync)

/-- A Pdelay_Resp that waits leaves. -/
def State.sendPdelayResp (s : State) (p : Nat) : State :=
  match (s.ptp p).response with
  | some bytes => (s.setPtp p { s.ptp p with response := none }).sendPtp p bytes
  | none => s

/-- The Pdelay_Resp of both ports that wait leave as the core cycle ends (R701). -/
def State.sendPdelayResps (s : State) : State := (s.sendPdelayResp 0).sendPdelayResp 1

/-- GPTP_PDELAY_REQ_RECEIVE: the one-step answer carries the turnaround in its correction and a requestReceiptTimestamp of 0
(R673), and mirrors the sender's port and service (R671). With a Sync due on the port in the same cycle the Sync leaves first (R701). -/
def execGptpPdelayReqReceive (port : Fin 2) (msg : GptpPdelayReq) (s : State) : Host.Outcome State Fault Refusal :=
  if s.pdelayTakes port msg.domain then
    let turn := (s.egress port msg.egress : Int) - ((msg.stamp : Int) - s.get (Obj.RX_LATENCY + port))
    let bytes := s.ptpHeader port msg.sdo msg.domain 3 54 0 (turn * 65536) msg.seq 127 ++ fill 10 0 ++ beBytes 8 msg.source ++
      beBytes 2 msg.port
    if s.syncDue port then .next (s.setPtp port { s.ptp port with response := some bytes }) else .next (s.sendPtp port bytes)
  else .next s

/-- The mean link delay in ns from the four times, in units of 2^-16 ns (R671). -/
def linkDelay (t1 t4 turn : Int) : Int := ((t4 - t1) - turn) / 2 / 65536

/-- The port's mean link delay is measured. -/
def State.setDelay (s : State) (p : Nat) (d : Int) : State :=
  let s := s.setPtp p { s.ptp p with delayKnown := true, pdelayT2 := none }
  s.set (Obj.LINK_DELAY + p) (clampInt 0 0xFFFFFFFF d)

/-- GPTP_PDELAY_RESP_RECEIVE (R671): a one-step answer and a Follow_Up give the delay; a two-step answer waits. -/
def execGptpPdelayRespReceive (port : Fin 2) (msg : GptpPdelayResp) (s : State) : Host.Outcome State Fault Refusal :=
  let x := s.ptp port
  let t4 := ((msg.stamp : Int) - s.get (Obj.RX_LATENCY + port)) * 65536
  if s.pdelayTakes port msg.domain && msg.seq == x.pdelaySeq then
    match msg.form with
    | .oneStep => .next (s.setDelay port (linkDelay x.pdelayT1 t4 msg.correction))
    | .twoStep r => .next (s.setPtp port { x with pdelayT2 := some ((r : Int) * 65536 + msg.correction, t4) })
    | .followUp o =>
      match x.pdelayT2 with
      | some (t2, t4') => .next (s.setDelay port (linkDelay x.pdelayT1 t4' ((o : Int) * 65536 + msg.correction - t2)))
      | none => .next s
  else .next s

/-- GPTP_PDELAY_REQ_TRANSMIT: each pdelay interval, by the common mean link delay service: majorSdoId 2 and domain 0 (R671; PRESUMED, log
entry 25). -/
def execGptpPdelayReqTransmit (port : Fin 2) (stamp : Nat) (s : State) : Host.Outcome State Fault Refusal :=
  let x := s.ptp port
  if s.ptpOn port && reached s.now x.pdelayTxAt (logSec x.logPdelay) then
    let seq := (x.pdelaySeq + 1) % 65536
    let s := s.setPtp port { x with
      pdelaySeq := seq, pdelayT1 := (s.egress port stamp : Int) * 65536, pdelayT2 := none, pdelayTxAt := s.now }
    .next (s.sendPtp port (s.ptpHeader port 2 0 2 54 0 0 seq x.logPdelay ++ fill 20 0))
  else .next s

/-- GPTP_SYNC_TRANSMIT: as grandmaster, a one-step Sync with the egress timestamp as originTimestamp (R673). -/
def execGptpSyncTransmit (port : Fin 2) (stamp : Nat) (s : State) : Host.Outcome State Fault Refusal :=
  let x := s.ptp port
  if s.syncDue port then
    let seq := (x.syncSeq + 1) % 65536
    let s := s.setPtp port { x with syncSeq := seq, syncTxAt := s.now }
    .next ((s.sendPtp port (s.ptpHeader port 1 (s.getN Obj.GPTP_DOMAIN) 0 44 0 0 seq x.logSync ++ ptpTime (s.egress port stamp))).sendPdelayResp port)
  else .next s

/-- GPTP_ANNOUNCE_TRANSMIT: as grandmaster, each announce interval (R671). -/
def execGptpAnnounceTransmit (port : Fin 2) (s : State) : Host.Outcome State Fault Refusal :=
  let x := s.ptp port
  if s.ptpOn port && s.isGrandmaster && s.asCapable port && reached s.now x.announceTxAt (logSec x.logAnnounce) then
    let seq := (x.announceSeq + 1) % 65536
    let v := s.ownVector
    let s := s.setPtp port { x with announceSeq := seq, announceTxAt := s.now }
    .next (s.sendPtp port (s.ptpHeader port 1 (s.getN Obj.GPTP_DOMAIN) 11 64 0 0 seq x.logAnnounce ++ fill 13 0 ++ beBytes 1 v.priority1 ++
      beBytes 1 v.class_ ++ beBytes 1 v.accuracy ++ beBytes 2 v.variance ++ beBytes 1 v.priority2 ++ beBytes 8 v.identity ++
      beBytes 2 0 ++ [0xA0]))
  else .next s

/-- An Announce replaces what its port holds: a message of the same sender, or a better one. -/
def GptpPort.betters (x : GptpPort) (a : GptpAnnounce) : Bool :=
  match x.announce with
  | some b => a.source == b.source || lexLe (gmFields a.vector) (gmFields b.vector)
  | none => true

/-- GPTP_ANNOUNCE_RECEIVE (R671): one of the device's own identity, or 255 steps away, is ignored. -/
def execGptpAnnounceReceive (port : Fin 2) (msg : GptpAnnounce) (s : State) : Host.Outcome State Fault Refusal :=
  let x := s.ptp port
  if s.ptpTakes port msg.domain && s.asCapable port && !s.getB Obj.GPTP_EXT_CONFIG && msg.source != s.clockIdentity &&
      decide (msg.vector.steps < 255) && x.betters msg then
    .next ((s.setPtp port { x with announce := some msg, announceAt := s.now }).selectGm)
  else .next s

/-- A message interval as a Signaling message asks for it: 126 the initial value, -128 no change, 127 no more messages (2^127 s); others
within the object's range. -/
def askInterval (ask current initial lo hi : Int) : Int :=
  if ask = -128 then current else if ask = 126 then initial else if ask = 127 then 127 else clampInt lo hi ask

/-- GPTP_SIGNALING_RECEIVE (R671). -/
def execGptpSignalingReceive (port : Fin 2) (msg : GptpSignaling) (s : State) : Host.Outcome State Fault Refusal :=
  let x := s.ptp port
  if s.ptpTakes port msg.domain then
    .next (s.setPtp port { x with
      logPdelay := askInterval msg.pdelay x.logPdelay (s.get Obj.LOG_PDELAY_INTERVAL) (-3) 3
      logSync := askInterval msg.sync x.logSync (s.get Obj.LOG_SYNC_INTERVAL) (-5) 1
      logAnnounce := askInterval msg.announce x.logAnnounce (s.get Obj.LOG_ANNOUNCE_INTERVAL) (-3) 3 })
  else .next s

/-! ### Timeouts -/

/-- The sync timeout of the servo's port has passed since the later of the last valid Sync and the entry into LOCKING. -/
def State.servoTimedOut (s : State) : Bool :=
  let last := (s.ptp s.time.servoPort).lastSync.getD 0
  s.get Obj.TIME_SOURCE == 0 && s.steered && reached s.now (max last s.time.lockingAt) s.syncTimeout

/-- The other port has valid Syncs of the same grandmaster identity (R674). -/
def State.otherPort (s : State) (p : Nat) : Bool :=
  s.hasSync (1 - p) && (s.ptp (1 - p)).syncId == some (s.getN Obj.GM_IDENTITY)

/-- SYNC_TIMEOUT (R674, R676): event 0x124 for the port; the servo moves to the other port, or the clock to HOLDOVER. -/
def execSyncTimeout (port : Fin 2) (s : State) : Host.Outcome State Fault Refusal :=
  if !s.running then .next s else
  let s := s.reportTimeout port
  if s.time.servoPort = port ∧ !s.hasSync port then
    if s.otherPort port then .next (s.moveServo (1 - port))
    else if s.servoTimedOut then .next ({ s with time := { s.time with timeoutAt := some s.now } }.enterHoldover 0)
    else .next s
  else .next s

/-- ANNOUNCE_RECEIPT_TIMEOUT: 3 × 2^LOG_ANNOUNCE_INTERVAL s (R676); what the port announced is given up. -/
def execAnnounceReceiptTimeout (port : Fin 2) (s : State) : Host.Outcome State Fault Refusal :=
  let x := s.ptp port
  if x.announce.isSome && reached s.now x.announceAt (3 * logSec (s.get Obj.LOG_ANNOUNCE_INTERVAL)) then
    .next ((s.setPtp port { x with announce := none }).selectGm)
  else .next s

/-- Since when HOST_TIMEOUT counts: the later of the last write and the entry into LOCKING (R664); where nothing is steered, of the last write
and reset release (DESIGN CHOICE, log entry 27). -/
def State.hostSince (s : State) : Time :=
  max (max s.time.writeAt s.reset_.releasedAt) (if s.steered then s.time.lockingAt else 0)

/-- HOST_TIMEOUT passes without a CLOCK_INCREMENT write under TIME_SOURCE 1: event 0x12B once (R692), and HOLDOVER from LOCKING and LOCKED
(R664). -/
def execHostTimeout (s : State) : Host.Outcome State Fault Refusal :=
  if s.running && s.get Obj.TIME_SOURCE == 1 && reached s.now s.hostSince (ms (s.getN Obj.HOST_TIMEOUT)) then
    let t := if s.time.hostLate then s else ({ s with time := { s.time with hostLate := true } }).raise 0x12B 0
    .next (if s.steered then t.enterHoldover 1 else t)
  else .next s

/-- What XTAL_AGEING learns from the mean increment over a time (R669): round((1 − m / 2^24) × 10^9). -/
def learnedAgeing (sum cycles : Nat) : Int :=
  divRound (((16777216 * cycles : Nat) : Int) * 1000000000 - (sum : Int) * 1000000000) ((16777216 * cycles : Nat) : Int)

/-- XTAL_LEARNED: an hour spent continuously in LOCKED under TIME_SOURCE 0 ends (R669). A figure outside the object's range has
no stated result: it is a free value within the range. -/
def execXtalLearned (s : State) : Host.Outcome State Fault Refusal :=
  if s.getB Obj.XTAL_LEARN && s.synced && s.get Obj.TIME_SOURCE == 0 && reached s.now s.time.hourAt hour then
    let s := s.markHour
    let a := learnedAgeing s.time.hourSum (s.now - s.time.hourAt)
    let p := s.draw
    let inRange := decide (-50000 ≤ a) && decide (a ≤ 50000)
    let f := bif inRange then a else ((p.1 % 100001 : Nat) : Int) - 50000
    let s := bif inRange then s else p.2
    .next ((s.newHour.set Obj.XTAL_AGEING f).raise 0x12A 0)
  else .next s

/-! ### Objects -/

/-- A PTP port starts anew; its last valid Sync still counts for the timeouts (R677). -/
def State.restartPort (s : State) (p : Nat) : State :=
  let x := s.ptp p
  s.setPtp p { GptpPort.init s.now with
    lastSync := x.lastSync, syncId := x.syncId, offset := x.offset, timedOut := x.timedOut, pdelaySeq := x.pdelaySeq
    logSync := s.get Obj.LOG_SYNC_INTERVAL, logPdelay := s.get Obj.LOG_PDELAY_INTERVAL
    logAnnounce := s.get Obj.LOG_ANNOUNCE_INTERVAL }

/-- The objects of 0x2A60 to 0x2A6B (R677). -/
def gptpKey (k : Nat) : Bool := decide (0x2A60 ≤ k / 256) && decide (k / 256 ≤ 0x2A6B)

/-- gPTP restarts on the ports that an object concerns (R677). -/
def State.restartGptp (s : State) (k : Nat) : State :=
  if k / 256 = Obj.TX_LATENCY / 256 then s.restartPort (k - Obj.TX_LATENCY)
  else if k / 256 = Obj.RX_LATENCY / 256 then s.restartPort (k - Obj.RX_LATENCY)
  else ((s.restartPort 0).restartPort 1).selectGm

/-- TIME_SET in units of 2^-24 ns. -/
def State.timeSet (s : State) : Nat :=
  let b := s.getBlk Obj.TIME_SET
  (beAt b 0 6 * 1000000000 + beAt b 6 4) * 16777216

/-- What a scalar write of the clock is refused with (R661, R667, R918). -/
def clockCheck (s : State) (k : Nat) (v : Int) : Option Status :=
  if k = Obj.CLOCK_INCREMENT then (if s.get Obj.TIME_SOURCE = 0 then some .state else none)
  else if k = Obj.HOST_LOCKED then
    (if s.get Obj.TIME_SOURCE = 0 then some .state else if v = 1 ∧ !s.steered then some .state else none)
  else if k = Obj.TIME_RESTEP then
    (if s.getN Obj.CLOCK_STATE ≠ 0 ∧ s.getN Obj.CLOCK_STATE ≠ 4 then some .state
     else if v = 1 ∧ !(s.hasSync s.time.servoPort) then some .state else none)
  else none

/-- What a BLOCK write of the clock is refused with: TIME_SET needs ns below 10^9. -/
def clockBlkCheck (k : Nat) (bs : List Byte) : Option Status :=
  if k = Obj.TIME_SET ∧ 1000000000 ≤ beAt bs 6 4 then some .outOfRange else none

/-- A host increment: it is in use in LOCKING, LOCKED and HOLDOVER, and in STEP_PENDING from HOLDOVER (R661, R663). -/
def State.hostIncrement (s : State) (v : Nat) (inUse : Nat) : State :=
  let s := s.set Obj.CLOCK_INCREMENT inUse
  let s := { s with time := { s.time with hostIncrement := some v, hostAt := some s.now, writeAt := s.now, hostLate := false } }
  if s.get Obj.CLOCK_STATE = 0 ∨ (s.get Obj.CLOCK_STATE = 1 ∧ s.time.fromFree) then s else s.setIncrement v

/-- What an accepted scalar write of the clock does, given the old value (R661, R667, R670, R677, R918). -/
def clockApply (s : State) (k : Nat) (old : Int) : State :=
  if k = Obj.CLOCK_INCREMENT then s.hostIncrement (s.getN k) old.toNat
  else if k = Obj.TIME_SOURCE then
    (let t := { s with time := { s.time with writeAt := s.now, hostLate := false } }
     if s.steered then t.enterHoldover old.toNat else t)
  else if k = Obj.HOST_LOCKED then
    (if s.getB k ∧ s.get Obj.CLOCK_STATE = 2 then s.setClock 3
     else if !s.getB k ∧ s.get Obj.CLOCK_STATE = 3 then s.enterHoldover 1 else s)
  else if k = Obj.TIME_RESTEP then
    s.askStep (if s.get k = 1 then .gptp else .timeSet s.timeSet s.time.total)
  else if k = Obj.XTAL_AGEING then (if s.get Obj.CLOCK_STATE = 0 then s.set Obj.CLOCK_INCREMENT s.freeIncrement else s)
  else if gptpKey k then s.restartGptp k
  else s

/-- The clock and gPTP at boot: FREE (R664). -/
def State.startClock (s : State) : State :=
  let s := s.set Obj.CLOCK_INCREMENT s.freeIncrement
  let s := s.setPtp 0 (GptpPort.init s.now)
  let s := s.setPtp 1 (GptpPort.init s.now)
  let s := { s with time := { s.time with servoPort := s.primaryPort } }
  (s.restartPort 0).restartPort 1

end Sys2Proof.Machine
end

