-- ==== Sys2Proof/Machine/Crank.lean ====
section
/-! DEFINITION. The crank (chapter 03): event inputs, axes, freewheel and stall, index and slips, and what a write
to one of its objects checks and does. -/

namespace Sys2Proof.Machine

open Sys2Proof

/-! ### Event inputs -/

/-- An event input. -/
def State.evIn (s : State) (i : Nat) : EvInput := tabGet (fun _ => EvInput.init) s.crank.ev i

/-- Sets an event input. -/
def State.setEvIn (s : State) (i : Nat) (e : EvInput) : State :=
  { s with crank := { s.crank with ev := tabPut (fun _ => EvInput.init) s.crank.ev i e } }

/-- The EV input assigned to a role of an axis: 0 channel A, 1 channel B, 2 index or pickoff (R124). -/
def State.axisInput (s : State) (a r : Nat) : Nat := s.getN (Obj.AXIS_INPUT + 3 * a + r)

/-- The axis's mode uses the role (R123, R124). -/
def State.roleUsed (s : State) (a r : Nat) : Bool :=
  match s.axisMode a with
  | 1 => r == 0 || r == 2 || (r == 1 && s.getN (Obj.ENC_FORMAT + a) == 0)
  | 2 => r == 2
  | _ => false

/-- The input serves the role of the axis. -/
def State.serves (s : State) (a r i : Nat) : Bool := s.roleUsed a r && s.axisInput a r == i

/-- Sets the core of an axis. -/
def State.setCore (s : State) (a : Nat) (c : AxisCore) : State := s.setAxis a { s.axis a with core := c }

/-- An event that carries its axis in PAYLOAD bits [31:24] (R170). -/
def State.axisRaise (s : State) (a e : Nat) : State := s.raise e (a * 2 ^ 24)

/-- A counter of 0x2070 or 0x2071 increments (R169). -/
def State.axisCount (s : State) (a k : Nat) : State := s.count (k + 256 * a)

/-! ### The line (R132 to R137) -/

/-- The position of edge n counted from the qualifying index edge (R132), unwrapped. -/
def AxisCore.edgePos (c : AxisCore) (e : Nat) (n : Int) : Int := c.offset + divRound (n * revTu) e

/-- The sums of a gate: edges, Σt, Σp, Σtp, Σt². -/
def gateSums (g : List GateEdge) : Nat × Int × Int × Int × Int :=
  (g.length, (g.map (·.t)).sum, (g.map (·.p)).sum, (g.map (fun e => e.t * e.p)).sum, (g.map (fun e => e.t * e.t)).sum)

/-- The least-squares speed of a gate as a fraction of tu per 1/1,024 ns: G Σtp − Σt Σp over G Σt² − (Σt)². -/
def gateSlope (g : List GateEdge) : Int × Int :=
  match gateSums g with
  | (n, st, sp, stp, stt) => (n * stp - st * sp, n * stt - st * st)

/-- The magnitude of a speed of num/den tu per 1/1,024 ns lies in SPEED_MIN to SPEED_MAX (R136). -/
def State.speedInRange (s : State) (a : Nat) (num den : Int) : Bool :=
  decide (s.get (Obj.SPEED_MIN + a) * 4294967296 * den ≤ (num.natAbs : Int) * 1024000000000 * 65536) &&
  decide ((num.natAbs : Int) * 1024000000000 * 65536 ≤ s.get (Obj.SPEED_MAX + a) * 4294967296 * den)

/-- The line through the gate with a speed num/den. -/
def AxisCore.withLine (c : AxisCore) (num den : Int) : AxisCore :=
  { c with
    vNum := num, vDen := den.toNat, tSum := (c.gate.map (·.t)).sum, pSum := (c.gate.map (·.p)).sum, n := c.gate.length
    fitted := true, inRange := true }

/-- The line through the newest edge with the speed of the last edge interval alone (R158). -/
def AxisCore.intervalLine (c : AxisCore) (e : Nat) : AxisCore :=
  match c.recent, c.gate with
  | (t0, _) :: (t1, _) :: _, g :: _ =>
    if t1 < t0 then
      { c with vNum := c.dir * revTu, vDen := e * (t0 - t1).toNat, tSum := g.t, pSum := g.p, n := 1, fitted := true }
    else c
  | _, _ => c

/-- The refit after an edge entered the gate; the answer says whether the speed fell outside its range (R136), in
which case the line in use stays. -/
def State.refit (s : State) (a : Nat) (c : AxisCore) : AxisCore × Bool :=
  let c := { c with turned := c.turned && decide (c.gate.length < 4) }
  if c.turned then (c.intervalLine (s.edgesPerRev a), false)
  else
    let v := gateSlope c.gate
    if c.gate.length < 2 ∨ v.2 ≤ 0 then (c, false)
    else if s.speedInRange a v.1 v.2 then (c.withLine v.1 v.2, false)
    else ({ c with inRange := false }, true)

/-- The deviation of the line at an edge from the edge's position, times n × vDen. -/
def AxisCore.deviation (c : AxisCore) (g : GateEdge) : Int :=
  c.pSum * c.vDen + c.vNum * (c.n * g.t - c.tSum) - g.p * (c.n * c.vDen)

/-- The edge's residual exceeds RESID_LIMIT % of the expected interval (R134): |r| |v| against the edge pitch. -/
def State.isOutlier (s : State) (a : Nat) (c : AxisCore) (g : GateEdge) : Bool :=
  c.fitted && c.vNum != 0 &&
    decide ((s.getN (Obj.RESID_LIMIT + a) : Int) * revTu * (c.n * c.vDen) < ((c.deviation g).natAbs : Int) * 100 * s.edgesPerRev a)

/-- The residual is positive: the stamp lies after the time at which the line reaches the edge's position. -/
def AxisCore.lateEdge (c : AxisCore) (g : GateEdge) : Bool := decide (0 < c.deviation g * c.vNum)

/-- The count of the edge that lies nearest a position. -/
def AxisCore.nearestCount (c : AxisCore) (e : Nat) (p : Int) : Int := divRound ((p - c.offset) * e) revTu

/-- The counts move by a correction. -/
def AxisCore.shiftCount (c : AxisCore) (d : Int) : AxisCore :=
  { c with count := c.count + d, recent := c.recent.map (fun x => (x.1, x.2 + d)), high := c.high + d }

/-- The positions of gate, outliers and line move by a correction. -/
def AxisCore.shiftPos (c : AxisCore) (d : Int) : AxisCore :=
  { c with
    gate := c.gate.map (fun g => { g with p := g.p + d })
    outs := c.outs.map (fun g => { g with p := g.p + d })
    pSum := c.pSum + c.n * d }

/-- The multiple of E nearest to a count: the count at which an index is expected (R154). DESIGN CHOICE (log entry 73): a second index
within INDEX_WINDOW of an already qualified one belongs to the same multiple, so it qualifies again. -/
def expectedIndex (e : Nat) (n : Int) : Int := (e : Int) * ((2 * n + e) / (2 * (e : Int)))

/-! ### Freewheel and stall (R145 to R149) -/

/-- Entry into FREEWHEEL (R146). -/
def State.freewheelEntry (s : State) (a : Nat) : State :=
  let x := s.axis a
  let s := s.setAxis a { x with fwAt := s.now, fwHeld := 0, core := { x.core with since := 0 } }
  ((s.axisCount a Obj.FREEWHEEL_ENTRIES).axisRaise a 0x022).setAxisState a .freewheel

/-- Entry into STALL (R148): the position is held at its value, STALLS increments, event 0x024 is raised, and the
scan-stall trip is delivered. -/
def State.enterStall (s : State) (a : Nat) : State :=
  let x := s.axis a
  let c := { AxisCore.init with
    count := x.core.count, recent := x.core.recent, offset := x.core.offset, idxAt := x.core.idxAt, pSum := s.published a }
  let s := s.setAxis a { x with fwHeld := s.freewheelTime a, core := c, floor_ := none }
  (((s.setAxisState a .stall).axisCount a Obj.STALLS).axisRaise a 0x024).trip .scanStall

/-- LOCKED or RELOCK: the states in which edges can be lost (R145). -/
def AxisSt.anchored (x : AxisSt) : Bool := x == .locked || x == .relock

/-- At least 4 expected intervals lie between two stamps: edges are lost there (R145). -/
def AxisCore.lostBetween (c : AxisCore) (e : Nat) (t0 t1 : Int) : Bool :=
  c.fitted && decide (4 * revTu * c.vDen ≤ (t1 - t0) * e * c.vNum.natAbs)

/-- Four expected intervals have passed since the stamp of the last accepted edge (R145). -/
def State.lossDue (s : State) (a : Nat) : Bool :=
  let c := (s.axis a).core
  (s.axis a).st.anchored && c.lostBetween (s.edgesPerRev a) c.lastEdge (1024 * (s.now : Int))

/-- FREEWHEEL_TIME has reached FREEWHEEL_LIMIT, on the exact elapsed time (R148, R152). -/
def State.limitDue (s : State) (a : Nat) : Bool :=
  (s.axis a).st == .freewheel && reached s.now (s.axis a).fwAt (us (s.getN Obj.FREEWHEEL_LIMIT))

/-! ### Index and slips (R153 to R156) -/

/-- Position of count 0 that the next qualified index puts in force (R130, R159). -/
def State.axisOffset (s : State) (a : Nat) : Int :=
  if s.axisMode a = 2 then -(s.get (Obj.PHASE_OFFSET + a)) else s.get (Obj.INDEX_OFFSET + a)

/-- The first qualified index: the count is taken from its qualifying edge n (R153). -/
def State.firstIndex (s : State) (a : Nat) (n : Int) : State :=
  let c := (s.axis a).core
  let e := s.edgesPerRev a
  let d := s.axisOffset a - c.edgePos e n
  let c := { (c.shiftCount (-n)).shiftPos d with offset := s.axisOffset a, idxSeen := true, idxAt := 0, idxPend := none }
  let s := s.setAxis a { s.axis a with core := c, floor_ := none }
  let t := (s.predict a s.nowTaps) / revTu
  s.setAxis a { s.axis a with turn := t, facetAt := s.facetBase a, swing := s.facetBase a }

/-- The slip of a qualified index is reported and moves the axis between LOCKED and RELOCK (R155). -/
def State.reportSlip (s : State) (a : Nat) (k : Int) : State :=
  let s := if k = 0 then s else
    (s.axisCount a Obj.SLIPS).raise 0x026 (a * 2 ^ 24 + unsigned 16 k * 256)
  let small : Bool := decide (k.natAbs ≤ s.getN (Obj.SLIP_LIMIT + a))
  match (s.axis a).st, small with
  | .locked, false => s.setAxisState a .relock
  | .relock, true => s.setAxisState a .locked
  | _, _ => s

/-- An index outside INDEX_WINDOW is ignored (R154). -/
def State.spuriousIndex (s : State) (a : Nat) : State := (s.axisCount a Obj.SPURIOUS_INDEX).axisRaise a 0x028

/-- A later index whose qualifying edge has count m and position p, and stands at n in the axis's own count (R154, R155). -/
def State.laterIndex (s : State) (a : Nat) (n m p : Int) : State :=
  let c := (s.axis a).core
  let e := s.edgesPerRev a
  let x := expectedIndex e m
  if (s.getN (Obj.INDEX_WINDOW + a)) < (m - x).natAbs then
    (s.setCore a { c with idxPend := none }).spuriousIndex a
  else
    let c' := { c with offset := s.axisOffset a }
    let c' := { (c'.shiftCount (x - n)).shiftPos (c'.edgePos e x - p) with idxAt := x, idxPend := none }
    (s.setCore a c').reportSlip a (m - x)

/-- The count of the first edge that the line extrapolates at or after a stamp. -/
def AxisCore.edgeAfter (c : AxisCore) (e : Nat) (stamp : Int) : Int :=
  let x := (c.lineAt stamp - c.offset) * e
  if 0 ≤ c.vNum then -(-x / revTu) else x / revTu

/-- An index whose qualifying edge is lost: it is the edge that the line extrapolates first at or after the index's stamp (R175;
DEDUCED, log entry 73). -/
def State.lostIndex (s : State) (a : Nat) (stamp : Int) : State :=
  let c := (s.axis a).core
  let m := c.edgeAfter (s.edgesPerRev a) stamp
  s.laterIndex a m m (c.edgePos (s.edgesPerRev a) m)

/-- STALL requalifies (R143): the index counts as SEEK's qualified index, and the count is taken from it. -/
def State.stallIndex (s : State) (a : Nat) (n : Int) : State :=
  let c := (s.axis a).core
  let s := s.setCore a { c with gate := [], outs := [], since := 0, even := false, inRange := false, fitted := false }
  (s.firstIndex a n).setAxisState a .seek

/-- An index with its qualifying edge n, accepted at a stamp: in FREEWHEEL the edge is judged by the count and the position that the
line extrapolates at its stamp (R175). -/
def State.qualifyIndex (s : State) (a : Nat) (n : Int) (stamp : Int) : State :=
  let c := (s.axis a).core
  match (s.axis a).st with
  | .off => s
  | .stall => if c.even then s.stallIndex a n else s.setCore a { c with idxPend := none }
  | .freewheel => s.laterIndex a n (c.nearestCount (s.edgesPerRev a) (c.lineAt stamp)) (c.lineAt stamp)
  | _ => if c.idxSeen then s.laterIndex a n n (c.edgePos (s.edgesPerRev a) n) else s.firstIndex a n

/-- A missed index (R156): the count has passed INDEX_WINDOW edges beyond the expected one; not in SEEK, FREEWHEEL
and STALL. -/
def State.missedIndex (s : State) (a : Nat) : State :=
  let c := (s.axis a).core
  let e : Int := s.edgesPerRev a
  let w : Int := s.get (Obj.INDEX_WINDOW + a)
  if (s.axis a).st.anchored && c.idxSeen && c.idxPend.isNone && decide (e + w < ((c.count - c.idxAt).natAbs : Int)) then
    let x := if c.idxAt < c.count then c.idxAt + e else c.idxAt - e
    ((s.setCore a { c with idxAt := x }).axisCount a Obj.MISSED_INDEX).axisRaise a 0x027
  else s

/-! ### Edges -/

/-- A new line is put in use, or a fitted speed outside its range is reported and moves LOCKED or RELOCK to FREEWHEEL
(R136). -/
def State.useFit (s : State) (a : Nat) (c : AxisCore) : State :=
  let r := s.refit a c
  let s := s.setCore a r.1
  if r.2 then
    let s := s.axisRaise a 0x02C
    if (s.axis a).st.anchored then s.freewheelEntry a else s
  else s

/-- The outliers of one sign in a row, with a new one (R135). -/
def AxisCore.outsWith (c : AxisCore) (g : GateEdge) : List GateEdge :=
  if c.outPos == c.lateEdge g then g :: c.outs else [g]

/-- The core with a new edge in the gate, which keeps its last GATE_EDGES edges (R134). -/
def State.gated (s : State) (a : Nat) (c : AxisCore) (g : GateEdge) : AxisCore :=
  { c with gate := (g :: c.gate).take (s.getN (Obj.GATE_EDGES + a)), outs := [], lastEdge := g.t }

/-- The core with the confirming outliers of a speed step after the last edge accepted before them; the gate keeps its last
GATE_EDGES edges (R133, R135). -/
def State.stepped (s : State) (a : Nat) (c : AxisCore) (g : GateEdge) : AxisCore :=
  { c with gate := (c.outsWith g ++ c.gate.take 1).take (s.getN (Obj.GATE_EDGES + a)), outs := [], lastEdge := g.t }

/-- The outlier confirms a speed step: STEP_CONFIRM of one sign in a row (R135). -/
def State.confirms (s : State) (a : Nat) (c : AxisCore) (g : GateEdge) : Bool :=
  decide (s.getN (Obj.STEP_CONFIRM + a) ≤ (c.outsWith g).length)

/-- An outlier (R134); STEP_CONFIRM of one sign in a row are a speed step (R135). -/
def State.outlierEdge (s : State) (a : Nat) (g : GateEdge) : State :=
  let c := (s.axis a).core
  let s := (s.axisCount a Obj.OUTLIERS).axisRaise a 0x02A
  if s.confirms a c g then ((s.axisCount a Obj.SPEED_STEPS).axisRaise a 0x025).useFit a (s.stepped a c g)
  else s.setCore a { c with outs := c.outsWith g, outPos := c.lateEdge g }

/-- An edge is tested against the line in use and enters the gate (R134). DESIGN CHOICE (log entry 73): the one-interval line of R158
counts as the line, so an outlier against it leaves the older interval in use. -/
def State.gateEdge (s : State) (a : Nat) (g : GateEdge) : State :=
  let c := (s.axis a).core
  if s.isOutlier a c g then s.outlierEdge a g else s.useFit a (s.gated a c g)

/-- The fit that the edge would bring about lies outside its range (R136). -/
def State.edgeUnfit (s : State) (a : Nat) (c : AxisCore) (g : GateEdge) : Bool :=
  if s.isOutlier a c g then s.confirms a c g && (s.refit a (s.stepped a c g)).2 else (s.refit a (s.gated a c g)).2

/-- The last 4 edges since entry into the state have three intervals within RESID_LIMIT % of their mean (R147). -/
def State.fourEven (s : State) (a : Nat) (c : AxisCore) : Bool :=
  match c.recent with
  | (t3, _) :: (t2, _) :: (t1, _) :: (t0, _) :: _ =>
    let even := fun (d : Int) => decide (((3 * d - (t3 - t0)).natAbs : Int) * 100 ≤ s.get (Obj.RESID_LIMIT + a) * (t3 - t0))
    decide (4 ≤ c.since) && decide (t0 < t3) && even (t1 - t0) && even (t2 - t1) && even (t3 - t2)
  | _ => false

/-- The latest multiple of E that cannot be missed any more as missed indices begin to count: the last that has qualified, or the last
whose window the count has passed already (R156). -/
def AxisCore.lastExpected (c : AxisCore) (e w : Nat) : Int :=
  if c.dir < 0 then min c.idxAt (-((e : Int) * ((-c.count - w - 1) / (e : Int))))
  else max c.idxAt ((e : Int) * ((c.count - w - 1) / (e : Int)))

/-- The 4 edges of the resume condition, re-counted so that the first lies nearest the extrapolated position (R147). -/
def AxisCore.resumed (c : AxisCore) (e w : Nat) : AxisCore :=
  let r4 := c.recent.take 4
  match r4.getLast? with
  | none => c
  | some (t0, n0) =>
    let c' := c.shiftCount (c.nearestCount e (c.lineAt t0) - n0)
    { c' with
      gate := (c'.recent.take 4).map (fun x => ⟨x.1, c'.edgePos e x.2⟩), outs := [], high := c'.count
      idxAt := c'.lastExpected e w }

/-- An edge in FREEWHEEL: when the resume condition is met the axis enters RELOCK (R147). -/
def State.resumeEdge (s : State) (a : Nat) (stamp : Int) : State :=
  let c := (s.axis a).core
  if s.fourEven a c then
    let c' := c.resumed (s.edgesPerRev a) (s.getN (Obj.INDEX_WINDOW + a))
    let v := gateSlope c'.gate
    if 0 < v.2 ∧ s.speedInRange a v.1 v.2 then
      let s := s.setAxis a { s.axis a with fwHeld := s.freewheelTime a, core := { c'.withLine v.1 v.2 with lastEdge := stamp } }
      (s.axisRaise a 0x023).setAxisState a .relock
    else s
  else s

/-- An edge is taken by the axis in its state. -/
def State.edgeByState (s : State) (a : Nat) (stamp : Int) : State :=
  let c := (s.axis a).core
  match (s.axis a).st with
  | .off => s
  | .freewheel => s.resumeEdge a stamp
  | .stall => if s.fourEven a c then s.setCore a { c with even := true } else s
  | _ => s.gateEdge a ⟨stamp, c.edgePos (s.edgesPerRev a) c.count⟩

/-- SEEK becomes LOCKED (R143): a qualified index has been seen, the gate holds GATE_EDGES edges and the speed is in
range. Missed indices count from here on (R156). -/
def State.lockCheck (s : State) (a : Nat) : State :=
  let c := (s.axis a).core
  if (s.axis a).st == .seek && c.idxSeen && c.inRange && decide (s.getN (Obj.GATE_EDGES + a) ≤ c.gate.length) then
    let last := c.lastExpected (s.edgesPerRev a) (s.getN (Obj.INDEX_WINDOW + a))
    (s.setCore a { c with high := c.count, idxAt := last }).setAxisState a .locked
  else s

/-- The cue axis in ENCODER mode has fallen 2 edges below its highest count (R157). -/
def State.reversed (s : State) (a : Nat) : Bool :=
  a == s.cueAxis && s.axisMode a == 1 && (s.axis a).st.fires && decide ((s.axis a).core.count + 2 ≤ (s.axis a).core.high)

/-- A reversal enters STALL and raises event 0x031 (R157). -/
def State.reversalCheck (s : State) (a : Nat) : State :=
  if s.reversed a then (s.axisRaise a 0x031).enterStall a else s

/-- The span of look-ahead positions that forward corrections of one core cycle step over (R139, R212): the cycle, the span's begin and
its end. -/
def stepTo (old : Option (Time × Int × Int)) (now : Time) (l0 l1 : Int) : Time × Int × Int :=
  match old with
  | some (t, b, e) => if t = now then (now, min b l0, max e l1) else (now, l0, l1)
  | none => (now, l0, l1)

/-- Forward and backward corrections of the position of the cue axis and of a VIRTUAL axis (R139, R164): a lower prediction leaves the
published position where it was; a higher one is one step. -/
def State.noteCorrection (old s : State) (a : Nat) : State :=
  if s.monotone a && (old.axis a).st.fires && (s.axis a).st.fires then
    let p0 := old.published a
    let l0 := old.lookAhead a
    let l1 := s.lookAhead a
    let s := if s.predict a s.nowTaps < p0 then s.setAxis a { s.axis a with floor_ := some p0 } else s
    if l0 < l1 then s.setAxis a { s.axis a with step_ := some (stepTo (s.axis a).step_ s.now l0 l1) } else s
  else s

/-- As a core cycle ends, the published position of a firing axis whose line falls stays where it is (R139). -/
def State.holdPosition (old s : State) (a : Nat) : State :=
  if s.monotone a && (s.axis a).st.fires && decide (s.predict a s.nowTaps < old.published a) then
    s.setAxis a { s.axis a with floor_ := some (old.published a) }
  else s

/-- The linearised position of a RESONANT axis A, which swings, is followed cycle by cycle (R129, R160). -/
def State.followSwing (s : State) : State :=
  if s.axisMode 0 = 2 then s.setAxis 0 { s.axis 0 with swing := s.facetPos } else s

/-- A change of counting direction on a secondary encoder axis empties the gate (R158). -/
def State.turnCheck (s : State) (a : Nat) (d : Int) : State :=
  let c := (s.axis a).core
  if a != s.cueAxis && s.axisMode a == 1 && decide (c.dir * d < 0) then
    s.setCore a { c with gate := [], outs := [], turned := true, fitted := false }
  else s

/-- The edge is counted. DESIGN CHOICE (log entry 73): the highest count of R157 is kept on both axes, so an axis that becomes the cue
axis is judged against the highest count it reached before. -/
def AxisCore.counted (c : AxisCore) (stamp d : Int) : AxisCore :=
  { c with
    count := c.count + d, recent := ((stamp, c.count + d) :: c.recent).take 8, since := c.since + 1
    high := if c.high < c.count + d then c.count + d else c.high, dir := d }

/-- An index waits for its qualifying edge, the first quadrature edge at or after its stamp (R153, R179). -/
def State.indexAtEdge (s : State) (a : Nat) (stamp : Int) : State :=
  let c := (s.axis a).core
  match c.idxPend with
  | some t =>
    if stamp < t then s
    else if (s.axis a).st == .freewheel && c.lostBetween (s.edgesPerRev a) t stamp then s.lostIndex a t
    else s.qualifyIndex a c.count stamp
  | none => s

/-- The next edge, counted by d from the present count. -/
def State.nextEdge (s : State) (a : Nat) (stamp d : Int) : GateEdge :=
  ⟨stamp, (s.axis a).core.edgePos (s.edgesPerRev a) ((s.axis a).core.count + d)⟩

/-- The axis has entered FREEWHEEL in this core cycle for a loss of edges, and no edge has come since (R171). -/
def State.lossNow (s : State) (a : Nat) : Bool :=
  let x := s.axis a
  x.st == .freewheel && x.fwAt == s.now && x.core.since == 0 &&
    x.core.lostBetween (s.edgesPerRev a) x.core.lastEdge (1024 * (s.now : Int))

/-- Loss and limit come before an edge of the same cycle (R171, R174). A fit that this edge would take out of range is reported
beside the loss (R177). -/
def State.dueFirst (s : State) (a : Nat) (stamp d : Int) : State :=
  let unfit := s.edgeUnfit a (s.axis a).core (s.nextEdge a stamp d)
  if s.lossDue a then
    let s := s.freewheelEntry a
    if unfit then s.axisRaise a 0x02C else s
  else if s.lossNow a && unfit then s.axisRaise a 0x02C
  else if s.limitDue a then s.enterStall a
  else s

/-- An accepted edge of an axis that counts by d (R132 to R158). -/
def State.axisEdge (s : State) (a : Nat) (stamp d : Int) : State :=
  let s := s.dueFirst a stamp d
  let s1 := (s.turnCheck a d).setCore a ((s.turnCheck a d).axis a |>.core.counted stamp d)
  let s2 := (s1.indexAtEdge a stamp).edgeByState a stamp
  let s3 := ((s2.lockCheck a).missedIndex a).reversalCheck a
  State.noteCorrection s s3 a

/-- The count that a transition of one channel gives (R132): in QUAD by the A/B state, in SINGLE every rising edge of A. -/
def countStep (single isB level a b : Bool) : Int :=
  if single then (if !isB && level then 1 else 0)
  else if isB then (if level == a then 1 else -1)
  else (if level != b then 1 else -1)

/-- The level of a channel as the decoder holds it. -/
def Axis.withLevel (x : Axis) (isB level : Bool) : Axis := if isB then { x with chB := level } else { x with chA := level }

/-- The core cycle of a stamp. -/
def ChannelEdge.cycle (e : ChannelEdge) : Int := e.stamp / 1024

/-- A and B transitions with stamps in one core cycle (R133): an illegal transition, which changes no count and moves LOCKED to
RELOCK. -/
def State.illegalTransition (s : State) (a : Nat) (e f : ChannelEdge) : State :=
  let x := s.axis a
  let s := s.setAxis a ((x.withLevel e.isB e.level).withLevel f.isB f.level)
  let s := (s.axisCount a Obj.ILLEGAL_TRANSITIONS).axisRaise a 0x029
  if (s.axis a).st = .locked then s.setAxisState a .relock else s

/-- A channel transition reaches the decoder, in the order of the stamps (R132, R133). -/
def State.channelEdge (s : State) (a : Nat) (e : ChannelEdge) : State :=
  let x := s.axis a
  let d := countStep (s.getN (Obj.ENC_FORMAT + a) == 1) e.isB e.level x.chA x.chB
  let s := s.setAxis a (x.withLevel e.isB e.level)
  if d = 0 then s else s.axisEdge a e.stamp d

/-- The edge waits while a transition of the other channel in its core cycle or before may still be accepted: the other channel is
filtering such a change, or the cycle is not over (R133; DEDUCED, log entry 73). -/
def State.channelWaits (s : State) (a : Nat) (e : ChannelEdge) : Bool :=
  let other := s.axisInput a (if e.isB then 0 else 1)
  s.roleUsed a 1 && (decide ((s.now : Int) ≤ e.cycle) ||
    match (s.evIn other).pend with
    | some (_, t, _) => decide ((s.evStamp other t : Int) / 1024 ≤ e.cycle)
    | none => false)

/-- The edges of both channels in one core cycle are taken as a pair, any other edge alone. -/
def State.channelEdges (s : State) (a : Nat) : List ChannelEdge → State
  | e :: f :: q =>
    if s.roleUsed a 1 && e.isB != f.isB && e.cycle == f.cycle then (s.illegalTransition a e f).channelEdges a q
    else (s.channelEdge a e).channelEdges a (f :: q)
  | [e] => s.channelEdge a e
  | [] => s

/-- Waiting channel edges that no earlier change of the other channel precedes reach the decoder. -/
def State.releaseChannels (s : State) (a : Nat) : State :=
  let q := (s.axis a).queue
  let go := q.takeWhile (fun e => !s.channelWaits a e)
  (s.setAxis a { s.axis a with queue := q.drop go.length }).channelEdges a go

/-- What waited for the end of the last core cycle reaches the decoders. -/
def State.releaseHeld (s : State) : State :=
  if (s.axis 0).queue.isEmpty && (s.axis 1).queue.isEmpty then s else (s.releaseChannels 0).releaseChannels 1

/-- An accepted edge of channel A or B. -/
def State.axisChannel (s : State) (a : Nat) (isB level : Bool) (stamp : Int) : State :=
  let x := s.axis a
  (s.setAxis a { x with queue := insertBy (fun e f => decide (e.stamp < f.stamp)) ⟨isB, level, stamp⟩ x.queue }).releaseChannels a

/-- A rising edge of the index input of an ENCODER axis: its qualifying edge is the first quadrature edge at or after
its stamp, which may have been taken already (R153, R179). In FREEWHEEL, once edges are lost, the index is judged on its arrival by the
edge that the line extrapolates there (R175; DEDUCED, log entry 73). -/
def State.indexEdge (s : State) (a : Nat) (stamp : Int) : State :=
  let c := (s.axis a).core
  match (c.recent.filter (fun x => decide (stamp ≤ x.1))).getLast? with
  | some (t, n) => State.noteCorrection s ((s.qualifyIndex a n t).lockCheck a) a
  | none =>
    let newest := (c.recent.head?.map (·.1)).getD c.lastEdge
    if (s.axis a).st == .freewheel && c.lostBetween (s.edgesPerRev a) newest stamp then State.noteCorrection s (s.lostIndex a stamp) a
    else s.setCore a { c with idxPend := some stamp }

/-- A rising edge of the pickoff of a RESONANT axis: an edge that is its own index (R143, R159). -/
def State.pickoffEdge (s : State) (a : Nat) (stamp : Int) : State :=
  (s.setCore a { (s.axis a).core with idxPend := some stamp }).axisEdge a stamp 1

/-- An accepted edge of an input goes to the roles it serves on an axis. -/
def State.axisInputEdge (s : State) (a i : Nat) (level : Bool) (stamp : Int) : State :=
  let s := if s.serves a 0 i then s.axisChannel a false level stamp else s
  let s := if s.serves a 1 i then s.axisChannel a true level stamp else s
  if s.serves a 2 i && level then (if s.axisMode a = 2 then s.pickoffEdge a stamp else s.indexEdge a stamp) else s

/-- The frequency gate counts a rising edge (R166). DESIGN CHOICE (log entry 73): an edge that its filter delivers after a gate's end
belongs to the gate in which it is delivered, whatever its stamp. -/
def EvInput.metered (e : EvInput) (level : Bool) (stamp : Nat) : EvInput :=
  if level then { e with edges := e.edges + 1, first := if e.edges = 0 then stamp else e.first, latest := stamp } else e

/-- The gap of the input's bank is running (R121). -/
def State.inGap (s : State) (i : Nat) : Bool :=
  match (if i < 8 then s.crank.gap0 else s.crank.gap1) with
  | some t => decide (s.now < t)
  | none => false

/-- The level of a channel follows silently when no edge is delivered (R121, R917). -/
def State.silentLevel (s : State) (a i : Nat) (level : Bool) : State :=
  let s := if s.serves a 0 i then s.setAxis a ((s.axis a).withLevel false level) else s
  if s.serves a 1 i then s.setAxis a ((s.axis a).withLevel true level) else s

/-- The scan monitor sees the rising edges of its input (R316). -/
def State.scanMonitorEdge (s : State) (i : Nat) (level : Bool) : State :=
  if level && s.getN Obj.SCAN_MONITOR_INPUT == i then
    { s with safety := { s.safety with scanEdge := s.now, scanSeen := true } }
  else s

/-- The edge is closer than 4 ns to the previous accepted edge of the input (R120). -/
def EvInput.tooClose (e : EvInput) (stamp : Nat) : Bool :=
  match e.last with
  | some t => decide (stamp < t + 4096)
  | none => false

/-- An accepted edge is delivered: the meter, the scan monitor and the axes see it (R118 to R121). DESIGN CHOICE (log entry 73): after an
edge dropped under R120 the level of its channel follows without a count. -/
def State.deliverEdge (s : State) (i : Nat) (level : Bool) (stamp : Nat) : State :=
  let e := s.evIn i
  let s := s.scanMonitorEdge i level
  if e.tooClose stamp then
    ((s.silentLevel 0 i level).silentLevel 1 i level |>.count (Obj.EV_DROPS + i)).raise 0x02B 0
  else
    let s := s.setEvIn i ({ e with last := some stamp }.metered level stamp)
    (s.axisInputEdge 0 i level stamp).axisInputEdge 1 i level stamp

/-- A run of the stamp TDC of an event input takes an accepted edge as a hit, at its tap code and coarse phase, until it holds 2^20 (R593,
R594). -/
def CalRun.hit (r : CalRun) (t : Nat) : CalRun :=
  if 2 ^ 20 ≤ (r.taps.map (·.2)).sum then r
  else { r with
    taps := tabUpd (fun _ => 0) r.taps (63 - t % 64) (· + 1), phases := tabUpd (fun _ => 0) r.phases (t % 64 / 8) (· + 1) }

/-- The accepted edges of an event input are the hits of its stamp TDC (R593). -/
def State.countEvHit (s : State) (i t : Nat) : State :=
  if s.cal.runs.isEmpty then s
  else { s with cal := { s.cal with runs := s.cal.runs.map (fun r => if r.unit_ == 288 + i && !r.waits then r.hit t else r) } }

/-- A level change that has held for its filter time is accepted: EV_STATE follows it, and the edge takes its stamp (R119, R131). -/
def State.acceptEdge (s : State) (i : Nat) (level : Bool) (t : Nat) : State :=
  let s := s.countEvHit i t
  let s := s.setEvIn i { s.evIn i with filt := level, pend := none }
  if s.inGap i then
    ((s.silentLevel 0 i level).silentLevel 1 i level).releaseChannels 0 |>.releaseChannels 1
  else (s.deliverEdge i level (s.evStamp i t)).releaseChannels 0 |>.releaseChannels 1

/-- The level of an input after EV_INVERT changes, at an instant in taps (R118, R122): a return to the filtered level discards
the pulse. -/
def State.levelChange (s : State) (i : Nat) (level : Bool) (stamp : Nat) : State :=
  let e := s.evIn i
  if level == e.filt then
    (s.setEvIn i { e with pend := none }).releaseChannels 0 |>.releaseChannels 1
  else match e.pend with
    | some _ => s
    | none => s.setEvIn i { e with pend := some (level, stamp, s.getN (Obj.EV_FILTER + i)) }

/-- A level change before the event inputs start: only the safety island's own copy of the filter sees it (R316). -/
def State.monitorLevel (s : State) (i : Nat) (level : Bool) (stamp : Nat) : State :=
  let e := s.evIn i
  if level == e.filt then s.setEvIn i { e with pend := none }
  else match e.pend with
    | some _ => s
    | none => s.setEvIn i { e with pend := some (level, stamp, s.getN (Obj.EV_FILTER + i)) }

/-- EV_RAW_TRANSITION: the level at a ball changes at a tap of the present core cycle (R118). Before the inputs start only the
level at the ball and the safety island's copy of the filter follow it (R316, R917). -/
def execEvRawTransition (input : Fin 16) (level : Bool) (tap : Fin 64) (s : State) : Host.Outcome State Fault Refusal :=
  let s := s.setEvIn input { s.evIn input with ball := level }
  let x := level != s.getB (Obj.EV_INVERT + input)
  if s.running then .next (s.levelChange input x (64 * s.now + tap))
  else if s.reset_.phase = .held then .next s
  else .next (s.monitorLevel input x (64 * s.now + tap))

/-- The safety island's copy of the filter accepts a level before the event inputs start. -/
def State.monitorAccept (s : State) (i : Nat) (level : Bool) : State :=
  (s.setEvIn i { s.evIn i with filt := level, pend := none }).scanMonitorEdge i level

/-- EV_EDGE_ACCEPTED: the level change has held for the filter time that judges it (R118, R181). -/
def execEvEdgeAccepted (input : Fin 16) (s : State) : Host.Outcome State Fault Refusal :=
  match (s.evIn input).pend with
  | some (level, stamp, filter) =>
    if stamp + 64 * filter ≤ 64 * s.now + 63 then
      .next (if s.running then s.acceptEdge input level stamp else s.monitorAccept input level)
    else .next s
  | none => .next s

/-- EV_BANK_GAP_END: the 1 µs gap ends without delivering an edge (R121). -/
def execEvBankGapEnd (bank : Fin 2) (s : State) : Host.Outcome State Fault Refusal :=
  if s.inGap (8 * bank) then .next s
  else if bank = 0 then .next { s with crank := { s.crank with gap0 := none } }
  else .next { s with crank := { s.crank with gap1 := none } }

/-- FREEWHEEL_ENTRY: four expected intervals have passed without an accepted edge (R145). -/
def execFreewheelEntry (axis : Fin 2) (s : State) : Host.Outcome State Fault Refusal :=
  if s.lossDue axis then .next (s.freewheelEntry axis) else .next s

/-- FREEWHEEL_LIMIT_REACHED: the axis enters STALL (R148). -/
def execFreewheelLimitReached (axis : Fin 2) (s : State) : Host.Outcome State Fault Refusal :=
  if s.limitDue axis then .next (s.enterStall axis) else .next s

/-- The frequency of a gate in µHz, truncated (R166): n − 1 intervals between the first and the last stamp. -/
def EvInput.frequency (e : EvInput) : Nat :=
  if e.edges < 2 ∨ e.latest ≤ e.first then 0 else (e.edges - 1) * 1024000000000000000 / (e.latest - e.first)

/-- EV_FREQ_GATE_END: EV_FREQ takes the gate's result, and the next gate runs at EV_FREQ_GATE (R167, R168). -/
def execEvFreqGateEnd (input : Fin 16) (s : State) : Host.Outcome State Fault Refusal :=
  let e := s.evIn input
  if s.running && reached s.now e.gateAt (ms e.gateMs) then
    let s := s.set (Obj.EV_FREQ + input) e.frequency
    let s := s.setEvIn input { e with
      gateAt := e.gateAt + ms e.gateMs, gateMs := s.getN (Obj.EV_FREQ_GATE + input), edges := 0, first := 0, latest := 0 }
    .next (if e.edges < 2 then s.raise 0x02E 0 else s)
  else .next s

/-! ### Configuration -/

/-- The axis restarts (R125, R143): count, gate, fit, index history, held speed and FREEWHEEL_TIME are cleared. -/
def State.restartAxis (s : State) (a : Nat) : State :=
  let x := s.axis a
  let lvl := fun r => (s.evIn (s.axisInput a r)).filt
  let s := s.setAxis a { x with
    core := { AxisCore.init with offset := s.axisOffset a }, queue := []
    chA := lvl 0, chB := lvl 1, floor_ := none, step_ := none, fwHeld := 0
    vPeriod := s.getN Obj.VIRTUAL_PERIOD, vPhase := s.getN Obj.VIRTUAL_PHASE }
  let p := s.predict a s.nowTaps
  let s := s.setAxis a { s.axis a with turn := p / revTu, vTurn := p / revTu, facetAt := s.facetBase a, swing := s.facetBase a }
  match s.axisMode a with
  | 0 => s.setAxisState a .off
  | 3 => s.setAxisState a .locked
  | _ => s.setAxisState a .seek

/-- The axis is in ENCODER or RESONANT mode. -/
def State.axisCounts (s : State) (a : Nat) : Bool := s.axisMode a == 1 || s.axisMode a == 2

/-- SPEED_MAX × E would exceed 20,000,000 edges/s (R126). -/
def State.tooFast (s : State) (a : Nat) : Bool :=
  decide (20000000 * 65536 < s.get (Obj.SPEED_MAX + a) * s.edgesPerRev a)

/-- ENC_LINES lies in the range of its format (object table). -/
def State.linesInRange (s : State) (a : Nat) : Bool :=
  s.getN (Obj.ENC_FORMAT + a) == 1 || decide (s.getN (Obj.ENC_LINES + a) ≤ 262144)

/-- Two roles of AXIS_INPUT hold one EV input (R124); 0xFF is none. -/
def State.inputTwice (s : State) : Bool :=
  (List.range 6).any (fun i => (List.range 6).any (fun j => decide (i < j) &&
    s.getN (Obj.AXIS_INPUT + i) == s.getN (Obj.AXIS_INPUT + j) && s.getN (Obj.AXIS_INPUT + i) != 0xFF))

/-- CUE_AXIS names an axis that is OFF; modes 1 to 3 are accepted (R128). -/
def State.cueAxisUnusable (s : State) : Bool := s.axisMode s.cueAxis == 0

/-- The checks of a crank write, on the state with the new value in place (R90, R124, R126, R128, R149, R165 and the
conditional ranges of the object tables). -/
def State.crankValueBad (s : State) (k : Nat) : Bool :=
  let a := k % 256 - 1
  if k / 256 = Obj.AXIS_MODE / 256 then s.tooFast a || (a == 1 && s.axisMode 1 == 3)
  else if k / 256 = Obj.ENC_LINES / 256 then s.tooFast a || !s.linesInRange a
  else if k / 256 = Obj.ENC_FORMAT / 256 then
    s.tooFast a || !s.linesInRange a || (s.getN (Obj.ENC_FORMAT + a) == 0 && s.getN (Obj.GATE_EDGES + a) % 4 != 0)
  else if k / 256 = Obj.GATE_EDGES / 256 then s.getN (Obj.ENC_FORMAT + a) == 0 && s.getN k % 4 != 0
  else if k / 256 = Obj.SPEED_MAX / 256 then s.tooFast a || decide (s.get k < s.get (Obj.SPEED_MIN + a))
  else if k / 256 = Obj.SPEED_MIN / 256 then decide (s.get (Obj.SPEED_MAX + a) < s.get k)
  else if k / 256 = Obj.AXIS_INPUT / 256 then
    s.inputTwice || (decide (16 ≤ s.getN k) && s.getN k != 0xFF)
  else if k = Obj.CUE_AXIS then s.cueAxisUnusable
  else if k = Obj.FREEWHEEL_LIMIT then decide (s.getN Obj.FREEWHEEL_CEILING < s.getN k)
  else if k = Obj.VIRTUAL_PERIOD ∨ k = Obj.VIRTUAL_PHASE then decide (s.getN Obj.VIRTUAL_PERIOD ≤ s.getN Obj.VIRTUAL_PHASE)
  else false

/-- The objects that R125 lets be written only while the sequencer is stopped and no take is in flight. -/
def axisConfigKey (k : Nat) : Bool :=
  [Obj.AXIS_MODE, Obj.ENC_LINES, Obj.ENC_FORMAT, Obj.AXIS_INPUT, Obj.CUE_AXIS, Obj.FACETS, Obj.FACET_OFFSET].any
    (fun x => x / 256 == k / 256)

/-- What a crank write is refused with. -/
def crankCheck (s : State) (k : Nat) (v : Int) : Option Status :=
  if (s.set k v).crankValueBad k then some .outOfRange
  else if axisConfigKey k && !s.seqIdle then some .state
  else none

/-- The axis that an AXIS_MODE, ENC_LINES, ENC_FORMAT or AXIS_INPUT key belongs to. -/
def configAxis (k : Nat) : Nat :=
  if k / 256 = Obj.AXIS_INPUT / 256 then (if k % 256 ≤ 3 then 0 else 1) else k % 256 - 1

/-- A changed value of a configuration object restarts its axis (R125, R143). -/
def State.configApply (s : State) (k : Nat) : State :=
  let a := configAxis k
  if k / 256 = Obj.AXIS_MODE / 256 then s.restartAxis a
  else if (k / 256 = Obj.ENC_LINES / 256 ∨ k / 256 = Obj.ENC_FORMAT / 256 ∨ k / 256 = Obj.AXIS_INPUT / 256) ∧ s.axisCounts a then
    s.restartAxis a
  else s

/-- What an accepted scalar write of a crank object does besides storing the value, given the old value. A cue axis that becomes VIRTUAL
may lose the scan condition (R300, R316). -/
def crankApply (s : State) (k : Nat) (old : Int) : State :=
  if axisConfigKey k then (if s.get k = old then s else (s.configApply k).recheck)
  else if k = Obj.EV_BANK_LEVEL then { s with crank := { s.crank with gap0 := some (s.now + us 1) } }
  else if k = Obj.EV_BANK_LEVEL + 1 then { s with crank := { s.crank with gap1 := some (s.now + us 1) } }
  else if k = Obj.FREEWHEEL_LIMIT then
    let s := if s.limitDue 0 then s.enterStall 0 else s
    if s.limitDue 1 then s.enterStall 1 else s
  else if k / 256 = Obj.EV_INVERT / 256 ∧ s.get k ≠ old then
    let i := k % 256
    s.levelChange i ((s.evIn i).ball != s.getB k) (64 * s.now)
  else s

/-- A write to LIN_TABLE waits for the next pass of the phase through 0 (R162). -/
def crankBlkApply (s : State) (k : Nat) : State :=
  if k / 256 = Obj.LIN_TABLE / 256 then
    let a := k % 256 - 1
    s.setAxis a { s.axis a with linPending := some (s.getBlk k) }
  else s

/-- The event inputs and the axes start at boot (R917, R143). -/
def State.startCrank (s : State) : State :=
  let s := (List.range 16).foldl (fun s i =>
    let lvl := (s.evIn i).ball != s.getB (Obj.EV_INVERT + i)
    s.setEvIn i { EvInput.init with
      ball := (s.evIn i).ball, filt := lvl, gateAt := s.now, gateMs := s.getN (Obj.EV_FREQ_GATE + i) }) s
  let s := (List.range 2).foldl (fun s a =>
    s.setAxis a { Axis.init with lin := s.getBlk (Obj.LIN_TABLE + a) }) s
  (s.restartAxis 0).restartAxis 1

end Sys2Proof.Machine
end

