-- ==== Sys2Proof/Machine/Island.lean ====
section
/-! DEFINITION. The safety island's commands (R297 to R330), and what a write to one of its objects checks and does
(R332 to R338). -/

namespace Sys2Proof.Machine

open Sys2Proof

/-! ### Self-test and arming -/

/-- The self-test has passed within 5 ms of reset release (R298). -/
def State.selfTestInTime (s : State) : Bool := decide (s.now ≤ s.reset_.releasedAt + ms 5)

/-- SAFETY_SELF_TEST_DONE: a failure locks out with SELF_TEST (R298, R299), and so does a pass that comes later than 5 ms after reset
release (DEDUCED, log entry 76). INIT ends in INHIBITED once a bootable image has started. -/
def execSafetySelfTestDone (passed : Bool) (s : State) : Host.Outcome State Fault Refusal :=
  if s.safety.state == .init && s.reset_.phase != .held then
    if passed && s.selfTestInTime then
      let s := { s with safety := { s.safety with selfTestPassed := true } }
      .next (if s.reset_.phase == .firmware || s.reset_.phase == .running then s.setSafetyState .inhibited else s)
    else .next (s.trip .selfTest)
  else .next s

/-- ARMING_START: every arming condition holds in INHIBITED (R300): SUPPLY_EN_A and SUPPLY_EN_B go high. -/
def execArmingStart (s : State) : Host.Outcome State Fault Refusal :=
  if s.safety.state == .inhibited && s.armingConditions then
    let s := { s with safety := { s.safety with armingAt := s.now, passedA := false, passedB := false } }
    .next (((s.setSafetyState .arming).setEnA true).setEnB true)
  else .next s

/-- REARM_HOLD_ELAPSED: REARM_HOLD has passed since reset release (R300). -/
def execRearmHoldElapsed (s : State) : Host.Outcome State Fault Refusal :=
  if s.reset_.phase != .held && reached s.now s.reset_.releasedAt (ms (s.getN Obj.REARM_HOLD)) then
    .next { s with safety := { s.safety with holdDone := true } }
  else .next s

/-! ### Off-pulse tests (R324, R325) -/

/-- SUPPLY_FB_DELAY in core cycles. -/
def State.fbDelay (s : State) : Nat := us (s.getN Obj.SUPPLY_FB_DELAY)

/-- OFFTEST_PERIOD in core cycles. -/
def State.offPeriod (s : State) : Nat := sec (s.getN Obj.OFFTEST_PERIOD)

/-- The test of an output is due: in ARMING A first and then B, in ARMED at the scheduled times (R324). -/
def State.offTestDue (s : State) (out : Nat) : Bool :=
  s.safety.offTest.isNone &&
  match s.safety.state with
  | .arming =>
    if out = 0 then !s.safety.passedA && reached s.now s.safety.armingAt s.fbDelay
    else s.safety.passedA && !s.safety.passedB
  | .armed => decide ((if out = 0 then s.safety.nextA else s.safety.nextB) ≤ s.now)
  | _ => false

/-- SUPPLY_FB of an output. -/
def State.fb (s : State) (out : Nat) : Bool := if out = 0 then s.safety.fbA else s.safety.fbB

/-- Drives the supply enable of an output. -/
def State.setEn (s : State) (out : Nat) (x : Bool) : State := if out = 0 then s.setEnA x else s.setEnB x

/-- In ARMED the next test of the output is scheduled one period on (R324). -/
def State.scheduleNext (s : State) (out : Nat) : State :=
  if s.safety.state != .armed then s
  else if out = 0 then { s with safety := { s.safety with nextA := s.safety.nextA + s.offPeriod } }
  else { s with safety := { s.safety with nextB := s.safety.nextB + s.offPeriod } }

/-- OFFTEST_START: one EN output goes low for OFFTEST_PULSE (R324). -/
def execOfftestStart (out : Fin 2) (s : State) : Host.Outcome State Fault Refusal :=
  if s.offTestDue out then
    let s := (s.scheduleNext out).setEn out false
    .next { s with safety := { s.safety with offTest := some ⟨out, s.now, none, true, !s.fb out, false⟩ } }
  else .next s

/-- OFFTEST_EN_RISE: at the end of OFFTEST_PULSE the tested output goes high again (R324). -/
def execOfftestEnRise (s : State) : Host.Outcome State Fault Refusal :=
  match s.safety.offTest with
  | some t =>
    if t.roseAt.isNone && reached s.now t.startAt (us (s.getN Obj.OFFTEST_PULSE)) then
      let s := s.setEn t.out true
      .next { s with safety := { s.safety with
        offTest := some { t with roseAt := some s.now, good := t.good && t.fbFell } } }
    else .next s
  | none => .next s

/-- The gate opens on entry into ARMED (R302); the tests are scheduled from there (R324). -/
def State.enterArmed (s : State) : State :=
  let s := { s with safety := { s.safety with
    nextA := s.now + s.offPeriod, nextB := s.now + s.offPeriod + s.offPeriod / 2 } }
  s.setSafetyState .armed

/-- A passed test (R324): passing B in ARMING enters ARMED. -/
def State.offTestPass (s : State) (out : Nat) : State :=
  let s := { s with safety := { s.safety with offTest := none } }
  let s := s.count Obj.OFFTEST_PASSES
  if s.safety.state == .arming then
    if out = 0 then { s with safety := { s.safety with passedA := true } }
    else ({ s with safety := { s.safety with passedB := true } }).enterArmed
  else s

/-- The test has judged the departure of FB, which R322 then does not judge again (DEDUCED, log entry 68). -/
def State.judged (s : State) (out : Nat) : State :=
  if out = 0 then { s with safety := { s.safety with offTest := none, fbDiffA := none } }
  else { s with safety := { s.safety with offTest := none, fbDiffB := none } }

/-- A failed test is a trip (R324). -/
def State.offTestFail (s : State) (out : Nat) : State :=
  ((s.judged out).raise 0x00E 0).trip (if out = 0 then .offtestA else .offtestB)

/-- OFFTEST_CHECK: the end of the readback interval after the falling edge, where a failure shows already, and of the one after the
rising edge (R324). -/
def execOfftestCheck (s : State) : Host.Outcome State Fault Refusal :=
  match s.safety.offTest with
  | some t =>
    match t.roseAt with
    | some r =>
      if reached s.now r s.fbDelay then
        .next (if t.good && t.fbRose then s.offTestPass t.out else s.offTestFail t.out)
      else .next s
    | none => .next (if reached s.now t.startAt s.fbDelay && !(t.good && t.fbFell) then s.offTestFail t.out else s)
  | none => .next s

/-- What a change of FB says about a test in progress: low within SUPPLY_FB_DELAY of the falling edge and low until EN
rises; high within SUPPLY_FB_DELAY of the rising edge (R324). A departure after that is judged by R322. -/
def OffTest.saw (t : OffTest) (level : Bool) (now fbDelay : Nat) : OffTest :=
  match t.roseAt with
  | none =>
    if level then { t with good := t.good && !t.fbFell }
    else { t with fbFell := true, good := t.good && decide (now ≤ t.startAt + fbDelay) }
  | some r => { t with fbRose := t.fbRose || (level && decide (now ≤ r + fbDelay)) }

/-- SUPPLY_FB of an output changes after its filter (R322). -/
def State.setFb (s : State) (out : Nat) (level : Bool) : State :=
  if out = 0 then
    { s with safety := { s.safety with
      fbA := level, fbDiffA := if level = s.safety.enA then none else some (s.safety.fbDiffA.getD s.now) } }
  else
    { s with safety := { s.safety with
      fbB := level, fbDiffB := if level = s.safety.enB then none else some (s.safety.fbDiffB.getD s.now) } }

/-- SUPPLY_FB_CHANGE: an FB input changes level after its 2-sample filter (R322). -/
def execSupplyFbChange (out : Fin 2) (level : Bool) (s : State) : Host.Outcome State Fault Refusal :=
  if s.fb out = level then .next s
  else
    let s := s.setFb out level
    match s.safety.offTest with
    | some t =>
      if t.out = out then
        .next { s with safety := { s.safety with offTest := some (t.saw level s.now s.fbDelay) } }
      else .next s
    | none => .next s

/-- The output is under an off-pulse test, whose own rule judges FB (R324). -/
def State.underTest (s : State) (out : Nat) : Bool :=
  match s.safety.offTest with
  | some t => t.out == out
  | none => false

/-- FB has differed from EN for SUPPLY_FB_DELAY without a break (R322). -/
def State.readbackDue (s : State) (out : Nat) : Bool :=
  match (if out = 0 then s.safety.fbDiffA else s.safety.fbDiffB) with
  | some t => reached s.now t s.fbDelay && !s.underTest out && !s.isShadow && s.reset_.phase != .held
  | none => false

/-- SUPPLY_READBACK: an FB input that fails R322 is a trip (R323). -/
def execSupplyReadback (out : Fin 2) (s : State) : Host.Outcome State Fault Refusal :=
  if s.readbackDue out then
    let s := if out = 0 then { s with safety := { s.safety with fbDiffA := none } }
      else { s with safety := { s.safety with fbDiffB := none } }
    .next ((s.raise 0x00D 0).trip (if out = 0 then .supplyReadbackA else .supplyReadbackB))
  else .next s

/-! ### Detectors -/

/-- GATE_LEAK: a rising edge on a TRIG or ROW ball (0 to 63), or an asserted CHAIN_LAT (64), with the gate closed
(R303). -/
def execGateLeak (ball : Fin 65) (s : State) : Host.Outcome State Fault Refusal :=
  if s.gateOpen || s.reset_.phase == .held || s.isShadow || ball.val > 64 then .next s else .next (s.trip .gateLeak)

/-- OVER_ENERGY: an integrator's output reaches OE_THRESHOLD of its input, in every state (R307). -/
def execOverEnergy (_input : Fin 2) (_integrator : Fin 2) (s : State) : Host.Outcome State Fault Refusal :=
  if s.reset_.phase == .held then .next s
  else .next ((({ s with safety := { s.safety with oeAt := some s.now } }).raise 0x004 0).trip .overEnergy)

/-- SCAN_MONITOR: no rising edge for SCAN_EDGE_TIMEOUT (R316); one trip for each silence. -/
def execScanMonitor (s : State) : Host.Outcome State Fault Refusal :=
  let quiet := match s.safety.scanTrip with | some t => decide (s.safety.scanEdge ≤ t) | none => false
  if s.reset_.phase != .held && s.getB Obj.SCAN_REQUIRED && !quiet && reached s.now s.safety.scanEdge (us (s.getN Obj.SCAN_EDGE_TIMEOUT)) then
    .next ((({ s with safety := { s.safety with scanTrip := some s.now } }).raise 0x009 0).trip .scanMonitor)
  else .next s

/-! ### Dual-channel inputs (R317 to R320) -/

/-- The requesting level of a channel: in an antivalent pair, B low (R317). -/
def State.channelOn (s : State) (channel : Nat) (level : Bool) : Bool :=
  if channel % 2 = 1 && natBit (s.getN Obj.SAFE_IN_POLARITY) (channel / 2) then !level else level

/-- A channel of a pair takes an accepted level. -/
def SafePair.accept (p : SafePair) (now : Time) (isB on : Bool) : SafePair :=
  if isB then p.update now p.a on p.seenA true else p.update now on p.b true p.seenB

/-- A pair of inputs: 0 EMIT_REQ, 1 ILK. -/
def State.inputPair (s : State) (p : Nat) : SafePair := if p = 0 then s.safety.req else s.safety.ilk

/-- Sets a pair of inputs. -/
def State.setInputPair (s : State) (p : Nat) (x : SafePair) : State :=
  if p = 0 then { s with safety := { s.safety with req := x } } else { s with safety := { s.safety with ilk := x } }

/-- The channels of a pair have disagreed for DISCREPANCY_TIME, and the count has not been a trip yet (R320). -/
def State.discrepancyDue (s : State) (p : Nat) : Bool :=
  match (s.inputPair p).differSince with
  | some t => reached s.now t (ms (s.getN (Obj.DISCREPANCY_TIME + p))) && !(s.inputPair p).judged &&
      !(p == 0 && s.getN Obj.EMIT_REQ_SOURCE == 1)
  | none => false

/-- At T ticks of disagreement the count is a trip, once for each disagreement (R320). -/
def State.judgeDiscrepancy (s : State) (p : Nat) : State :=
  if s.discrepancyDue p then
    ((s.setInputPair p { s.inputPair p with judged := true }).raise 0x00A 0).trip
      (if p = 0 then .emitReqDiscrepancy else .ilkDiscrepancy)
  else s

/-- A pair of inputs takes a new state: event 0x00B or 0x00C, and the stop that its loss is (R300, R342). The EMIT_REQ pair is no request
while the safe commands carry it (R319). -/
def State.takePair (s : State) (p : Nat) (x : SafePair) : State :=
  if p = 0 ∧ s.getN Obj.EMIT_REQ_SOURCE = 1 then s.setInputPair p x
  else (s.setInputPair p x).pairChanged (s.inputPair p).on x.on (0x00B + p)

/-- A channel of a pair has an accepted level. A disagreement that has lasted T ticks is a trip, also when the level ends it in the same
tick (R344, R345). -/
def State.acceptInput (s : State) (p : Nat) (isB on : Bool) : State :=
  let s := s.judgeDiscrepancy p
  s.takePair p ((s.inputPair p).accept s.now isB on)

/-- SAFE_INPUT_ACCEPT: a channel (0, 1 EMIT_REQ_A, B; 2, 3 ILK_A, B) has held a new level for SAFE_IN_FILTER ticks
(R317). With EMIT_REQ_SOURCE 1 the EMIT_REQ balls are not sampled (R319). -/
def execSafeInputAccept (channel : Fin 4) (level : Bool) (s : State) : Host.Outcome State Fault Refusal :=
  if s.reset_.phase == .held then .next s
  else if channel.val < 2 && s.getN Obj.EMIT_REQ_SOURCE == 1 then .next s
  else .next (s.acceptInput (channel.val / 2) (channel.val % 2 == 1) (s.channelOn channel level))

/-- A cause stands in LOCKOUT_CAUSE. -/
def State.causeSet (s : State) (c : Cause) : Bool := natBit (s.getN Obj.LOCKOUT_CAUSE) c.bit

/-- INPUT_DISCREPANCY (R320). -/
def execInputDiscrepancy (pair : Fin 2) (s : State) : Host.Outcome State Fault Refusal := .next (s.judgeDiscrepancy pair)

/-! ### Safe messages (R326 to R330) -/

/-- The SAFETY_STATUS bits of byte 5 of SAFE_STATUS (R326). -/
def State.statusByte (s : State) : Nat :=
  128 * b2n s.gateOpen + 64 * b2n s.safety.enA + 32 * b2n s.safety.enB + 16 * b2n s.safety.fbA + 8 * b2n s.safety.fbB +
    2 * s.getN Obj.SEAL_STATE

/-- A safe message with its CRC (R326). -/
def withCrc (bs : List Byte) : List Byte := bs ++ beBytes 4 (crc32 bs)

/-- The SAFE_STATUS message (R326). -/
def State.safeStatus (s : State) : List Byte :=
  withCrc (beBytes 2 (s.getN Obj.SAFE_DATA_ID) ++ [0x01] ++ beBytes 1 s.safety.statusCounter ++
    beBytes 1 s.safety.state.code ++ beBytes 1 s.statusByte ++ beBytes 4 (s.getN Obj.LOCKOUT_CAUSE) ++ beBytes 2 s.time.sec)

/-- A copy of a safe message leaves on a bearer: 0 CAN XL, 1 E0, 2 E1. -/
def State.sendSafe (s : State) (net : Nat) (m : List Byte) : State :=
  if net = 0 then s.sendCan (s.getN Obj.SAFE_CAN_STATUS_ID) .safeStatus m
  else s.sendUdp (net - 1) (beNat (s.getBlk Obj.SAFE_DEST_IP)) (s.getN Obj.SAFE_UDP_PORT) .safeStatus m

/-- SAFE_STATUS_SEND: every SAFE_MSG_PERIOD, and after every change of SAFETY_STATE (R327); a SHADOW and a PAIRING device
send none (R789). Both copies carry one COUNTER. -/
def execSafeStatusSend (s : State) : Host.Outcome State Fault Refusal :=
  if s.running && !s.isShadow && (s.safety.statusDue || reached s.now s.safety.statusAt (ms (s.getN Obj.SAFE_MSG_PERIOD))) then
    let m := s.safeStatus
    let s := (s.sendSafe (s.safeNet false) m).sendSafe (s.safeNet true) m
    .next { s with safety := { s.safety with
      statusDue := false, statusAt := s.now, statusCounter := (s.safety.statusCounter + 1) % 256 } }
  else .next s

/-- Sets what the copies of a bearer of SAFE_NETS have left. -/
def State.setSafeBearer (s : State) (b : Nat) (x : SafeBearer) : State :=
  match s.safeNet (b != 0) with
  | 0 => { s with safety := { s.safety with copyCan := x } }
  | 1 => { s with safety := { s.safety with copyE0 := x } }
  | _ => { s with safety := { s.safety with copyE1 := x } }

/-- The counter differs from the last valid one by 1 to 15, modulo 256, or it is the first copy (R328, R691). -/
def counterOk (last : Option Nat) (c : Nat) : Bool :=
  match last with
  | none => true
  | some l => let d := (c + 256 - l) % 256; decide (1 ≤ d ∧ d ≤ 15)

/-- A SAFE_CMD copy is valid (R328). -/
def State.safeCmdValid (s : State) (b : Nat) (d : List Byte) : Bool :=
  d.length == 16 && beAt d 12 4 == crc32 (d.take 12) && beAt d 0 2 == (s.getN Obj.SAFE_DATA_ID + 1) % 65536 &&
    beAt d 2 1 == 2 && (beAt d 4 1 == 0x00 || beAt d 4 1 == 0xA5) && beAt d 5 7 == 0 &&
    counterOk (s.safeBearer b).counter (beAt d 3 1)

/-- The copy of a bearer permits: its last COMMAND is PERMIT and it has not aged. -/
def SafeBearer.permits (x : SafeBearer) : Bool := x.permit == some true && !x.aged

/-- The request that the two bearers carry with EMIT_REQ_SOURCE 1 (R319). -/
def State.cmdPair (s : State) : State :=
  if s.getN Obj.EMIT_REQ_SOURCE = 1 then
    let p := s.safety.cmd.update s.now (s.safeBearer 0).permits (s.safeBearer 1).permits true true
    let was := s.safety.cmd.on
    ({ s with safety := { s.safety with cmd := p } }).pairChanged was p.on 0x00B
  else s.recheck

/-- The bearers' last COMMANDs disagree. -/
def State.commandsDiffer (s : State) : Bool :=
  match (s.safeBearer 0).permit, (s.safeBearer 1).permit with
  | some a, some b => a != b
  | _, _ => false

/-- A disagreement of the COMMANDs begins, with event 0x011, or ends (R330). -/
def State.noteDisagreement (s : State) : State :=
  match s.commandsDiffer, s.safety.cmdDiffer with
  | true, none => ({ s with safety := { s.safety with cmdDiffer := some s.now } }).raise 0x011 0
  | false, some _ => { s with safety := { s.safety with cmdDiffer := none, cmdJudged := false } }
  | _, _ => s

/-- The bearers' last COMMANDs have disagreed for DISCREPANCY_TIME: a trip, once for each disagreement (R330). -/
def State.judgeCommands (s : State) : State :=
  match s.safety.cmdDiffer with
  | some t =>
    if reached s.now t (ms (s.getN Obj.DISCREPANCY_TIME)) && !s.safety.cmdJudged then
      ({ s with safety := { s.safety with cmdJudged := true } }).trip .safeMsgDiscrepancy
    else s
  | none => s

/-- SAFE_CMD_RECEIVE: a copy is checked and, if valid, updates its bearer's command and freshness (R328, R329). -/
def execSafeCmdReceive (bearer : Fin 2) (data : List Byte) (s : State) : Host.Outcome State Fault Refusal :=
  if s.reset_.phase == .held then .next s
  else if s.safeCmdValid bearer data then
    let s := s.judgeCommands
    let s := s.setSafeBearer bearer ⟨some (beAt data 4 1 == 0xA5), some (beAt data 3 1), s.now, false⟩
    .next s.noteDisagreement.cmdPair
  else .next ((s.count (Obj.SAFE_MSG_INVALID + bearer)).raise 0x012 0)

/-- SAFE_MSG_TIMEOUT: a bearer's copy ages beyond SAFE_CMD_TIMEOUT (R329). -/
def execSafeMsgTimeout (bearer : Fin 2) (s : State) : Host.Outcome State Fault Refusal :=
  let b := s.safeBearer bearer
  if b.permit.isSome && !b.aged && reached s.now b.validAt (ms (s.getN Obj.SAFE_CMD_TIMEOUT)) then
    .next (((s.setSafeBearer bearer { b with aged := true }).raise 0x010 0).cmdPair)
  else .next s

/-- SAFE_MSG_DISCREPANCY (R330). -/
def execSafeMsgDiscrepancy (s : State) : Host.Outcome State Fault Refusal := .next s.judgeCommands

/-! ### Objects -/

/-- An off-pulse is in progress: EN of a tested output is low (R324). -/
def State.offPulse (s : State) : Bool := s.safety.offTest.any (fun t => t.roseAt.isNone)

/-- SAFETY_STATUS (R338's field map). NET_PERMIT is the permit of R329, which both bearers carry, whether or not it is required. -/
def State.safetyStatus (s : State) : Nat :=
  let p := if s.getN Obj.EMIT_REQ_SOURCE = 1 then s.safety.cmd else s.safety.req
  2 ^ 23 * b2n s.gateOpen + 2 ^ 22 * b2n s.safety.enA + 2 ^ 21 * b2n s.safety.enB + 2 ^ 20 * b2n s.safety.fbA +
    2 ^ 19 * b2n s.safety.fbB + 2 ^ 18 * b2n p.a + 2 ^ 17 * b2n p.b + 2 ^ 16 * b2n s.safety.ilk.a +
    2 ^ 15 * b2n s.safety.ilk.b + 2 ^ 14 * b2n s.netPermit + 2 ^ 13 * b2n s.safety.holdDone +
    2 ^ 12 * b2n s.safety.auditOk + 2 ^ 11 * b2n s.scanOk + 2 ^ 10 * b2n s.offPulse

/-- Both EMIT_REQ channels are off, or both bearers stand at STOP or have aged (R338). -/
def State.requestOff (s : State) : Bool :=
  if s.getN Obj.EMIT_REQ_SOURCE = 1 then
    ((s.safeBearer 0).permit == some false && (s.safeBearer 1).permit == some false) ||
      ((s.safeBearer 0).aged && (s.safeBearer 1).aged)
  else !s.safety.req.a && !s.safety.req.b

/-- The condition of a soft cause is still present (R919). -/
def State.causePresent (s : State) : Cause → Bool
  | .overEnergy => match s.safety.oeAt with | some t => decide (s.now < t + 257) | none => false
  | .accountLimit => s.sumAtLimit
  | .scanStall => (s.axis 0).st == .stall || (s.axis 1).st == .stall
  | .scanMonitor => s.getB Obj.SCAN_REQUIRED &&
      (match s.safety.scanTrip with | some t => !s.safety.scanSeen || decide (s.safety.scanEdge ≤ t) | none => false)
  | .emitReqDiscrepancy => s.safety.req.a != s.safety.req.b
  | .ilkDiscrepancy => s.safety.ilk.a != s.safety.ilk.b
  | .safeMsgDiscrepancy => s.commandsDiffer
  | _ => false

/-- The causes of R337 in bit order. -/
def allCauses : List Cause :=
  [.overEnergy, .accountLimit, .auditMismatch, .auditOverrun, .scanStall, .scanMonitor, .emitReqDiscrepancy,
   .ilkDiscrepancy, .supplyReadbackA, .supplyReadbackB, .offtestA, .offtestB, .safeMsgDiscrepancy, .chainFault,
   .clockFault, .lockstep, .safetyMemory, .sealIntegrity, .gateLeak, .selfTest, .tripTest]

/-- LOCKOUT_RESET would be accepted (R338). -/
def State.lockoutClearable (s : State) : Bool :=
  s.safety.state == .lockout && s.getN Obj.LOCKOUT_CAUSE &&& hardMask == 0 &&
    allCauses.all (fun c => !(s.causeSet c && s.causePresent c)) && s.requestOff

/-- The accepted LOCKOUT_RESET (R338). -/
def State.clearLockout (s : State) : State :=
  let s := s.set Obj.LOCKOUT_LAST (s.get Obj.LOCKOUT_CAUSE)
  let s := (s.set Obj.LOCKOUT_CAUSE 0).set Obj.LOCKOUT_FIRST 0xFF
  let s := { s with safety := { s.safety with latch := false } }
  (s.raise 0x002 0).setSafetyState .inhibited

/-- The validation of R335, step 2. -/
def State.sealValid (s : State) : Bool :=
  decide (s.getN Obj.SUPPLY_FB_DELAY < s.getN Obj.OFFTEST_PULSE) && decide (s.getN Obj.SAFE_DATA_ID < 65535) &&
    s.get Obj.SAFE_CAN_STATUS_ID != s.get Obj.SAFE_CAN_CMD_ID &&
    (s.getN Obj.EMIT_REQ_SOURCE == 0 || s.getB Obj.SAFE_CMD_REQUIRED)

/-- The failure of a SEAL_COMMIT write, if any (R336): the first in the order KEY, OUT_OF_RANGE, STATE. -/
def State.sealFailure (s : State) (v : Int) : Option Status :=
  if v ≠ s.sealImageCrc then some .key
  else if !s.sealValid then some .outOfRange
  else if s.getN Obj.SEAL_STATE ≠ 1 then some .state
  else none

/-- SEAL_RESULT is set; a code other than 0x00 raises event 0x014 (R336). -/
def State.setSealResult (s : State) (c : Nat) : State :=
  let s := s.set Obj.SEAL_RESULT c
  if c = 0 then s else s.raise 0x014 0

/-- The key is of the sealed set, 0x2380 to 0x23BF (R332). -/
def isSealKey (k : Nat) : Bool := decide (0x238000 ≤ k ∧ k < 0x23C000)

/-- The state lets a sealed object be written (R332). -/
def State.sealWritable (s : State) : Bool := s.safety.state == .inhibited || s.safety.state == .lockout

/-- What a scalar write of the safety island is refused with. -/
def safetyCheck (s : State) (k : Nat) (v : Int) : Option Status :=
  if isSealKey k then (if s.sealWritable then none else some .state)
  else if k = Obj.LOCKOUT_RESET then
    (if v ≠ 0xA5C3 then some .key else if s.lockoutClearable then none else some .state)
  else if k = Obj.TRIP_TEST then (if v ≠ 0x7E57 then some .key else none)
  else if k = Obj.SEAL_COMMIT then s.sealFailure v
  else none

/-- What a BLOCK write of the safety island is refused with: every class of ZONE_CLASS lies in 0 to 15 (R332). -/
def safetyBlkCheck (s : State) (k : Nat) (v : List Byte) : Option Status :=
  if isSealKey k then
    if k = Obj.ZONE_CLASS && v.any (fun b => decide (15 < b.toNat)) then some .outOfRange
    else if s.sealWritable then none else some .state
  else none

/-- What a refused write leaves (R336, R338). -/
def safetyRefused (s : State) (k : Nat) (st : Status) : State :=
  if k = Obj.LOCKOUT_RESET then (if st = .state then s.raise 0x003 0 else s)
  else if k = Obj.SEAL_COMMIT then
    match st with
    | .key => s.setSealResult 0x40
    | .outOfRange => s.setSealResult 0x41
    | .state => s.setSealResult 0x42
    | _ => s
  else s

/-- The island's reference CRC follows each applied write to the working set (R315). -/
def State.sealTouched (s : State) : State := { s with safety := { s.safety with sealRef := s.sealImageCrc } }

/-- A SEAL_COMMIT is accepted (R335): the image waits for the next reset. -/
def State.sealAccepted (s : State) : State :=
  let s := (s.set Obj.SEAL_PENDING 1).setSealResult 0
  { s with reset_ := { s.reset_ with retained := { s.reset_.retained with sealImage := some s.sealImage } } }

/-- SAFE_IN_POLARITY changes for a pair: channel B reads the other way, at the level its filter has accepted (R317). -/
def State.turnPair (s : State) (p : Nat) : State :=
  let x := s.inputPair p
  if x.seenB then s.takePair p (x.update s.now x.a (!x.b) x.seenA true) else s

/-- What a write of SAFE_IN_POLARITY turns, given the old value. -/
def State.turnPairs (s : State) (old : Int) : State :=
  (List.range 2).foldl (fun s p =>
    if natBit old.toNat p == natBit (s.getN Obj.SAFE_IN_POLARITY) p then s else s.turnPair p) s

/-- What a write of EMIT_REQ_SOURCE does, given the old value: the request is taken from the other source (R319, R342). -/
def State.turnSource (s : State) (old : Int) : State :=
  if s.get Obj.EMIT_REQ_SOURCE = old then s
  else
    let was := if old = 0 then s.safety.req.on else s.safety.cmd.on
    let cmd := s.safety.cmd.update s.now (s.safeBearer 0).permits (s.safeBearer 1).permits true true
    let s := if old = 0 then { s with safety := { s.safety with cmd := cmd } } else s
    s.pairChanged was s.requestOn 0x00B

/-- A copy that has aged while its network was no bearer. -/
def State.agedCopy (s : State) (b : SafeBearer) : SafeBearer :=
  { b with aged := b.aged || (b.permit.isSome && reached s.now b.validAt (ms (s.getN Obj.SAFE_CMD_TIMEOUT))) }

/-- What a write of SAFE_NETS does, given the old value: the copies of the networks that it names now are the bearers' (R319, R328 to
R330), and the request and a disagreement are judged on them. DESIGN CHOICE (log entry 76): a network keeps its last valid copy and its
counter while it is no bearer, and a disagreement of the new bearers counts from the write. -/
def State.turnNets (s : State) (old : Int) : State :=
  if s.get Obj.SAFE_NETS = old then s
  else
    let s := { s with safety := { s.safety with
      copyCan := s.agedCopy s.safety.copyCan, copyE0 := s.agedCopy s.safety.copyE0, copyE1 := s.agedCopy s.safety.copyE1
      cmdDiffer := none, cmdJudged := false } }
    s.noteDisagreement.cmdPair

/-- What a write of SCAN_MONITOR_INPUT does, given the old value: no edge of the new input has arrived yet, and the monitor's time
counts from the write (R316, R919; DEDUCED, log entry 76). -/
def State.turnMonitor (s : State) (old : Int) : State :=
  if s.get Obj.SCAN_MONITOR_INPUT = old then s
  else { s with safety := { s.safety with scanSeen := false, scanEdge := s.now } }

/-- What an accepted scalar write of the safety island does besides storing the value, given the old value. -/
def safetyApply (s : State) (k : Nat) (old : Int) : State :=
  if k = Obj.SAFE_IN_POLARITY then s.sealTouched.turnPairs old
  else if k = Obj.EMIT_REQ_SOURCE then s.sealTouched.turnSource old
  else if k = Obj.SAFE_NETS then s.sealTouched.turnNets old
  else if k = Obj.SCAN_MONITOR_INPUT then s.sealTouched.turnMonitor old
  else if isSealKey k then s.sealTouched
  else if k = Obj.LOCKOUT_RESET then s.clearLockout
  else if k = Obj.TRIP_TEST then s.trip .tripTest
  else if k = Obj.SEAL_COMMIT then s.sealAccepted
  else s

/-- What an accepted BLOCK write of the safety island does. -/
def safetyBlkApply (s : State) (k : Nat) : State := if isSealKey k then s.sealTouched else s

end Sys2Proof.Machine
end

