-- ==== Sys2Proof/Machine/Net.lean ====
section
/-! DEFINITION. The Ethernet ports' addresses and links, the CAN controller's states, and the vehicle speed (R678 to R691). -/

namespace Sys2Proof.Machine

open Sys2Proof

/-! ### Address resolution (R681, R682) -/

/-- The cache of ARP of a port is full: it holds 32 entries (R681). Neighbour discovery has no bound in the spec (log entry 30). -/
def arpFull (l : List (Nat × Nat × Time)) (p : Nat) : Bool := decide (32 ≤ (l.filter (fun x => x.1 == p && isV4 x.2.1)).length)

/-- The cache with room for an address: its oldest ARP entry of the port goes when they are 32. -/
def withRoom (l : List (Nat × Nat × Time)) (p addr : Nat) : List (Nat × Nat × Time) :=
  if isV4 addr && arpFull l p then l.eraseP (fun x => x.1 == p && isV4 x.2.1) else l

/-- An address is resolved on a port: it joins the cache, and what was being asked is answered. -/
def State.learn (s : State) (p addr : Nat) : State :=
  let others := s.net.resolved.filter (fun x => x.1 != p || x.2.1 != addr)
  { s with net := { s.net with
    resolved := withRoom others p addr ++ [(p, addr, s.now)]
    asking := s.net.asking.filter (fun x => x.1 != p || x.2.1 != addr) } }

/-- ADDRESS_RESOLUTION_RETRY: each request is repeated every 1 s until the address resolves (R682). -/
def execAddressResolutionRetry (s : State) : Host.Outcome State Fault Refusal :=
  let due := s.net.asking.filter (fun x => reached s.now x.2.2 (sec 1))
  let s := { s with net := { s.net with
    asking := s.net.asking.map (fun x => if reached s.now x.2.2 (sec 1) then (x.1, x.2.1, s.now) else x) } }
  .next (due.foldl (fun s x => if s.portUp x.1 then s.sendResolve x.1 x.2.1 else s) s)

/-- ARP_REFRESH: the entries of the cache are refreshed every 60 s (R681). -/
def execArpRefresh (s : State) : Host.Outcome State Fault Refusal :=
  let due := fun (x : Nat × Nat × Time) => isV4 x.2.1 && reached s.now x.2.2 (sec 60)
  let asks := s.net.resolved.filter due
  let s := { s with net := { s.net with
    resolved := s.net.resolved.map (fun x => if due x then (x.1, x.2.1, s.now) else x) } }
  .next (asks.foldl (fun s x => if s.portUp x.1 then s.sendResolve x.1 x.2.1 else s) s)

/-! ### Links -/

/-- A port's link takes a level; a change raises event 0x126 with the port (R684). -/
def State.setLink (s : State) (p level : Nat) : State :=
  if s.getN (Obj.LINK_STATE + p) = level then s else (s.set (Obj.LINK_STATE + p) level).raise 0x126 (p * 2 ^ 24)

/-- The port can run at a rate (R678): E1 at 1 and 2.5 Gb/s, and a fixed LINK_SPEED at its own rate only. -/
def State.rateOk (s : State) (p level : Nat) : Bool :=
  (p == 0 || decide (level ≤ 2)) && (s.getN (Obj.LINK_SPEED + p) == 0 || s.getN (Obj.LINK_SPEED + p) == level)

/-- LINK_CHANGE: the link of an enabled port comes up at a rate or goes down. -/
def execLinkChange (port : Fin 2) (level : Fin 5) (s : State) : Host.Outcome State Fault Refusal :=
  if level.val = 0 then .next (s.setLink port 0)
  else if s.portOn port && s.rateOk port level then .next (s.setLink port level)
  else .next s

/-- An IPv4 address lies inside the prefix of a port's address. -/
def State.insidePrefix (s : State) (p a : Nat) : Bool := samePrefix 32 (s.getN (Obj.IPV4_PREFIX + p)) a (s.getN (Obj.IPV4_ADDR + p))

/-- What a scalar write of the ports is refused with: a MAC address must be unicast, a gateway 0 or inside the prefix. -/
def portCheck (s : State) (k : Nat) (v : Int) : Option Status :=
  if k / 256 = Obj.MAC_ADDR / 256 ∧ natBit v.toNat 40 then some .outOfRange
  else if k / 256 = Obj.IPV4_GATEWAY / 256 ∧ v ≠ 0 ∧ !s.insidePrefix (k - Obj.IPV4_GATEWAY) v.toNat then some .outOfRange
  else none

/-- A destination address is of an IP version that the port has no address of, while it has one of the other (R683). -/
def State.otherVersion (s : State) (p dst : Nat) : Bool :=
  let v4 := s.getN (Obj.IPV4_ADDR + p) != 0
  let v6 := (s.getBlk (Obj.IPV6_ADDR + p)).any (fun b => b != 0)
  dst != 0 && (if isV4 dst then v6 && !v4 else v4 && !v6)

/-- The Ethernet ports (0 E0, 1 E1) that a destination object's messages leave on. -/
def State.portsOf (s : State) (k : Nat) : List Nat :=
  if k / 256 = Obj.STREAM_DEST_IP / 256 then
    (let d := s.streamDest (k - Obj.STREAM_DEST_IP); if 2 ≤ d then [d - 2] else [])
  else if k = Obj.DAILIES_DEST_IP then
    (let d := s.getN Obj.DAILIES_DEST; if d = 0 then [] else [d - 2])
  else if k = Obj.EVENT_DEST_IP then [0, 1]
  else if k = Obj.SAFE_DEST_IP then [false, true].filterMap (fun b => if s.safeNet b = 0 then none else some (s.safeNet b - 1))
  else []

/-- What a BLOCK write of the ports is refused with (R679, R683). -/
def portBlkCheck (s : State) (k : Nat) (bs : List Byte) : Option Status :=
  if k / 256 = Obj.MCAST_FILTER / 256 ∧ bs.length % 6 ≠ 0 then some .outOfRange
  else if (s.portsOf k).any (fun p => s.otherVersion p (beNat bs)) then some .outOfRange
  else none

/-- An accepted scalar write of the ports: PORT_ENABLE and LINK_SPEED restart the link (R684). -/
def portApply (s : State) (k : Nat) : State :=
  if k / 256 = Obj.PORT_ENABLE / 256 then s.setLink (k - Obj.PORT_ENABLE) 0
  else if k / 256 = Obj.LINK_SPEED / 256 then s.setLink (k - Obj.LINK_SPEED) 0
  else s

/-! ### The CAN controller (R686 to R689) -/

/-- A change among the error states raises event 0x128 (R688). -/
def State.setCanState (s : State) (x : Nat) : State :=
  if s.getN Obj.CAN_STATE = x then s
  else if s.getN Obj.CAN_STATE = 0 then (s.set Obj.CAN_STATE x).drainCan
  else ((s.set Obj.CAN_STATE x).raise 0x128 0).drainCan

/-- CAN_STATE: the controller's error counters put it into error active, error passive or bus-off (R688); a controller that was
off the bus has seen 11 recessive bits and is error active (R689). Only R688's own ways end bus-off. -/
def execCanState (errors : Fin 3) (s : State) : Host.Outcome State Fault Refusal :=
  if s.get Obj.CAN_MODE = 0 ∨ s.get Obj.CAN_STATE = 3 then .next s
  else if s.net.canOff then
    .next (if errors.val = 0 then
      (({ s with net := { s.net with canOff := false } }).set Obj.CAN_STATE 1).drainCan else s)
  else .next (s.setCanState (errors + 1))

/-- Bus-off ends: error active again (R688). -/
def State.endBusOff (s : State) : State := if s.get Obj.CAN_STATE = 3 then s.setCanState 1 else s

/-- CAN_BUS_OFF_RECOVERY: 128 occurrences of 11 consecutive recessive bits with CAN_AUTO_RECOVER set (R688). -/
def execCanBusOffRecovery (s : State) : Host.Outcome State Fault Refusal :=
  if s.getB Obj.CAN_AUTO_RECOVER then .next s.endBusOff else .next s

/-- CAN_TX_TIMEOUT: frames still queued 100 ms after their queuing are discarded and counted (R688). -/
def execCanTxTimeout (s : State) : Host.Outcome State Fault Refusal :=
  let old := fun (f : CanTx) => reached s.now f.at_ (ms 100)
  let n := (s.net.canQueue.filter old).length
  .next (({ s with net := { s.net with canQueue := s.net.canQueue.filter (fun f => !old f) } }).addSat Obj.CAN_TX_DROPS n)

/-- The objects of 0x1150 to 0x1157 (R689). -/
def canKey (k : Nat) : Bool := decide (0x1150 ≤ k / 256) && decide (k / 256 ≤ 0x1157)

/-- The controller goes off the bus until it has seen 11 recessive bits at the new settings (R689). -/
def State.canRestart (s : State) : State := ({ s with net := { s.net with canOff := true } }).set Obj.CAN_STATE 0

/-- The controller at boot: with a CAN_MODE it goes on the bus once it has seen 11 recessive bits (R689). -/
def State.startCan (s : State) : State := if s.get Obj.CAN_MODE = 0 then s else s.canRestart

/-- What a write of the CAN objects is refused with: CAN_DATA_RATE outside the range of the selected mode (R689). -/
def canCheck (s : State) (k : Nat) (v : Int) : Option Status :=
  if k = Obj.CAN_DATA_RATE ∧ ((s.get Obj.CAN_MODE = 1 ∧ v < 2000000) ∨ (s.get Obj.CAN_MODE = 2 ∧ 8000000 < v)) then
    some .outOfRange
  else none

/-- An accepted write of the CAN objects (R688, R689). -/
def canApply (s : State) (k : Nat) : State :=
  if canKey k then s.canRestart
  else if k = Obj.CAN_AUTO_RECOVER ∧ s.getB k then s.endBusOff
  else s

/-- A received frame is one that the selected mode takes (R686, R687). -/
def State.canTakes (s : State) (f : CanFrame) : Bool :=
  f.basic && s.canUp &&
    (match f.format with
     | .xl => s.get Obj.CAN_MODE == 1 && f.sdt == s.getN Obj.CAN_XL_SDT && f.vcid == s.getN Obj.CAN_XL_VCID
     | .fd => true
     | .classic => true)

/-! ### The vehicle speed (R690, R691) -/

/-- A speed message is valid (R691). -/
def State.egoValid (s : State) (d : List Byte) : Bool :=
  decide (4 ≤ d.length) && (d.getD 3 0) == crc8 (d.take 3) && decide (beIntAt d 0 2 ≤ 10000) && decide (-10000 ≤ beIntAt d 0 2) &&
    counterOk s.time.egoCounter (beAt d 2 1)

/-- A speed message of the selected source. -/
def State.egoMessage (s : State) (d : List Byte) : State :=
  if s.egoValid d then
    let s := s.set Obj.EGO_SPEED (beIntAt d 0 2)
    { s with
      time := { s.time with egoCounter := some (beAt d 2 1), egoAt := some s.now }
      hist := { s.hist with egoStale := false } }
  else (s.count Obj.EGO_INVALID).raise 0x129 0

/-- EGO_SPEED_RECEIVE: a message by CAN (0) or UDP (1); the source that EGO_SOURCE does not select is ignored (R690, R702). A CAN
frame carries it in its first 4 bytes, a datagram as its whole payload. -/
def execEgoSpeedReceive (source : Fin 2) (data : List Byte) (s : State) : Host.Outcome State Fault Refusal :=
  if s.getN Obj.EGO_SOURCE ≠ source + 1 then .next s
  else if source.val = 0 then .next (s.egoMessage (data.take 4))
  else .next (s.egoMessage (if data.length = 4 then data else []))

/-- EGO_AGE (R691). -/
def State.egoAge (s : State) : Nat :=
  match s.time.egoAt with
  | some t => min 0xFFFF ((s.now - t) / 1000000)
  | none => 0xFFFF

end Sys2Proof.Machine
end

