-- ==== Sys2Proof/Machine/Boundary.lean ====
section
/-! DEFINITION. What happens as an axis passes position 0, a facet start or a virtual boundary: REVOLUTION, pending
tables, BLOCK_FRACTION, and a step of local time (R129, R138, R162 to R165, R560, R666). -/

namespace Sys2Proof.Machine

open Sys2Proof

/-- A step is pending. -/
def State.stepPending (s : State) : Bool := s.time.step != .none

/-- A pending linearisation table takes effect at a pass of the phase through 0; event 0x02D (R162). -/
def State.applyLin (s : State) (a : Nat) : State :=
  match (s.axis a).linPending with
  | some l => (s.setAxis a { s.axis a with lin := l, linPending := none }).axisRaise a 0x02D
  | none => s

/-- A revolution of the cue axis ends: another loss of the axis empties the histories anew (R443). -/
def State.endRevolution (s : State) (a : Nat) : State :=
  if a = s.cueAxis then { s with hist := { s.hist with axisLost := false } } else s

/-- A forward pass through 0 of axis A: event 0x02F, BLOCK_FRACTION, the housekeeping boundary, and a step that waits for it
unless axis A is VIRTUAL, whose own boundary applies it (R138, R560, R636, R666). -/
def State.passA (s : State) : State :=
  let s := { (s.raise 0x02F 0).blockFraction with hk := { s.hk with revAt := some s.now } }
  if s.stepPending && s.axisMode 0 != 3 then s.applyStep else s

/-- A forward pass through 0 of an axis (R138). A position that is not to be lowered stays so where it lies past this 0 (R139). DESIGN
CHOICE (log entry 73): a LIN_TABLE write on an axis that is not RESONANT takes effect, with event 0x02D, at the pass of its position
through 0. -/
def State.forwardPass (s : State) (a : Nat) : State :=
  let x := s.axis a
  let floor := x.floor_.filter (fun f => decide ((x.turn + 1) * revTu ≤ f))
  let s := s.setAxis a { x with turn := x.turn + 1, revolution := (x.revolution + 1) % 2 ^ 40, floor_ := floor }
  let s := (s.applyLin a).endRevolution a
  if a = 0 then s.passA else s

/-- A backward pass through 0 of an axis (R138). -/
def State.backwardPass (s : State) (a : Nat) : State :=
  let x := s.axis a
  s.setAxis a { x with turn := x.turn - 1, revolution := (x.revolution + (2 ^ 40 - 1)) % 2 ^ 40 }

/-- REVOLUTION_A: the position of an axis has passed through 0 (R138). DESIGN CHOICE (log entry 73): the position that counts is the
published one, so one held past a 0 (R139, R164) is not counted back behind it. -/
def execRevolutionA (axis : Fin 2) (s : State) : Host.Outcome State Fault Refusal :=
  let t := s.published axis / revTu
  if (s.axis axis).turn < t then .next (s.forwardPass axis)
  else if t < (s.axis axis).turn then .next (s.backwardPass axis)
  else .next s

/-- The position of facet f that comes next after a delivered position. -/
def State.nextFacet (s : State) (f : Nat) : Int :=
  let at_ := (s.axis 0).facetAt
  let w := at_ / revTu * revTu + (s.facetStart f : Int)
  if w ≤ at_ then w + revTu else w

/-- The start of facet f that the position has crossed since the last delivered crossing, forward or backward, as the position up to
which crossings are then delivered (R129). -/
def State.facetCrossed (s : State) (f : Nat) : Option Int :=
  if s.nextFacet f ≤ s.facetPos then some (s.nextFacet f)
  else if s.facetPos < s.nextFacet f - revTu then some (s.nextFacet f - revTu - 1)
  else none

/-- FACET_START: axis A has crossed the start of a facet; it is delivered to the sequencer, whose turnaround begins, and to the
housekeeping converters (R129, R225, R636). -/
def execFacetStart (facet : Fin 16) (s : State) : Host.Outcome State Fault Refusal :=
  match s.facetCrossed facet with
  | some p =>
    if facet < s.getN Obj.FACETS then
      let s := (s.setAxis 0 { s.axis 0 with facetAt := p }).beginTurnaround
      .next ({ s with hk := { s.hk with facetAt := some s.now } }.raise 0x030 0)
    else .next s
  | none => .next s

/-! ### The virtual axis (R163 to R165) -/

/-- The virtual axis has reached a boundary. -/
def State.boundaryDue (s : State) : Bool :=
  s.axisMode 0 == 3 && decide ((s.axis 0).vTurn < s.predict 0 s.nowTaps / revTu)

/-- A virtual revolution boundary: a pending step applies, and the new revolution starts at the phase that local time
implies (R164, R165, R666). The prediction before a step stays in `old`. -/
def State.virtualBoundary (old : State) : State :=
  let turn := old.predict 0 old.nowTaps / revTu
  let s := if old.stepPending then old.applyStep else old
  let period := s.getN Obj.VIRTUAL_PERIOD
  let phase := s.get Obj.VIRTUAL_PHASE
  let raw := virtualPos period phase (s.localAt s.nowTaps)
  let s := s.setAxis 0 { s.axis 0 with
    vTurn := turn, vPeriod := period, vPhase := phase + (raw / revTu - turn) * (period : Int) }
  State.noteCorrection old s 0

/-- Local time was set inside a virtual revolution (R795, R803): the position follows it within the turn and is never lowered
(R163, R164; DEDUCED, log entry 73). -/
def State.timeMoved (old s : State) : State :=
  if s.axisMode 0 = 3 then
    let p := old.predict 0 old.nowTaps
    let raw := s.predict 0 s.nowTaps
    let x := s.axis 0
    let s := if 2 * (raw - p).natAbs < 4294967296 then s
      else s.setAxis 0 { x with vPhase := x.vPhase + (raw / revTu - p / revTu) * (x.vPeriod : Int) }
    State.noteCorrection old s 0
  else s

/-- VIRTUAL_BOUNDARY (R164). -/
def execVirtualBoundary (s : State) : Host.Outcome State Fault Refusal :=
  if s.boundaryDue then .next s.virtualBoundary else .next s

/-- Axis A is OFF, SEEK or STALL: a step applies within 1 µs (R666). -/
def State.noPass (s : State) : Bool :=
  (s.axis 0).st == .off || (s.axis 0).st == .seek || (s.axis 0).st == .stall

/-- TIME_STEPPED: the pending step applies at a pass of axis A, at a virtual boundary, or at once without one (R666). -/
def execTimeStepped (s : State) : Host.Outcome State Fault Refusal :=
  if !s.stepPending then .next s
  else if s.noPass then .next s.applyStep
  else if s.boundaryDue then .next s.virtualBoundary
  else if s.axisMode 0 != 3 && decide ((s.axis 0).turn < s.published 0 / revTu) then .next s.applyStep
  else .next s

end Sys2Proof.Machine
end

