-- ==== Sys2Proof/Machine/Hist.lean ====
section
/-! DEFINITION. The completion of reel sets, the multi-revolution sums and the raw export (chapter 08). -/

namespace Sys2Proof.Machine

open Sys2Proof

/-! ### Rates and descriptors (R431, R434 to R437) -/

/-- The candidates of a reel in the order of R431. -/
def Reel.sorted (r : Reel) : List Candidate :=
  sortBy (fun a b => decide (b.wsum < a.wsum) || (a.wsum == b.wsum && decide (a.centre ≤ b.centre))) (r.slots.filterMap id)

/-- BG in units of 10 kHz (R434). -/
def bgOf (st : ReelSet) (r : Reel) : Nat :=
  let x := (r.slots.filterMap id).length * (2 * st.trackHalf + 1)
  let d := (st.windows.map (fun w => min (gearSpan st.gear) (64 * w) - x)).sum
  let p := ((r.slots.filterMap id).map (·.prim)).sum
  if d = 0 then 0 else min 0xFFFF (natDivRound ((r.hits - p) * 6400000) d)

/-- SUN in units of 10 kHz (R434). -/
def sunOf (st : ReelSet) (r : Reel) : Nat :=
  if st.skyGate = 0 ∨ st.windows.isEmpty then 0
  else min 0xFFFF (natDivRound (r.sky * 100000) (st.windows.length * st.skyGate))

/-- The flags of a descriptor (R437). -/
def flagsOf (st : ReelSet) (r : Reel) : Nat :=
  128 * b2n r.stale + 16 * b2n r.saturated + 8 * b2n st.freewheel + 4 * b2n (r.degraded || st.degraded) + 2 * b2n r.blind

/-- The descriptor of a completed reel (R436). -/
def descOf (st : ReelSet) (r : Reel) (ch buf : Nat) : Descriptor :=
  { ch := ch, lg := st.group, kind := 0, takes := st.held, spoke := st.bind, gearGen := st.gearGen, buf := buf
    flags := flagsOf st r, depth := 0, first := st.first, bg := bgOf st r, sun := sunOf st r, hits := min 0xFFFF r.hits
    codes := st.codes, steps := st.steps, cands := r.sorted, wrap := st.wrap, gear := st.gear, bins := [], satHiMin := st.satHiMin
    trackHalf := st.trackHalf }

/-- BG_LAST and SUN_LAST take the rates, and BG_MAP, once its area of DDR5 is wiped (R435, R835). -/
def State.noteRates (s : State) (d : Descriptor) : State :=
  let s := (s.set (Obj.BG_LAST + d.ch) d.bg).set (Obj.SUN_LAST + d.ch) d.sun
  if !s.ddrHas ddrQueues then s else
  { s with hist := { s.hist with bgMap := tabPut (fun _ => (0, 0)) s.hist.bgMap (256 * d.spoke + d.ch) (d.bg, d.sun) } }

/-! ### Multi-revolution history (R438, R442) -/

/-- The local time of a first take, in units of 2^-24 ns. -/
def FirstTake.localTime (f : FirstTake) : Int := ((f.sec * 1000000000 + f.ns) * 16777216 + f.frac : Nat)

/-- Bins from MREV_START on. -/
def State.mrevBins (s : State) (bins : Tab Nat) : Tab Nat := bins.filter (fun e => decide (s.getN Obj.MREV_START ≤ e.1))

/-- The vehicle speed is older than EGO_TIMEOUT (R442). -/
def State.egoOld (s : State) : Bool :=
  match s.time.egoAt with
  | none => true
  | some t => decide (t + ms (s.getN Obj.EGO_TIMEOUT) < s.now)

/-- A completed reel is copied to the history (R438); not before DDR5 is wiped (R832, R835). -/
def State.mrevTakes (s : State) (d : Descriptor) : Bool :=
  s.getB Obj.MREV_ENABLE && s.ddrReady && bitOf (s.getBlk Obj.MREV_SPOKES) d.spoke && d.flags &&& 0x8C == 0

/-- A completed reel is copied to the history, and a sum is due (R438, R439, R442). -/
def State.mrevCopy (s : State) (d : Descriptor) (bins : Tab Nat) : State :=
  if s.mrevTakes d then
    let keep : MrevEntry → Bool := fun e =>
      e.ch != d.ch || e.spoke != d.spoke || decide (d.first.rev < e.first.rev + s.getN Obj.MREV_DEPTH)
    { s with hist := { s.hist with
      mrev := s.hist.mrev.filter keep ++ [⟨d.lg, d.spoke, d.ch, d.first, d.gear, s.mrevBins bins, false⟩]
      mrevDue := s.hist.mrevDue ++ [⟨{ d with bins := bins }⟩] } }
  else s

/-! ### Raw export (R445, R446) -/

/-- The export record of a reel: its descriptor and every bin, each big-endian. -/
def rawRecord (d : Descriptor) (bins : Tab Nat) : List Byte :=
  d.bytes ++ (List.range (gearBins d.gear)).flatMap (fun j => beBytes 4 (tabGet (fun _ => 0) bins j))

/-- The reel is selected for export. -/
def State.rawSelected (s : State) (d : Descriptor) : Bool :=
  bitOf (s.getBlk Obj.RAW_CHANNELS) d.ch && bitOf (s.getBlk Obj.RAW_SPOKES) d.spoke && d.first.rev % s.getN Obj.RAW_DECIMATE == 0

/-- The bytes of a reel's export record. -/
def rawLength (d : Descriptor) : Nat := 96 + 4 * gearBins d.gear

/-- The staging has room for a reel's export record. -/
def State.rawRoom (s : State) (d : Descriptor) : Bool := decide (s.hist.rawUsed + rawLength d ≤ 4 * 2 ^ 20)

/-- The copy of a selected reel starts, or its record finds too little staging free. -/
def State.rawCopy (s : State) (d : Descriptor) (bins : Tab Nat) : State :=
  if s.rawSelected d && s.ddrHas ddrQueues then
    if s.rawRoom d then
      let r := rawRecord d bins
      let s := { s with hist := { s.hist with
        rawUsed := s.hist.rawUsed + r.length, rawCopies := s.hist.rawCopies ++ [(d.ch, d.buf, r)] } }
      s.setReel d.ch d.buf { s.reel d.ch d.buf with exporting := true }
    else (s.count Obj.RAW_DROPS).raiseMs 0x0AA 0
  else s

/-- A stream of KIND 2 carries a raw record that its GROUPS bits select (R566); a SHADOW sends none. -/
def State.streamRaw (s : State) (ch : Nat) (r : List Byte) : State :=
  let g := s.groupOf ch
  let bind := beAt r 0 8 / 2 ^ 33 % 1024
  if s.isShadow then s
  else [0, 1, 2, 3].foldl (fun s n =>
    let cfg := s.streamCfg n
    if s.streamDest n = 0 ∨ field cfg 24 2 ≠ 2 ∨ !natBit cfg (20 + g) then s
    else s.enqueue (s.streamDest n) ⟨n, field cfg 26 2, 2, bind, [], [r], s.getN Obj.UDP_MAX_PAYLOAD⟩) s

/-- RAW_EXPORT_COPY_DONE: the copy of a reel ends; its record goes to the streams, and a waiting release follows (R423, R446). -/
def execRawExportCopyDone (channel : Fin 256) (buf : Fin 2) (s : State) : Host.Outcome State Fault Refusal :=
  match s.hist.rawCopies.find? (fun x => x.1 == channel.val && x.2.1 == buf.val) with
  | none => .next s
  | some x =>
    let s := { s with hist := { s.hist with rawCopies := s.hist.rawCopies.erase x, rawUsed := s.hist.rawUsed - x.2.2.length } }
    let r := s.reel channel buf
    let s := if r.releaseDue then s.clearReel channel buf else s.setReel channel buf { r with exporting := false }
    .next (s.streamRaw channel x.2.2)

/-! ### Completion (R421, R424, R425) -/

/-- The additions of a set that wait in the bank queues reach their bins (R452). -/
def State.drainBank (s : State) (id b : Nat) : State :=
  let mine := (s.bank b).filter (fun a => a.set_ == id)
  if mine.isEmpty then s
  else mine.foldl (fun s a => s.applyAddition a) (s.setBank b ((s.bank b).filter (fun a => a.set_ != id)))

/-- The additions of a set in all 64 banks. -/
def State.drainBanks (s : State) (id : Nat) : State := (List.range 64).foldl (fun s b => s.drainBank id b) s

/-- A hit's take feeds the set. -/
def State.hitFeeds (s : State) (id : Nat) (h : Hit) : Bool :=
  match s.take? h.seq h.epoch with | some t => t.set_ == id | none => false

/-- A hit of the set waits for a word that is not yet clear (R424). -/
def State.hitWaits (s : State) (st : ReelSet) (b : Nat) (h : Hit) : Bool :=
  match s.take? h.seq h.epoch with
  | some t => t.set_ == st.id && !s.wordsClear st.gear (hitAdditions h b st.id s.now t.pulses)
  | none => false

/-- The hits of a set that still wait for a cleared word, and those of it behind them, are dropped (R424). -/
def State.dropWaiting (s : State) (st : ReelSet) (ch buf : Nat) : State :=
  let q := (s.rxChan ch).buf
  let behind := q.dropWhile (fun h => !s.hitWaits st buf h)
  let n := (behind.filter (fun h => s.hitFeeds st.id h)).length
  if n = 0 then s
  else
    let front := q.take (q.length - behind.length)
    let s := s.setRxChan ch { s.rxChan ch with buf := front ++ behind.filter (fun h => !s.hitFeeds st.id h) }
    ((s.setReel ch buf { s.reel ch buf with degraded := true }).addSat Obj.HIT_INGEST_DROPS n).raiseMs 0x0A5 (ch * 2 ^ 24)

/-- A set completes that has found no buffer to take on a channel: its hits there are dropped (R424). -/
def State.dropClaim (s : State) (id ch : Nat) : State :=
  let q := (s.rxChan ch).buf
  let n := (q.filter (fun h => s.hitFeeds id h)).length
  let s := { s with hist := { s.hist with claims := s.hist.claims.filter (fun c => !(c.ch == ch && c.reel.set_ == id)) } }
  if n = 0 then s
  else ((s.setRxChan ch { s.rxChan ch with buf := q.filter (fun h => !s.hitFeeds id h) }).addSat Obj.HIT_INGEST_DROPS n).raiseMs 0x0A5
    (ch * 2 ^ 24)

/-- A reel overruns: it is discarded and cleared as the next accumulating buffer, and its spoke's points carry DEGRADED (R36, R425). -/
def State.overrun (s : State) (st : ReelSet) (ch buf : Nat) : State :=
  let s := s.clearReel ch buf
  let s := s.mapSpoke st.group st.bind (fun x => { x with degraded := true })
  (s.count Obj.REEL_OVERRUNS).raiseMs 0x0A4 (ch * 2 ^ 24)

/-- The words of a completing reel are read where it is copied: to the history, or for export (R428, R438, R446). -/
def State.readCopied (s : State) (d : Descriptor) : State :=
  if s.mrevTakes d || (s.rawSelected d && s.ddrHas ddrQueues && s.rawRoom d) then
    s.readWords d.ch d.buf (fun w => decide (w < gearWords d.gear)) else s

/-- A completed reel is held and posted (R421), after the reads of its copies (R428; DEDUCED, log entry 77). -/
def State.postReel (s : State) (st : ReelSet) (ch buf : Nat) : State :=
  let s := s.readCopied (descOf st (s.reel ch buf) ch buf)
  let r := s.reel ch buf
  let d := descOf st r ch buf
  let s := (s.setReel ch buf { r with state := .held }).noteRates d
  let s := s.oweReel st.group st.bind
  ((s.mrevCopy d r.bins).rawCopy d r.bins).dispatch d

/-- One channel of a completing set. -/
def State.completeChannel (s : State) (st : ReelSet) (ch : Nat) : State :=
  match s.reelOf ch st.id with
  | none => s.dropClaim st.id ch
  | some b =>
    let s := s.dropWaiting st ch b
    if (s.reel ch (1 - b)).state == .held then s.overrun st ch b
    else if ((s.rxChan ch).settingAt (16 * st.lastEnd)).mask then s.clearReel ch b
    else s.postReel st ch b

/-- Completed sets that no reel refers to any more are forgotten. -/
def State.purgeSets (s : State) : State :=
  let used : Nat → Bool := fun id => s.hist.reels.any (fun e => e.2.set_ == id && (e.2.state == .held || e.2.state == .accumulating))
  { s with hist := { s.hist with sets := s.hist.sets.filter (fun r => !r.completed || used r.id) } }

/-- A reel set completes (R421): its takes are no longer in flight (R32). -/
def State.completeSet (s : State) (st : ReelSet) : State :=
  let s := s.drainBanks st.id
  let s := (s.groupChannels st.group).foldl (fun s c => s.completeChannel st c) s
  let s := s.mapSet st.id (fun r => { r with completed := true })
  let s := { s with seq := { s.seq with takes := s.seq.takes.filter (fun t => t.set_ != st.id) } }
  (s.purgeSets.noteQuiet).drainCheck

/-- REEL_SET_COMPLETE: the first closed set completes, 60 ns after the window of its last take (R421). A hit that arrives in this
cycle is still added (R452), and a buffer released in it is released first (R453): what the completion does is done as the core cycle
ends. -/
def execReelSetComplete (s : State) : Host.Outcome State Fault Refusal :=
  match s.hist.sets.find? (fun r =>
      r.closed && !r.completing && !r.completed && r.open_ == 0 && decide (r.lastEnd + 60 * 64 ≤ s.nowTaps)) with
  | none => .next s
  | some st => .next (s.mapSet st.id (fun r => { r with completing := true }))

/-- The sets whose completion came in the core cycle that is over complete (R421, R452, R453). -/
def State.completeSets (s : State) : State :=
  (s.hist.sets.filter (fun r => r.completing && !r.completed)).foldl (fun s r => s.completeSet r) s

/-- Words that have been written hold no uncorrectable error any more. -/
def State.cleanReel (s : State) (ch buf : Nat) : State :=
  { s with hist := { s.hist with badWords := s.hist.badWords.filter (fun w => !(w.1 == ch && w.2.1 == buf)) } }

/-- REEL_CLEAR_DONE: a CLEARING buffer has been written to 0 (R423); a claimed one takes its additions from now (R424). -/
def execReelClearDone (channel : Fin 256) (buf : Fin 2) (s : State) : Host.Outcome State Fault Refusal :=
  let r := s.reel channel buf
  let s := if r.state == .clearing || r.notClear then s.cleanReel channel buf else s
  if r.state == .clearing then .next (s.setReel channel buf Reel.clear_)
  else .next (s.setReel channel buf { r with notClear := false })

/-! ### Sums (R439 to R442) -/

/-- The shift of a history entry in LSB (R439). -/
def State.mrevShift (s : State) (d : Descriptor) (e : MrevEntry) : Int :=
  let cos := beIntAt (s.getBlk Obj.MREV_COS) ((256 * d.spoke + d.ch) * 2) 2
  divRound (-2 * 64 * s.get Obj.EGO_SPEED * cos * (d.first.localTime - e.first.localTime)) (100 * 32768 * 16777216 * 299792458)

/-- A bin of the sum gains a COUNT and a RESID, within the limits of R427. -/
def binSum (b n r : Nat) : Nat := min (binCount b + n) 16383 * 2 ^ 18 + min (binResid b + r) 262143

/-- One bin of an entry is placed into the sum: T = s + s_e + R / n (R439). -/
def placeBin (g : List Byte) (first : Nat) (start : Int) (bins : Tab Nat) (rec_ : Nat) : Tab Nat :=
  let n := binCount rec_
  if n = 0 then bins
  else
    let t := n * start + (binResid rec_ : Int)
    let ceil := -((-t) / (n : Int))
    if t < 0 then bins
    else match binOf g ceil.toNat with
      | none => bins
      | some (j, _) =>
        if j < first then bins
        else tabUpd (fun _ => 0) bins j (fun b => binSum b n (t - n * (binStart g j : Int)).toNat)

/-- An entry is added to a sum. -/
def State.addEntry (s : State) (d : Descriptor) (bins : Tab Nat) (e : MrevEntry) : Tab Nat :=
  let shift := s.mrevShift d e
  e.bins.foldl (fun b x => placeBin d.gear (s.getN Obj.MREV_START) ((binStart e.gear x.1 : Int) + shift) b x.2) bins

/-- The entries of the previous MREV_DEPTH − 1 revolutions (R439). -/
def State.mrevEntries (s : State) (d : Descriptor) : List MrevEntry :=
  s.hist.mrev.filter (fun e => e.ch == d.ch && e.spoke == d.spoke && e.group == d.lg && decide (e.first.rev < d.first.rev) &&
    decide (d.first.rev < e.first.rev + s.getN Obj.MREV_DEPTH))

/-- The total COUNT of the bins whose start lies within TRACK_HALF of a start (R440). -/
def scanTotal (bins : List (Nat × Nat)) (half : Nat) (start : Nat) : Nat :=
  (bins.map (fun b => if ((b.1 : Int) - start).natAbs ≤ half then b.2 else 0)).sum

/-- The bin with the highest total, the lower on a tie: index, start and total. -/
def scanBest : List (Nat × Nat × Nat) → Option (Nat × Nat × Nat)
  | [] => none
  | x :: xs => match scanBest xs with | none => some x | some y => if x.2.2 < y.2.2 then some y else some x

/-- The picks of the scan, with a bound on their number; each excludes the bins within 2 × TRACK_HALF (R440). -/
def scanPicks (half : Nat) : Nat → List (Nat × Nat × Nat) → List (Nat × Nat × Nat)
  | 0, _ => []
  | fuel + 1, l => match scanBest l with
    | none => []
    | some x => if x.2.2 = 0 then [] else
        x :: scanPicks half fuel (l.filter (fun y => decide (2 * half < ((y.2.1 : Int) - x.2.1).natAbs)))

/-- The candidates of a sum (R440). CENTRE is the picked bin's start, PEAK_COUNT its COUNT. -/
def scanCandidates (g : List Byte) (first half : Nat) (bins : Tab Nat) : List Candidate :=
  let filled := bins.filterMap (fun e => if first ≤ e.1 then some (binStart g e.1, binCount e.2) else none)
  let all := ((List.range (gearBins g)).drop first).map (fun j => (j, binStart g j, scanTotal filled half (binStart g j)))
  (scanPicks half 4 all).map (fun x =>
    ⟨x.2.1, x.1, binCount (tabGet (fun _ => 0) bins x.1), min x.2.2 0xFFFF, min x.2.2 0xFFFF, 0, 0⟩)

/-- The sum of a base and its entries as a KIND 1 descriptor (R439, R440); with a bad entry it carries DEGRADED (R826). -/
def State.mrevSum (s : State) (d : Descriptor) : Descriptor :=
  let all := s.mrevEntries d
  let es := all.filter (fun e => !e.bad)
  let revs := (es.map (·.first.rev)).eraseDups
  let bins := es.foldl (fun b e => s.addEntry d b e) d.bins
  { d with
    kind := 1, buf := 0, flags := d.flags ||| 1 ||| (if all.any (·.bad) then 4 else 0), depth := revs.length, bins := bins
    cands := scanCandidates d.gear (s.getN Obj.MREV_START) d.trackHalf bins }

/-- The 1 ms interval of the sums that the present time lies in begins (R441). -/
def State.sumsInterval (s : State) : State :=
  if reached s.now s.hist.sumsAt (ms 1) then { s with hist := { s.hist with sumsAt := s.now, sumsBuilt := 0 } } else s

/-- MREV_SUM_BUILD: the sum that is due first is built and posted, or skipped (R439 to R442). Where its base reel's spoke has closed, it
opens a new instance, which carries SPLIT (R585). -/
def execMrevSumBuild (s : State) : Host.Outcome State Fault Refusal :=
  match s.hist.mrevDue with
  | [] => .next s
  | x :: rest =>
    let s := { s with hist := { s.hist with mrevDue := rest } }.sumsInterval
    if s.egoOld then .next s
    else if 100 ≤ s.hist.sumsBuilt then .next ((s.count Obj.MREV_SKIPS).raiseMs 0x0A7 0)
    else
      let s := { s with hist := { s.hist with sumsBuilt := s.hist.sumsBuilt + 1 } }
      let s := (s.oweReel x.desc.lg x.desc.spoke).spokeFor x.desc.lg x.desc.spoke x.desc.first
      .next (s.dispatch (s.mrevSum x.desc))

/-- EGO_STALE: the vehicle speed ages beyond EGO_TIMEOUT, which is reported once at the onset (R442). -/
def execEgoStale (s : State) : Host.Outcome State Fault Refusal :=
  if s.running && s.egoOld && !s.hist.egoStale then .next (({ s with hist := { s.hist with egoStale := true } }).raiseMs 0x0A9 0) else .next s

/-! ### Objects (R413, R416, R443, R444) -/

/-- A key is one of an MREV setting whose write empties the history (R443). -/
def mrevKey (k : Nat) : Bool :=
  k == Obj.MREV_ENABLE || k == Obj.MREV_DEPTH || k == Obj.MREV_START || k == Obj.MREV_SPOKES || k == Obj.MREV_COS

/-- The bits set in a map. -/
def bitCount (bs : List Byte) : Nat := (bs.map (fun b => ((List.range 8).filter (fun i => b.getLsbD i)).length)).sum

/-- The bytes that the history takes with given settings (R444). -/
def mrevBytes (spokes : List Byte) (depth start : Nat) : Nat := bitCount spokes * 256 * depth * (4096 - start) * 4

/-- The settings fit MREV_POOL, and MREV_POOL the DDR5 less 1 GiB (R444). -/
def mrevFits (spokes : List Byte) (depth start pool : Nat) : Bool :=
  decide (mrevBytes spokes depth start ≤ pool * 2 ^ 20)

/-- What a scalar write of chapter 08 is refused with. -/
def histCheck (s : State) (k : Nat) (v : Int) : Option Status :=
  let spokes := s.getBlk Obj.MREV_SPOKES
  let depth := if k = Obj.MREV_DEPTH then v.toNat else s.getN Obj.MREV_DEPTH
  let start := if k = Obj.MREV_START then v.toNat else s.getN Obj.MREV_START
  let pool := if k = Obj.MREV_POOL then v.toNat else s.getN Obj.MREV_POOL
  if k = Obj.MREV_DEPTH ∨ k = Obj.MREV_START ∨ k = Obj.MREV_POOL then
    (if !mrevFits spokes depth start pool ∨ (k = Obj.MREV_POOL ∧ s.getN Obj.DDR_SIZE < v.toNat + 1024) then some .outOfRange else none)
  else none

/-- What a BLOCK write of chapter 08 is refused with. -/
def histBlkCheck (s : State) (k : Nat) (v : List Byte) : Option Status :=
  if k / 256 = Obj.GEAR_TABLE / 256 then (if gearValid v then none else some .outOfRange)
  else if k = Obj.CODE_FAMILY then (if familyOk v && s.spacingOk v then none else some .outOfRange)
  else if k = Obj.MREV_SPOKES ∧ !mrevFits v (s.getN Obj.MREV_DEPTH) (s.getN Obj.MREV_START) (s.getN Obj.MREV_POOL) then
    some .outOfRange
  else none

/-- What an accepted scalar write does. -/
def histApply (s : State) (k : Nat) : State := if mrevKey k then s.emptyAllMrev else s

/-- What an accepted BLOCK write does: a gear table becomes pending (R413). -/
def histBlkApply (s : State) (k : Nat) (v : List Byte) : State :=
  if k / 256 = Obj.GEAR_TABLE / 256 then
    let g := k % 256
    let s := { s with hist := { s.hist with pendingGears := tabPut (fun _ => none) s.hist.pendingGears g (some (v, s.now)) } }
    s.set (Obj.GEAR_PENDING + g) 1
  else if mrevKey k then s.emptyAllMrev
  else s

/-- At boot a stored gear table is in force from the first set (R413). -/
def State.startHist (s : State) : State :=
  { s with hist := { s.hist with
    gears := [0, 1, 2, 3].foldl (fun t g => tabPut (fun _ => gearDefault) t g (s.getBlk (Obj.GEAR_TABLE + g))) [] } }

end Sys2Proof.Machine
end

