-- ==== Sys2Proof/Machine/ResetOps.lean ====
section
/-! DEFINITION. Critical records (R840 to R842), the life cycle (R845) and the reset of the whole device (R873). -/

namespace Sys2Proof.Machine

open Sys2Proof

/-! ### Critical records -/

/-- A critical record: 1 SEAL, 2 IDENTITY, 3 PAIR_EPOCH (R842). -/
def State.record (s : State) (kind : Nat) : CriticalRecord :=
  match kind with
  | 1 => s.nvm.sealRec
  | 2 => s.nvm.identity
  | _ => s.nvm.epochRec

/-- Sets a critical record. -/
def State.setRecord (s : State) (kind : Nat) (r : CriticalRecord) : State :=
  match kind with
  | 1 => { s with nvm := { s.nvm with sealRec := r } }
  | 2 => { s with nvm := { s.nvm with identity := r } }
  | _ => { s with nvm := { s.nvm with epochRec := r } }

/-- The valid copies. -/
def recordCopies (r : CriticalRecord) : List RecordCopy := [r.copy1, r.copy2, r.copy3].filterMap id

/-- The highest sequence of the valid copies. -/
def recordSeq (r : CriticalRecord) : Nat := (recordCopies r).foldl (fun a c => max a c.seq) 0

/-- The valid copies of the highest sequence. -/
def recordTop (r : CriticalRecord) : List RecordCopy := (recordCopies r).filter (fun c => c.seq == recordSeq r)

/-- Valid copies of equal sequence differ in content: CONFLICT (R841). DESIGN CHOICE (log entry 63): so also where the third copy holds a
higher sequence, which two rows of R841 then meet. -/
def recordConflict (r : CriticalRecord) : Bool :=
  (recordCopies r).any (fun a => (recordCopies r).any (fun b => a.seq == b.seq && a.content != b.content))

/-- The copy that stands (R841); none when no copy is valid or the record is in CONFLICT (R842). -/
def recordValue (r : CriticalRecord) : Option RecordCopy := if recordConflict r then none else (recordTop r).head?

/-- A record of three equal copies. -/
def recordOf (c : RecordCopy) : CriticalRecord := ⟨some c, some c, some c⟩

/-- An update: every copy takes the content with the next sequence (R840). -/
def State.updateRecord (s : State) (kind : Nat) (content : List Byte) : State :=
  s.setRecord kind (recordOf ⟨recordSeq (s.record kind) + 1, content⟩)

/-- The verdict of R841: 0 CONSISTENT, 1 REPAIRED, 2 ABSENT, 3 CONFLICT. -/
def recordVerdict (r : CriticalRecord) : Nat :=
  if (recordCopies r).isEmpty then 2
  else if recordConflict r then 3
  else match recordValue r with
    | some c => if r = recordOf c then 0 else 1
    | none => 2

/-- RECORD_STATE of a record as resolved at boot. -/
def State.recordState (s : State) (kind : Nat) : Nat := s.mem.recordState.getD (kind - 1) 2

/-- The record stands: CONSISTENT or REPAIRED. -/
def State.recordStands (s : State) (kind : Nat) : Bool := decide (s.recordState kind ≤ 1)

/-- IDENTITY holds the SERVICE wipe marker in its first byte, then the serial number and the name (R840). -/
def State.identityContent (s : State) : List Byte := ((recordValue s.nvm.identity).map (·.content)).getD [0]

/-! ### Life cycle -/

/-- The life cycle of n blown fuses (R845): 0 BLANK, 1 PROVISIONED, 2 FIELD, 3 SERVICE. -/
def lifecycleOf (n : Nat) : Nat := if n = 0 then 0 else if n = 1 then 1 else if n % 2 = 0 then 2 else 3

/-- LIFECYCLE (R845). -/
def State.lifecycle (s : State) : Nat := lifecycleOf s.otp.fuses

/-- Bits [63:0] of DEVICE_ID (R807). -/
def State.deviceSerial (s : State) : Nat := beAt s.otp.deviceId 8 8

/-! ### The sealed set -/

/-- How many bytes an object of the sealed set takes in the image (R335). -/
def sealSize (d : ObjDesc) : Nat := d.count * (if d.ty = .block then d.hi.toNat else typeSize d.ty)

/-- One object of the working sealed set is loaded from the image. -/
def State.loadSealObject (s : State) (d : ObjDesc) (bs : List Byte) : State :=
  let n := sealSize d / d.count
  (List.range d.count).foldl (fun s i =>
    let k := d.index * 256 + d.base + i
    let v := (bs.drop (n * i)).take n
    if d.ty = .block then s.setBlk k v else s.set k (decodeValue d.ty v)) s

/-- The working sealed set is loaded from an image (R334). -/
def State.loadSeal (s : State) (image : List Byte) : State :=
  (sealObjects.foldl (fun p d => (p.1.loadSealObject d p.2, p.2.drop (sealSize d))) (s, image)).1

/-! ### Device reset (R873) -/

/-- The order of R886. -/
def ResetSource.code : ResetSource → Nat
  | .por => 0 | .brownout => 1 | .pin => 2 | .standby => 3 | .memory => 4 | .watchdog => 5 | .pairConflict => 6 | .host => 7

/-- What the retained register holds after a reset (R873): POR clears it, BROWNOUT keeps the cause and the supply. -/
def Retained.after (r : Retained) (c : ResetSource) (supply : Nat) : Retained :=
  match c with
  | .por => ⟨.por, 0xFF, none, none⟩
  | .brownout => ⟨.brownout, supply, none, none⟩
  | _ => { r with cause := c, brownout := 0xFF }

/-- What stays of the event inputs: the levels at the balls. -/
def keepBalls (t : Tab EvInput) : Tab EvInput :=
  t.foldl (fun u e => tabPut (fun _ => EvInput.init) u e.1 { EvInput.init with ball := e.2.ball }) []

/-- A reset source resets the whole device (R873): all volatile state goes; NVM, OTP and the retained register stay, and the
device is held until release (R877). RESET_COUNT, in the operating log, gains one (R859). The last argument names the supply of
a BROWNOUT. -/
def State.deviceReset (s : State) (c : ResetSource) (supply : Nat) : State :=
  let r := s.reset_
  { State.reset with
    now := s.now, freeCtr := s.freeCtr, sent := s.sent, pending := s.pending, nvm := { s.nvm with busy := .idle, resets := min 0xFFFFFFFF (s.nvm.resets + 1) }, otp := s.otp
    crank := { State.reset.crank with ev := keepBalls s.crank.ev }
    reset_ := { ResetState.init with
      heldAt := s.now
      powerGood := r.powerGood, resetPin := r.resetPin, wake := r.wake, retained := r.retained.after c supply } }

/-- A source that arises in the cycle of a reset takes RESET_CAUSE from a later one of the order of R886. -/
def State.resetTogether (s : State) (c : ResetSource) : State :=
  if s.reset_.phase = .held ∧ s.reset_.heldAt = s.now ∧ c.code < s.reset_.retained.cause.code then
    { s with reset_ := { s.reset_ with retained := s.reset_.retained.after c 0 } }
  else s

end Sys2Proof.Machine
end

