-- ==== Sys2Proof/Machine/Sequencer.lean ====
section
/-! DEFINITION. The cue list and the shot sequencer (chapter 04): the cue window, the swap, the fire decision, codes and
dither, take numbering, and diagnostic pulses. -/

namespace Sys2Proof.Machine

open Sys2Proof

/-! ### Cue entries (R185 to R188) -/

/-- A cue entry from its 64 bits (R185). -/
def cueOf (n : Nat) : Cue :=
  ⟨BitVec.ofNat 24 (n / 2 ^ 40), BitVec.ofNat 10 (n / 2 ^ 30), BitVec.ofNat 2 (n / 2 ^ 28), natBit n 27, BitVec.ofNat 6 (n / 2 ^ 21),
    BitVec.ofNat 4 (n / 2 ^ 17), BitVec.ofNat 7 (n / 2 ^ 10), BitVec.ofNat 10 n⟩

/-- The 64 bits of a cue entry (R185). -/
def Cue.word (c : Cue) : Nat :=
  c.pos.toNat * 2 ^ 40 + c.zone.toNat * 2 ^ 30 + c.lg.toNat * 2 ^ 28 + b2n c.hop * 2 ^ 27 + c.code.toNat * 2 ^ 21 +
    c.energy.toNat * 2 ^ 17 + c.k.toNat * 2 ^ 10 + c.bind.toNat

/-- A list in its byte form, and from it. -/
def cueBytes (l : List Cue) : List Byte := l.flatMap (fun c => beBytes 8 c.word)
def cuesOf (bs : List Byte) : List Cue := (List.range (bs.length / 8)).map (fun i => cueOf (beAt bs (8 * i) 8))

/-- HOP_MASK of a group (R213 to R216). -/
def State.hopMask (s : State) (g : Nat) : Nat := s.getN (Obj.HOP_MASK + g)

/-- An entry is valid (R188). -/
def State.cueValid (s : State) (c : Cue) : Bool :=
  decide (c.lg.toNat < s.groups) && s.inBank c.lg.toNat c.zone.toNat && decide (c.k.toNat ≤ 64) &&
    (!c.hop || s.hopMask c.lg.toNat != 0)

/-- The order of R192 holds. -/
def cueOrder : List Cue → Bool
  | [] => true
  | c :: cs => cs.all (fun d => decide (c.pos.toNat ≤ d.pos.toNat) && !(c.pos == d.pos && c.lg == d.lg)) && cueOrder cs

/-- The active list is valid under R188. -/
def State.activeValid (s : State) : Bool := s.seq.active.all (fun c => s.cueValid c)

/-! ### The cue window (R190 to R198) -/

/-- CUE_RESULT is set; a code other than 0 raises event 0x045, which carries it (R198). -/
def State.cueResult (s : State) (code : Nat) : State :=
  let s := s.set Obj.CUE_RESULT code
  if code = 0 then s else s.raise 0x045 (code * 2 ^ 24)

/-- The fields of a CUE_WINDOW value (R190). -/
def winOp (v : List Byte) : Nat := beAt v 0 1
def winFirst (v : List Byte) : Nat := beAt v 2 2
def winCount (v : List Byte) : Nat := beAt v 4 2
def winCues (v : List Byte) : List Cue := cuesOf (v.drop 8)

/-- The header of a CUE_WINDOW value is valid against a staged list (R191). -/
def winHeaderOk (staged : Nat) (v : List Byte) : Bool :=
  let op := winOp v
  decide (1 ≤ op ∧ op ≤ 4) && beAt v 1 1 == 0 && beAt v 6 2 == 0 && decide (8 ≤ v.length) &&
    v.length == (if op ≤ 2 then 8 + 8 * winCount v else 8) && decide (winFirst v ≤ staged) &&
    (op != 3 || decide (winFirst v + winCount v ≤ staged)) && (op != 4 || (winFirst v == 0 && winCount v == 0))

/-- The staged list after a CUE_WINDOW value (R190). -/
def winApply (staged : List Cue) (v : List Byte) : List Cue :=
  let f := winFirst v
  let n := winCount v
  match winOp v with
  | 1 => staged.take f ++ winCues v ++ staged.drop (f + n)
  | 2 => staged.take f ++ winCues v ++ staged.drop f
  | 3 => staged.take f ++ staged.drop (f + n)
  | _ => []

/-- Where a CUE_WINDOW value moves an entry of the staging bank; none for one that it overwrites or removes (R190). -/
def winMove (v : List Byte) (i : Nat) : Option Nat :=
  let f := winFirst v
  let n := winCount v
  if i < f then (if winOp v = 4 then none else some i)
  else match winOp v with
    | 1 => if i < f + n then none else some i
    | 2 => some (i + n)
    | 3 => if i < f + n then none else some (i - n)
    | _ => none

/-- The void entries of the staging bank, by index (R826). -/
def State.stagedVoid (s : State) : List Nat := (s.seq.void_.filter (fun i => decide (16384 ≤ i))).map (fun i => i - 16384)

/-- The void entries of the active bank. -/
def State.activeVoid (s : State) : List Nat := s.seq.void_.filter (fun i => decide (i < 16384))

/-- The void entries once some of the staging bank are left. -/
def State.voidWith (s : State) (staged : List Nat) : List Nat := s.activeVoid ++ staged.map (fun i => i + 16384)

/-- The code of R191 for a value against a staged list; 0 when it passes. DESIGN CHOICE (log entry 74): a window that both exceeds the
list and holds an invalid entry reports 0x31; R191 orders its causes nowhere. -/
def State.windowCode (s : State) (staged : List Cue) (v : List Byte) : Nat :=
  if !winHeaderOk staged.length v then 0x30
  else if 16384 < (winApply staged v).length then 0x31
  else if winOp v ≤ 2 ∧ !(winCues v).all (fun c => s.cueValid c) then 0x33
  else 0

/-- The list that a CUE_WINDOW value meets: during the copy, the bank that the copy and the writes held before it leave
(R195). -/
def State.stagedFor (s : State) : List Cue :=
  if s.seq.copying.isSome then s.seq.heldWindow.foldl winApply s.seq.active else s.seq.staging

/-- An accepted CUE_WINDOW value edits the staging bank, or waits for the end of the copy (R190, R195). -/
def State.editWindow (s : State) (v : List Byte) : State :=
  if s.seq.copying.isSome then { s with seq := { s.seq with heldWindow := s.seq.heldWindow ++ [v] } }
  else { s with seq := { s.seq with
    staging := winApply s.seq.staging v, void_ := s.voidWith (s.stagedVoid.filterMap (winMove v)) } }

/-- The code of a CUE_BOOT value (R196). DESIGN CHOICE (log entry 74): a list that fails both R188 and R192 reports 0x33. -/
def State.bootCode (s : State) (v : List Byte) : Nat :=
  if v.length % 8 ≠ 0 then 0x30
  else if !(cuesOf v).all (fun c => s.cueValid c) then 0x33
  else if !cueOrder (cuesOf v) then 0x32
  else 0

/-- The code of a commit (R192, R194), OUT_OF_RANGE before STATE (R65): what is submitted holds the writes that wait for the end of
the copy (R195, R244). -/
def State.commitCode (s : State) : Nat := if !cueOrder s.stagedFor then 0x32 else if s.seq.pending then 0x34 else 0

/-! ### The swap (R193) -/

/-- The zero position that a pending swap waits for. -/
def State.swapZero (s : State) : Int := (s.seq.commitAt / revTu + 1) * revTu

/-- A pending swap takes place at once (R193). -/
def State.swapNow (s : State) : Bool :=
  s.seq.state == .stopped || s.seq.state == .armed || !((s.axis s.cueAxis).st.fires)

/-- On an ACTIVE device a CUE frame carries the new list (R798). -/
def State.sendCues (s : State) : State :=
  if s.pair.role = .active then s.sendFarlu 0x14 (beBytes 2 s.seq.active.length ++ [0, 0] ++ cueBytes s.seq.active) else s

/-- A swap to an empty list while RUNNING raises event 0x046. -/
def State.noteEmptyList (s : State) : State :=
  if s.seq.state == .running && s.seq.active.isEmpty then s.raise 0x046 0 else s

/-- The copy of the new active bank ends, and held writes are applied (R195, R244). -/
def State.finishCopy (s : State) : State :=
  { s with seq := { s.seq with
    staging := s.stagedFor, copying := none, heldWindow := [], void_ := if s.seq.copying.isSome then s.activeVoid else s.seq.void_ } }

/-- The banks swap; the staging bank is then a copy in progress, and void entries of the old one are void in the active bank (R193,
R195, R826). A copy that still runs ends first (R195, R244; DEDUCED,
log entry 74). DESIGN CHOICE (log entry 74): at a swap that takes place at once the pointer is entry 0 (R193), and not the first entry
ahead (R203), which entry into RUNNING sets. -/
def State.swapBanks (s : State) (lookAt : Int) : State :=
  let s := s.finishCopy
  (({ s with seq := { s.seq with
    active := s.seq.staging, staging := s.seq.active, void_ := s.stagedVoid, next := 0, lookAt := some lookAt, latched := [], pending := false
    copying := some s.now, heldWindow := [] } }).raise 0x044 0).noteEmptyList.sendCues

/-- A pending swap follows when its condition holds. -/
def State.trySwap (s : State) : State :=
  if !s.seq.pending then s
  else if s.swapNow then s.swapBanks (s.lookAhead s.cueAxis)
  else if s.swapZero ≤ s.lookAhead s.cueAxis then s.swapBanks s.swapZero
  else s

/-- CUE_SWAP (R193). -/
def execCueSwap (s : State) : Host.Outcome State Fault Refusal := .next s.trySwap

/-- STAGING_COPY_DONE: the copy of the new active bank ends, and held writes are applied (R195). -/
def execStagingCopyDone (s : State) : Host.Outcome State Fault Refusal :=
  match s.seq.copying with
  | none => .next s
  | some _ => .next s.finishCopy

/-! ### Crossings (R204 to R206, R212) -/

/-- The exact instant at which the line of an axis, or local time on a VIRTUAL axis, reaches a position, in taps (R205). -/
def State.reachesAt (s : State) (a : Nat) (p : Int) : Rat :=
  if s.axisMode a = 3 then
    let x := s.axis a
    let loc : Rat := (p : Rat) * x.vPeriod * 16777216 / 4294967296 + (x.vPhase : Rat) * 16777216
    (s.nowTaps : Rat) + (loc - (s.time.total : Nat)) * 64 / (s.get Obj.CLOCK_INCREMENT : Int)
  else
    let c := (s.axis a).core
    (((p * c.n - c.pSum : Int) : Rat) * c.vDen / ((c.vNum * c.n : Int) : Rat) + (c.tSum : Rat) / c.n) / 16

/-- The crossing instant of a cue at an unwrapped position by the line in use: inside a stepped span, the cycle of the step plus 40 ns
(R205, R212). -/
def State.crossingNow (s : State) (p : Int) : Rat :=
  match (s.axis s.cueAxis).step_ with
  | some (t, b, e) => if b < p ∧ p ≤ e then ((64 * t + 2560 : Nat) : Rat) else s.reachesAt s.cueAxis p
  | none => s.reachesAt s.cueAxis p

/-- The crossing instant that a waiting cue at a position had in the cycle of its crossing (R205, R207). -/
def State.latchedAt (s : State) (p : Int) : Option Rat := (s.seq.latched.find? (fun e => e.1 == p)).map (·.2)

/-- The crossing instant of a cue at an unwrapped position: that of the cycle in which it was crossed (R205). -/
def State.crossingAt (s : State) (p : Int) : Rat := (s.latchedAt p).getD (s.crossingNow p)

/-- The next cue and the unwrapped position at which it is crossed next. -/
def State.nextCue (s : State) : Option (Cue × Int) :=
  match s.seq.active[s.seq.next]? with
  | none => none
  | some c =>
    let from_ := s.seq.lookAt.getD (s.lookAhead s.cueAxis)
    some (c, from_ + (c.tu - from_) % revTu)

/-- The pointer moves past the cue at position p (R203). -/
def State.passCue (s : State) (p : Int) : State :=
  if s.seq.next + 1 < s.seq.active.length then { s with seq := { s.seq with next := s.seq.next + 1, lookAt := some p } }
  else { s with seq := { s.seq with next := 0, lookAt := some (p + 1) } }

/-- A cue is crossed now: the sequencer decides, and a swap that is due at 0 comes first (R204, R232). -/
def State.crossed (s : State) : Option (Cue × Int) :=
  if s.seq.state == .running && (s.axis s.cueAxis).st.fires && !s.isShadow then
    match s.nextCue with
    | none => none
    | some (c, p) =>
      if (p ≤ s.lookAhead s.cueAxis ∨ (s.latchedAt p).isSome) ∧ !(s.seq.pending && decide (s.swapZero ≤ p)) then some (c, p) else none
  else none

/-- The crossed cues that wait, in list order, with their crossing instants. -/
def State.crossings (s : State) : Nat → List (Int × Rat)
  | 0 => []
  | n + 1 => match s.crossed with
    | some (_, p) => (p, s.crossingAt p) :: (s.passCue p).crossings n
    | none => []

/-- As a core cycle ends, the crossed cues that it has not examined keep their crossing instants (R207). -/
def State.latchCrossings (s : State) : State :=
  if s.seq.state == .running then { s with seq := { s.seq with latched := s.crossings s.seq.active.length } } else s

/-! ### Codes and dither (R213 to R216) -/

/-- One clock of an LFSR (R214). -/
def lfsrClock (x : Nat) : Nat × Nat :=
  let b := (x / 2 ^ 30 + x / 2 ^ 27) % 2
  ((2 * x + b) % 2 ^ 31, b)

/-- The draw u of n clocks and the LFSR state after it (R214). -/
def lfsrDraw : Nat → Nat → Nat → Nat × Nat
  | 0, x, u => (x, u)
  | n + 1, x, u => let c := lfsrClock x; lfsrDraw n c.1 (2 * u + c.2)

/-- The LFSR of a group. -/
def State.lfsr (s : State) (g : Nat) : Nat := tabGet (fun _ => 0) s.seq.lfsr g

/-- The code of a take (R215). -/
def State.selectCode (s : State) (c : Cue) (u : Nat) : Nat :=
  if c.hop then
    let on := (List.range 64).filter (fun i => natBit (s.hopMask c.lg.toNat) i)
    on.getD (u % 256 % max 1 on.length) 0
  else c.code.toNat

/-- The dither in ns (R215). -/
def State.dither (s : State) (g u : Nat) : Nat := u / 256 % 256 * (s.getN (Obj.DITHER_MAX + g) + 1) / 256

/-! ### The decision (R206 to R211, R217, R218) -/

/-- The ready time of a group, in taps (R209), extended by R258. -/
def State.groupReady (s : State) (g : Nat) : Int :=
  let r := tabGet (fun _ => 0) s.seq.ready g
  if s.matrixMode then max r (s.emit.matrixEnd + 64 * s.get Obj.PRECHARGE) else r

/-- The earliest trigger of a take of a group, in taps: its ready time, and the end of the span after a diagnostic pulse (R226). -/
def State.readyAt (s : State) (g : Nat) : Int := max (s.groupReady g) s.seq.diagUntil

/-- The earliest first edge of a take of a group decided now. -/
def State.earliest (s : State) (g : Nat) : Int := max (s.readyAt g) (s.nowTaps + 39 * 64)

/-- LG_WINDOW of a group. -/
def State.lgWindow (s : State) (g : Nat) : Nat := s.getN (Obj.LG_WINDOW + g)

/-- A skipped cue: counted and reported (R208). -/
def State.skip (s : State) (k e : Nat) : State := (s.count k).raise e 0

/-- The fire decisions of the preceding 64 µs. -/
def State.recentDecisions (s : State) : List Time := s.seq.decisions.filter (fun t => decide (s.now < t + us 64))

/-- The revolution count of an axis predicted for an unwrapped position (R138, R211). -/
def State.revAt (s : State) (a : Nat) (p : Int) : Nat :=
  (((s.axis a).revolution + (p / revTu - (s.axis a).turn)) % 2 ^ 40).toNat

/-- A take takes the next number; the wrap raises event 0x048 (R217, R218). -/
def State.nextNumber (s : State) : State :=
  if s.seq.takeSeq = 2 ^ 48 - 1 then
    ({ s with seq := { s.seq with takeSeq := 0, epoch := (s.seq.epoch + 1) % 65536, wrapDue := true } }).raise 0x048 0
  else { s with seq := { s.seq with takeSeq := s.seq.takeSeq + 1, wrapDue := false } }

/-- The take record of a decision (R211, R223). -/
def State.takeRecord (s : State) (c : Cue) (code d : Nat) (trig : Int) : Take :=
  let g := c.lg.toNat
  let a := s.cueAxis
  let z := c.zone.toNat
  let word := beAt (s.getBlk Obj.CODE_FAMILY) (4 * code) 4
  let loc := (s.localAt trig).toNat
  let pulses := codeOffsets word
  let width := widthTaps (s.getN (Obj.TRIG_WIDTH + s.trigOf z))
  { seq := s.seq.takeSeq, epoch := s.seq.epoch, wrapped := s.seq.wrapDue, group := g, zone := z
    energy := s.energyStep g c.energy.toNat, code := code, dither := d, trig := trig, window := s.lgWindow g
    posA := s.wrapped 0 (s.predict 0 trig), posB := s.wrapped 1 (s.predict 1 trig), rev := s.revAt a (s.predict a trig)
    bind := c.bind.toNat, freewheel := (s.axis 0).st.unsure || (s.axis 1).st.unsure, sec := loc / 16777216 / 1000000000, ns := loc / 16777216 % 1000000000
    frac := loc % 16777216, tepoch := s.getN Obj.TIME_EPOCH, unsync := !s.synced, disabled := false, held := false, blocked := false
    issued := false, start := none, pulses := pulses, word := word, width := width
    capOpen := trig - 6 * 64, capEnd := trig + 64 * ((pulses.getLast?.getD 0 : Nat) : Int) + width + 64 * s.get Obj.MPD_TAIL
    captured := false, captureDone := false, closed := false, offLoop := false, setting := 0, diag := false, set_ := 0, slot := s.freeTakeSlot, lost := false }

/-- The take with local time, its epoch and its lock as they are at its t_trig, and not as the fire decision saw them ahead (R549, R551,
R552). -/
def State.stamped (s : State) (t : Take) : Take :=
  let loc := (s.localAt t.trig).toNat
  { t with
    sec := loc / 16777216 / 1000000000, ns := loc / 16777216 % 1000000000, frac := loc % 16777216
    tepoch := s.getN Obj.TIME_EPOCH, unsync := !s.synced }

/-- What a take has handed on takes its stamp. -/
def FirstTake.restamp (f : FirstTake) (t : Take) : FirstTake :=
  if f.seq = t.seq ∧ f.epoch = t.epoch ∧ f.trig = t.trig then
    { f with sec := t.sec, ns := t.ns, frac := t.frac, tepoch := t.tepoch, unsync := t.unsync } else f

/-- A take is stamped, in its record, its set and its spoke, and its reels carry STALE where R590 says so. -/
def State.stampTake (s : State) (t : Take) : State :=
  let u := s.stamped t
  let s := s.staleTake t
  { s with
    seq := { s.seq with takes := s.seq.takes.map (fun x => if x.same t then u else x) }
    hist := { s.hist with sets := s.hist.sets.map (fun r => { r with first := r.first.restamp u }) }
    pipe := { s.pipe with spokes := s.pipe.spokes.map (fun x => { x with first := x.first.restamp u }) } }

/-- The takes whose t_trig lies in the core cycle that is over are stamped. -/
def State.stampTakes (s : State) : State :=
  (s.seq.takes.filter (fun t => decide (s.nowTaps ≤ t.trig ∧ t.trig < s.nowTaps + 64))).foldl (fun s t => s.stampTake t) s

/-- The set of the take: the open one of its group, or, after a closure or for another BIND, a new one (R221, R222, R544). A set that
waits to close early closes before the take is added (R202). -/
def State.setFor (s : State) (t : Take) (k : Nat) : Nat × State :=
  match s.openSet t.group with
  | some r =>
    if r.bind = t.bind ∧ !r.closing then (r.id, s)
    else ((s.closeEarly t.group).spokeFor t.group t.bind (t.firstTake (s.cueAxis == 0))).openReelSet t k
  | none => (s.spokeFor t.group t.bind (t.firstTake (s.cueAxis == 0))).openReelSet t k

/-- The spoke of a set carries WRAP when the take numbered 0 by the wrap feeds it (R218). -/
def State.noteWrap (s : State) (id : Nat) (t : Take) : State :=
  if t.wrapped then
    (s.mapSet id (fun r => { r with wrap := true })).mapSpoke t.group t.bind (fun x => { x with wrap := true })
  else s

/-- A take record enters: its set takes it, and it is in flight (R221, R223). -/
def State.placeTake (s : State) (t : Take) (k : Nat) : State :=
  let r := s.setFor t (if k = 0 then s.getN Obj.REEL_K else k)
  let s := (r.2.joinSet r.1 t).noteWrap r.1 t
  { s with seq := { s.seq with takes := s.seq.takes ++ [{ t with set_ := r.1 }] } }

/-- Whether a take may drive its pins: not on a disabled zone (R250), and not against the budget (R313); one that may is
charged (R312). -/
def State.admitTake (s : State) (t : Take) : Take × State :=
  if s.zoneDisabled t.zone then ({ t with disabled := true }, s.count Obj.DISABLED_TAKES)
  else if s.budgetOk t.zone then (t, s.charge t.seq t.epoch t.group t.zone t.trig)
  else ({ t with held := true }, s.budgetHold)

/-- The matrix interval of a driving take is decided (R256, R257). -/
def State.scheduleMatrix (s : State) (t : Take) : State :=
  if s.matrixMode && t.drives then
    let m := s.matrixOf t s.nowTaps
    { s with emit := { s.emit with matrix := s.emit.matrix ++ [m], matrixEnd := m.stop } }
  else s

/-- OUTCOME of a TAKE frame (R798). -/
def State.outcome (s : State) (t : Take) : Nat :=
  if t.diag then 4 else if t.disabled then 3 else if t.held then 2 else if s.gateOpen then 0 else 1

/-- The payload of a TAKE frame (R798). -/
def State.takePayload (s : State) (t : Take) (k : Nat) : List Byte :=
  beBytes 6 t.seq ++ beBytes 2 t.epoch ++ beBytes 1 t.group ++ beBytes 1 (s.outcome t) ++ beBytes 2 t.zone ++
    beBytes 1 t.energy ++ beBytes 1 t.code ++ beBytes 1 t.dither ++ beBytes 2 t.bind ++ beBytes 1 k ++
    beBytes 4 (s.lfsr t.group) ++ beBytes 1 (b2n t.freewheel) ++ [0]

/-- A TAKE frame of an ACTIVE device (R798).  A take record goes to trace with the first 16 bytes of that payload (R857). -/
def State.sendTake (s : State) (t : Take) (k : Nat) : State :=
  let s := if s.pair.role = .active then s.sendFarlu 0x11 (s.takePayload t k) else s
  s.traceSend 26 0 ((s.takePayload t k).take 16)

/-- A decided take goes on its way: charge, matrix interval, chain frame, record, TAKE frame. -/
def State.launch (s : State) (t : Take) (k : Nat) : State :=
  let a := s.admitTake t
  (((a.2.scheduleMatrix a.1).placeTake a.1 k).requestFrame t.group).sendTake a.1 k

/-- The decision of a cue that passed the checks of R208. -/
def State.fire (s : State) (c : Cue) (at_ : Rat) : State :=
  let g := c.lg.toNat
  let u := lfsrDraw 16 (s.lfsr g) 0
  let s := { s with seq := { s.seq with lfsr := tabPut (fun _ => 0) s.seq.lfsr g u.1 } }
  let code := s.selectCode c u.2
  let d := s.dither g u.2
  let base : Rat := if at_ < (s.earliest g : Int) then (s.earliest g : Int) else at_
  let trig := (base + (64 * d : Nat) + 1 / 2).floor
  let t := s.takeRecord c code d trig
  let s := { s.nextNumber with seq := { s.nextNumber.seq with
    ready := tabPut (fun _ => 0) s.seq.ready g (trig + 64 * (t.window + 50 : Nat))
    decisions := (s.now :: s.seq.decisions).take 64 } }
  s.launch t c.k.toNat

/-- The checks of R208, in their order. -/
def State.examine (s : State) (c : Cue) (p : Int) : State :=
  let at_ := s.crossingAt p
  let g := c.lg.toNat
  if 16384 ≤ s.inFlight then s.skip Obj.SKIP_IN_FLIGHT 0x041
  else if 64 ≤ s.recentDecisions.length then s.skip Obj.SKIP_RATE 0x043
  else if (64 * s.getN (Obj.CUE_SLACK + g) : Nat) < (s.earliest g : Int) - at_ then s.skip Obj.SKIP_LATE 0x042
  else s.fire c at_

/-- How many crossed cues this core cycle has examined (R207). -/
def State.examinedNow (s : State) : Nat := if s.seq.examAt = s.now then s.seq.examined else 0

/-- FIRE_DECISION: the next crossed cue is examined, at most 4 in a core cycle (R207, R208). A void entry does not fire. -/
def execFireDecision (s : State) : Host.Outcome State Fault Refusal :=
  match s.crossed with
  | none => .next s
  | some (c, p) =>
    if 4 ≤ s.examinedNow then .next s
    else
      let void := s.seq.void_.contains s.seq.next
      let s := { s with seq := { s.seq with examAt := s.now, examined := s.examinedNow + 1 } }.passCue p
      .next (if void then s else s.examine c p)

/-! ### Diagnostic pulses (R224 to R227) -/

/-- The zones that a diagnostic pulse can serve, in the order of R227: not an inhibited zone (R250, R291), nor one that lies in no bank
(R245). -/
def State.dueZones (s : State) : List Nat :=
  sortBy (fun a b => decide ((s.zone a).dueAt < (s.zone b).dueAt) || ((s.zone a).dueAt == (s.zone b).dueAt && decide (a ≤ b)))
    (s.waitingZones.filter (fun z => !s.zoneDisabled z && (List.range s.groups).any (fun g => s.inBank g z)))

/-- The next cue lies more than 240 ns of travel ahead (R225). -/
def State.cueFar (s : State) : Bool :=
  match s.nextCue with
  | none => true
  | some (_, p) => decide (((s.nowTaps + 280 * 64 : Int) : Rat) < s.crossingAt p)

/-- The end of the no-trigger span of a diagnostic pulse inserted now: 40 ns to its trigger, and 200 ns (R226). -/
def State.diagSpan (s : State) : Int := s.nowTaps + 240 * 64

/-- The conditions of R225; one pulse in a core cycle. In MATRIX mode the ready time holds the end of the last matrix interval (R258,
R287). -/
def State.diagPlace (s : State) : Bool :=
  s.seq.state == .running && s.seq.turnAt.isSome && s.inTurnaround && decide (s.seq.turnServed < s.getN Obj.DIAG_PER_TURN) &&
    (List.range s.groups).all (fun g => decide (s.groupReady g ≤ s.nowTaps)) && decide (s.seq.diagUntil < s.diagSpan) &&
    s.gateOpen && !s.isShadow && s.cueFar

/-- A diagnostic pulse on a zone (R226). -/
def State.diagTake (s : State) (z : Nat) : Take :=
  let trig := s.nowTaps + 40 * 64
  let width := widthTaps (s.getN Obj.DIAG_WIDTH)
  { s.takeRecord ⟨0, BitVec.ofNat 10 z, 0, false, 0, 0, 0, 0⟩ 0 0 trig with
    seq := 0, wrapped := false, group := s.trigOf z / (32 / s.groups), energy := 0, window := 0, pulses := [0], word := 0, width := width
    capEnd := trig + width + 64 * s.get Obj.MPD_TAIL, diag := true }

/-- The zone is served in the running interval; its DUE stands until the boundary (R227, R280). -/
def State.serveZone (s : State) (z : Nat) : State := s.setZone z { s.zone z with served := true }

/-- A diagnostic pulse is inserted: charged, or held against the budget, like any firing (R226, R313). -/
def State.insertDiag (s : State) (z : Nat) : State :=
  let a := (s.serveZone z).admitTake (s.diagTake z)
  let t := a.1
  let s := a.2.scheduleMatrix t
  let s := { s with seq := { s.seq with
    diags := if t.drives then s.seq.diags ++ [t] else s.seq.diags, turnServed := s.seq.turnServed + 1, diagUntil := s.diagSpan } }
  ((s.count Obj.DIAG_PULSES).raise 0x049 (z * 2 ^ 16)).sendTake t 0

/-- DIAG_PULSE_INSERT: the oldest due zone is served (R225 to R227). -/
def execDiagPulseInsert (s : State) : Host.Outcome State Fault Refusal :=
  if s.diagPlace then
    match s.dueZones with
    | [] => .next s
    | z :: _ => .next (s.insertDiag z)
  else .next s

/-- DIAG_TURNAROUND_END: axis A has left the span of its facet start (R224, R227). -/
def execDiagTurnaroundEnd (s : State) : Host.Outcome State Fault Refusal :=
  if s.inTurnaround then .next s else .next s.endTurnaround

/-! ### Objects -/

/-- The key of CUE_COMMIT and CUE_CAPTURE (R192, R197). -/
def cueKey : Int := 0x63756573

/-- What a scalar write of the sequencer is refused with (R30, R192, R194, R197, R201, R213, R216, R219). -/
def seqCheck (s : State) (k : Nat) (v : Int) : Option Status :=
  if k = Obj.CUE_COMMIT then
    (if v ≠ cueKey then some .key else match s.commitCode with | 0 => none | 0x34 => some .state | _ => some .outOfRange)
  else if k = Obj.CUE_CAPTURE then (if v ≠ cueKey then some .key else none)
  else if k = Obj.SEQ_CTRL ∧ v = 1 then
    (if s.seq.state ≠ .stopped then some .state else if !s.activeValid then some .outOfRange else none)
  else if (k / 256 = Obj.HOP_SEED / 256 ∨ k = Obj.SEQ_EPOCH_INIT) ∧ s.seq.state ≠ .stopped then some .state
  else if k = Obj.LISTEN_GROUPS ∧ !s.seqIdle then some .state
  else none

/-- CUE_RESULT after a refused scalar write (R192, R194, R198, R201): a STATE of another rule, such as R799, leaves it. -/
def seqRefused (s : State) (k : Nat) (v : Int) (st : Status) : State :=
  if k = Obj.CUE_COMMIT ∧ ((st = .state ∧ s.seq.pending) ∨ st = .outOfRange) then s.cueResult s.commitCode
  else if k = Obj.SEQ_CTRL ∧ v = 1 ∧ st = .outOfRange then s.cueResult 0x33
  else s

/-- START: ARMED, and RUNNING on a firing axis (R200). -/
def State.seqStart (s : State) : State := ((s.setSeqState .armed).seqFollowAxis).trySwap

/-- STOP (R200, R201). -/
def State.seqStop (s : State) : State :=
  if s.seq.state = .armed ∨ s.seq.state = .running then ((s.setSeqState .draining).drainCheck).trySwap else s

/-- What an accepted scalar write of the sequencer does. -/
def seqApply (s : State) (k : Nat) (v : Int) : State :=
  if k = Obj.CUE_COMMIT then
    ({ s.cueResult 0 with seq := { s.seq with pending := true, commitAt := s.lookAhead s.cueAxis } }).trySwap
  else if k = Obj.CUE_CAPTURE then s.setBlk Obj.CUE_BOOT (cueBytes s.seq.active)
  else if k = Obj.SEQ_CTRL then (if v = 1 then (s.cueResult 0).seqStart else s.seqStop)
  else if k = Obj.SEQ_EPOCH_INIT then { s with seq := { s.seq with epoch := v.toNat, takeSeq := 0, wrapDue := false } }
  else s

/-- What a BLOCK write of the sequencer is refused with (R191, R194, R196), OUT_OF_RANGE before STATE (R65). -/
def seqBlkCheck (s : State) (k : Nat) (v : List Byte) : Option Status :=
  if k = Obj.CUE_WINDOW then
    (if s.windowCode s.stagedFor v ≠ 0 then some .outOfRange else if s.seq.pending then some .state else none)
  else if k = Obj.CUE_BOOT ∧ s.bootCode v ≠ 0 then some .outOfRange
  else none

/-- CUE_RESULT after a refused BLOCK write (R198): a STATE of another rule, such as R799, leaves it. -/
def seqBlkRefused (s : State) (k : Nat) (v : List Byte) (st : Status) : State :=
  if k = Obj.CUE_WINDOW ∧ st = .state ∧ s.seq.pending then s.cueResult 0x34
  else if k = Obj.CUE_WINDOW ∧ st = .outOfRange then s.cueResult (s.windowCode s.stagedFor v)
  else if k = Obj.CUE_BOOT ∧ st = .outOfRange then s.cueResult (s.bootCode v)
  else s

/-- What an accepted BLOCK write of the sequencer does. -/
def seqBlkApply (s : State) (k : Nat) (v : List Byte) : State :=
  if k = Obj.CUE_WINDOW then (s.editWindow v).cueResult 0
  else if k = Obj.CUE_BOOT then s.cueResult 0
  else s

/-- At reset CUE_BOOT loads into both banks if it is valid, and SEQ_AUTOSTART arms the sequencer (R196, R200, R219). -/
def State.startSeq (s : State) : State :=
  let v := s.getBlk Obj.CUE_BOOT
  let s := { s with seq := { s.seq with epoch := s.getN Obj.SEQ_EPOCH_INIT, takeSeq := 0 } }
  if s.bootCode v = 0 then
    let s := { s with seq := { s.seq with active := cuesOf v, staging := cuesOf v } }
    if s.getB Obj.SEQ_AUTOSTART then s.seqStart else s
  else s.raise 0x04B 0

end Sys2Proof.Machine
end

