-- ==== Sys2Proof/Machine/PairOps.lean ====
section
/-! DEFINITION. The pair (chapter 16): trigger drive detection, claims and takeover, epochs, and how a SHADOW follows takes. -/

namespace Sys2Proof.Machine

open Sys2Proof

/-! ### Drive state (R788) -/

/-- The TRIG outputs of the groups that exist (R29). -/
def State.trigOutputs (s : State) : List Nat := List.range (32 / s.groups * s.groups)

/-- The class of a TRIG pair. -/
def State.driveClass (s : State) (n : Nat) : DriveClass := tabGet (fun _ => .undriven) s.pair.classes n

/-- The drive state of the device (R788). -/
def State.driveState (s : State) : DriveState :=
  let any := fun c => s.trigOutputs.any (fun n => s.driveClass n == c)
  if any .contention then .contention
  else if any .driven then (if s.pair.driving then .own else .partner)
  else .undriven

/-- DRIVE of PAIR_STATUS (R811). -/
def DriveState.code : DriveState → Nat
  | .undriven => 0 | .own => 1 | .partner => 2 | .contention => 3

/-! ### Objects (R811) -/

/-- PAIR_STATUS. -/
def State.pairStatus (s : State) : Nat :=
  let b := s.pair.beat
  b2n s.pair.partnerSeen * 2 ^ 15 + b2n s.pair.mirrorSync * 2 ^ 14 + s.driveState.code * 2 ^ 12 +
    ((b.map (·.role)).getD 0 % 8) * 2 ^ 9 + ((b.map (·.safety)).getD 0 % 8) * 2 ^ 6 + b2n s.pair.lastSumOk * 2 ^ 5

/-! ### Conflicts of configuration (R810) -/

/-- The partner's HEARTBEAT reports the device's own position. -/
def State.samePosition (s : State) (b : PartnerBeat) : Bool := b.position == s.pair.position

/-- The partner's HEARTBEAT reports another SEAL_CRC. -/
def State.sealDiffers (s : State) (b : PartnerBeat) : Bool := b.sealCrc != s.getN Obj.SEAL_CRC

/-- A device that is not ACTIVE stays in PAIRING and claims nothing (R810). -/
def State.pairBlocked (s : State) : Bool :=
  match s.pair.beat with
  | some b => s.samePosition b || s.sealDiffers b
  | none => false

/-! ### Claims (R791) -/

/-- The claim quiet time. -/
def State.claimQuiet (s : State) : Nat := if s.pair.position = 0 then us 10 else us 100

/-- A claim starts: the quiet time counts from the onset of UNDRIVEN (R791, R793). -/
def State.startClaim (s : State) (takeover : Bool) : State :=
  match s.pair.undrivenSince, s.pair.claim with
  | some t, .none => { s with pair := { s.pair with claim := .quiet t, takeover := takeover } }
  | _, _ => s

/-- A verdict that names this device starts its claim once the lines are undriven (R790, R808). -/
def State.verdictClaim (s : State) : State :=
  if s.pair.role == .pairing && s.pair.verdict && !s.pairBlocked then s.startClaim false else s

/-- CONTENTION during a claim: at position S it fails, the pins are released and the role stays (R791). -/
def State.failClaim (s : State) : State := s.releasePins.count Obj.CONTENTIONS

/-- CONTENTION is seen: every device of a pair raises event 0x142 (R813), and at position S an ACTIVE device enters SHADOW and a claim
fails (R791, R792). -/
def State.seeContention (s : State) : State :=
  if s.pair.role = .solo then s
  else
    let s := s.raise 0x142 0
    if s.pair.position = 0 then s
    else if s.pair.role = .active then s.stop.releasePins.setRole .shadow
    else match s.pair.claim with
      | .watching _ => s.failClaim
      | _ => s

/-- A claim ends without having been made: the device drives nothing. -/
def State.endClaim (s : State) : State := { s with pair := { s.pair with driving := false, claim := .none } }

/-- The drive state has changed (R788, R790, R791). -/
def State.driveChanged (s : State) (old : DriveState) : State :=
  let new_ : DriveState := s.driveState
  if new_ = old then s
  else
    let s := { s with pair := { s.pair with undrivenSince := if new_ == DriveState.undriven then some s.now else none } }
    let s := match s.pair.claim with
      | .quiet _ => if new_ == DriveState.undriven then s else { s with pair := { s.pair with claim := .none } }
      | _ => s
    match (new_ : DriveState) with
    | .contention => s.seeContention
    | .partner => if s.pair.role == .pairing && !s.pairBlocked then s.setRole .shadow else s
    | .undriven => s.verdictClaim
    | .own => s

/-- The class of a level's band. -/
def driveClassOf : DriveLevel → DriveClass
  | .undriven => .undriven | .driven => .driven | .contention => .contention

/-- TRIG_DRIVE_CLASS_CHANGE: a level has stayed in a new band for 200 ns (R788). -/
def execTrigDriveClassChange (pair : Fin 32) (level : DriveLevel) (s : State) : Host.Outcome State Fault Refusal :=
  let old := s.driveState
  let s := { s with pair := { s.pair with classes := tabPut (fun _ => DriveClass.undriven) s.pair.classes pair (driveClassOf level) } }
  .next (s.driveChanged old)

/-- TAKEOVER: a SHADOW's drive state has been UNDRIVEN for DRIVE_LOSS_TIME (R793); event 0x141 says whether it has no mirror state
(R804). A device that R810 blocks claims nothing. -/
def execTakeover (s : State) : Host.Outcome State Fault Refusal :=
  match s.pair.undrivenSince, s.pair.claim with
  | some t, .none =>
    if s.pair.role == .shadow && !s.pairBlocked && reached s.now t (us (s.getN Obj.DRIVE_LOSS_TIME)) then
      let s := (s.count Obj.TAKEOVERS).raise 0x141 (if s.pair.mirrorSync then 0 else 0x01000000)
      .next (s.startClaim true)
    else .next s
  | _, _ => .next s

/-- ALONE_WAIT_EXPIRY: no partner HEARTBEAT for ALONE_WAIT since reset release, and undriven lines (R790). -/
def execAloneWaitExpiry (s : State) : Host.Outcome State Fault Refusal :=
  if s.running && s.pair.role == .pairing && s.pair.beat.isNone && s.driveState == .undriven &&
      reached s.now s.reset_.releasedAt (ms (s.getN Obj.ALONE_WAIT)) then .next (s.startClaim false)
  else .next s

/-- CLAIM_QUIET_END: the pins take their idle states and CONTENTION is watched for (R791). -/
def execClaimQuietEnd (s : State) : Host.Outcome State Fault Refusal :=
  match s.pair.claim with
  | .quiet t =>
    if s.driveState == .undriven && reached s.now t s.claimQuiet then
      .next { s with pair := { s.pair with claim := .watching s.now, driving := true } }
    else .next s
  | _ => .next s

/-! ### Epochs (R807) -/

/-- The content of an epoch record: PAIR_EPOCH and ACTIVE_ID. -/
def epochContent (epoch id : Nat) : List Byte := beBytes 4 epoch ++ beBytes 8 id

/-- The epoch record changes: it is written to the critical records and event 0x148 is raised. -/
def State.setEpoch (s : State) (epoch id : Nat) : State :=
  (((s.set Obj.PAIR_EPOCH epoch).set Obj.PAIR_ACTIVE_ID id).updateRecord 3 (epochContent epoch id)).raise 0x148 0

/-- The EPOCH frame (R798). -/
def State.sendEpoch (s : State) : State :=
  s.sendFarlu 0x17 (beBytes 4 (s.getN Obj.PAIR_EPOCH) ++ beBytes 8 (s.getN Obj.PAIR_ACTIVE_ID) ++ beBytes 1 s.pair.position ++ fill 3 0)

/-- The new ACTIVE device's epoch (R807). -/
def State.newEpoch (s : State) : State :=
  (s.setEpoch ((max (s.getN Obj.PAIR_EPOCH) (s.getN Obj.PARTNER_EPOCH) + 1) % 2 ^ 32) s.deviceSerial).sendEpoch

/-! ### The end of a claim (R795, R796) -/

/-- The last TAKE frame of a group; 4 stands for the last of all groups that carried a number. -/
def State.lastTake (s : State) (g : Nat) : Option TakeFrame := tabGet (fun _ => none) s.pair.lastTake g

/-- The numbers and LFSR states that follow the last TAKE frame (R795). -/
def State.followTakes (s : State) : State :=
  let s := match s.lastTake 4 with
    | some t =>
      let wrap := t.takeSeq + 1 == 2 ^ 48
      { s with seq := { s.seq with
        takeSeq := if wrap then 0 else t.takeSeq + 1, epoch := if wrap then (t.seqEpoch + 1) % 65536 else t.seqEpoch
        wrapDue := wrap } }
    | none => s
  [0, 1, 2, 3].foldl (fun s g =>
    match s.lastTake g with
    | some t => { s with seq := { s.seq with lfsr := tabPut (fun _ => 0) s.seq.lfsr g t.lfsr } }
    | none => s) s

/-- The key of a mirrored sum: window × 2,048 + kind × 1,024 + zone. -/
def mirrorKey (w kind z : Nat) : Nat := w * 2048 + kind * 1024 + z

/-- What a table of sums gains so that each sum of W1 to W4 is at least the mirrored one (R795). -/
def seedSums (own : Sums) (buckets : List Nat) (mirror : Tab Nat) (t : Sums) : Sums :=
  mirror.foldl (fun t e =>
    let w := e.1 / 2048
    let kind := e.1 / 1024 % 2
    let z := e.1 % 1024
    let have_ := windowSum own (buckets.getD w 0) w kind z
    if have_ < e.2 then tabUpd (fun _ => 0) t (sumKey (buckets.getD w 0) w kind z) (fun v => v + (e.2 - have_)) else t) t

/-- The sums of the accountant and of the engines' copies are seeded alike. -/
def State.seedAccount (s : State) : State :=
  let f := seedSums s.safety.sums s.safety.buckets s.pair.mirrorSums
  { s with safety := { s.safety with
    sums := f s.safety.sums, snapshot := f s.safety.snapshot, ae0 := f s.safety.ae0, ae1 := f s.safety.ae1 } }

/-- The stream counters go on from the partner's last HEARTBEAT, and each stream's first message carries DROPPED (R796). -/
def State.followStreams (s : State) : State :=
  let s := match s.pair.beat with
    | some b => (b.counters.zip [0, 1, 2, 3]).foldl (fun (s : State) (p : Nat × Nat) => s.set (Obj.STREAM_COUNTER + p.2) p.1) s
    | none => s
  { s with pipe := { s.pipe with dropped := [0, 1, 2, 3] } }

/-- A takeover's part of a completed claim (R795 to R797): the open spokes, and that of the first take that fires, carry DEGRADED. -/
def State.takeOver (s : State) : State :=
  let s := { s with pipe := { s.pipe with
    spokes := s.pipe.spokes.map (fun (x : Spoke) => { x with degraded := true }), firstFire := true } }
  (((s.followTakes.seedAccount).followStreams).enterRunning).seqFollowAxis

/-- A claim completes: the device is ACTIVE (R791, R795, R807). -/
def State.completeClaim (s : State) : State :=
  let takeover := s.pair.takeover
  let s := { s with pair := { s.pair with claim := .none, takeover := false, verdict := false } }
  let s := s.setRole .active
  let s := if takeover then s.takeOver else s
  s.newEpoch

/-- CLAIM_COMPLETE: 20 µs have passed without a failing CONTENTION (R791). -/
def execClaimComplete (s : State) : Host.Outcome State Fault Refusal :=
  match s.pair.claim with
  | .watching t => if reached s.now t (us 20) then .next s.completeClaim else .next s
  | _ => .next s

/-! ### Following takes (R800) -/

/-- Starts of a group that wait for their TAKE frame. -/
def State.waitingStarts (s : State) (g : Nat) : List (Int × Time) := tabGet (fun _ => []) s.pair.starts g

/-- TAKE frames of a group that wait for their start. -/
def State.waitingTakes (s : State) (g : Nat) : List (TakeFrame × Time) := tabGet (fun _ => []) s.pair.takes g

/-- Sets the starts and frames that wait in a group. -/
def State.setWaiting (s : State) (g : Nat) (starts : List (Int × Time)) (takes : List (TakeFrame × Time)) : State :=
  { s with pair := { s.pair with
    starts := tabPut (fun _ => []) s.pair.starts g starts, takes := tabPut (fun _ => []) s.pair.takes g takes } }

/-- The take of a TAKE frame, at an instant in taps: the SHADOW computes its positions and time itself. -/
def State.followedTake (s : State) (f : TakeFrame) (trig : Int) (start : Option Int) : Take :=
  let c : Cue := ⟨0, BitVec.ofNat 10 f.zone, BitVec.ofNat 2 f.lg, false, 0, BitVec.ofNat 4 f.energy, BitVec.ofNat 7 f.k, BitVec.ofNat 10 f.bind⟩
  { s.takeRecord c f.code f.dither trig with
    seq := f.takeSeq, epoch := f.seqEpoch, energy := f.energy, freewheel := f.freewheel, issued := true, start := start
    wrapped := f.takeSeq == 0 && f.seqEpoch != s.getN Obj.SEQ_EPOCH_INIT
    disabled := f.outcome == 3, held := f.outcome == 2, blocked := f.outcome == 1 }

/-- The accountant of a SHADOW charges a firing of the ACTIVE device, and its fast capture takes what it sees (R340). -/
def State.chargeFollowed (s : State) (t : Take) : State :=
  if t.drives then (s.charge t.seq t.epoch t.group t.zone t.trig).scheduleCapture t else s

/-- The take that entered last marks its reels (R590). -/
def State.staleLast (s : State) : State := match s.seq.takes.getLast? with | some t => s.staleTake t | none => s

/-- A followed take enters as one of the device's own would; its start is decided (R340, R800). -/
def State.placeFollowed (s : State) (t : Take) (k : Nat) : State :=
  ((((s.placeTake t k).openBuffers).staleLast).chargeFollowed t).startDecided t.group

/-- A followed diagnostic pulse (R226, R340, R800). -/
def State.placeFollowedDiag (s : State) (f : TakeFrame) (x : Int) : State :=
  let t := { s.diagTake f.zone with trig := x / 16, issued := true, start := some x }
  let t := { t with capOpen := t.trig - 6 * 64, capEnd := t.lastFall + 64 * s.get Obj.MPD_TAIL }
  ((({ s with seq := { s.seq with diags := s.seq.diags ++ [t] } }).chargeFollowed t).startDecided f.lg).applyDacs f.lg

/-- Starts and TAKE frames of a group are paired in order: a frame of OUTCOME 0 or 4 takes the next start, and one without a
trigger edge takes none (R800). The bound is the number of frames. -/
def State.pairTakes (s : State) (g : Nat) : Nat → State
  | 0 => s
  | n + 1 =>
    match s.waitingTakes g, s.waitingStarts g with
    | [], _ => s
    | (f, _) :: fs, sts =>
      if f.outcome = 0 ∨ f.outcome = 4 then
        match sts with
        | [] => s
        | (x, _) :: rest =>
          let s := s.setWaiting g rest fs
          let s := if f.outcome = 4 then s.placeFollowedDiag f x
            else
              let s := (s.groupChannels g).foldl (fun s c => s.keptSettings x c) s
              s.placeFollowed (s.followedTake f (x / 16) (some x)) f.k
          State.pairTakes s g n
      else
        let s := (s.setWaiting g sts fs).placeFollowed (s.followedTake f s.nowTaps none) f.k
        State.pairTakes s g n

/-- The open reel sets of a group are discarded (R800): their buffers are cleared, and their takes are no longer in flight. -/
def State.discardSets (s : State) (g : Nat) : State :=
  let ids := (s.hist.sets.filter (fun r => r.group == g && !r.completed)).map (·.id)
  let s := (s.groupChannels g).foldl (fun s c => ids.foldl (fun s id =>
    match s.reelOf c id with
    | some b => s.clearReel c b
    | none => s) s) { s with hist := { s.hist with claims := s.hist.claims.filter (fun c => !ids.contains c.reel.set_) } }
  let s := { s with
    hist := { s.hist with
      sets := s.hist.sets.filter (fun r => !ids.contains r.id)
      banks := s.hist.banks.map (fun (e : Nat × List Addition) => (e.1, e.2.filter (fun a => !ids.contains a.set_))) }
    seq := { s.seq with takes := s.seq.takes.filter (fun t => !ids.contains t.set_) } }
  { s with hist := { s.hist with banks := s.hist.banks.filter (fun e => !e.2.isEmpty) } }.noteQuiet.drainCheck

/-- A divergence of a group (R800): pairing starts again with the first start that follows the next TAKE frame. -/
def State.diverge (s : State) (g : Nat) : State :=
  let s := (s.setWaiting g [] []).discardSets g
  let s := { s with pair := { s.pair with diverged := s.pair.diverged.filter (· != g) ++ [g] } }
  (((s.applyDacs g).count Obj.TAKE_DIVERGENCES).raiseMs 0x147 0).requestResync 3

/-- A frame or start at the head of its queue has waited 4 µs. -/
def waitedTooLong (now : Time) (l : List Time) : Bool :=
  match l with
  | t :: _ => reached now t (us 4)
  | [] => false

/-- TAKE_DIVERGENCE: a start or a TAKE frame of OUTCOME 0 or 4 has stayed unpaired for 4 µs (R800). -/
def execTakeDivergence (group : Fin 4) (s : State) : Host.Outcome State Fault Refusal :=
  if s.isShadow && (waitedTooLong s.now ((s.waitingStarts group).map (·.2)) ||
      waitedTooLong s.now ((s.waitingTakes group).map (·.2))) then .next (s.diverge group)
  else .next s

/-- The settings of a start on a SHADOW stand as they are now until its TAKE frame says that it is no diagnostic pulse (R392). DESIGN CHOICE
(log entry 77): the position table is taken at once unless the frame has come and says otherwise. -/
def State.holdStart (s : State) (g : Nat) (x : Int) : State :=
  let diag := (s.waitingTakes g).head?.any (fun f => f.1.outcome == 4)
  (s.groupChannels g).foldl (fun s c => (if diag then s else s.takeTable c).holdSettings x c) s

/-- A start of a group on a SHADOW: it is paired, or waits; after a divergence it is ignored until a TAKE frame has come. -/
def State.shadowStart (s : State) (g : Nat) (x : Int) : State :=
  let s := s.holdStart g x
  if s.pair.diverged.contains g then s
  else
    let s := s.setWaiting g (s.waitingStarts g ++ [(x, s.now)]) (s.waitingTakes g)
    s.pairTakes g ((s.waitingTakes g).length + 1)

end Sys2Proof.Machine
end

