-- ==== Sys2Proof/Machine/Pair.lean ====
section
/-! DEFINITION. The frames of the Farlu link (R798), but for those that write objects, and the loopback edges of the trigger
outputs (R253 to R255, R800). -/

namespace Sys2Proof.Machine

open Sys2Proof

/-- A received frame is discarded: event 0x13A at most once per 1 ms a bond (R720, R737). -/
def State.badFrame (s : State) (b : Nat) : State :=
  (s.count (Obj.RX_FRAME_ERRORS + b)).raiseLimited 0x13A b (b * 2 ^ 24)

/-- A frame with a payload of the wrong length is discarded (R798). A SOLO device has no partner and takes no frame. -/
def State.onFrame (s : State) (payload : List Byte) (n : Nat) (f : State → State) : Host.Outcome State Fault Refusal :=
  if !s.running then .next s
  else if payload.length ≠ n then .next (s.badFrame 1)
  else if s.pair.role = .solo then .next s
  else .next (f s)

/-! ### HEARTBEAT -/

/-- The HEARTBEAT frame (R798). -/
def State.heartbeat (s : State) : List Byte :=
  beBytes 1 s.pair.role.code ++ beBytes 1 s.pair.position ++ beBytes 1 s.safety.state.code ++ beBytes 1 s.seq.state.code ++
    beBytes 4 (s.getN Obj.PAIR_EPOCH) ++ beBytes 4 (s.getN Obj.SEAL_CRC) ++ beBytes 8 s.seq.takeSeq ++ beBytes 2 s.seq.epoch ++
    [0, 1, 2, 3].flatMap (fun n => beBytes 4 (s.getN (Obj.STREAM_COUNTER + n))) ++ beBytes 1 (b2n s.pair.mirrorSync) ++ [0]

/-- HEARTBEAT_SEND: every 10 µs (R798). -/
def execHeartbeatSend (s : State) : Host.Outcome State Fault Refusal :=
  if s.running && s.pair.role != .solo && reached s.now s.pair.beatTxAt (us 10) then
    .next (({ s with pair := { s.pair with beatTxAt := s.now } }).sendFarlu 0x10 s.heartbeat)
  else .next s

/-- What a HEARTBEAT says. -/
def parseBeat (now : Time) (p : List Byte) : PartnerBeat :=
  { role := beAt p 0 1, position := beAt p 1 1, safety := beAt p 2 1, seq := beAt p 3 1, epoch := beAt p 4 4, sealCrc := beAt p 8 4
    takeSeq := beAt p 12 8 % 2 ^ 48, seqEpoch := beAt p 20 2, counters := [22, 26, 30, 34].map (fun o => beAt p o 4)
    sync := beAt p 38 1 == 1, at_ := now }

/-- The conflicts of R810 are reported when a HEARTBEAT first shows them, by a device that is not ACTIVE. -/
def State.reportConflict (s : State) (old : Option PartnerBeat) (b : PartnerBeat) : State :=
  if s.pair.role = .active then s
  else
    let s := if s.samePosition b && !old.any (fun o => s.samePosition o) then s.raise 0x14A 0 else s
    if s.sealDiffers b && !old.any (fun o => s.sealDiffers o) then s.raise 0x149 0 else s

/-- Heartbeats that return raise event 0x144, and a SHADOW then asks for a resync (R803, R804). -/
def State.beatReturns (s : State) : State :=
  if s.isShadow then (s.raise 0x144 0).requestResync 2 else s.raise 0x144 0

/-- A device that is not ACTIVE and that R810 blocks drops its claim; one in PAIRING follows a partner that drives (R790, R810). -/
def State.beatRole (s : State) : State :=
  if s.pairBlocked && s.pair.role != .active then s.endClaim
  else if s.pair.role == .pairing && s.driveState == .partner then s.setRole .shadow
  else s

/-- What a HEARTBEAT says is kept, and the conflicts it shows are reported (R804, R810). -/
def State.noteBeat (s : State) (b : PartnerBeat) : State :=
  (({ s with pair := { s.pair with beat := some b, partnerSeen := true } }).set Obj.PARTNER_EPOCH b.epoch).reportConflict s.pair.beat b

/-- A HEARTBEAT arrives (R804, R810). -/
def State.takeBeat (s : State) (b : PartnerBeat) : State :=
  if !s.pair.partnerSeen && s.pair.beat.isSome then (s.noteBeat b).beatReturns.beatRole else (s.noteBeat b).beatRole

/-- HEARTBEAT_RECEIVE. -/
def execHeartbeatReceive (payload : List Byte) (s : State) : Host.Outcome State Fault Refusal :=
  s.onFrame payload 40 (fun s => s.takeBeat (parseBeat s.now payload))

/-- No HEARTBEAT for HEARTBEAT_TIMEOUT, or the Farlu bond in DOWN (R804). -/
def State.beatLost (s : State) : Bool := s.pair.partnerSeen && (!s.beatFresh || s.bondState 1 == 0)

/-- HEARTBEAT_LOST (R804): PARTNER_SEEN and MIRROR_SYNC clear, and event 0x143 is raised. -/
def execHeartbeatLost (s : State) : Host.Outcome State Fault Refusal :=
  if s.beatLost then
    .next ((({ s with pair := { s.pair with partnerSeen := false } }).setMirrorSync false).raise 0x143 0)
  else .next s

/-! ### TAKE and the loopback edges -/

/-- The fields of a TAKE frame. -/
def parseTake (p : List Byte) : TakeFrame :=
  { takeSeq := beAt p 0 6, seqEpoch := beAt p 6 2, lg := beAt p 8 1 % 4, outcome := beAt p 9 1, zone := beAt p 10 2 % 1024
    energy := beAt p 12 1, code := beAt p 13 1 % 64, dither := beAt p 14 1, bind := beAt p 15 2 % 1024, k := beAt p 17 1 % 128
    lfsr := beAt p 18 4, freewheel := beAt p 22 1 != 0 }

/-- A TAKE frame joins its group's queue (R800); the last one of a group gives the state that a takeover follows (R795). -/
def State.takeFrame (s : State) (f : TakeFrame) : State :=
  let put := fun (t : Tab (Option TakeFrame)) (k : Nat) => tabPut (fun _ => none) t k (some f)
  let last := put s.pair.lastTake f.lg
  let last := if f.outcome = 4 then last else put last 4
  let s := { s with pair := { s.pair with
    lastTake := last, diverged := s.pair.diverged.filter (· != f.lg) } }
  let s := s.setWaiting f.lg (s.waitingStarts f.lg) (s.waitingTakes f.lg ++ [(f, s.now)])
  s.pairTakes f.lg (s.waitingTakes f.lg).length

/-- TAKE_FRAME_RECEIVE. -/
def execTakeFrameReceive (payload : List Byte) (s : State) : Host.Outcome State Fault Refusal :=
  s.onFrame payload 24 (fun s => if s.isShadow then s.takeFrame (parseTake payload) else s)

/-- The start TDC of an output can stamp: its DLL block is locked and its input is not switched to calibration (R254, R370). -/
def State.startTdcOk (s : State) (out : Nat) : Bool :=
  s.getB (Obj.TDC_LOCK + 16 + out / 16) && !s.cal.runs.any (fun r => r.unit_ == 256 + out && s.switched r s.nowTaps)

/-- A stamp in 1/1,024 ns lies within 2 ns of an instant in taps (R254). -/
def within2ns (x t : Int) : Bool := decide ((x - 16 * t).natAbs ≤ 2048)

/-- A scheduled pulse explains the edge (R255): one that was issued, or one of a decided take. -/
def State.explained (s : State) (out : Nat) (x : Int) : Bool :=
  s.emit.pulses.any (fun p => p.out == out && within2ns x p.rise) ||
    s.firings.any (fun t => t.drives && (s.pulsesOf t).any (fun p => p.out == out && within2ns x p.rise))

/-- The take whose first edge this is (R253, R254). The edge may come up to 2 ns before t_trig. -/
def State.takeOfEdge (s : State) (out : Nat) (x : Int) : Option Take :=
  s.firstFiring (fun t => t.drives && !t.diag && t.start.isNone && s.trigOf t.zone == out && within2ns x t.trig)

/-- An edge on a device that fires (R253, R255). DAC settings written between t_trig and this start found no open window (R365). -/
def State.ownEdge (s : State) (out : Nat) (x : Int) : State :=
  match s.takeOfEdge out x with
  | some t => (((s.pendingDacs t.group).mapTake t (fun y => { y with start := some x })).groupSettings t.group x).startDecided t.group
  | none => if s.explained out x then s else (s.count Obj.UNSCHEDULED_EDGES).raise 0x061 0

/-- An edge on a SHADOW (R282, R800): the later pulses of a code, within 64 ns of its first, are no starts. -/
def State.shadowEdge (s : State) (out : Nat) (x : Int) : State :=
  let g := s.groupOfOut out
  let later := match tabGet (fun _ => none) s.pair.lastStart g with | some l => decide (x < l + 65536) | none => false
  if later then s
  else ({ s with pair := { s.pair with lastStart := tabPut (fun _ => none) s.pair.lastStart g (some x) } }).shadowStart g x

/-- LOOPBACK_EDGE: a rising edge on a TRIG loopback (R253). -/
def execLoopbackEdge (out : Fin 32) (tap : Fin 64) (s : State) : Host.Outcome State Fault Refusal :=
  if !s.running || !s.startTdcOk out then .next s
  else
    let x := s.stampOf (256 + out) tap
    .next (if s.isShadow then s.shadowEdge out x else s.ownEdge out x)

/-! ### SPOKE_SUM (R802) -/

/-- The fields of a SPOKE_SUM frame. -/
def parseSum (now : Time) (p : List Byte) : SpokeSum :=
  { takeSeq := beAt p 0 6, seqEpoch := beAt p 6 2, lg := beAt p 8 1, bind := beAt p 10 2, n := beAt p 12 2, crc := beAt p 14 4
    rsum := beAt p 18 8, at_ := now }

/-- A sum of the partner is compared with the device's own of the same spoke, or waits for it. -/
def State.peerSum (s : State) (x : SpokeSum) : State :=
  match s.pair.ownSums.find? (fun y => y.pairs x) with
  | some y => ({ s with pair := { s.pair with ownSums := s.pair.ownSums.filter (fun z => !z.pairs x) } }).compareSums x y
  | none => { s with pair := { s.pair with peerSums := s.pair.peerSums ++ [x] } }

/-- SPOKE_SUM_RECEIVE. -/
def execSpokeSumReceive (payload : List Byte) (s : State) : Host.Outcome State Fault Refusal :=
  s.onFrame payload 32 (fun s => if s.isShadow then s.peerSum (parseSum s.now payload) else s)

/-- SUM_UNPAIRED_TIMEOUT: spokes without a counterpart for 10 ms are counted (R802, R821). -/
def execSumUnpairedTimeout (s : State) : Host.Outcome State Fault Refusal :=
  let old := fun (x : SpokeSum) => reached s.now x.at_ (ms 10)
  let n := (s.pair.ownSums.filter old).length + (s.pair.peerSums.filter old).length
  .next (({ s with pair := { s.pair with
    ownSums := s.pair.ownSums.filter (fun x => !old x), peerSums := s.pair.peerSums.filter (fun x => !old x) } }).addSat Obj.SUM_UNPAIRED n)

/-! ### The resync (R803) -/

/-- The device-own ranges of R799. -/
def deviceOwn (index : Nat) : Bool :=
  (decide (0x1000 ≤ index) && decide (index ≤ 0x13FF)) || (decide (0x2300 ≤ index) && decide (index ≤ 0x23FF)) ||
    (decide (0x2B00 ≤ index) && decide (index ≤ 0x2DFF))

/-- The objects of R799 that hold a value: writable, outside the device-own ranges. -/
def mirroredObjects : List ObjDesc :=
  dictionary.filter (fun d => !deviceOwn d.index && (d.access == .rw || d.access == .rws))

/-- Their keys, element by element. -/
def mirroredKeys : List Nat :=
  mirroredObjects.flatMap (fun d => (List.range d.count).map (fun i => d.index * 256 + d.base + i))

/-- The resync is complete: every OBJECT, the CUE, TIME and ACCOUNT frames have come; MIRROR_SYNC is set. -/
def State.checkResync (s : State) : State :=
  if s.pair.resyncAsked && s.pair.gotCue && s.pair.gotTime && s.pair.gotAccount &&
      mirroredKeys.all (fun k => s.pair.gotObjects.contains k) then
    ({ s with pair := { s.pair with resyncAsked := false, gotObjects := [] } }).setMirrorSync true
  else s

/-- The cue list of the ACTIVE device becomes the SHADOW's (R798). -/
def State.takeCues (s : State) (l : List Cue) : State :=
  let s := { s with seq := { s.seq with active := l, void_ := s.seq.void_.filter (fun i => decide (16384 ≤ i)), next := 0 }, pair := { s.pair with gotCue := true } }
  (if s.seq.state = .running then s.seqPoint else s).checkResync

/-- CUE_FRAME_RECEIVE: COUNT entries after a 4-byte head (R798). -/
def execCueFrameReceive (payload : List Byte) (s : State) : Host.Outcome State Fault Refusal :=
  s.onFrame payload (4 + 8 * beAt payload 0 2) (fun s =>
    if s.isShadow then s.takeCues (cuesOf (payload.drop 4)) else s)

/-- TIME_FRAME_SEND: an ACTIVE device sends one every 1 ms (R798). -/
def State.timeFrame (s : State) : List Byte :=
  beBytes 6 s.time.sec ++ beBytes 4 s.time.ns ++ beBytes 2 (s.time.frac / 256) ++ beBytes 2 (s.getN Obj.TIME_EPOCH) ++
    beBytes 1 (s.getN Obj.CLOCK_STATE) ++ [0] ++ beBytes 4 (s.getN Obj.CLOCK_INCREMENT)

/-- A TIME frame that waits says the time at which its START block leaves (R798): until then it is sampled anew. -/
def State.sampleTime (s : State) : State :=
  match (s.bond 1).frames with
  | f :: fs =>
    if f.next = 0 ∧ f.kind = .farlu 0x15 then
      s.setBond 1 { s.bond 1 with frames := { f with bytes := frameBytes 0x15 0 (beAt f.bytes 2 2) s.timeFrame } :: fs }
    else s
  | [] => s

/-- TIME_FRAME_SEND. -/
def execTimeFrameSend (s : State) : Host.Outcome State Fault Refusal :=
  if s.running && s.pair.role == .active && reached s.now s.pair.timeTxAt (ms 1) then
    .next (({ s with pair := { s.pair with timeTxAt := s.now } }).sendFarlu 0x15 s.timeFrame)
  else .next s

/-- TIME_EPOCH is taken from the ACTIVE device: a change empties the histories and marks the next spokes (R443, R668, R803). -/
def State.takeEpoch (s : State) (e : Nat) : State :=
  if s.getN Obj.TIME_EPOCH = e then s
  else
    let s := (s.set Obj.TIME_EPOCH e).emptyAllMrev
    { s with pipe := { s.pipe with restep := List.range s.groups } }

/-- The clock follows a TIME frame to within ±50 ns, which the spec leaves open within that bound (R803). -/
def State.takeTime (s : State) (p : List Byte) : State :=
  let (v, s) := s.draw
  let t := (beAt p 0 6 * 1000000000 + beAt p 6 4) * 16777216 + beAt p 10 2 * 256 + v % (100 * 16777216 + 1)
  let s := State.timeMoved s { s with time := s.time.withTotal (t - 50 * 16777216) }
  let s := s.takeEpoch (beAt p 12 2)
  let s := if s.getN Obj.CLOCK_STATE = beAt p 14 1 then s else (s.set Obj.CLOCK_STATE (beAt p 14 1)).raise 0x120 0
  s.setIncrement (beAt p 16 4)

/-- A TIME frame counts for the resync, and steers the clock while MIRROR_SYNC is set (R803). -/
def State.timeCame (s : State) (p : List Byte) : State :=
  let s := ({ s with pair := { s.pair with gotTime := true } }).checkResync
  if s.pair.mirrorSync then s.takeTime p else s

/-- TIME_FRAME_RECEIVE. -/
def execTimeFrameReceive (payload : List Byte) (s : State) : Host.Outcome State Fault Refusal :=
  s.onFrame payload 20 (fun s => if s.isShadow then s.timeCame payload else s)

/-- The sums of an ACCOUNT frame that are not 0, by mirrorKey. -/
def parseAccount (p : List Byte) : Tab Nat :=
  (List.range 8192).filterMap (fun i =>
    let w := i / 2048
    let kind := i / 1024 % 2
    let z := i % 1024
    let v := beAt p (64 * z + 32 * kind + 8 * w) 8
    if v = 0 then none else some (mirrorKey w kind z, v))

/-- ACCOUNT_FRAME_RECEIVE (R795, R798, R803). -/
def execAccountFrameReceive (payload : List Byte) (s : State) : Host.Outcome State Fault Refusal :=
  s.onFrame payload 65536 (fun s =>
    if s.isShadow then
      ({ s with pair := { s.pair with mirrorSums := parseAccount payload, gotAccount := true } }).checkResync
    else s)

/-! ### EPOCH and YIELD (R793, R807 to R809) -/

/-- On a conflict the third copy of the record takes the partner's epoch and identity, with the sequence of the others, and the
device resets (R809). -/
def State.pairConflict (s : State) (epoch id : Nat) : State :=
  let own := (recordValue s.nvm.epochRec).getD ⟨0, epochContent (s.getN Obj.PAIR_EPOCH) (s.getN Obj.PAIR_ACTIVE_ID)⟩
  let r : CriticalRecord := ⟨some own, some own, some ⟨own.seq, epochContent epoch id⟩⟩
  (s.setRecord 3 r).deviceReset .pairConflict 0xFF

/-- A PAIRING device enters SHADOW by a verdict, unless R810 holds it in PAIRING. A SHADOW stays as it is. -/
def State.becomeShadow (s : State) : State :=
  if s.pairBlocked || s.pair.role != .pairing then s
  else { s.endClaim with pair := { s.endClaim.pair with verdict := false } }.setRole .shadow

/-- A verdict names this device: it claims (R808). -/
def State.named (s : State) : State := ({ s with pair := { s.pair with verdict := true } }).verdictClaim

/-- A record of a higher epoch is adopted and written (R807). -/
def State.adoptEpoch (s : State) (epoch id : Nat) : State :=
  if s.pair.role != .active && decide (s.getN Obj.PAIR_EPOCH < epoch) then (s.setEpoch epoch id).sendEpoch else s

/-- The partner says that it is ACTIVE. -/
def State.partnerActive (s : State) : Bool := s.pair.beat.any (fun b => b.role == 2)

/-- The verdict of the first row of R808 that applies. -/
def State.judgeEpoch (s : State) (epoch id : Nat) : State :=
  let own := s.getN Obj.PAIR_EPOCH
  let ownId := s.getN Obj.PAIR_ACTIVE_ID
  if own = epoch ∧ ownId ≠ id then s.pairConflict epoch id
  else if s.pair.role = .active then s.newEpoch
  else if s.partnerActive then (s.adoptEpoch epoch id).becomeShadow
  else if own ≠ epoch then
    let winner := if own < epoch then id else ownId
    let s := s.adoptEpoch epoch id
    if winner = s.deviceSerial then s.named else s.becomeShadow
  else if ownId ≠ 0 then (if ownId = s.deviceSerial then s.named else s)
  else if s.pair.position = 0 then s.named
  else s

/-- An EPOCH frame: the exchange after the bond left DOWN gives a verdict; later ones are adopted when higher (R807, R808). PARTNER_EPOCH is what the
partner said last, in a HEARTBEAT or here (DEDUCED, log entry 37). -/
def State.takeEpochFrame (s : State) (epoch id : Nat) : State :=
  let s := s.set Obj.PARTNER_EPOCH epoch
  if s.pair.exchange then ({ s with pair := { s.pair with exchange := false } }).judgeEpoch epoch id
  else if s.isShadow then s.adoptEpoch epoch id
  else s

/-- EPOCH_FRAME_RECEIVE. -/
def execEpochFrameReceive (payload : List Byte) (s : State) : Host.Outcome State Fault Refusal :=
  s.onFrame payload 16 (fun s => s.takeEpochFrame (beAt payload 0 4) (beAt payload 4 8))

/-- YIELD_FRAME_RECEIVE: a YIELD has no effect of its own (R793). -/
def execYieldFrameReceive (payload : List Byte) (s : State) : Host.Outcome State Fault Refusal := s.onFrame payload 12 (fun s => s)

/-- The Farlu bond has left DOWN, or gone there (R804, R808). -/
def State.farluChanged (s : State) (old new_ : Nat) : State :=
  if s.pair.role = .solo then s
  else if old < 2 ∧ 2 ≤ new_ then ({ s with pair := { s.pair with exchange := true } }).sendEpoch
  else s

end Sys2Proof.Machine
end

