-- ==== Sys2Proof/Machine/Lanes.lean ====
section
/-! DEFINITION. The lanes and the bonds (chapter 14): block lock, the elastic buffer, alignment and status, lane loss and return, adaptation,
PRBS and loops, what a write to a lane object checks and does, and the transmitters. -/

namespace Sys2Proof.Machine

open Sys2Proof

/-! ### Lanes -/

/-- LANE_MODE. -/
def State.laneMode (s : State) (n : Nat) : Nat := s.getN (Obj.LANE_MODE + n)

/-- The bond that a KLP or Farlu lane belongs to (R704). -/
def laneBond (n : Nat) : Option Nat := if n < 4 then some 0 else if n < 6 then none else some 1

/-- Trace leaves on L3 (R705, R706). -/
def State.traceOnLane (s : State) : Bool :=
  natBit (s.getN Obj.TRACE_CTRL) 31 && natBit (s.getN Obj.TRACE_CTRL) 30 && decide (s.getN Obj.KLP_WIDTH < 4)

/-- The lane is powered (R705). -/
def State.lanePowered (s : State) (n : Nat) : Bool :=
  match s.laneMode n with
  | 0 => false
  | 1 => decide (4 ≤ n) || decide (n < s.getN Obj.KLP_WIDTH) || (n == 3 && s.traceOnLane)
  | _ => true

/-- The lanes of a bond that are in FUNCTION. -/
def State.enabledLanes (s : State) (b : Nat) : List Nat := (s.bondLanes b).filter (fun n => s.laneMode n == 1)

/-- LANE_STATE: 0 OFF, 1 ACQUIRING, 2 LOCKED, 3 ACTIVE, 4 TEST. L4 and L5 are ACTIVE while their link is up. -/
def State.laneState (s : State) (n : Nat) : Nat :=
  if !s.lanePowered n then 0
  else if s.laneMode n = 2 then 4
  else match laneBond n with
    | some b => if (s.activeLanes b).contains n then 3 else if (s.lane n).locked then 2 else 1
    | none => if s.get (Obj.LINK_STATE + (n - 4)) = 0 then 1 else 3

/-- The receiver has block lock and is deskewed: its RX_OK bit (R712). -/
def Lane.rxOk (x : Lane) : Bool := x.locked && x.deskewed

/-- An eye scan of a lane that has no lock fails (R732): NO_LOCK. -/
def State.failScan (s : State) (n : Nat) : State :=
  (jobSlots.filter (fun j => (s.job j).kind == .eyeScan && (s.job j).state == .running && (s.job j).arg % 8 == n)).foldl
    (fun s j => s.finishJob j .failed 0x20) s

/-- A lane can be scanned (R732). -/
def State.scanOkLane (s : State) (n : Nat) : Bool :=
  s.laneState n == 2 || s.laneState n == 3 || (s.laneState n == 4 && s.getB (Obj.PRBS_LOCK + n))

/-- The lane loses block lock (R711). -/
def State.loseLock (s : State) (n : Nat) : State :=
  if (s.lane n).locked then
    let s := s.setLane n { s.lane n with valid := 0, window := [], locked := false, deskewed := false }
    let s := (s.count (Obj.LOCK_LOSSES + n)).raiseLimited 0x130 n (n * 2 ^ 24)
    if s.laneMode n = 2 then s else s.failScan n
  else s

/-! ### Bonds (R721 to R728) -/

/-- A bond enters a state: each change raises its event and is counted (R722). -/
def State.setBondState (s : State) (b st : Nat) : State :=
  let old := s.bondState b
  if old = st then s
  else
    let s := (s.set (Obj.BOND_STATE + b) st).count (Obj.BOND_CHANGES + b)
    let s := match st with
      | 0 => s.raise 0x134 (b * 2 ^ 24)
      | 2 => s.raise 0x133 (b * 2 ^ 24)
      | 3 => s.raise 0x132 (b * 2 ^ 24)
      | _ => s
    if b = 1 then s.farluChanged old st else s

/-- The block of an ALIGN column on a lane (R712). -/
def alignBlock (n map seq : Nat) : List Byte :=
  let h := [0x55] ++ beBytes 1 n ++ beBytes 1 map ++ beBytes 2 seq ++ [0, 0]
  h ++ [crc8 h]

/-- The block of a STATUS column (R712). -/
def statusBlock (rxOk frozen tx seq : Nat) : List Byte :=
  let h := [0x66] ++ beBytes 1 rxOk ++ beBytes 1 frozen ++ beBytes 1 tx ++ beBytes 2 seq ++ [0]
  h ++ [crc8 h]

/-- A control block is given to each of some lanes: they leave in one column (R710, R713). -/
def State.sendColumn (s : State) (b : Nat) (ns : List Nat) (block : Nat → List Byte) : State :=
  s.addControl b (ns.map (fun n => (n, ⟨2#2, block n⟩)))

/-- An ALIGN column leaves (R716) and its MAP takes effect: the frame in progress is ended and sent again if the map changes
(R723, R724). -/
def State.applyMap (s : State) (b : Nat) (lanes : List Nat) (on : List Nat) : State :=
  let x := s.bond b
  let map := mapOf lanes
  let old := s.activeMap b
  let s := (s.setBond b { x with alignSeq := (x.alignSeq + 1) % 65536 }).sendColumn b on (fun n => alignBlock n map x.alignSeq)
  let s := s.set (Obj.BOND_ACTIVE + b) map
  if map = old then s
  else (s.resend b).setBondState b (if lanes.length = (s.bondLanes b).length then 2 else 3)

/-- The peer's last STATUS is no older than 32 µs (R721). -/
def State.statusFresh (s : State) (b : Nat) : Bool :=
  match (s.bond b).peerStatus with
  | some p => decide (s.now ≤ p.2 + us 32)
  | none => false

/-- The lane is usable (R721, R746). -/
def State.laneUsable (s : State) (b n : Nat) : Bool := s.laneMode n == 1 && (s.lane n).peerOk && s.statusFresh b

/-- Notes since when each lane of the bond has been usable. -/
def State.noteUsable (s : State) (b : Nat) : State :=
  (s.bondLanes b).foldl (fun s n =>
    let x := s.lane n
    if s.laneUsable b n then (if x.usable.isSome then s else s.setLane n { x with usable := some s.now })
    else s.setLane n { x with usable := none }) s

/-- The scheduled ALIGN column is due: every 16,384 columns (R716). -/
def State.alignDue (s : State) (b : Nat) : Bool := reached s.now (s.bond b).alignAt (16384 * s.columnTime b / 100)

/-- The lanes that the scheduled ALIGN column names: those active and still usable, and those usable for 1 ms (R726). -/
def State.scheduledMap (s : State) (b : Nat) : List Nat :=
  (s.bondLanes b).filter (fun n =>
    match (s.lane n).usable with
    | some t => (s.activeLanes b).contains n || reached s.now t (ms 1)
    | none => false)

/-- The scheduled ALIGN column (R716, R726, R738): on every lane in FUNCTION. -/
def State.scheduledAlign (s : State) (b : Nat) : State :=
  let s := s.setBond b { s.bond b with alignAt := s.now }
  let lanes := s.scheduledMap b
  let x := s.bond b
  if lanes.isEmpty then
    (s.setBond b { x with alignSeq := (x.alignSeq + 1) % 65536 }).sendColumn b (s.enabledLanes b) (fun n => alignBlock n 0 x.alignSeq)
  else s.applyMap b lanes (s.enabledLanes b)

/-- No lane is active any more (R740): DOWN; what waits is sent when a lane becomes usable (R727). -/
def State.bondFalls (s : State) (b : Nat) : State :=
  ((s.set (Obj.BOND_ACTIVE + b) 0).resend b).setBondState b 0

/-- The lanes that are usable have changed: an active lane that is not usable is removed at once (R723); with the last of them the bond
enters DOWN (R740), and a bond without an active lane starts with those that are usable (R722, R727). -/
def State.followUsable (s : State) (b : Nat) : State :=
  let s := s.noteUsable b
  let usable := (s.bondLanes b).filter (fun n => (s.lane n).usable.isSome)
  let act := s.activeLanes b
  let stay := act.filter (fun n => usable.contains n)
  if act.isEmpty then (if usable.isEmpty then s else s.applyMap b usable (s.enabledLanes b))
  else if stay.isEmpty then s.bondFalls b
  else if stay = act then s
  else if s.alignDue b then s.scheduledAlign b
  else s.applyMap b stay stay

/-! ### Reception -/

/-- The type of a control block is known and its CRC-8 holds where it has one (R712). -/
def controlOk (bs : List Byte) : Bool :=
  match beAt bs 0 1 with
  | 0x11 => true
  | 0x22 => true
  | 0x44 => true
  | 0x55 => bs.getD 7 0 == crc8 (bs.take 7)
  | 0x66 => bs.getD 7 0 == crc8 (bs.take 7)
  | _ => false

/-- The sync header is valid (R710). -/
def blockHeaderOk (x : LaneBlock) : Bool := x.header == 1#2 || x.header == 2#2

/-- A block with its payload descrambled by a lane's descrambler (R710). -/
def Lane.opened (l : Lane) (x : LaneBlock) : FrameBlock := ⟨x.header, bitsBytes (descramble l.descrambler (payloadBits x.bytes)).1⟩

/-- The lane's descrambler has seen a block. -/
def Lane.sees (l : Lane) (x : LaneBlock) : Lane := { l with descrambler := (descramble l.descrambler (payloadBits x.bytes)).2 }

/-- The lanes on which the peer stripes (R716). -/
def State.rxLanes (s : State) (b : Nat) : List Nat := (s.bondLanes b).filter (fun n => inMap (s.bond b).peerMap n)

/-- The level of a bond's elastic buffer changes. -/
def State.setLevel (s : State) (b level : Nat) : State := s.setBond b { s.bond b with level := level }

/-- The elastic buffer of a bond overflows or underflows at a lane's block: every lane of the bond loses lock, and the buffer starts anew
(R715). -/
def State.elasticError (s : State) (b n : Nat) : State :=
  let s := ((s.setLevel b Bond.init.level).count (Obj.ELASTIC_ERRORS + n)).raise 0x137 (n * 2 ^ 24)
  (s.bondLanes b).foldl (fun s m => s.loseLock m) s

/-- A column has come whole at a lane's block (R715): a whole FILL column is deleted above 24 columns, and another follows it below 8;
every other column enters the buffer, which holds 32. -/
def State.enterColumn (s : State) (b n : Nat) (fill_ : Bool) : State :=
  let level := (s.bond b).level
  if fill_ ∧ 24 < level then (s.rxLanes b).foldl (fun s n => s.countWrap (Obj.FILL_DELETES + n) 1) s
  else if fill_ ∧ level < 8 then (s.rxLanes b).foldl (fun s n => s.countWrap (Obj.FILL_INSERTS + n) 1) (s.setLevel b (level + 2))
  else if 32 ≤ level then s.elasticError b n
  else s.setLevel b (level + 1)

/-- The block joins the column that is arriving; when the column is whole, it enters the elastic buffer (R713, R715, R741). -/
def State.columnBlock (s : State) (b n : Nat) (fill_ : Bool) : State :=
  let col := (s.bond b).column.filter (fun e => e.1 != n) ++ [(n, fill_)]
  if (s.rxLanes b).all (fun m => col.any (fun e => e.1 == m)) then
    (s.setBond b { s.bond b with column := [] }).enterColumn b n (col.all (fun e => e.2))
  else s.setBond b { s.bond b with column := col }

/-- The receiver's own clock has taken columns from the elastic buffer, down to none or beyond (R715). -/
def State.takeColumns (s : State) (b n taken : Nat) : State :=
  if (s.bond b).level < taken then s.elasticError b n else s.setLevel b ((s.bond b).level - taken)

/-- A valid header without block lock counts towards it; an invalid one starts again (R711). -/
def State.seekLock (s : State) (n : Nat) (ok : Bool) : State :=
  let s := s.setLane n { s.lane n with valid := if ok then min 64 ((s.lane n).valid + 1) else 0 }
  if ok then s else s.count (Obj.BLOCK_ERRORS + n)

/-- A header in block lock: 16 invalid ones of 64 lose it (R711). -/
def State.keepLock (s : State) (n : Nat) (ok : Bool) : State :=
  let s := s.setLane n { s.lane n with window := ((!ok) :: (s.lane n).window).take 64 }
  let s := if ok then s else s.count (Obj.BLOCK_ERRORS + n)
  if 16 ≤ ((s.lane n).window.filter id).length then s.loseLock n else s

/-- 66 bits leave on a lane. -/
def State.setOut (s : State) (n : Nat) (x : Option FrameBlock) : State := s.setLane n { s.lane n with out := x }

/-- A block leaves on a lane, scrambled (R710). -/
def State.laneOut (s : State) (n : Nat) (x : FrameBlock) : State :=
  let l := s.lane n
  let p := scramble l.scrambler (payloadBits x.bytes)
  s.setLane n { l with scrambler := p.2, out := some ⟨x.header, bitsBytes p.1⟩ }

/-- The loop of a lane in TEST (R733, R735). -/
def State.laneLoop (s : State) (n : Nat) : Nat := if s.laneMode n = 2 then s.getN (Obj.LANE_LOOP + n) else 0

/-- A near-end loop brings a lane's receiver what the lane sends (R735). -/
def State.nearLoop (s : State) (n : Nat) : Bool := s.laneLoop n == 1 || s.laneLoop n == 2

/-- The content of a block with a valid header in block lock (R712 to R715): on a lane in FUNCTION that the peer stripes over it passes the elastic buffer; the far-end
loop of a lane in TEST sends it back (R735). -/
def State.lockedBlock (s : State) (b n taken : Nat) (x : FrameBlock) : State :=
  let s := if x.header == 2#2 && !controlOk x.bytes then s.count (Obj.BLOCK_ERRORS + n) else s
  if s.laneMode n = 1 then
    if !(s.rxLanes b).contains n then s else
    let s := s.takeColumns b n taken
    if (s.lane n).locked then s.columnBlock b n (isFill x) else s
  else if s.laneLoop n = 3 then s.laneOut n x
  else s

/-- The checker of a lane runs (R733, R734). -/
def State.prbsChecks (s : State) (n : Nat) : Bool := s.laneMode n == 2 && natBit (s.getN (Obj.PRBS_CTRL + n)) 1

/-- A received bit at the checker (R734): before its lock it counts the bits that follow from the 31 before them; in lock it runs by
itself, and notes which of the latest 1,024 bits were in error. -/
def Lane.checkBit (l : Lane) (locked : Bool) (x : Bool) : Lane :=
  let p := prbsNext l.prbsRx
  if locked then { l with prbsRx := prbsShift l.prbsRx p, prbsErrors := ((x != p) :: l.prbsErrors).take 1024 }
  else { l with prbsRx := prbsShift l.prbsRx x, prbsGood := if x == p then l.prbsGood + 1 else 0 }

/-- The bits that are in error at a checker that runs by itself (R734). -/
def prbsWrong (st : Nat) (bits : List Bool) : Nat := ((bits.zip (prbsRun bits.length st).1).filter (fun x => x.1 != x.2)).length

/-- 66 bits at the checker of a lane: in lock, those in error are counted (R734). -/
def State.prbsBits (s : State) (n : Nat) (bits : List Bool) : State :=
  let l := s.lane n
  let locked := s.getB (Obj.PRBS_LOCK + n)
  let s := s.setLane n (bits.foldl (fun l x => l.checkBit locked x) l)
  if locked then s.addSat (Obj.PRBS_ERRORS + n) (prbsWrong l.prbsRx bits) else s

/-- 66 bits at the receiver of a lane: a block of a KLP or Farlu lane (R710 to R715), or, where the lane checks PRBS31, its bits. L4 and L5
carry Ethernet's own codings, which only their far-end loop sends back as they came (R735). -/
def State.receiveBlock (s : State) (n : Nat) (x : LaneBlock) : State :=
  if s.prbsChecks n then s.prbsBits n (wireBits ⟨x.header, x.bytes⟩)
  else match laneBond n with
    | none => if s.laneLoop n = 3 then s.setOut n (some ⟨x.header, x.bytes⟩) else s
    | some b =>
      let content := (s.lane n).opened x
      let s := s.setLane n ((s.lane n).sees x)
      if (s.lane n).locked then
        let s := s.keepLock n (blockHeaderOk x)
        if blockHeaderOk x && (s.lane n).locked then s.lockedBlock b n x.taken content else s
      else s.seekLock n (blockHeaderOk x)

/-- LANE_BLOCK_RECEIVE: 66 bits arrive on a lane. A near-end loop cuts the lane's receiver off from its pins (R735). -/
def execLaneBlockReceive (lane : Fin 8) (block : LaneBlock) (s : State) : Host.Outcome State Fault Refusal :=
  if !s.running || !s.lanePowered lane || s.nearLoop lane then .next s else .next (s.receiveBlock lane block)

/-- LANE_LOCKED: 64 consecutive valid sync headers give block lock (R711). -/
def execLaneLocked (lane : Fin 8) (s : State) : Host.Outcome State Fault Refusal :=
  let x := s.lane lane
  if s.running && s.lanePowered lane && !x.locked && decide (64 ≤ x.valid) then
    .next ((s.setLane lane { x with locked := true, window := [] }).raise 0x131 (lane * 2 ^ 24))
  else .next s

/-- A lane's ALIGN block deskews it within 16 columns; outside that range the lane is not deskewed (R716). -/
def State.deskew (s : State) (n skew : Nat) : State :=
  if !(s.lane n).locked then s
  else if skew ≤ 16 then s.setLane n { s.lane n with deskewed := true }
  else (s.setLane n { s.lane n with deskewed := false }).raise 0x138 (n * 2 ^ 24)

/-- ALIGN_RECEIVE: an ALIGN column of the bond that a lane belongs to (R716). -/
def execAlignReceive (lane : Fin 8) (col : AlignColumn) (s : State) : Host.Outcome State Fault Refusal :=
  match laneBond lane with
  | none => .next s
  | some b =>
    if !s.running || !(s.lane lane).locked then .next s
    else
      let s := (col.skew.filter (fun e => (s.bondLanes b).contains e.1)).foldl (fun s e => s.deskew e.1 e.2) s
      .next (s.setBond b { s.bond b with peerMap := col.map })

/-- The STATUS is later than the last one, or that one is older than 32 µs (R747). -/
def State.statusLater (s : State) (b seq : Nat) : Bool :=
  match (s.bond b).peerStatus with
  | none => true
  | some p => let d := (seq + 65536 - p.1) % 65536; !s.statusFresh b || decide (1 ≤ d ∧ d < 32768)

/-- STATUS_RECEIVE: a STATUS column on a lane in block lock (R721). -/
def execStatusReceive (lane : Fin 8) (col : StatusColumn) (s : State) : Host.Outcome State Fault Refusal :=
  match laneBond lane with
  | none => .next s
  | some b =>
    if !s.running || !(s.lane lane).locked || !s.statusLater b col.seq then .next s
    else
      let s := s.setBond b { s.bond b with peerStatus := some (col.seq % 65536, s.now) }
      let s := (s.bondLanes b).foldl (fun s n => s.setLane n { s.lane n with peerOk := inMap col.rxOk n }) s
      .next (s.followUsable b)

/-- LANE_STATUS_AGED: the last STATUS is older than 32 µs (R721, R723). -/
def execLaneStatusAged (bond : Fin 2) (s : State) : Host.Outcome State Fault Refusal :=
  if s.running && (s.bond bond).peerStatus.isSome && !s.statusFresh bond then .next (s.followUsable bond) else .next s

/-- ALIGN_COLUMN_SEND (R716, R726). -/
def execAlignColumnSend (bond : Fin 2) (s : State) : Host.Outcome State Fault Refusal :=
  if s.running && !(s.enabledLanes bond).isEmpty && s.alignDue bond then .next ((s.noteUsable bond).scheduledAlign bond)
  else .next s

/-- A map of the bond's lanes for which a test holds. -/
def State.laneMap (s : State) (b : Nat) (p : Nat → Bool) : Nat := mapOf ((s.bondLanes b).filter p)

/-- STATUS_COLUMN_SEND: every 8 µs on the lanes that the bond transmits on (R717). -/
def execStatusColumnSend (bond : Fin 2) (s : State) : Host.Outcome State Fault Refusal :=
  let x := s.bond bond
  if s.running && !(s.enabledLanes bond).isEmpty && reached s.now x.statusTxAt (us 8) then
    let block := statusBlock (s.laneMap bond (fun n => (s.lane n).rxOk)) (s.laneMap bond (fun n => s.getB (Obj.ADAPT_FROZEN + n)))
      (s.activeMap bond) x.statusSeq
    let s := s.setBond bond { x with statusSeq := (x.statusSeq + 1) % 65536, statusTxAt := s.now }
    .next (s.sendColumn bond (s.enabledLanes bond) (fun _ => block))
  else .next s

/-! ### Adaptation (R729) -/

/-- Adaptation of a lane freezes: event 0x135. -/
def State.freezeLane (s : State) (n : Nat) : State :=
  if s.getB (Obj.ADAPT_FROZEN + n) then s
  else ((s.set (Obj.ADAPT_FROZEN + n) 1).count (Obj.ADAPT_FREEZES + n)).raiseLimited 0x135 n (n * 2 ^ 24)

/-- Adaptation of a lane resumes: event 0x136. -/
def State.resumeLane (s : State) (n : Nat) : State :=
  if s.getB (Obj.ADAPT_FROZEN + n) then (s.set (Obj.ADAPT_FROZEN + n) 0).raiseLimited 0x136 n (n * 2 ^ 24) else s

/-- Free values, one for each element of a list. -/
def State.drawAll (s : State) : List Nat → List Nat × State
  | [] => ([], s)
  | _ :: l => let p := s.draw; let r := p.2.drawAll l; (p.1 :: r.1, r.2)

/-- The receiver of a lane adapts: its coefficients take values that the spec does not state. They are held while adaptation is frozen or
RX_ADAPT is clear (R708, R729). -/
def State.adaptLane (s : State) (n : Nat) : State :=
  if s.getB (Obj.RX_ADAPT + n) && !s.getB (Obj.ADAPT_FROZEN + n) then
    let p := s.drawAll (s.lane n).equaliser
    p.2.setLane n { p.2.lane n with equaliser := p.1 }
  else s

/-- ADAPT_WINDOW_END: 2^16 UI have passed with so many bit transitions; below 25 % adaptation freezes (R729, R743). -/
def execAdaptWindowEnd (lane : Fin 8) (transitions : Nat) (s : State) : Host.Outcome State Fault Refusal :=
  if !s.running || !s.lanePowered lane then .next s
  else
    let s := s.set (Obj.TRANSITION_DENSITY + lane) (min 100 (transitions * 100 / 65536) : Nat)
    .next ((if transitions * 4 < 65536 then s.freezeLane lane else s.resumeLane lane).adaptLane lane)

/-! ### PRBS (R734) -/

/-- The checker of a lane has seen 64 error-free bits in a row (R734). -/
def State.prbsFound (s : State) (n : Nat) : Bool := s.prbsChecks n && !s.getB (Obj.PRBS_LOCK + n) && decide (64 ≤ (s.lane n).prbsGood)

/-- PRBS_LOCK_ACQUIRED: 64 error-free bits. -/
def execPrbsLockAcquired (lane : Fin 8) (s : State) : Host.Outcome State Fault Refusal :=
  if s.prbsFound lane then .next ((s.setLane lane { s.lane lane with prbsErrors := [] }).set (Obj.PRBS_LOCK + lane) 1) else .next s

/-- 64 of the latest 1,024 bits were in error at a locked checker (R734). -/
def State.prbsLost (s : State) (n : Nat) : Bool :=
  s.prbsChecks n && s.getB (Obj.PRBS_LOCK + n) && decide (64 ≤ ((s.lane n).prbsErrors.filter id).length)

/-- The checker of a lane seeks its lock anew. -/
def State.prbsRestart (s : State) (n : Nat) : State :=
  (s.setLane n { s.lane n with prbsGood := 0, prbsErrors := [] }).set (Obj.PRBS_LOCK + n) 0

/-- PRBS_LOSS: 64 errors within 1,024 bits clear PRBS_LOCK and restart the lock; an eye scan of the lane fails (R732, R734). -/
def execPrbsLoss (lane : Fin 8) (s : State) : Host.Outcome State Fault Refusal :=
  if s.prbsLost lane then .next (((s.prbsRestart lane).raise 0x139 (lane * 2 ^ 24)).failScan lane) else .next s

/-! ### Objects -/

/-- The element of a lane array. -/
def laneOfKey (k : Nat) : Nat := k % 256

/-- What a scalar write of the lanes is refused with (R706, R730, R733, R735). -/
def laneCheck (s : State) (k : Nat) (v : Int) : Option Status :=
  let n := laneOfKey k
  if k = Obj.KLP_WIDTH ∧ v = 4 ∧ natBit (s.getN Obj.TRACE_CTRL) 31 ∧ natBit (s.getN Obj.TRACE_CTRL) 30 then some .state
  else if k = Obj.EYE_SCAN ∧ 10 < field v.toNat 24 4 then some .outOfRange
  else if k / 256 = Obj.PRBS_CTRL / 256 then
    (if s.laneMode n ≠ 2 then some .state else if natBit v.toNat 0 ∧ s.get (Obj.LANE_LOOP + n) = 3 then some .outOfRange else none)
  else if k / 256 = Obj.LANE_LOOP / 256 then
    (if s.laneMode n ≠ 2 then some .state else if v = 3 ∧ natBit (s.getN (Obj.PRBS_CTRL + n)) 0 then some .outOfRange else none)
  else none

/-- The receiver of a lane starts again: a scan of it fails unless the lane is in TEST with its checker locked (R732). -/
def State.restartReceiver (s : State) (n : Nat) : State :=
  let s := if s.laneMode n = 2 ∧ s.getB (Obj.PRBS_LOCK + n) then s else s.failScan n
  s.setLane n (s.lane n).restarted

/-- Every receiver of a bond starts again. -/
def State.restartReceivers (s : State) (b : Nat) : State :=
  let s := (if b = 0 then [0, 1, 2, 3] else [6, 7]).foldl State.restartReceiver s
  s.setBond b { s.bond b with peerStatus := none, peerMap := 0, column := [], level := Bond.init.level }

/-- A bond without an active lane is in TRAINING while lanes of it are in FUNCTION, and in DOWN otherwise (R722). -/
def State.trainOrDown (s : State) (b : Nat) : State := s.setBondState b (if (s.enabledLanes b).isEmpty then 0 else 1)

/-- The bond restarts (R728). -/
def State.restartBond (s : State) (b : Nat) : State :=
  let s := (s.set (Obj.BOND_ACTIVE + b) 0).restartReceivers b
  (s.resend b).trainOrDown b

/-- A lane's mode has changed in a bond: it is removed like a lane that ceases to be usable (R705). A bond that had no lane in FUNCTION
starts with the first (R722); one that has none any more is DOWN. -/
def State.bondModeChanged (s : State) (b : Nat) (started : Bool) : State :=
  let s := s.followUsable b
  if (s.activeLanes b).isEmpty && (started || (s.enabledLanes b).isEmpty) then s.trainOrDown b else s

/-- A lane that is put into FUNCTION is the first of its bond, which it starts (R722). -/
def State.startsBond (s : State) (n : Nat) : Bool :=
  match laneBond n with
  | some b => (s.enabledLanes b) == [n]
  | none => false

/-- Leaving TEST clears PRBS_CTRL and LANE_LOOP (R733). -/
def State.leaveTest (s : State) (n : Nat) : State :=
  ((s.set (Obj.PRBS_CTRL + n) 0).set (Obj.LANE_LOOP + n) 0).prbsRestart n

/-- LANE_MODE has been written (R705, R745). -/
def State.laneModeApply (s : State) (n : Nat) (old : Nat) : State :=
  if s.laneMode n = old then s
  else
    let s := if old = 2 then s.leaveTest n else s
    let s := if s.laneMode n = 0 then s.setLane n { (s.lane n).restarted with out := none } else s
    let s := if old ≠ 0 ∧ !s.scanOkLane n then s.failScan n else s
    match laneBond n with
    | some b => s.bondModeChanged b (s.startsBond n)
    | none => s.setLink (n - 4) 0

/-- PRBS_CTRL has been written: setting CHECK clears PRBS_ERRORS and starts the lock (R734). -/
def State.prbsApply (s : State) (n old : Nat) : State :=
  let was := natBit old 1
  let is_ := natBit (s.getN (Obj.PRBS_CTRL + n)) 1
  if is_ ∧ !was then (s.set (Obj.PRBS_ERRORS + n) 0).prbsRestart n
  else if was ∧ !is_ then s.prbsRestart n
  else s

/-- What an accepted scalar write of the lanes does, given the old value. -/
def laneApply (s : State) (k : Nat) (old : Int) : State :=
  if k / 256 = Obj.LANE_MODE / 256 then s.laneModeApply (laneOfKey k) old.toNat
  else if k = Obj.KLP_WIDTH then s.restartBond 0
  else if k / 256 = Obj.BOND_RATE / 256 then s.restartBond (laneOfKey k)
  else if k / 256 = Obj.PRBS_CTRL / 256 then s.prbsApply (laneOfKey k) old.toNat
  else s

/-- The header of an eye map (R731). -/
def State.eyeHeader (s : State) (n dwell : Nat) : List Byte :=
  beBytes 1 n ++ beBytes 1 dwell ++ beBytes 1 (match laneBond n with | some b => s.getN (Obj.BOND_RATE + b) | none => 0xFF) ++ fill 5 0

/-- The lanes power up at boot: a bond with lanes in FUNCTION is in TRAINING (R722). -/
def State.startLanes (s : State) : State :=
  let s := s.setBond 0 { s.bond 0 with alignAt := s.now, statusTxAt := s.now }
  let s := s.setBond 1 { s.bond 1 with alignAt := s.now, statusTxAt := s.now }
  (s.trainOrDown 0).trainOrDown 1

/-! ### The transmitters: a column of a bond, and the words of a lane in TEST (R710, R713, R714, R727, R734, R735) -/

/-- The time of a column of a bond or of 66 bits of a lane passes: the next begins one such time after the last, or after now where nothing
was sent meanwhile. -/
def nextSlot (last now span : Nat) : Nat := (if now < last + 100 then last else now) + span

/-- The column that begins is a whole FILL column: 1,023 have left since the last, or nothing waits to leave (R714, R727). -/
def State.fillDue (s : State) (b : Nat) : Bool :=
  let x := s.bond b
  decide (1023 ≤ x.sinceFill) || (x.control.isEmpty && ((s.activeLanes b).isEmpty || x.frames.isEmpty))

/-- The blocks of the column that begins; a lane that it does not name carries FILL (R713). -/
def State.columnNow (s : State) (b : Nat) : ControlColumn :=
  if s.fillDue b then []
  else match (s.bond b).control, (s.bond b).frames with
    | c :: _, _ => c
    | [], f :: _ => let act := s.activeLanes b; act.zip ((frameColumns act.length f.bytes).getD f.next (fillColumn act.length))
    | [], [] => []

/-- A frame has left whole, and its message leaves the output queue (R724). -/
def State.frameLeft (s : State) (b : Nat) (f : TxFrame) : State :=
  let s := s.send ⟨bondPort b, f.kind, 0, 0, f.bytes, noHead⟩
  match f.msg with
  | some m => s.setOutQueue 1 ((s.outQueue 1).erase m)
  | none => s

/-- What has left with the column that begins is no longer waiting. -/
def State.columnLeft (s : State) (b : Nat) : State :=
  let x := s.bond b
  if s.fillDue b then s.setBond b { x with sinceFill := 0 }
  else
    let x := { x with sinceFill := x.sinceFill + 1 }
    match x.control, x.frames with
    | c :: cs, _ => c.foldl (fun s e => s.send ⟨bondPort b, .lane, e.1, 0, e.2.bytes, .sync e.2.header⟩) (s.setBond b { x with control := cs })
    | [], f :: fs =>
      if f.next + 1 < (frameColumns (s.activeLanes b).length f.bytes).length then
        s.setBond b { x with frames := { f with next := f.next + 1 } :: fs }
      else (s.setBond b { x with frames := fs }).frameLeft b f
    | [], [] => s.setBond b x

/-- A column of a bond begins on its lanes in FUNCTION. -/
def State.beginColumn (s : State) (b : Nat) : State :=
  let col := s.columnNow b
  ((s.enabledLanes b).foldl (fun s n => s.laneOut n ((col.lookup n).getD fillBlock)) s).columnLeft b

/-- A bond with lanes in FUNCTION begins its next column when its time has come. -/
def State.bondColumn (s : State) (b : Nat) : State :=
  let x := s.bond b
  if (s.enabledLanes b).isEmpty || decide (s.now * 100 < x.columnAt) then s
  else (s.setBond b { x with columnAt := nextSlot x.columnAt (s.now * 100) (s.columnTime b) }).beginColumn b

/-- The time of 66 bits of a lane in 1/100 ns: a bond's at its rate, those of L4 and L5 at the rates of R678. -/
def State.wordTime (s : State) (n : Nat) : Nat :=
  match laneBond n with
  | some b => s.columnTime b
  | none => if n = 4 then 640 else if s.get (Obj.LINK_SPEED + 1) = 2 then 2112 else 5280

/-- What a lane in TEST sends next: PRBS31 with GEN set (R734); else FILL on a KLP or Farlu lane, as an idle lane does (DESIGN CHOICE, log
entry 33), and nothing on L4 and L5. -/
def State.testWord (s : State) (n : Nat) : State :=
  let l := s.lane n
  if natBit (s.getN (Obj.PRBS_CTRL + n)) 0 then
    let p := prbsRun 66 l.prbsTx
    s.setLane n { l with prbsTx := p.2, out := some (wireBlock p.1) }
  else if (laneBond n).isSome then s.laneOut n fillBlock
  else s.setOut n none

/-- What a near-end loop brings to the lane's own receiver: what the lane sends (R735). -/
def State.loopBack (s : State) (n : Nat) : State :=
  match (s.lane n).out with
  | some x => if s.nearLoop n then s.receiveBlock n ⟨x.header, x.bytes, 0⟩ else s
  | none => s

/-- A lane in TEST that no far-end loop drives begins its next 66 bits when their time has come. -/
def State.testLane (s : State) (n : Nat) : State :=
  let l := s.lane n
  if s.laneMode n ≠ 2 ∨ s.laneLoop n = 3 ∨ s.now * 100 < l.wordAt then s
  else ((s.setLane n { l with wordAt := nextSlot l.wordAt (s.now * 100) (s.wordTime n) }).testWord n).loopBack n

/-- The transmitters in one core cycle. -/
def State.laneColumns (s : State) : State :=
  if s.running then (List.range 8).foldl State.testLane ((s.bondColumn 0).bondColumn 1) else s

/-- What TXP and TXN of a lane carry: nothing while it is powered down (R705). -/
def State.txWord (s : State) (n : Nat) : Option FrameBlock := if s.lanePowered n then (s.lane n).out else none

end Sys2Proof.Machine
end

