-- ==== Sys2Proof/Machine/Crypto.lean ====
section
/-! DEFINITION. The hash and signature hardware (R509, R850, R861): SHA-256 of FIPS 180-4 and the verification of ECDSA P-256
of FIPS 186-5, which the manual names and does not print (log entry 60). -/

namespace Sys2Proof.Machine

open Sys2Proof

/-! ### SHA-256 -/

/-- The round constants, rounds 0 to 31. -/
def shaConstants0 : List Word := [
   0x428A2F98#32, 0x71374491#32, 0xB5C0FBCF#32, 0xE9B5DBA5#32, 0x3956C25B#32, 0x59F111F1#32, 0x923F82A4#32, 0xAB1C5ED5#32,
   0xD807AA98#32, 0x12835B01#32, 0x243185BE#32, 0x550C7DC3#32, 0x72BE5D74#32, 0x80DEB1FE#32, 0x9BDC06A7#32, 0xC19BF174#32,
   0xE49B69C1#32, 0xEFBE4786#32, 0x0FC19DC6#32, 0x240CA1CC#32, 0x2DE92C6F#32, 0x4A7484AA#32, 0x5CB0A9DC#32, 0x76F988DA#32,
   0x983E5152#32, 0xA831C66D#32, 0xB00327C8#32, 0xBF597FC7#32, 0xC6E00BF3#32, 0xD5A79147#32, 0x06CA6351#32, 0x14292967#32]

/-- The round constants, rounds 32 to 63. -/
def shaConstants1 : List Word := [
   0x27B70A85#32, 0x2E1B2138#32, 0x4D2C6DFC#32, 0x53380D13#32, 0x650A7354#32, 0x766A0ABB#32, 0x81C2C92E#32, 0x92722C85#32,
   0xA2BFE8A1#32, 0xA81A664B#32, 0xC24B8B70#32, 0xC76C51A3#32, 0xD192E819#32, 0xD6990624#32, 0xF40E3585#32, 0x106AA070#32,
   0x19A4C116#32, 0x1E376C08#32, 0x2748774C#32, 0x34B0BCB5#32, 0x391C0CB3#32, 0x4ED8AA4A#32, 0x5B9CCA4F#32, 0x682E6FF3#32,
   0x748F82EE#32, 0x78A5636F#32, 0x84C87814#32, 0x8CC70208#32, 0x90BEFFFA#32, 0xA4506CEB#32, 0xBEF9A3F7#32, 0xC67178F2#32]

/-- The initial hash value. -/
def shaInitial : List Word := [
   0x6A09E667#32, 0xBB67AE85#32, 0x3C6EF372#32, 0xA54FF53A#32, 0x510E527F#32, 0x9B05688C#32, 0x1F83D9AB#32, 0x5BE0CD19#32]

/-- A rotation to the right. -/
def ror (x : Word) (n : Nat) : Word := x.rotateRight n

/-- The message schedule grown by n words, newest first. -/
def shaSchedule : Nat → List Word → List Word
  | 0, w => w
  | n + 1, w =>
    let x := w.getD 14 0
    let y := w.getD 1 0
    let s0 := ror x 7 ^^^ ror x 18 ^^^ (x >>> 3)
    let s1 := ror y 17 ^^^ ror y 19 ^^^ (y >>> 10)
    shaSchedule n ((w.getD 15 0 + s0 + w.getD 6 0 + s1) :: w)

/-- One round on the eight working words. -/
def shaRound (v : List Word) (kw : Word × Word) : List Word :=
  match v with
  | [a, b, c, d, e, f, g, h] =>
    let t1 := h + (ror e 6 ^^^ ror e 11 ^^^ ror e 25) + ((e &&& f) ^^^ (~~~e &&& g)) + kw.1 + kw.2
    let t2 := (ror a 2 ^^^ ror a 13 ^^^ ror a 22) + ((a &&& b) ^^^ (a &&& c) ^^^ (b &&& c))
    [t1 + t2, a, b, c, d + t1, e, f, g]
  | v => v

/-- The 16 words of a block of 64 bytes, newest first. -/
def shaWords (block : List Byte) : List Word := ((List.range 16).map (fun i => BitVec.ofNat 32 (beAt block (4 * i) 4))).reverse

/-- A block is compressed into the hash value. -/
def shaBlock (h : List Word) (block : List Byte) : List Word :=
  let w := (shaSchedule 48 (shaWords block)).reverse
  let v := ((shaConstants0 ++ shaConstants1).zip w).foldl shaRound h
  (h.zip v).map (fun p => p.1 + p.2)

/-- The padding of a message of n bytes. -/
def shaPad (n : Nat) : List Byte := 0x80 :: List.replicate ((119 - n % 64) % 64) 0 ++ beBytes 8 (8 * n)

/-- Blocks of 64 bytes, with a bound on their number. -/
def shaBlocks : Nat → List Byte → List (List Byte)
  | 0, _ => []
  | n + 1, l => if l.isEmpty then [] else l.take 64 :: shaBlocks n (l.drop 64)

/-- The SHA-256 of a message. -/
def sha256 (m : List Byte) : List Byte :=
  let p := m ++ shaPad m.length
  ((shaBlocks (p.length / 64) p).foldl shaBlock shaInitial).flatMap (fun w => beBytes 4 w.toNat)

/-! ### ECDSA P-256 -/

/-- The field prime, the group order, and the constants of the curve y² = x³ − 3x + b. -/
def p256 : Nat := 0xFFFFFFFF00000001000000000000000000000000FFFFFFFFFFFFFFFFFFFFFFFF
def n256 : Nat := 0xFFFFFFFF00000000FFFFFFFFFFFFFFFFBCE6FAADA7179E84F3B9CAC2FC632551
def b256 : Nat := 0x5AC635D8AA3A93E7B3EBBD55769886BC651D06B0CC53B0F63BCE3C3E27D2604B
def gx256 : Nat := 0x6B17D1F2E12C4247F8BCE6E563A440F277037D812DEB33A0F4A13945D898C296
def gy256 : Nat := 0x4FE342E2FE1A7F9B8EE7EB4A7C0F9E162BCE33576B315ECECBB6406837BF51F5

/-- A power modulo m, the exponent's bits taken from the bit n - 1 down. -/
def powMod (m b e : Nat) : Nat → Nat
  | 0 => 1
  | n + 1 => let r := powMod m b (e / 2) n; if e % 2 = 1 then r * r % m * b % m else r * r % m

/-- The inverse modulo a prime m. -/
def invMod (m a : Nat) : Nat := powMod m (a % m) (m - 2) 256

/-- The sum of two points of the curve; none is the point at infinity. -/
def ecAdd (a b : Option (Nat × Nat)) : Option (Nat × Nat) :=
  match a, b with
  | none, q => q
  | p, none => p
  | some (x1, y1), some (x2, y2) =>
    if x1 = x2 ∧ (y1 + y2) % p256 = 0 then none
    else
      let l := if x1 = x2 then (3 * x1 * x1 + p256 - 3) * invMod p256 (2 * y1) else (y2 + p256 - y1) * invMod p256 (x2 + p256 - x1)
      let x3 := (l * l + 2 * p256 - x1 - x2) % p256
      some (x3, (l * (x1 + p256 - x3) + p256 - y1) % p256)

/-- A multiple of a point, by the n low bits of the factor. -/
def ecMul (p : Option (Nat × Nat)) (k : Nat) : Nat → Option (Nat × Nat)
  | 0 => none
  | n + 1 => let q := ecMul p (k / 2) n; let d := ecAdd q q; if k % 2 = 1 then ecAdd d p else d

/-- A public key is a point of the curve. -/
def ecOnCurve (x y : Nat) : Bool :=
  decide (x < p256) && decide (y < p256) && y * y % p256 == (x * x * x + (p256 - 3) * x + b256) % p256

/-- ECDSA P-256 with SHA-256: the key and the signature are 64 bytes each, x and y, r and s. -/
def ecdsaVerify (key sig m : List Byte) : Bool :=
  let x := beAt key 0 32
  let y := beAt key 32 32
  let r := beAt sig 0 32
  let t := beAt sig 32 32
  ecOnCurve x y && decide (0 < r) && decide (r < n256) && decide (0 < t) && decide (t < n256) &&
    (let w := invMod n256 t
     let e := beNat (sha256 m)
     match ecAdd (ecMul (some (gx256, gy256)) (e * w % n256) 256) (ecMul (some (x, y)) (r * w % n256) 256) with
     | none => false
     | some (vx, _) => vx % n256 == r)

/-- The points of the curve whose x coordinate is x: a square root modulo p, where p mod 4 is 3. -/
def ecPoints (x : Nat) : List (Nat × Nat) :=
  let y := powMod p256 ((x * x * x + (p256 - 3) * x + b256) % p256) ((p256 + 1) / 4) 256
  if ecOnCurve x y then [(x, y), (x, (p256 - y) % p256)] else []

/-- The public keys, 64 bytes each, under which a signature of a message can verify. -/
def ecdsaKeys (sig m : List Byte) : List (List Byte) :=
  let r := beAt sig 0 32
  let t := beAt sig 32 32
  let w := invMod n256 r
  let e := beNat (sha256 m) % n256
  ((ecPoints r ++ ecPoints (r + n256)).filterMap (fun p =>
    ecAdd (ecMul (some p) (t * w % n256) 256) (ecMul (some (gx256, gy256)) ((n256 - e) * w % n256) 256))).map
      (fun q => beBytes 32 q.1 ++ beBytes 32 q.2)

/-- A signature of a message verifies under a key with a known SHA-256. -/
def ecdsaByHash (hash sig m : List Byte) : Bool := (ecdsaKeys sig m).any (fun k => sha256 k == hash && ecdsaVerify k sig m)

end Sys2Proof.Machine
end

