-- ==== Sys2Proof/Machine/NvmOps.lean ====
section
/-! DEFINITION. What the NVM holds: the parameter log (R85 to R93), the calibration banks (R611, R612), the boot images (R849) and
the kernel images' check (R507 to R511). -/

namespace Sys2Proof.Machine

open Sys2Proof

/-! ### The parameter log -/

/-- A sequence is committed: its commit record is in the log (R89). -/
def logCommitted (l : List LogRecord) (q : Nat) : Bool := l.any (fun r => r.kind == .commit && r.seq == q && r.crcOk)

/-- The highest committed sequence: PARAM_LOG_SEQ. -/
def logSeq (l : List LogRecord) : Nat :=
  ((l.filter (fun r => r.kind == .commit && r.crcOk)).map (·.seq)).foldl max 0

/-- The highest committed restore record (R89). -/
def restoreSeq (l : List LogRecord) : Nat :=
  ((l.filter (fun r => r.kind == .restore && logCommitted l r.seq)).map (·.seq)).foldl max 0

/-- The data records that count for a key: committed, and later than the last restore (R89). -/
def keyRecords (l : List LogRecord) (k : Nat) : List LogRecord :=
  l.filter (fun r => r.kind == .data && r.key == k && logCommitted l r.seq && decide (restoreSeq l < r.seq))

/-- Those of the highest sequence, in the order of their parts. -/
def currentRecords (l : List LogRecord) (k : Nat) : List LogRecord :=
  let rs := keyRecords l k
  let top := (rs.map (·.seq)).foldl max 0
  sortBy (fun a b => decide (a.part ≤ b.part)) (rs.filter (fun r => r.seq == top))

/-- The bytes of a part of a BLOCK value. -/
def StoredVal.bytes : StoredVal → List Byte
  | .block bs => bs
  | .scalar _ => []

/-- The stored value of a key, or none (R89). -/
def storedVal (l : List LogRecord) (k : Nat) : Option StoredVal :=
  match currentRecords l k with
  | [] => none
  | r :: rs =>
    match r.val with
    | .scalar v => some (.scalar v)
    | .block bs => some (.block (bs ++ rs.flatMap (fun x => x.val.bytes)))

/-- The keys that the log holds a value of. -/
def storedKeys (l : List LogRecord) : List Nat := ((l.filter (fun r => r.kind == .data)).map (·.key)).eraseDups.filter (fun k =>
  !(keyRecords l k).isEmpty)

/-- The elements of an object of the dictionary. -/
def elemKeys (d : ObjDesc) : List (ObjDesc × Nat) := (List.range d.count).map (fun i => (d, d.index * 256 + d.base + i))

/-- The RWS objects, element by element (R84), those of the active user kernel among them. -/
def State.rwsKeys (s : State) : List (ObjDesc × Nat) := ((dictionary ++ s.kernelObjects).filter (fun d => d.access == .rws)).flatMap elemKeys

/-- The row of a key: of the dictionary, or of the active user kernel's manifest (R57, R58). -/
def State.descOf (s : State) (k : Nat) : Option ObjDesc :=
  match dictFind (k / 256) (k % 256) with
  | some d => some d
  | none => s.kernelObjects.find? (fun d => d.index * 256 + d.base == k)

/-- The working value of a scalar object. -/
def State.scalarOf (s : State) (d : ObjDesc) (k : Nat) : Int :=
  match s.reg.find? (fun e => e.1 == k) with
  | some e => e.2
  | none => elemDflt d (k % 256)

/-- The working value of an object, as it would be stored. -/
def State.workingVal (s : State) (d : ObjDesc) (k : Nat) : StoredVal :=
  if d.ty = .block ∨ d.ty = .str then .block (s.getBlk k) else .scalar (s.scalarOf d k)

/-- The defaults that come from OTP: MAC_ADDR, and HOP_SEED, which is unique to the device and the group (log entry 7). -/
def State.otpDefault (s : State) (k : Nat) : Option Int :=
  if k = Obj.MAC_ADDR then some s.otp.mac0
  else if k = Obj.MAC_ADDR + 1 then some s.otp.mac1
  else if k / 256 = Obj.HOP_SEED / 256 then some (1 + (s.deviceSerial * 4 + (k - Obj.HOP_SEED)) % 0x7FFFFFFF)
  else none

/-- The default of an object, as a stored value. -/
def State.defaultVal (s : State) (d : ObjDesc) (k : Nat) : StoredVal :=
  match s.otpDefault k with
  | some v => .scalar v
  | none => if d.ty = .block ∨ d.ty = .str then .block (blkDflt k) else .scalar (elemDflt d (k % 256))

/-- How many bytes of object data a value takes. -/
def storedSize (d : ObjDesc) (v : StoredVal) : Nat :=
  match v with
  | .scalar _ => typeSize d.ty
  | .block bs => bs.length

/-- The RWS values that differ from their stored values, or from their defaults where nothing is stored (R86, R93). -/
def State.storeDiff (s : State) : List (ObjDesc × Nat) :=
  s.rwsKeys.filter (fun x => s.workingVal x.1 x.2 != (storedVal s.nvm.log x.2).getD (s.defaultVal x.1 x.2))

/-- The bytes of the live stored image (R88): of every stored value. -/
def State.liveImage (s : State) : Nat :=
  ((storedKeys s.nvm.log).map (fun k =>
    match s.descOf k, storedVal s.nvm.log k with
    | some d, some v => storedSize d v
    | none, some v => v.bytes.length
    | _, none => 0)).sum

/-- The bytes of the live stored image after a STORE of some values. -/
def State.imageAfter (s : State) (diff : List (ObjDesc × Nat)) : Nat :=
  let ks := diff.map (·.2)
  ((storedKeys s.nvm.log).map (fun k =>
    if ks.contains k then 0
    else match s.descOf k, storedVal s.nvm.log k with
      | some d, some v => storedSize d v
      | none, some v => v.bytes.length
      | _, none => 0)).sum + (diff.map (fun x => storedSize x.1 (s.workingVal x.1 x.2))).sum

/-- The sequence that the next STORE or RESTORE takes: one higher than any in the log. -/
def nextSeq (l : List LogRecord) : Nat := ((l.map (·.seq)).foldl max 0 + 1) % 2 ^ 32

/-- Bytes in parts of up to 232, at least one. The bound is the number of bytes. -/
def recordParts : Nat → List Byte → List (List Byte)
  | 0, bs => [bs]
  | n + 1, bs => if bs.length ≤ 232 then [bs] else bs.take 232 :: recordParts n (bs.drop 232)

/-- The data records of a value. -/
def dataRecords (q k : Nat) (v : StoredVal) : List LogRecord :=
  match v with
  | .scalar _ => [⟨q, .data, k, 0, v, 0, true⟩]
  | .block bs =>
    let ps := recordParts bs.length bs
    (ps.zip (List.range ps.length)).map (fun p => ⟨q, .data, k, p.2, .block p.1, 0, true⟩)

/-- The commit record of a sequence. -/
def commitRecord (q : Nat) : LogRecord := ⟨q, .commit, 0, 0, .scalar 0, 0, true⟩

/-- The record must be carried forward when its sector is erased: it holds a stored value, or a commit or restore that still
decides (R85, R89). -/
def logLive (l : List LogRecord) (r : LogRecord) : Bool :=
  match r.kind with
  | .data => (currentRecords l r.key).any (fun x => x.seq == r.seq && x.part == r.part)
  | .restore => r.seq == restoreSeq l
  | .commit =>
    r.seq == logSeq l || r.seq == restoreSeq l || l.any (fun x => x.kind == .data && x.seq == r.seq && (currentRecords l x.key).any (fun y => y.seq == r.seq))

/-- The next sector of the log that is not worn (R913). The bound is the number of sectors. -/
def nextSector (worn : List Nat) : Nat → Nat → Nat
  | 0, h => h
  | n + 1, h => let x := (h + 1) % 256; if worn.contains x then nextSector worn n x else x

/-- The head moves on from a full sector into an erased one. -/
def NvmState.moveHead (n : NvmState) : NvmState :=
  if 16 ≤ n.headUsed ∧ 0 < n.erasedAhead then
    { n with headSector := nextSector n.worn 256 n.headSector, headUsed := 0, erasedAhead := n.erasedAhead - 1 }
  else n

/-- Erases of a sector. -/
def NvmState.erases (n : NvmState) (x : Nat) : Nat := tabGet (fun _ => 0) n.eraseCounts x

/-- An erase of a sector is counted. -/
def NvmState.countErase (n : NvmState) (x : Nat) : NvmState :=
  { n with eraseCounts := tabPut (fun _ => 0) n.eraseCounts x (n.erases x + 1) }

/-- PARAM_LOG_ERASES. -/
def NvmState.allErases (n : NvmState) : Nat := min 0xFFFFFFFF ((n.eraseCounts.map (·.2)).sum)

/-- PARAM_LOG_WEAR: the % of 100,000 cycles that the most-worn sector has used. -/
def NvmState.wear (n : NvmState) : Nat := min 100 (((n.eraseCounts.map (·.2)).foldl max 0) / 1000)

/-- An erase is counted, and event 0x164 raised when PARAM_LOG_WEAR reaches 90 %. -/
def State.noteErase (s : State) (x : Nat) : State :=
  let n := s.nvm.countErase x
  let due := decide (s.nvm.wear < 90) && decide (90 ≤ n.wear)
  let s := { s with nvm := n }
  if due then s.raise 0x164 0 else s

/-! ### Calibration banks -/

/-- A calibration bank: 1 A, 2 B. -/
def State.calBank (s : State) (b : Nat) : CalBank := if b = 1 then s.nvm.bankA else s.nvm.bankB

/-- Sets a bank. -/
def State.setCalBank (s : State) (b : Nat) (x : CalBank) : State :=
  if b = 1 then { s with nvm := { s.nvm with bankA := x } } else { s with nvm := { s.nvm with bankB := x } }

/-- LENGTH of a bank (R611). -/
def calLength : Nat := 51136

/-- The bytes 0 to LENGTH − 1 of a bank. -/
def CalBank.image (b : CalBank) : List Byte := b.data ++ List.replicate (calLength - b.data.length) 0xFF#8

/-- SEQ of a bank that is valid: its commit record's own CRC and its data CRC match (R611, R612). -/
def CalBank.seq? (b : CalBank) : Option Nat :=
  if b.commit.isEmpty then none
  else if beAt b.commit 28 4 == crc32 (b.commit.take 28) && beAt b.commit 8 4 == crc32 (b.image.take (beAt b.commit 4 4)) then
    some (beAt b.commit 0 4)
  else none

/-- Every byte of a bank reads erased (R612). -/
def CalBank.empty (b : CalBank) : Bool := (b.data ++ b.commit).all (· == 0xFF#8)

/-- The data of a bank with bytes put at an offset; trailing erased bytes are not listed. -/
def CalBank.put (b : CalBank) (off : Nat) (bs : List Byte) : CalBank :=
  let d := b.data.take off ++ List.replicate (off - b.data.length) 0xFF#8 ++ bs ++ b.data.drop (off + bs.length)
  { b with data := (d.reverse.dropWhile (· == 0xFF#8)).reverse }

/-- A data sector of 4 KiB of a bank is erased, or the one of its commit record (63). -/
def CalBank.eraseSector (b : CalBank) (i : Nat) : CalBank :=
  if i = 63 then { b with commit := [] }
  else if b.data.length ≤ 4096 * i then b else b.put (4096 * i) (List.replicate 4096 0xFF#8)

/-- The bank that holds the newer valid commit, A where both have the same; 0 none (R612). -/
def State.newerBank (s : State) : Nat :=
  match s.nvm.bankA.seq?, s.nvm.bankB.seq? with
  | some a, some b => if a < b then 2 else 1
  | some _, none => 1
  | none, some _ => 2
  | none, none => 0

/-- The bank that a STORE_CAL writes (R94). -/
def State.targetBank (s : State) : Nat := if s.newerBank = 1 then 2 else 1

/-- The commit sequence of the next STORE_CAL. -/
def State.nextCalSeq (s : State) : Nat := (max (s.nvm.bankA.seq?.getD 0) (s.nvm.bankB.seq?.getD 0) + 1) % 2 ^ 32

/-- The scalar objects that a bank holds (R611). -/
def calStored (k : Nat) : Bool :=
  [Obj.CAL_STATUS, Obj.AUX_CAL_STATUS, Obj.CAL_TEMP, Obj.AUX_CAL_TEMP, Obj.TRIM_LO, Obj.TRIM_HI, Obj.ROFF].any (fun x => x / 256 == k / 256)

/-- WALK_TABLE: 16 entries of each channel (R611). -/
def State.walkBlock (s : State) : List Byte :=
  (List.range 256).flatMap (fun c =>
    let w := tabGet (fun _ => []) s.cal.walk c
    (List.range 16).flatMap (fun k => beBytes 2 (unsigned 16 (w.getD k 0))))

/-- TDC_TABLES: 64 entries of each unit (R611). -/
def State.tablesBlock (s : State) : List Byte :=
  (List.range 304).flatMap (fun u =>
    let p := tabGet (fun _ => []) s.cal.tables u
    (List.range 64).flatMap (fun k => beBytes 2 (if p.isEmpty then 16 * k + 8 else p.getD k 0)))

/-- A unit's status as a bank holds it: without its RUNNING bit. -/
def storedStatus (v : Nat) : Nat := if natBit v 13 then v - 2 ^ 13 else v

/-- The header of a bank (R611); reserved bytes are 0. -/
def State.calHeader (s : State) : List Byte := beBytes 4 0x4B5A4342 ++ beBytes 2 1 ++ s.otp.deviceId ++ List.replicate 42 0

/-- The working tables as a bank holds them: its bytes 0 to LENGTH − 1 (R611). -/
def State.calImage (s : State) : List Byte :=
  s.calHeader ++ s.tablesBlock ++
  (List.range 304).flatMap (fun u =>
    beBytes 2 (unsigned 16 (s.get (calTempKey u))) ++ beBytes 2 (storedStatus (s.getN (calKey u))) ++ beBytes 4 0) ++
  (List.range 256).flatMap (fun c =>
    beBytes 1 (unsigned 8 (s.get (Obj.TRIM_LO + c))) ++ beBytes 1 (unsigned 8 (s.get (Obj.TRIM_HI + c)))) ++
  (List.range 256).flatMap (fun c => beBytes 4 (unsigned 32 (s.get (Obj.ROFF + c)))) ++ s.walkBlock

/-- The commit record of a bank for its bytes 0 to LENGTH − 1 (R611). -/
def calCommit (seq : Nat) (image : List Byte) : List Byte :=
  let head := beBytes 4 seq ++ beBytes 4 calLength ++ beBytes 4 (crc32 image) ++ List.replicate 16 0
  head ++ beBytes 4 (crc32 head)

/-- Every unit takes R587, CODE 0x20 and both DUE bits; their age starts at 0 (R612). -/
def State.loadIdeal (s : State) : State :=
  { s with
    reg := s.reg.filter (fun e => !calStored e.1), cal := { s.cal with tables := [], walk := [], loadedAt := s.now } }

/-- The P table of a unit in a bank's bytes; the ideal one stands as []. -/
def bankTable (d : List Byte) (u : Nat) : List Nat :=
  let p := (List.range 64).map (fun k => beAt d (0x40 + 128 * u + 2 * k) 2)
  if p == (List.range 64).map (fun k => 16 * k + 8) then [] else p

/-- WALK of a channel in a bank's bytes; one of zeros stands as []. -/
def bankWalk (d : List Byte) (c : Nat) : List Int :=
  let w := (List.range 16).map (fun k => beIntAt d (0xA7C0 + 32 * c + 2 * k) 2)
  if w.all (· == 0) then [] else w

/-- The tables of a bank become the working ones; their age starts at 0 (R611, R612). -/
def State.loadBank (s : State) (b : CalBank) : State :=
  let d := b.image
  let s := s.loadIdeal
  let s := (List.range 304).foldl (fun s u =>
    (s.set (calTempKey u) (beIntAt d (0x9840 + 8 * u) 2)).set (calKey u) (beAt d (0x9840 + 8 * u + 2) 2 : Nat)) s
  let s := (List.range 256).foldl (fun s c =>
    ((s.set (Obj.TRIM_LO + c) (beIntAt d (0xA1C0 + 2 * c) 1)).set (Obj.TRIM_HI + c) (beIntAt d (0xA1C0 + 2 * c + 1) 1)).set
      (Obj.ROFF + c) (beIntAt d (0xA3C0 + 4 * c) 4)) s
  { s with cal := { s.cal with
    tables := ((List.range 304).map (fun u => (u, bankTable d u))).filter (fun e => !e.2.isEmpty)
    walk := ((List.range 256).map (fun c => (c, bankWalk d c))).filter (fun e => !e.2.isEmpty) } }

/-! ### Boot images (R849) -/

/-- The fields of an image's header, laid out as log entry 62 says: MAGIC, SVN, key slot and body length. -/
def fwMagicOk (v : List Byte) : Bool := beAt v 0 4 == 0x4B5A4657
def fwSvn (v : List Byte) : Nat := beAt v 4 2
def fwSlot (v : List Byte) : Nat := beAt v 6 1
def fwBody (v : List Byte) : Nat := beAt v 8 4

/-- The bytes that the signature covers: header and body. -/
def fwSigned (v : List Byte) : List Byte := v.take (12 + fwBody v)

/-- The image's key and signature. -/
def fwKey (v : List Byte) : List Byte := (v.drop (12 + fwBody v)).take 64
def fwSignature (v : List Byte) : List Byte := (v.drop (76 + fwBody v)).take 64

/-- A key slot of OTP. -/
def State.keySlot (s : State) (n : Nat) : KeySlot := tabGet (fun _ => ⟨none, false⟩) s.otp.keys n

/-- The slot holds the hash of a key and is not revoked (R843, R844). -/
def State.keyMatches (s : State) (slot : Nat) (key : List Byte) : Bool :=
  !(s.keySlot slot).revoked && (s.keySlot slot).hash == some (sha256 key)

/-- The checks of R849 except the commit record (R851). -/
def State.fwValid (s : State) (v : List Byte) : Bool :=
  fwMagicOk v && v.length == 140 + fwBody v && decide (fwSlot v ≤ 1) && decide (s.otp.minSvn ≤ fwSvn v) &&
    s.keyMatches (fwSlot v) (fwKey v) && ecdsaVerify (fwKey v) (fwSignature v) (fwSigned v)

/-- The image region: 1 A, 2 B. -/
def State.bootImage (s : State) (n : Nat) : BootImage := if n = 1 then s.nvm.imageA else s.nvm.imageB

/-- Sets an image region. -/
def State.setBootImage (s : State) (n : Nat) (x : BootImage) : State :=
  if n = 1 then { s with nvm := { s.nvm with imageA := x } } else { s with nvm := { s.nvm with imageB := x } }

/-- The image is bootable (R849). -/
def State.bootable (s : State) (n : Nat) : Bool := (s.bootImage n).commit.isSome && s.fwValid (s.bootImage n).bytes

/-- The bootable image with the higher SEQ; 0 none. -/
def State.bootChoice (s : State) : Nat :=
  match s.bootable 1, s.bootable 2 with
  | true, true => if (s.bootImage 1).commit.getD 0 < (s.bootImage 2).commit.getD 0 then 2 else 1
  | true, false => 1
  | false, true => 2
  | false, false => 0

/-- IMAGE_INFO. -/
def State.imageInfo (s : State) (n : Nat) : Nat :=
  ((s.bootImage n).commit.getD 0) * 2 ^ 32 + fwSvn (s.bootImage n).bytes % 2 ^ 16 * 2 ^ 16 + b2n (s.bootable n)

/-! ### Kernel images (R507 to R511) -/

/-- The header is in order: MAGIC, FORMAT, the fields' ranges and the reserved bytes. -/
def imgFormatOk (v : List Byte) : Bool :=
  decide (64 ≤ v.length) && beAt v 0 4 == 0x4B5A4B4E && beAt v 4 2 == 1 && decide (1 ≤ imgPLen v) && decide (imgPLen v ≤ 8192) &&
    decide (imgXLen v ≤ 15360) && decide (imgYLen v ≤ 16384) && decide (imgParams v ≤ 64) && decide (imgEntry v < imgPLen v) &&
    decide (beAt v 24 1 ≤ 3) && ((v.drop 25).take 39).all (fun b => b == 0)

/-- The total length is that of R507. -/
def imgLengthOk (v : List Byte) : Bool := v.length == imgManifest v + 64 * imgParams v + 128 && decide (v.length ≤ 65536)

/-- One entry of the manifest is in order (R508). -/
def manifestEntryOk (yLen : Nat) (e : List Byte) : Bool :=
  match manifestDesc e with
  | none => false
  | some d =>
    decide (0x4000 ≤ d.index) && decide (d.index ≤ 0x4FFF) && (beAt e 4 1 == 1 || beAt e 4 1 == 3) &&
      decide (d.lo ≤ d.dflt) && decide (d.dflt ≤ d.hi) && decide (manifestOffset e + manifestWords e ≤ yLen)

/-- Two entries name different objects, and their Y areas do not overlap. -/
def manifestApart (a b : List Byte) : Bool :=
  manifestKey a != manifestKey b &&
    (decide (manifestOffset a + manifestWords a ≤ manifestOffset b) || decide (manifestOffset b + manifestWords b ≤ manifestOffset a))

/-- Every entry is in order and apart from those after it. -/
def manifestOk (yLen : Nat) : List (List Byte) → Bool
  | [] => true
  | e :: es => manifestEntryOk yLen e && es.all (manifestApart e) && manifestOk yLen es

/-- The public key of a kernel image, its signature, and what the signature covers. -/
def imgKey (v : List Byte) : List Byte := (v.drop (v.length - 128)).take 64
def imgSignature (v : List Byte) : List Byte := v.drop (v.length - 64)
def imgSigned (v : List Byte) : List Byte := v.take (v.length - 64)

/-- KERNEL_RESULT of an image (R509, R510). User-kernel slots 0 to 3 are the OTP slots 2 to 5 (R843). -/
def State.kernelCode (s : State) (v : List Byte) : Nat :=
  if !imgFormatOk v then 0x50
  else if !imgLengthOk v then 0x51
  else if !manifestOk (imgYLen v) (imgEntries v) then 0x54
  else if !s.keyMatches (beAt v 24 1 + 2) (imgKey v) then 0x52
  else if !ecdsaVerify (imgKey v) (imgSignature v) (imgSigned v) then 0x53
  else 0

/-- KERNEL_INFO of a user slot. -/
def State.kernelInfo (s : State) (slot : Nat) : Nat :=
  let v := s.image slot
  if v.isEmpty then 0 else beAt v 6 2 * 2 ^ 48 + beAt v 8 4 * 2 ^ 16 + imgPLen v

end Sys2Proof.Machine
end

