-- ==== Sys2Proof/Machine/Jobs.lean ====
section
/-! DEFINITION. The jobs (R46 to R49, R85 to R104): what each kind does in its steps, the NVM's programs and erases, and how a job is
acknowledged and aborted. -/

namespace Sys2Proof.Machine

open Sys2Proof

/-- The job kind code of R100. -/
def JobKind.code : JobKind → Nat
  | .none => 0 | .storeAll => 1 | .storeCal => 2 | .restore => 3 | .ddrWipe => 4 | .calTdc => 5 | .calThreshold => 6
  | .calOffset => 7 | .firmware => 8 | .selfTest => 9 | .eyeScan => 10 | .nvmVerify => 11 | .serviceWipe => 12

/-- The state code of R95. -/
def JobState.code : JobState → Nat
  | .free => 0 | .running => 1 | .waiting => 2 | .done => 3 | .failed => 4 | .aborted => 5

/-- JOB (R95). -/
def Job.word (j : Job) : Nat :=
  j.kind.code * 2 ^ 56 + j.state.code * 2 ^ 52 + j.origin * 2 ^ 48 + j.result * 2 ^ 40 + j.progress * 2 ^ 32 + j.steps * 2 ^ 16 +
    j.tag * 2 ^ 8 + j.seq

/-- A slot becomes FREE and keeps its SEQ (R95). -/
def State.freeJobSlot (s : State) (slot : Nat) : State := s.setJob slot { Job.free with seq := (s.job slot).seq }

/-- The job has finished. -/
def Job.finished (j : Job) : Bool := j.state == .done || j.state == .failed || j.state == .aborted

/-- The progress of a job with done parts of its total. -/
def Job.advance (j : Job) (n : Nat) : Job :=
  { j with doneCount := j.doneCount + n, progress := if j.total = 0 then 0 else min 99 ((j.doneCount + n) * 100 / j.total) }

/-! ### STORE_ALL and RESTORE_DEFAULTS (R86 to R93) -/

/-- The first step of a STORE_ALL: snapshot, comparison, and the records that are due (R86 to R88). -/
def State.storeSnapshot (s : State) (slot : Nat) : State :=
  let diff := s.storeDiff
  let q := nextSeq s.nvm.log
  let recs := diff.flatMap (fun x => dataRecords q x.2 (s.workingVal x.1 x.2)) ++ [commitRecord q]
  if diff.isEmpty then s.finishJob slot .done 0x01
  else if 512 * 1024 < s.imageAfter diff then s.finishJob slot .failed 0x11
  else s.setJob slot { s.job slot with records := recs, total := recs.length + 2, stage := 1 }

/-- The first step of a RESTORE_DEFAULTS: a restore record and a commit record are due (R92). -/
def State.restoreStart (s : State) (slot : Nat) : State :=
  let q := nextSeq s.nvm.log
  s.setJob slot { s.job slot with records := [⟨q, .restore, 0, 0, .scalar 0, 0, true⟩, commitRecord q], total := 4, stage := 1 }

/-- A record can be issued: the NVM is idle and the sector ahead of the head is erased (R85, R91). -/
def State.logReady (s : State) : Bool := s.nvm.busy == .idle && decide (0 < s.nvm.erasedAhead)

/-- The next record of a job is issued to the head. -/
def State.issueRecord (s : State) (slot : Nat) : State :=
  match (s.job slot).records with
  | [] => s
  | r :: _ => { s with nvm := { s.nvm with busy := .program slot { r with sector := s.nvm.headSector } } }

/-- The readback has verified the commit record programmed last: its sequence is committed (R86, R114). -/
def State.verifyCommit (s : State) : State :=
  let q := (s.nvm.log.map (·.seq)).foldl max 0
  { s with nvm := { s.nvm with
    log := s.nvm.log.map (fun (r : LogRecord) => if r.kind == LogKind.commit && r.seq == q then { r with crcOk := true } else r) } }

/-- The readback of the commit record (R86, R102, R114): event 0x163, and 0x167 for a RESTORE. -/
def State.logCommitCheck (s : State) (slot : Nat) (ok : Bool) : State :=
  if ok then
    let s := s.verifyCommit.raise 0x163 0
    let s := if (s.job slot).kind = .restore then s.raise 0x167 0 else s
    s.finishJob slot .done 0
  else s.finishJob slot .failed 0x12

/-- A step of STORE_ALL or RESTORE_DEFAULTS. -/
def State.storeStep (s : State) (slot : Nat) (ok : Bool) : State :=
  match (s.job slot).stage with
  | 0 => if (s.job slot).kind = .restore then s.restoreStart slot else s.storeSnapshot slot
  | 1 => s.issueRecord slot
  | _ => s.logCommitCheck slot ok

/-- The record of a job has been programmed. -/
def State.recordDone (s : State) (slot : Nat) : State :=
  let j := s.job slot
  let rest := j.records.drop 1
  s.setJob slot { j.advance 1 with records := rest, stage := if rest.isEmpty then 2 else 1 }

/-- A record as it is programmed: a commit record counts only once its readback has verified it (R86, R114). -/
def LogRecord.programmed (r : LogRecord) : LogRecord := { r with crcOk := r.crcOk && r.kind != .commit }

/-- NVM_PROGRAM_DONE: the record under programming is in the log, or fails its verify (R91, R102). -/
def execNvmProgramDone (ok : Bool) (s : State) : Host.Outcome State Fault Refusal :=
  match s.nvm.busy with
  | .program slot r =>
    let n := { s.nvm with
      busy := .idle, headUsed := s.nvm.headUsed + 1, log := if ok then s.nvm.log ++ [r.programmed] else s.nvm.log }
    let s := { s with nvm := n.moveHead }
    .next (if ok then s.recordDone slot else s.finishJob slot .failed 0x10)
  | _ => .next s

/-! ### Wear levelling (R43, R85, R91, R913) -/

/-- NVM_WEAR_LEVEL_ERASE: the sector ahead of the head is not erased: its live records are carried forward and its erase starts. -/
def execNvmWearLevelErase (s : State) : Host.Outcome State Fault Refusal :=
  if s.nvm.busy == .idle && s.nvm.erasedAhead == 0 then
    let x := nextSector s.nvm.worn 256 s.nvm.headSector
    let old := s.nvm.log.filter (fun r => r.sector == x)
    let live := (old.filter (fun r => logLive s.nvm.log r)).map (fun r => { r with sector := s.nvm.headSector })
    .next { s with nvm := { s.nvm with
      log := s.nvm.log.filter (fun r => r.sector != x) ++ live, headUsed := s.nvm.headUsed + live.length, busy := .erase x } }
  else .next s

/-- The jobs that wait for the erase fail (R913). -/
def State.failStores (s : State) : State :=
  (jobSlots.filter (fun n => (s.job n).state == .running && !(s.job n).records.isEmpty)).foldl (fun s n => s.finishJob n .failed 0x10) s

/-- NVM_ERASE_DONE: the sector is erased, or is worn and skipped from then on (R913). -/
def execNvmEraseDone (ok : Bool) (s : State) : Host.Outcome State Fault Refusal :=
  match s.nvm.busy with
  | .erase x =>
    let s := ({ s with nvm := { s.nvm with busy := .idle } }).noteErase x
    if ok then .next { s with nvm := ({ s.nvm with erasedAhead := s.nvm.erasedAhead + 1 }).moveHead }
    else .next ({ s with nvm := { s.nvm with worn := s.nvm.worn ++ [x] } }).failStores
  | _ => .next s

/-! ### STORE_CAL (R94, R101, R611 to R613) -/

/-- The tables are copied (R613). -/
def State.storeCalStart (s : State) (slot : Nat) : State :=
  let b := s.targetBank
  let s := { s with cal := { s.cal with copy := s.calImage } }
  s.setJob slot { s.job slot with stage := 1, arg := b, total := 217 }

/-- A part of the bank is done: the erase of its 13 data sectors and of its commit record's, the 200 records of the data, 256 bytes each,
and the commit record last (R91, R611, R613). -/
def State.storeCalPart (s : State) (bank part : Nat) : State :=
  let b := s.calBank bank
  s.setCalBank bank
    (if part < 14 then b.eraseSector (if part = 13 then 63 else part)
    else if part < 214 then b.put (256 * (part - 14)) ((s.cal.copy.drop (256 * (part - 14))).take 256)
    else { b with commit := calCommit s.nextCalSeq s.cal.copy })

/-- The commit record is verified. -/
def State.storeCalEnd (s : State) (slot : Nat) : State :=
  let s := s.set Obj.CAL_SEQ ((s.calBank (s.job slot).arg).seq?.getD 0)
  let s := { s with cal := { s.cal with copy := [] } }
  (s.raise 0x163 0).finishJob slot .done 0

/-- A step of STORE_CAL: the copy, 14 sector erases, 201 records with the commit record last, and its readback. -/
def State.storeCalStep (s : State) (slot : Nat) (ok : Bool) : State :=
  let j := s.job slot
  if j.stage = 0 then s.storeCalStart slot
  else if !ok then ({ s with cal := { s.cal with copy := [] } }).finishJob slot .failed (if 215 ≤ j.doneCount then 0x12 else 0x10)
  else if 215 ≤ j.doneCount then s.storeCalEnd slot
  else (s.storeCalPart j.arg j.doneCount).setJob slot (j.advance 1)

/-! ### SERVICE wipe (R836) -/

/-- A sector of the parameter log or of a calibration bank is erased: 0 to 255 the log, 256 to 319 bank A, 320 to 383 bank B. -/
def State.wipeSector (s : State) (i : Nat) : State :=
  if i < 256 then
    ({ s with nvm := { s.nvm with log := s.nvm.log.filter (fun r => r.sector != i) } }).noteErase i
  else if i < 320 then s.setCalBank 1 (s.nvm.bankA.eraseSector (i - 256))
  else s.setCalBank 2 (s.nvm.bankB.eraseSector (i - 320))

/-- The wipe ends: the head starts in an erased log, and the marker takes the fuse count. -/
def State.wipeEnd (s : State) (slot : Nat) : State :=
  let s := { s with nvm := { s.nvm with log := [], headUsed := 0, erasedAhead := 255 - s.nvm.worn.length } }
  let s := s.updateRecord 2 (beBytes 1 s.otp.fuses ++ s.identityContent.drop 1)
  (s.raise 0x16E 0).finishJob slot .done 0

/-- A step of the SERVICE wipe: 384 sector erases. -/
def State.serviceStep (s : State) (slot : Nat) (ok : Bool) : State :=
  let j := s.job slot
  if !ok then s.finishJob slot .failed 0x10
  else
    let s := (s.wipeSector j.doneCount).setJob slot (j.advance 1)
    if 384 ≤ (s.job slot).doneCount then s.wipeEnd slot else s

/-! ### Firmware update (R851) -/

/-- The inactive image region: the other one than the image that runs, or than the one that would boot (R851). -/
def State.inactiveImage (s : State) : Nat :=
  let running := if s.mem.image = 0 then s.bootChoice else s.mem.image
  if running = 1 then 2 else 1

/-- The commit record is written last, with SEQ one higher than that of the active image. -/
def State.firmwareCommit (s : State) (slot : Nat) : State :=
  let n := (s.job slot).arg
  let q := ((s.bootImage (3 - n)).commit.getD 0 + 1) % 2 ^ 32
  (s.setBootImage n { s.bootImage n with commit := some q }).finishJob slot .done 0

/-- A step of the firmware update: the check and the erase, the program, the verify and the commit step. -/
def State.firmwareStep (s : State) (slot : Nat) (ok : Bool) : State :=
  let j := s.job slot
  let n := j.arg
  match j.stage with
  | 0 =>
    (match s.mem.staged with
     | none => s.finishJob slot .failed 0x20
     | some _ => (s.setBootImage n BootImage.none_).setJob slot { j.advance 1 with stage := 1 })
  | 1 =>
    if ok then (s.setBootImage n ⟨none, s.mem.staged.getD []⟩).setJob slot { j.advance 1 with stage := 2 }
    else s.finishJob slot .failed 0x21
  | 2 =>
    if ok && s.fwValid (s.bootImage n).bytes then s.setJob slot { j.advance 1 with stage := 3 } else s.finishJob slot .failed 0x22
  | _ => if ok then s.firmwareCommit slot else s.finishJob slot .failed 0x21

/-! ### Self-test, NVM verify and eye scan (R731, R853, R854) -/

/-- The lowest bit of a map at or above a number, below 8. -/
def nextBit (m n : Nat) : Option Nat := (List.range 8).find? (fun i => decide (n ≤ i) && natBit m i)

/-- A self-test step tests one selected block, in ascending order. -/
def State.selfTestStep (s : State) (slot : Nat) (ok : Bool) : State :=
  let j := s.job slot
  let s := if j.stage = 0 then s.setBlk Obj.SELFTEST_REPORT (fill 4 2) else s
  match nextBit j.arg j.stage with
  | none => s.finishJob slot .done 0
  | some b =>
    let s := s.setBlk Obj.SELFTEST_REPORT ((s.getBlk Obj.SELFTEST_REPORT).set b (if ok then 0 else 1))
    let s := if ok then s else s.raise 0x152 (b * 2 ^ 24)
    let s := s.setJob slot { (s.job slot).advance 1 with stage := b + 1 }
    if (nextBit j.arg (b + 1)).isSome then s
    else if (s.getBlk Obj.SELFTEST_REPORT).any (fun x => x == 1) then s.finishJob slot .failed 0x20
    else s.finishJob slot .done 0

/-- The entries of a verify report, 4 bytes each: sector and kind. -/
def verifyEntries (bs : List Byte) : List (Nat × Nat) :=
  (List.range (bs.length / 4)).map (fun i => (beAt bs (4 * i) 2, beAt bs (4 * i + 2) 1))

/-- The verify ends: its report stands, and RESULT says what it found. -/
def State.verifyEnd (s : State) (slot : Nat) : State :=
  let bs := (s.job slot).data
  let s := s.setBlk Obj.NVM_VERIFY_REPORT bs
  if bs.isEmpty then s.finishJob slot .done 0
  else if (verifyEntries bs).all (fun e => e.2 == 1) then s.finishJob slot .failed 0x20
  else s.finishJob slot .failed 0x21

/-- An NVM verify step reads one region; the sectors that it finds weak or failing come with the step: sector, kind, 0 (R854). -/
def State.verifyStep (s : State) (slot : Nat) (found : List Byte) : State :=
  let j := s.job slot
  match nextBit j.arg j.stage with
  | none => s.verifyEnd slot
  | some b =>
    let es := verifyEntries found
    let bytes := es.flatMap (fun e => beBytes 2 e.1 ++ beBytes 1 e.2 ++ [0])
    let s := es.foldl (fun s e => s.raise 0x158 (e.1 * 2 ^ 16 + e.2 * 2 ^ 8)) s
    let s := s.setJob slot { (s.job slot).advance 1 with stage := b + 1, data := (j.data ++ bytes).take 8192 }
    if (nextBit j.arg (b + 1)).isSome then s else s.verifyEnd slot

/-- An eye scan step: the mismatch counts of the points that have been dwelt on come with it, 2 bytes each (R731, R732). -/
def State.scanStep (s : State) (slot : Nat) (counts : List Byte) : State :=
  let j := s.job slot
  let n := j.arg % 8
  if !s.scanOkLane n then s.finishJob slot .failed 0x20
  else
    let d := (j.data ++ counts.take (counts.length / 2 * 2)).take 16640
    if d.length = 16640 then (s.setBlk Obj.EYE_MAP (s.eyeHeader n (j.arg / 8) ++ d)).finishJob slot .done 0
    else s.setJob slot { j with data := d, doneCount := d.length / 2, progress := d.length * 100 / 16640 }

/-! ### JOB_STEP (R47) -/

/-- The job can take a step: it does not wait for the NVM, and the DDR5 wipe goes on by itself (R835). -/
def State.canStep (s : State) (slot : Nat) : Bool :=
  let j := s.job slot
  j.state == .running &&
  match j.kind with
  | .ddrWipe => false
  | .storeAll => j.stage != 1 || s.logReady
  | .restore => j.stage != 1 || s.logReady
  | _ => true

/-- A step of a job of some kind. -/
def State.stepJob (s : State) (slot : Nat) (i : JobInput) : State :=
  match (s.job slot).kind with
  | .storeAll => s.storeStep slot i.ok
  | .restore => s.storeStep slot i.ok
  | .storeCal => s.storeCalStep slot i.ok
  | .calTdc => s.calJobStep slot i.ok
  | .calThreshold => s.calJobStep slot i.ok
  | .calOffset => s.calJobStep slot i.ok
  | .firmware => s.firmwareStep slot i.ok
  | .selfTest => s.selfTestStep slot i.ok
  | .eyeScan => s.scanStep slot i.data
  | .nvmVerify => s.verifyStep slot i.data
  | .serviceWipe => s.serviceStep slot i.ok
  | .ddrWipe => s
  | .none => s

/-- JOB_STEP: CC1 runs one step of the next active job, round robin (R47). What the step's hardware reports comes with it. -/
def execJobStep (input : JobInput) (s : State) : Host.Outcome State Fault Refusal :=
  match s.jobs.round.find? (fun n => s.canStep n) with
  | none => .next s
  | some slot =>
    let s := { s with jobs := { s.jobs with round := s.jobs.round.filter (· != slot) ++ [slot] } }
    let s := s.setJob slot { s.job slot with steps := min 0xFFFF ((s.job slot).steps + 1) }
    .next (s.stepJob slot input)

/-- JOB_RETENTION_EXPIRY: a finished slot returns to FREE after 10 s (R98). -/
def execJobRetentionExpiry (slot : Nat) (s : State) : Host.Outcome State Fault Refusal :=
  if jobSlots.contains slot && (s.job slot).finished && reached s.now (s.job slot).finishedAt (sec 10) then .next (s.freeJobSlot slot)
  else .next s

/-! ### Acknowledge and abort (R98, R99) -/

/-- The slot and SEQ of a handle. -/
def handleSlot (v : Nat) : Nat := v / 256
def handleSeq (v : Nat) : Nat := v % 256

/-- The handle names the slot's present claim, and the slot is not FREE. -/
def State.handleNames (s : State) (v : Nat) : Bool :=
  jobSlots.contains (handleSlot v) && (s.job (handleSlot v)).state != .free && (s.job (handleSlot v)).seq == handleSeq v

/-- The job may be aborted while RUNNING (R100): a firmware update until its commit step, which ends it. -/
def Job.abortable (j : Job) : Bool :=
  match j.kind with
  | .calTdc => true | .calThreshold => true | .calOffset => true | .selfTest => true | .eyeScan => true | .nvmVerify => true
  | .firmware => true
  | _ => false

/-- A write to JOB_ABORT is refused (R99). -/
def State.abortRefused (s : State) (v : Nat) : Bool :=
  !s.handleNames v ||
    (match (s.job (handleSlot v)).state with
     | .waiting => false
     | .running => !(s.job (handleSlot v)).abortable
     | _ => true)

/-- The runs of a calibration job end with code 0x02; the old tables stand (R100). -/
def State.dropCalRuns (s : State) (slot : Nat) : State :=
  let kind := (s.job slot).kind.calKind
  let us := (s.busyUnits slot).map (·.1)
  let s := { s with cal := { s.cal with
    runs := s.cal.runs.filter (fun r => r.slot != slot), waiting := s.cal.waiting.filter (fun w => w.1 != slot)
    failed := s.cal.failed.filter (fun f => f.1 != slot)
    stepNow := if kind = 3 then none else s.cal.stepNow, stepGroups := if kind = 3 then [] else s.cal.stepGroups } }
  us.foldl (fun s u => s.setOutcome u kind 0x02) s

/-- The inactive image is left without a commit (R100). -/
def State.uncommitImage (s : State) (n : Nat) : State := s.setBootImage n { s.bootImage n with commit := none }

/-- The abort (R99): what was begun is discarded (R100). -/
def State.abortJob (s : State) (slot : Nat) : State :=
  let j := s.job slot
  let s := if j.kind.isCal && j.state == .running then s.dropCalRuns slot else s
  let s := if j.kind == .firmware && j.state == .running then s.uncommitImage j.arg else s
  s.finishJob slot .aborted 0x02

/-- An accepted write to JOB_ACK (R98). -/
def State.ackJob (s : State) (v : Nat) : State :=
  if s.handleNames v && (s.job (handleSlot v)).finished then s.freeJobSlot (handleSlot v) else s

/-! ### Which writes start a job (R85) -/

/-- A job that a write starts: its kind, its resource, its parameter and how many parts it has. -/
structure JobStart where
  kind  : JobKind
  res   : Resource
  arg   : Nat
  total : Nat
  deriving DecidableEq, Repr

/-- The job that an accepted write to an object starts. -/
def State.jobOf (s : State) (k v : Nat) : Option JobStart :=
  if k = Obj.STORE_ALL then some ⟨.storeAll, .paramLog, 0, 0⟩
  else if k = Obj.STORE_CAL then some ⟨.storeCal, .calBanks, 0, 217⟩
  else if k = Obj.RESTORE_DEFAULTS then some ⟨.restore, .paramLog, 0, 4⟩
  else if k = Obj.CAL_START then
    (let m := unitMask (s.calSelection v); some ⟨calJobKind v, .calChannels m, m, (s.calSelection v).length⟩)
  else if k = Obj.EYE_SCAN then some ⟨.eyeScan, .offsetSampler (field v 28 3), field v 28 3 + 8 * field v 24 4, 8320⟩
  else if k = Obj.FW_COMMIT then some ⟨.firmware, .bootImage, s.inactiveImage, 4⟩
  else if k = Obj.SELFTEST_START then some ⟨.selfTest, .blocksUnderTest v, v, ((List.range 4).filter (natBit v)).length⟩
  else if k = Obj.NVM_VERIFY then some ⟨.nvmVerify, .none, v, ((List.range 8).filter (natBit v)).length⟩
  else none

end Sys2Proof.Machine
end

