-- ==== Sys2Proof/Machine/Live.lean ====
section
/-! DEFINITION. What a read of an object answers: the value in the object store, or, for an object that mirrors a block, the
block's own state (R74, R75). -/

namespace Sys2Proof.Machine

open Sys2Proof

/-- A reading of figures that no command carries: cycles of an engine (log entry 2). -/
def State.openReading (s : State) (k lim : Nat) : Nat := Config.reading s.now k % (lim + 1)

/-- The objects of chapter 02 that mirror the jobs and the parameter log. -/
def State.jobReading (s : State) (k : Nat) : Option Nat :=
  if k / 256 = Obj.JOB / 256 then some (s.job (k % 256)).word
  else if k = Obj.JOB_COUNT then some (jobSlots.filter (fun n => (s.job n).state != .free)).length
  else if k = Obj.PARAM_LOG_SEQ then some (logSeq s.nvm.log)
  else if k = Obj.PARAM_LOG_USED then some s.liveImage
  else if k = Obj.PARAM_LOG_ERASES then some s.nvm.allErases
  else if k = Obj.PARAM_LOG_WEAR then some s.nvm.wear
  else none

/-- POSREV of an axis (R151): the low 32 bits of REVOLUTION, then POSITION. -/
def State.posRev (s : State) (a : Nat) : Nat := (s.axis a).revolution % 2 ^ 32 * 2 ^ 32 + s.position a

/-- The objects of chapter 03 that mirror the event inputs and the axes. -/
def State.crankReading (s : State) (k : Nat) : Option Int :=
  let a := k % 256 - 1
  if k / 256 = Obj.EV_STATE / 256 then some (b2n (s.evIn (k % 256)).filt)
  else if k / 256 = Obj.POSITION / 256 then some (s.position a)
  else if k / 256 = Obj.REVOLUTION / 256 then some (s.axis a).revolution
  else if k / 256 = Obj.SPEED / 256 then some (s.speedRaw a)
  else if k / 256 = Obj.AXIS_STATE / 256 then some (s.axis a).st.code
  else if k / 256 = Obj.PHASE / 256 then some (unsigned 32 (s.published a))
  else if k / 256 = Obj.POSREV / 256 then some (s.posRev a)
  else if k / 256 = Obj.FREEWHEEL_TIME / 256 then some (s.freewheelTime a)
  else none

/-- The objects of chapter 04 that mirror the cue list and the sequencer. -/
def State.seqReading (s : State) (k : Nat) : Option Nat :=
  if k = Obj.CUE_STAGED_COUNT then some s.seq.staging.length
  else if k = Obj.CUE_ACTIVE_COUNT then some s.seq.active.length
  else if k = Obj.CUE_PENDING then some (b2n s.seq.pending)
  else if k = Obj.CUE_NEXT then some s.seq.next
  else if k = Obj.SEQ_STATE then some s.seq.state.code
  else if k = Obj.TAKE_SEQ then some s.seq.takeSeq
  else if k = Obj.SEQ_EPOCH then some s.seq.epoch
  else if k = Obj.TAKES_IN_FLIGHT then some s.inFlight
  else none

/-- AE_STATE (R493): 0 SELF_TEST, 1 AUDITING, 2 WAITING, 3 STOPPED. -/
def State.aeState (s : State) (n : Nat) : Nat :=
  if s.safety.aeStopped then 3
  else if s.safety.state = .init then 0
  else if (if n = 0 then s.safety.ae0Busy else s.safety.ae1Busy) then 1 else 2

/-- The objects of chapters 06 to 09 that mirror their blocks. -/
def State.blockReading (s : State) (k : Nat) : Option Nat :=
  let n := k % 256
  if k = Obj.SAFETY_STATE then some s.safety.state.code
  else if k = Obj.SAFETY_STATUS then some s.safetyStatus
  else if k / 256 = Obj.RX_STATE / 256 then some (s.rxState n)
  else if k / 256 = Obj.SE_STATE / 256 then some (s.engine n).st.code
  else if k / 256 = Obj.SE_LOAD / 256 then some (if (s.engine n).st = .running then s.openReading k 100 else 0)
  else if k / 256 = Obj.AE_STATE / 256 then some (s.aeState n)
  else if k / 256 = Obj.AE_CYCLES / 256 then some (s.openReading k 1000000)
  else if k / 256 = Obj.KERNEL_INFO / 256 then some (s.kernelInfo n)
  else if k = Obj.CAL_DUE_COUNT then some s.calDueCount
  else none

/-- The objects of chapters 13 and 14 that mirror the clock and the lanes. -/
def State.netReading (s : State) (k : Nat) : Option Nat :=
  if k = Obj.RESTEP_PENDING then some (b2n (s.time.step != .none))
  else if k = Obj.HOST_LOCKED then some (b2n (s.getN Obj.CLOCK_STATE == 3 && s.getN Obj.TIME_SOURCE == 1))
  else if k = Obj.EGO_AGE then some s.egoAge
  else if k / 256 = Obj.LANE_STATE / 256 then some (s.laneState (k % 256))
  else none

/-- KEY_STATE of a slot: 0 empty, 1 programmed, 2 revoked. -/
def State.keyState (s : State) (n : Nat) : Nat :=
  if (s.keySlot n).revoked then 2 else if (s.keySlot n).hash.isSome then 1 else 0

/-- The objects of chapters 15 to 18 that mirror their blocks. -/
def State.deviceReading (s : State) (k : Nat) : Option Nat :=
  if k = Obj.EVENT_SUMMARY then some s.eventSummary
  else if k = Obj.IBI_QUEUE_COUNT then some s.ev.ibiQueue.length
  else if k = Obj.PAIR_ROLE then some s.pair.role.code
  else if k = Obj.PAIR_POSITION then some s.pair.position
  else if k = Obj.PAIR_STATUS then some s.pairStatus
  else if k / 256 = Obj.IMAGE_INFO / 256 then some (s.imageInfo (k % 256))
  else if k = Obj.MIN_SVN then some s.otp.minSvn
  else if k = Obj.LIFECYCLE then some s.lifecycle
  else if k = Obj.LIFECYCLE_NONCE then some s.mem.nonce
  else if k = Obj.LIFECYCLE_PENDING then some (b2n s.reset_.retained.lifecycle.isSome)
  else if k = Obj.LIFECYCLE_FUSES then some s.otp.fuses
  else if k / 256 = Obj.KEY_STATE / 256 then some (s.keyState (k % 256))
  else if k / 256 = Obj.RECORD_STATE / 256 then some (s.recordState (k % 256))
  else if k = Obj.POWER_ON_HOURS then some ((s.nvm.opLog.head?.map (·.1)).getD 0)
  else if k = Obj.RESET_COUNT then some s.nvm.resets
  else if k = Obj.DDR_REGIONS_READY then some s.mem.regions
  else if k = Obj.RESET_CAUSE then some s.reset_.retained.cause.code
  else if k = Obj.BROWNOUT_SUPPLY then some s.reset_.retained.brownout
  else none

/-- The value of a scalar object that a read answers. -/
def State.liveValue (s : State) (d : ObjDesc) (k : Nat) : Int :=
  match s.jobReading k, s.crankReading k, s.seqReading k, s.blockReading k with
  | some v, _, _, _ => v
  | _, some v, _, _ => v
  | _, _, some v, _ => v
  | _, _, _, some v => v
  | none, none, none, none =>
    match s.netReading k, s.deviceReading k with
    | some v, _ => v
    | _, some v => v
    | none, none => if d.access = .wo then 0 else s.scalarOf d k

/-- BG_MAP (R435). -/
def State.bgMapBlock (s : State) : List Byte :=
  (List.range 262144).flatMap (fun i =>
    let e := tabGet (fun _ => (0, 0)) s.hist.bgMap i
    beBytes 2 e.1 ++ beBytes 2 e.2)

/-- The bytes of a bit map of n bytes. -/
def mapBytes (n : Nat) (p : Nat → Bool) : List Byte :=
  (List.range n).map (fun i => BitVec.ofNat 8 ((List.range 8).foldl (fun a j => a + b2n (p (8 * i + j)) * 2 ^ j) 0))

/-- TIME_NOW (R662). -/
def State.timeNow (s : State) : List Byte := beBytes 6 s.time.sec ++ beBytes 4 s.time.ns ++ beBytes 2 (s.time.frac / 256)

/-- RECORD_COPY: what a copy of a critical record holds; none for an invalid copy (log entry 63). -/
def State.recordCopyBlock (s : State) (sub : Nat) : List Byte :=
  let r := s.record ((sub - 1) / 3 + 1)
  let c := match (sub - 1) % 3 with
    | 0 => r.copy1
    | 1 => r.copy2
    | _ => r.copy3
  (c.map (·.content)).getD []

/-- The BLOCK objects that mirror a block. -/
def State.blockBytes (s : State) (k : Nat) : Option (List Byte) :=
  if k = Obj.CUE_ACTIVE then some (cueBytes s.seq.active)
  else if k = Obj.ZONE_DIAG then some s.zoneDiagBlock
  else if k = Obj.BG_MAP then some s.bgMapBlock
  else if k = Obj.SOIL_MAP then some ((List.range 262144).map (fun i => BitVec.ofNat 8 (tabGet (fun _ => 0) s.pipe.soil i)))
  else if k = Obj.BLOCK_MAP then some (mapBytes 32768 (fun i => tabGet (fun _ => false) s.pipe.blocked i))
  else if k = Obj.WALK_TABLE then some s.walkBlock
  else if k = Obj.TDC_TABLES then some s.tablesBlock
  else if k = Obj.TIME_NOW then some s.timeNow
  else if k = Obj.EVENT_PENDING then some (mapBytes 48 (fun e => s.ev.pending.getLsbD e))
  else if k = Obj.DEVICE_ID then some s.otp.deviceId
  else if k / 256 = Obj.RECORD_COPY / 256 then some (s.recordCopyBlock (k % 256))
  else if k = Obj.ECC_LOG then some s.mem.eccLog.flatten
  else none

/-- Bytes filled with 0 to a length, or as they are when they are longer. -/
def atLeast (n : Nat) (bs : List Byte) : List Byte := bs ++ fill (n - bs.length) 0

/-- The bytes of a BLOCK object that a read answers: one of fixed length in that length. -/
def State.liveBlock (s : State) (d : ObjDesc) (k : Nat) : List Byte :=
  match s.blockBytes k with
  | some bs => bs
  | none =>
    if d.access = .wo then []
    else if d.lo = d.hi then atLeast d.hi.toNat (s.getBlk k) else s.getBlk k

/-- The KOA form of what a read answers (R60). -/
def State.readForm (s : State) (d : ObjDesc) (k : Nat) : List Byte :=
  if d.ty = .block ∨ d.ty = .str then s.liveBlock d k else encodeValue d.ty (s.liveValue d k)

end Sys2Proof.Machine
end

