-- ==== Sys2Proof/Machine/Memory.lean ====
section
/-! DEFINITION. Memory integrity, DDR5, the life cycle and observation (chapter 17): the scrubbers, the DDR5 wipe, the critical
records, OTP and the trace snapshots. -/

namespace Sys2Proof.Machine

open Sys2Proof

/-! ### Error correction and scrubbing (R824 to R829) -/

/-- An entry of ECC_LOG (R827). -/
def State.eccEntry (s : State) (mem kind syndrome finder addr : Nat) : List Byte :=
  beBytes 1 mem ++ beBytes 1 kind ++ beBytes 1 syndrome ++ beBytes 1 finder ++ beBytes 4 addr ++ beBytes 4 (s.time.sec % 2 ^ 32) ++
    beBytes 4 s.time.ns

/-- The ring of the last 16 entries, newest first. -/
def State.logEcc (s : State) (mem kind syndrome finder addr : Nat) : State :=
  { s with mem := { s.mem with eccLog := (s.eccEntry mem kind syndrome finder addr :: s.mem.eccLog).take 16 } }

/-- A corrected error is counted, logged and reported, event 0x150 at most once per 1 ms (R827, R860). -/
def State.eccCorrected (s : State) (mem syndrome finder addr : Nat) : State :=
  ((s.count (Obj.ECC_CORRECTED + mem)).logEcc mem 1 syndrome finder addr).raiseLimited 0x150 0 0

/-- Uncorrectable words are counted, logged and reported (R827). -/
def State.eccUncorrected (s : State) (mem words kind syndrome finder addr : Nat) : State :=
  ((s.addSat (Obj.ECC_UNCORRECTED + mem) words).logEcc mem kind syndrome finder addr).raise 0x151 (mem * 2 ^ 24)

/-- A histogram word has gone bad: its channel, buffer and word, 2,048 words a buffer (log entry 64). -/
def State.badHistWord (s : State) (addr : Nat) : State :=
  let w := (addr / 4096 % 256, addr / 2048 % 2, addr % 2048)
  if s.hist.badWords.contains w then s else { s with hist := { s.hist with badWords := s.hist.badWords ++ [w] } }

/-- A word of an engine's memories has gone bad. -/
def State.badEngineWord (s : State) (addr : Nat) : State :=
  if s.mem.badWords.contains (1, addr) then s else { s with mem := { s.mem with badWords := s.mem.badWords ++ [(1, addr)] } }

/-- The address holds an entry of the active bank, or, 16,384 above, of the staging bank (log entry 64). -/
def State.holdsCue (s : State) (addr : Nat) : Bool :=
  if addr < 16384 then decide (addr < s.seq.active.length) else decide (addr - 16384 < s.seq.staging.length)

/-- An entry of a bank is void: of the active one until the next swap, of the staging one until it is written or has been active
(R193, R826). -/
def State.voidCue (s : State) (addr : Nat) : State :=
  if s.holdsCue addr && !s.seq.void_.contains addr then { s with seq := { s.seq with void_ := addr :: s.seq.void_ } } else s

/-- An item of memory 5 has gone bad: a hit of a channel's buffer, 16 a channel, or behind them a take record (log entry 64). It is
discarded, with the hits of a take, when HIT_DELIVERY reads it (R826, R829). -/
def State.badItem (s : State) (addr : Nat) : State :=
  if addr < 4096 then
    let c := addr / 16
    let x := s.rxChan c
    s.setRxChan c { x with buf := x.buf.zipIdx.map (fun p => if p.2 = addr % 16 then { p.1 with bad := true } else p.1) }
  else match s.seq.takes[addr - 4096]? with
    | some t => s.mapTake t (fun x => { x with lost := true })
    | none => s

/-- The owner reads a bad item of memory 5 in this cycle: a hit leaves its buffer, and the reel, or the take's set, carries DEGRADED. -/
def State.discardItem (s : State) (addr : Nat) : State :=
  if addr < 4096 then
    let c := addr / 16
    let x := s.rxChan c
    match x.buf[addr % 16]? with
    | some h => (s.setRxChan c { x with buf := x.buf.eraseIdx (addr % 16) }).degradeReel c h.set_
    | none => s
  else match s.seq.takes[addr - 4096]? with
    | some t => (s.badItem addr).mapSet t.set_ (fun r => { r with degraded := true })
    | none => s

/-- What an uncorrectable word of memories 0 to 5 leads to (R826, R829): a word of the engines' or the histogram's memories waits
for its owner's read; the control complex resets the device when its own read meets the word; safety trips at once. -/
def State.sramLost (s : State) (mem addr : Nat) (owner : Bool) : State :=
  match mem with
  | 0 => s.badHistWord addr
  | 1 => s.badEngineWord addr
  | 2 => if owner then s.deviceReset .memory 0xFF else s
  | 3 => s.trip .safetyMemory
  | 4 => s.voidCue addr
  | _ => if owner then s.discardItem addr else s.badItem addr

/-- A scrubber has completed a pass (R828, R860). -/
def State.scrubPass (s : State) (which e : Nat) (done : Bool) : State :=
  if done then (let s := s.count (Obj.SCRUB_PASSES + which); s.raise e (s.getN (Obj.SCRUB_PASSES + which))) else s

/-- The clocks run: the device is not held in reset. -/
def State.powered (s : State) : Bool := s.reset_.phase != .held

/-- The word is uncorrectable. -/
def eccLost : EccFind → Bool
  | .uncorrectable _ => true
  | _ => false

/-- SRAM_SCRUB_READ: the scrubber reads a word of memories 0 to 5; `owner` says that the word's owner reads it in the same cycle,
which is then the finder (R828, R829, R861). -/
def execSramScrubRead (mem : Fin 6) (addr : Nat) (found : EccFind) (owner : Bool) (passEnd : Bool) (s : State) :
    Host.Outcome State Fault Refusal :=
  if !(s.powered && s.reset_.sramWiped) then .next (if mem.val = 2 ∧ owner ∧ eccLost found then s.resetTogether .memory else s)
  else
    let s := s.scrubPass 0 0x153 passEnd
    match found with
    | .clean => .next s
    | .corrected y => .next (s.eccCorrected mem y (b2n (!owner)) addr)
    | .uncorrectable y => .next ((s.eccUncorrected mem 1 2 y (b2n (!owner)) addr).sramLost mem addr owner)
    | .burstCrc => .next s

/-- A write session or snapshot is lost: its owner's next request returns EXPIRED (R826). -/
def State.loseSegments (s : State) (owner : Requester) (key : Nat) : State :=
  { s with koa := { s.koa with expired := s.koa.expired ++ [(owner, key)] } }

/-- A queued message is dropped with DROPPED (R826). -/
def State.loseMessage (s : State) (dest place : Nat) : State :=
  match (s.outQueue dest)[place]? with
  | some m => (s.setOutQueue dest ((s.outQueue dest).eraseIdx place)).dropMessage m
  | none => s

/-- What an uncorrectable word of DDR5 leads to (R826). -/
def State.ddrLost (s : State) (item : DdrItem) : State :=
  match item with
  | .session o k =>
    if s.koa.sessions.any (fun x => x.owner == o && x.key == k) then
      ({ s with koa := { s.koa with sessions := s.koa.sessions.filter (fun x => !(x.owner == o && x.key == k)) } }).loseSegments o k
    else s
  | .snapshot o k =>
    if s.koa.snapshots.any (fun x => x.owner == o && x.key == k) then
      ({ s with koa := { s.koa with snapshots := s.koa.snapshots.filter (fun x => !(x.owner == o && x.key == k)) } }).loseSegments o k
    else s
  | .message d n => s.loseMessage (d + 1) n
  | .history n =>
    { s with hist := { s.hist with mrev := s.hist.mrev.zipIdx.map (fun p => if p.2 = n then { p.1 with bad := true } else p.1) } }
  | .sumWord c w => { s with hist := { s.hist with badWords := s.hist.badWords ++ [(c.val, 2, w)] } }
  | .other => s

/-- DDR_SCRUB_READ: the DDR5 scrubber reads a burst (R825, R828). A burst whose address CRC fails counts for eight words. -/
def execDdrScrubRead (addr : Nat) (found : EccFind) (item : DdrItem) (passEnd : Bool) (s : State) : Host.Outcome State Fault Refusal :=
  if !s.ddrReady then .next s
  else
    let s := s.scrubPass 1 0x154 passEnd
    match found with
    | .clean => .next s
    | .corrected y => .next (s.eccCorrected 6 y 1 addr)
    | .uncorrectable y => .next ((s.eccUncorrected 6 1 2 y 1 addr).ddrLost item)
    | .burstCrc => .next ((s.eccUncorrected 6 8 3 0 1 addr).ddrLost item)

/-! ### DDR5 (R830 to R835) -/

/-- The capacity of an organisation in MiB (R830). -/
def ddrCapacity (org : Nat) : Nat :=
  match org with
  | 1 => 4096 | 2 => 8192 | 3 => 8192 | 4 => 16384 | _ => 0

/-- The DDR_CONFIG in force: the stored one, as a write takes effect at the next reset (R859). -/
def State.ddrConfig (s : State) : Nat :=
  match storedVal s.nvm.log Obj.DDR_CONFIG with
  | some (.scalar v) => v.toNat
  | _ => 0

/-- Training has passed: the wipe job starts on region 0 (R835); without a FREE slot none starts (DESIGN CHOICE, log entry 72). -/
def State.startWipe (s : State) (size : Nat) : State :=
  let s := (s.set Obj.DDR_SIZE size).set Obj.DDR_STATE 1
  match s.startJob .ddrWipe 0 0 .ddr 0 (size / 64) with
  | some p => { p.2 with mem := { p.2.mem with ddrTrained := true, regions := 0 } }
  | none => s

/-- DDR_TRAINING_DONE: training ends; it fails when a lane fails twice, or when no organisation is found with DDR_CONFIG 0 (R832). -/
def execDdrTrainingDone (lanesOk : Bool) (org : Fin 5) (s : State) : Host.Outcome State Fault Refusal :=
  if (s.reset_.phase == .firmware || s.running) && s.get Obj.DDR_STATE == 0 then
    let o := if s.ddrConfig = 0 then org.val else s.ddrConfig
    if lanesOk && o != 0 then .next (s.startWipe (ddrCapacity o))
    else .next ((s.set Obj.DDR_STATE 3).raise 0x156 0)
  else .next s

/-- The slot of the DDR5 wipe. -/
def State.wipeSlot (s : State) : Option Nat := jobSlots.find? (fun n => (s.job n).kind == .ddrWipe && (s.job n).state == .running)

/-- The last region is wiped. -/
def State.wipeDone (s : State) (slot : Nat) : State :=
  ((s.set Obj.DDR_STATE 2).raise 0x155 (s.mem.regions * 2 ^ 16)).finishJob slot .done 0

/-- DDR_WIPE_REGION_DONE: a region of 64 MiB is wiped and usable (R835). -/
def execDdrWipeRegionDone (s : State) : Host.Outcome State Fault Refusal :=
  match s.wipeSlot with
  | none => .next s
  | some n =>
    let j := { (s.job n).advance 1 with steps := min 0xFFFF ((s.job n).steps + 1) }
    let s := ({ s with mem := { s.mem with regions := s.mem.regions + 1 } }).setJob n j
    .next (if j.total ≤ j.doneCount then s.wipeDone n else s)

/-- DDR_TEMP_POLL: tREFI is halved while any component reports above 85 °C (R831). -/
def execDdrTempPoll (temps : List Int) (s : State) : Host.Outcome State Fault Refusal :=
  let hot := temps.any (fun t => decide (85 < t))
  if !s.mem.ddrTrained || hot == s.mem.refreshHalved then .next s
  else .next (({ s with mem := { s.mem with refreshHalved := hot } }).raise 0x157 0)

/-- SRAM_WIPE_DONE: every word of memories 0 to 5 has been written to 0 (R834). -/
def execSramWipeDone (s : State) : Host.Outcome State Fault Refusal :=
  if s.reset_.phase == .rom then .next { s with reset_ := { s.reset_ with sramWiped := true } } else .next s

/-! ### Operating log (R839) -/

/-- POWER_ON_HOURS as the operating log holds it. -/
def State.powerOnHours (s : State) : Nat := (s.nvm.opLog.head?.map (·.1)).getD 0

/-- OPERATING_LOG_APPEND: each hour of powered time a record is appended; the 16 sectors hold 256 records each. -/
def execOperatingLogAppend (s : State) : Host.Outcome State Fault Refusal :=
  if s.powered && reached s.now s.mem.hourAt hour then
    let r := (min 0xFFFFFFFF (s.powerOnHours + 1), s.nvm.resets, s.mem.hourPeak)
    .next { s with
      nvm := { s.nvm with opLog := (r :: s.nvm.opLog).take (16 * 256) }
      mem := { s.mem with hourAt := s.now, hourPeak := s.dieTemps.foldl max (s.dieTemps.headD 0) } }
  else .next s

/-! ### Critical records, keys and life cycle (R840 to R847) -/

/-- A copy of a critical record, 1 to 3. -/
def recordCopyOf (r : CriticalRecord) (n : Nat) : Option RecordCopy :=
  match n with
  | 1 => r.copy1 | 2 => r.copy2 | 3 => r.copy3 | _ => none

/-- What a write to RECORD_RESOLVE is refused with (R842). -/
def State.resolveCheck (s : State) (v : Nat) : Option Status :=
  let kind := v / 256
  if !(decide (1 ≤ kind ∧ kind ≤ 3) && decide (1 ≤ v % 256 ∧ v % 256 ≤ 3)) then some .outOfRange
  else if s.safety.state != .safeDefault || s.recordState kind != 3 then some .state
  else if (recordCopyOf (s.record kind) (v % 256)).isNone then some .outOfRange
  else none

/-- RECORD_RESOLVE rewrites the three copies from the chosen one, with its sequence plus 1 (R842). -/
def State.resolveRecord (s : State) (v : Nat) : State :=
  match recordCopyOf (s.record (v / 256)) (v % 256) with
  | some c =>
    let s := s.setRecord (v / 256) (recordOf { c with seq := c.seq + 1 })
    ({ s with mem := { s.mem with recordState := s.mem.recordState.set (v / 256 - 1) 0 } }).raise 0x171 0
  | none => s

/-- Sets a key slot. -/
def State.setKeySlot (s : State) (n : Nat) (x : KeySlot) : State :=
  { s with otp := { s.otp with keys := tabPut (fun _ => ⟨none, false⟩) s.otp.keys n x } }

/-- The life cycle lets KEY_PROGRAM take a slot (R844). -/
def keySlotOpen (lifecycle slot : Nat) : Bool :=
  (decide (lifecycle ≤ 1) && decide (2 ≤ slot ∧ slot ≤ 6)) || (lifecycle == 3 && decide (2 ≤ slot ∧ slot ≤ 5))

/-- What a write to KEY_PROGRAM is refused with (R844). -/
def State.keyProgramCheck (s : State) (v : List Byte) : Option Status :=
  if !keySlotOpen s.lifecycle (beAt v 0 1) then some .lifecycle
  else if (s.keySlot (beAt v 0 1)).hash.isSome || (s.keySlot (beAt v 0 1)).revoked then some .state
  else none

/-- The slot that a write to KEY_REVOKE names. -/
def revokeSlot (v : Nat) : Nat := v - 0xA500

/-- The key slot that signed the running boot image. -/
def State.runningKey (s : State) : Option Nat := if s.mem.image = 0 then none else some (fwSlot (s.bootImage s.mem.image).bytes)

/-- KEY_REVOKE blows a slot's revoke bit (R844). -/
def State.revokeKey (s : State) (v : Nat) : State :=
  let n := revokeSlot v
  (s.setKeySlot n { s.keySlot n with revoked := true }).raise 0x16F (n * 2 ^ 24)

/-- IDENTITY_SET: the record keeps its wipe marker and takes the serial number and the name (R840). -/
def State.setIdentity (s : State) (v : List Byte) : State := s.updateRecord 2 (s.identityContent.take 1 ++ v)

/-- The SERVICE wipe has been done for the present fuse count (R836). -/
def State.wipeComplete (s : State) : Bool := beAt s.identityContent 0 1 == s.otp.fuses

/-- The service key of slot 6 is programmed and not revoked. -/
def State.serviceKey (s : State) : Bool := (s.keySlot 6).hash.isSome && !(s.keySlot 6).revoked

/-- The signature over the first 24 bytes was made with the key of slot 6. -/
def State.serviceSigned (s : State) (v : List Byte) : Bool :=
  match (s.keySlot 6).hash with
  | some h => s.serviceKey && ecdsaByHash h (v.drop 24) (v.take 24)
  | none => false

/-- A life-cycle transition is permitted (R846). -/
def State.transitionOk (s : State) (v : List Byte) : Bool :=
  match s.lifecycle, beAt v 0 1 with
  | 0, 1 => v.length == 24 && s.serviceKey
  | 1, 2 => v.length == 24 && s.recordStands 1
  | 2, 3 => v.length == 88 && decide (s.otp.fuses ≤ 14) && s.serviceSigned v
  | 3, 2 => v.length == 24 && s.recordStands 1 && s.wipeComplete
  | _, _ => false

/-- What a write to LIFECYCLE_REQUEST is refused with (R846). -/
def State.lifecycleCheck (s : State) (v : List Byte) : Option Status :=
  if v.length ≠ 24 ∧ v.length ≠ 88 then some .length
  else if beAt v 1 3 ≠ 0 ∨ beAt v 4 4 ≠ s.mem.nonce ∨ (v.drop 8).take 16 ≠ s.otp.deviceId then some .outOfRange
  else if s.transitionOk v then none else some .outOfRange

/-- LIFECYCLE_NONCE is drawn anew (R846): a free value. -/
def State.drawNonce (s : State) : State :=
  let (v, s) := s.draw
  { s with mem := { s.mem with nonce := v % 2 ^ 32 } }

/-- An accepted LIFECYCLE_REQUEST waits for the next reset (R846, R847). -/
def State.requestLifecycle (s : State) (v : List Byte) : State :=
  let s := { s with reset_ := { s.reset_ with retained := { s.reset_.retained with lifecycle := some (beAt v 0 1) } } }
  (s.drawNonce).raise 0x169 0

/-- SVN_COMMIT raises MIN_SVN, a thermometer of 32 bits, to the running image's SVN (R843, R851). -/
def State.commitSvn (s : State) : State :=
  { s with otp := { s.otp with minSvn := max s.otp.minSvn (min 32 (fwSvn (s.bootImage s.mem.image).bytes)) } }

/-! ### Observation (R855 to R858) -/

/-- What a write to TRACE_CTRL is refused with (R856). -/
def State.traceCheck (s : State) (v : Nat) : Option Status :=
  if s.lifecycle = 2 ∧ (natBit v 27 ∨ natBit v 28) then some .lifecycle
  else if natBit v 30 ∧ s.get Obj.KLP_WIDTH = 4 then some .state
  else none

/-! ### Objects -/

/-- What a scalar write of chapters 17 and 18 is refused with. -/
def memCheck (s : State) (k : Nat) (v : Int) : Option Status :=
  if k = Obj.RECORD_RESOLVE then s.resolveCheck v.toNat
  else if k = Obj.KEY_REVOKE then (if s.runningKey = some (revokeSlot v.toNat) then some .state else none)
  else if k = Obj.SELFTEST_START then (if s.seq.state = .stopped then none else some .state)
  else if k = Obj.TRACE_CTRL then s.traceCheck v.toNat
  else if k = Obj.JOB_ACK then (if jobSlots.contains (handleSlot v.toNat) then none else some .outOfRange)
  else if k = Obj.JOB_ABORT then
    (if !jobSlots.contains (handleSlot v.toNat) then some .outOfRange else if s.abortRefused v.toNat then some .state else none)
  else none

/-- What a BLOCK write of chapter 17 is refused with. -/
def memBlkCheck (s : State) (k : Nat) (v : List Byte) : Option Status :=
  if k = Obj.KEY_PROGRAM then s.keyProgramCheck v
  else if k = Obj.LIFECYCLE_REQUEST then s.lifecycleCheck v
  else if k = Obj.FW_IMAGE then (if s.fwValid v then none else some .outOfRange)
  else none

/-- What an accepted scalar write of chapters 17 and 18 does; the 1 ms of a RESET_REQUEST is
then set to count from its response (R874). -/
def memApply (s : State) (k : Nat) : State :=
  if k = Obj.RECORD_RESOLVE then s.resolveRecord (s.getN k)
  else if k = Obj.KEY_REVOKE then s.revokeKey (s.getN k)
  else if k = Obj.SVN_COMMIT then s.commitSvn
  else if k = Obj.JOB_ACK then s.ackJob (s.getN k)
  else if k = Obj.JOB_ABORT then s.abortJob (handleSlot (s.getN k))
  else if k = Obj.RESET_REQUEST then { s with reset_ := { s.reset_ with requestAt := some (s.reset_.requestAt.getD s.now) } }
  else if k = Obj.TRACE_CTRL then { s with mem := { s.mem with snapAt := s.now } }
  else s

/-- What an accepted BLOCK write of chapter 17 does. -/
def memBlkApply (s : State) (k : Nat) (v : List Byte) : State :=
  if k = Obj.KEY_PROGRAM then s.setKeySlot (beAt v 0 1) ⟨some (v.drop 1), false⟩
  else if k = Obj.IDENTITY_SET then s.setIdentity v
  else if k = Obj.LIFECYCLE_REQUEST then s.requestLifecycle v
  else if k = Obj.FW_IMAGE then { s with mem := { s.mem with staged := some v } }
  else s

end Sys2Proof.Machine
end

