-- ==== Sys2Proof/Machine/Koa.lean ====
section
/-! DEFINITION. What a write of an object meets and does, whichever bearer brings it (R57 to R65, R74 to R78, R84, R109, R115, R799):
the statuses that apply to it, the blocks' own checks, and what each block does with an accepted value. -/

namespace Sys2Proof.Machine

open Sys2Proof

/-! ### Statuses (R64, R65) -/

/-- The code of a status (R64). -/
def Status.code : Status → Nat
  | .ok => 0x00 | .noObject => 0x01 | .noSubindex => 0x02 | .readOnly => 0x03 | .length => 0x04 | .outOfRange => 0x05 | .state => 0x06
  | .sealed => 0x07 | .lifecycle => 0x08 | .busy => 0x09 | .key => 0x0A | .inUse => 0x0B | .sequence => 0x0C | .expired => 0x0D
  | .noResource => 0x0E | .badOpcode => 0x0F | .badVersion => 0x10 | .malformed => 0x11 | .mismatch => 0x12 | .tooLarge => 0x13
  | .notBlock => 0x14

/-- The place of a status in the order of R65; OK is last. -/
def Status.rank : Status → Nat
  | .badVersion => 1 | .malformed => 2 | .badOpcode => 3 | .noObject => 4 | .noSubindex => 5 | .notBlock => 6 | .readOnly => 7
  | .sealed => 8 | .lifecycle => 9 | .length => 10 | .tooLarge => 11 | .key => 12 | .outOfRange => 13 | .mismatch => 14 | .inUse => 15
  | .sequence => 16 | .expired => 17 | .noResource => 18 | .state => 19 | .busy => 20 | .ok => 21

/-- The first status that applies in the order of R65; OK when none does. -/
def firstStatus (l : List Status) : Status := l.foldl (fun a b => if b.rank < a.rank then b else a) .ok

/-- A status that applies where a condition holds. -/
def statusIf (c : Bool) (st : Status) : List Status := if c then [st] else []

/-! ### Objects -/

/-- The index is served: in recovery the boot ROM serves 0x1000 to 0x10FF only (R850). -/
def State.served (s : State) (index : Nat) : Bool :=
  s.reset_.phase != .recovery || (decide (0x1000 ≤ index) && decide (index ≤ 0x10FF))

/-- The index is assigned (R57, R58). -/
def State.indexKnown (s : State) (index : Nat) : Bool :=
  s.served index && (dictionary.any (fun d => d.index == index) || s.kernelObjects.any (fun d => d.index == index))

/-- The object at an index and subindex. -/
def State.objectAt (s : State) (index sub : Nat) : Option ObjDesc :=
  if s.served index && decide (sub < 256) then s.descOf (index * 256 + sub) else none

/-- What an access to no object returns (R57). -/
def State.missing (s : State) (index : Nat) : Status := if s.indexKnown index then .noSubindex else .noObject

/-- The object is a BLOCK or STRING. -/
def ObjDesc.isBlk (d : ObjDesc) : Bool := d.ty == .block || d.ty == .str

/-- A BLOCK of fixed length, or a scalar: its size in a range transfer (R76). -/
def ObjDesc.elemSize (d : ObjDesc) : Option Nat :=
  if d.ty == .block && d.lo == d.hi then some d.hi.toNat else if d.isBlk then none else some (typeSize d.ty)

/-- What an element takes in a read: of a WO object of type BLOCK it is empty (R17). -/
def ObjDesc.readSize (d : ObjDesc) : Nat := if d.isBlk && d.access == .wo then 0 else d.elemSize.getD 0

/-- The length of a value fits the object. -/
def ObjDesc.fits (d : ObjDesc) (n : Nat) : Bool :=
  if d.isBlk then decide (d.lo.toNat ≤ n) && decide (n ≤ d.hi.toNat) else n == typeSize d.ty

/-- A scalar value lies within the object's range. -/
def ObjDesc.inRange (d : ObjDesc) (v : Int) : Bool :=
  decide (d.lo ≤ v) && decide (v ≤ d.hi) && (d.allow.isEmpty || d.allow.any (fun a => (a : Int) == v))

/-- A write-only object that takes one key. -/
def ObjDesc.isKeyed (d : ObjDesc) : Bool := d.access == .wo && !d.isBlk && d.lo == d.hi && decide (1 < d.lo)

/-- A scalar value with its reserved bits at 0 (R19), and KOA_BEARER_ENABLE with its I3C bit at 1. -/
def normScalar (k : Nat) (v : Int) : Int :=
  if k / 256 = Obj.STREAM_CFG / 256 then v - v % 1024
  else if k / 256 = Obj.HK_MEAS / 256 then v - v % 4
  else if k = Obj.HK_REF then v - v % 64
  else if k = Obj.TRACE_CTRL then ((v.toNat &&& 0xDFF800FF : Nat) : Int)
  else if k = Obj.KOA_BEARER_ENABLE then v - v % 2 + 1
  else v

/-- A BLOCK value with its reserved bits at 0 (R19, R766). -/
def normBlock (k : Nat) (bs : List Byte) : List Byte :=
  if k = Obj.EVENT_ROUTE then bs.map (fun b => b &&& 0x1F#8) else bs

/-! ### Checks of the blocks that have none of their own file -/

/-- What EVENT_ACK takes (R773). -/
def ackOk (v : Nat) : Bool := decide (v ≤ 0x17F) || (decide (0x8000 ≤ v) && decide (v ≤ 0x800B)) || v == 0xFFFF

/-- The entries of LIVE_MAP or DAILIES_LIST: index and subindex as a key, and the last byte. -/
def listEntries (bs : List Byte) : List (Nat × Nat) :=
  (List.range (bs.length / 4)).map (fun i => (beAt bs (4 * i) 3, beAt bs (4 * i + 3) 1))

/-- An entry of LIVE_MAP names a LIVE scalar (R761). A last byte other than 0x00 fails (DESIGN CHOICE, log entry 71). -/
def State.liveEntryOk (s : State) (e : Nat × Nat) : Bool :=
  e.2 == 0 && (match s.descOf e.1 with | some d => d.live && !d.isBlk | none => false)

/-- A LIVE_MAP passes the owner's validation (R761). -/
def State.liveMapOk (s : State) (bs : List Byte) : Bool := bs.length % 4 == 0 && (listEntries bs).all s.liveEntryOk

/-- An entry of DAILIES_LIST names a scalar that can be read (R571). A last byte other than 0x00 fails (DESIGN CHOICE, log entry 71). -/
def State.dailyEntryOk (s : State) (e : Nat × Nat) : Bool :=
  e.2 == 0 && (match s.descOf e.1 with | some d => d.access != .wo && !d.isBlk | none => false)

/-- A DAILIES_LIST passes validation (R571). -/
def State.dailiesListOk (s : State) (bs : List Byte) : Bool :=
  bs.length % 4 == 0 && decide (bs.length ≤ 4096) && (listEntries bs).all s.dailyEntryOk

/-- A handover is permitted (R805). -/
def State.handoverOk (s : State) : Bool :=
  s.pair.role == .active && s.beatFresh &&
    (match s.pair.beat with
     | some b => b.sync && decide (1 ≤ b.safety) && decide (b.safety ≤ 3)
     | none => false)

/-- No reel is HELD or queued (R506). -/
def State.noReelHeld (s : State) : Bool :=
  s.hist.reels.all (fun e => e.2.state != .held) && s.hist.descWait.isEmpty && spokeEngines.all (fun n => (s.engine n).load == 0)

/-- The slot of a user kernel holds a valid image. -/
def State.slotValid (s : State) (v : Nat) : Bool := !(s.image (v % 256)).isEmpty && s.kernelCode (s.image (v % 256)) == 0

/-- What a write of KERNEL_SELECT is refused with (R506); a user kernel's window must have been wiped (R835). -/
def State.selectCheck (s : State) (v : Nat) : List Status :=
  statusIf (isUserKernel v && !s.slotValid v) .outOfRange ++
    statusIf (!(s.seq.state == .stopped && s.noReelHeld) || (isUserKernel v && !s.ddrHas ddrKernels)) .state

/-- The checks of the objects that chapters 02, 09, 15 and 16 own. The table bounds KOA_CAN_RSP_ID alone, so a write of KOA_CAN_REQ_ID
equal to it is accepted (DESIGN CHOICE, log entry 12). -/
def State.ownCheck (s : State) (k v : Nat) : List Status :=
  if k = Obj.KOA_CAN_RSP_ID then statusIf (v == s.getN Obj.KOA_CAN_REQ_ID) .outOfRange
  else if k = Obj.EVENT_ACK then statusIf (!ackOk v) .outOfRange
  else if k = Obj.KERNEL_SELECT then s.selectCheck v
  else if k = Obj.PAIR_HANDOVER then statusIf (!s.handoverOk) .state
  else []

/-- The checks of the BLOCK objects that chapters 09, 10 and 15 own. -/
def State.ownBlkCheck (s : State) (k : Nat) (bs : List Byte) : List Status :=
  if k = Obj.LIVE_MAP then statusIf (!s.liveMapOk bs) .outOfRange
  else if k = Obj.DAILIES_LIST then statusIf (!s.dailiesListOk bs) .outOfRange
  else if k / 256 = Obj.KERNEL_IMAGE / 256 then
    statusIf (s.kernelCode bs != 0) .outOfRange ++ statusIf (isUserKernel s.kernel && s.kernel % 256 == k % 256) .state
  else []

/-- What the owning blocks refuse a scalar value with. -/
def State.blockChecks (s : State) (k : Nat) (v : Int) : List Status :=
  [crankCheck s k v, emitCheck s k v, seqCheck s k v, safetyCheck s k v, rxCheck s k v, histCheck s k v, pipeCheck k v,
   if k = Obj.CAL_START then s.calStartCheck v.toNat else none, hkCheck s k v, clockCheck s k v, portCheck s k v, canCheck s k v,
   laneCheck s k v, memCheck s k v].filterMap id ++ s.ownCheck k v.toNat

/-- What the owning blocks refuse a BLOCK value with. -/
def State.blockBlkChecks (s : State) (k : Nat) (bs : List Byte) : List Status :=
  [seqBlkCheck s k bs, safetyBlkCheck s k bs, histBlkCheck s k bs, pipeBlkCheck k bs, clockBlkCheck k bs, portBlkCheck s k bs,
   memBlkCheck s k bs].filterMap id ++ s.ownBlkCheck k bs

/-! ### The statuses of a write -/

/-- The write is mirrored (R799): a writable object outside the device-own ranges, or an action object that the rule names. -/
def isMirrored (d : ObjDesc) (k : Nat) : Bool :=
  (!deviceOwn d.index && d.access != .ro) || k == Obj.STORE_ALL || k == Obj.STORE_CAL || k == Obj.RESTORE_DEFAULTS

/-- What the object's access refuses a write with, and the life cycle's FIELD a KEY_PROGRAM (R844). -/
def State.accessChecks (s : State) (d : ObjDesc) : List Status :=
  statusIf (d.access == .ro) .readOnly ++ statusIf (d.access == .seal && s.get Obj.SEAL_STATE == 2) .sealed ++
    statusIf (d.index == Obj.KEY_PROGRAM / 256 && s.lifecycle == 2) .lifecycle

/-- What a scalar value is refused with, besides the access and the sessions. -/
def State.scalarChecks (s : State) (d : ObjDesc) (k : Nat) (v : Int) : List Status :=
  if d.isKeyed && v != d.lo then [.key]
  else if !d.inRange v then [.outOfRange]
  else s.blockChecks k (normScalar k v) ++ statusIf ((s.jobOf k v.toNat).isSome && s.freeSlot.isNone) .busy

/-- What a value of fitting length is refused with, besides the access and the sessions. -/
def State.valueChecks (s : State) (d : ObjDesc) (k : Nat) (bs : List Byte) : List Status :=
  if d.isBlk then s.blockBlkChecks k (normBlock k bs) else s.scalarChecks d k (decodeValue d.ty bs)

/-- A write session is open on the object (R109). -/
def State.inSession (s : State) (k : Nat) : Bool := s.koa.sessions.any (fun x => x.key == k)

/-- The object is mirrored, and the device is the SHADOW of a pair (R799), or in PAIRING (R789). -/
def State.shadowed (s : State) (d : ObjDesc) (k : Nat) : Bool := s.isShadow && isMirrored d k

/-! ### The effects of a write -/

/-- The enabled events raised in the present core cycle: an acknowledgement in it leaves their bits set (R775, R776). -/
def State.raisedNow (s : State) : BitVec 384 :=
  (s.ev.raised.filter (fun r => s.eventEnabled r.event)).foldl (fun a r => a ||| BitVec.shiftLeft 1#384 r.event) 0

/-- EVENT_ACK clears pending bits (R773). -/
def State.ackEvents (s : State) (v : Nat) : State :=
  let mask : BitVec 384 :=
    if v = 0xFFFF then BitVec.allOnes 384
    else if 0x8000 ≤ v then BitVec.shiftLeft (BitVec.ofNat 384 0xFFFFFFFF) (32 * (v - 0x8000))
    else BitVec.shiftLeft 1#384 v
  { s with ev := { s.ev with pending := s.ev.pending &&& (~~~mask ||| s.raisedNow) } }

/-- Disabling an event clears its pending bit (R774). -/
def State.maskPending (s : State) : State :=
  let m := BitVec.ofNat 384 (leNat (s.getBlk Obj.EVENT_MASK))
  { s with ev := { s.ev with pending := s.ev.pending &&& m } }

/-- The values of the previous kernel's objects go with it (R58). -/
def State.dropKernelObjects (s : State) : State := { s with reg := s.reg.filter (fun e => e.1 / 2 ^ 20 != 4) }

/-- What the objects of chapters 09, 15 and 16 do with an accepted scalar value. -/
def State.ownApply (s : State) (k : Nat) : State :=
  if k = Obj.EVENT_ACK then s.ackEvents (s.getN k)
  else if k = Obj.KERNEL_SELECT then s.dropKernelObjects.startKernel
  else if k / 256 = Obj.SE_ENABLE / 256 then s.seEnable (k % 256)
  else if k = Obj.PAIR_HANDOVER then s.yieldRole 1
  else if k / 2 ^ 20 = 4 then s.queueParam k
  else s

/-- What the objects of chapters 09 and 15 do with an accepted BLOCK value (R510, R761, R774). -/
def State.ownBlkApply (s : State) (k : Nat) : State :=
  if k = Obj.EVENT_MASK then s.maskPending
  else if k / 256 = Obj.KERNEL_IMAGE / 256 then s.set Obj.KERNEL_RESULT 0
  else if k = Obj.LIVE_MAP then { s with i3c := { s.i3c with latch := none, mapChanged := true } }
  else s

/-- What each block does with an accepted scalar value, which stands in the store already. -/
def State.blockApply (s : State) (k : Nat) (old v : Int) : State :=
  let s := crankApply s k old
  let s := emitApply s k old
  let s := seqApply s k v
  let s := safetyApply s k old
  let s := rxApply s k old
  let s := histApply s k
  let s := calApply s k
  let s := hkApply s k
  let s := clockApply s k old
  let s := portApply s k
  let s := canApply s k
  let s := laneApply s k old
  let s := memApply s k
  s.ownApply k

/-- What each block does with an accepted BLOCK value. -/
def State.blockBlkApply (s : State) (k : Nat) (bs : List Byte) : State :=
  let s := crankBlkApply s k
  let s := emitBlkApply (seqBlkApply s k bs) k
  let s := safetyBlkApply s k
  let s := histBlkApply s k bs
  let s := pipeBlkApply s k
  let s := memBlkApply s k bs
  s.ownBlkApply k

/-- An applied write of the ACTIVE device is mirrored (R799). -/
def State.mirrorWrite (s : State) (d : ObjDesc) (k : Nat) (bs : List Byte) : State :=
  if s.pair.role == .active && isMirrored d k then s.sendObject k bs else s

/-- ORIGIN of a bearer (R95). -/
def Bearer.origin : Bearer → Nat
  | .i3c => 1 | .can => 2 | .e0 => 3 | .e1 => 4

/-- The job that the write starts, if it starts one, and its handle (R85). -/
def State.startWrite (s : State) (k : Nat) (v : Nat) (origin tag : Nat) : State × List Byte :=
  match s.jobOf k v with
  | none => (s, [])
  | some j =>
    match s.startJob j.kind origin tag j.res j.arg j.total with
    | some p => (p.2, p.2.jobHandle p.1)
    | none => (s, [])

/-- An accepted scalar value takes effect; a write-only object holds nothing afterwards. -/
def State.applyScalar (s : State) (d : ObjDesc) (k : Nat) (v : Int) (origin tag : Nat) : State × List Byte :=
  let old := s.scalarOf d k
  let s := ((s.keepParam k).set k (normScalar k v)).blockApply k old (normScalar k v)
  let p := s.startWrite k v.toNat origin tag
  (if d.access = .wo then p.1.set k (objDflt k) else p.1, p.2)

/-- An accepted BLOCK value takes effect. -/
def State.applyBlock (s : State) (d : ObjDesc) (k : Nat) (bs : List Byte) : State :=
  let s := if d.access = .wo then s else ((s.keepMask k).keepParam k).setBlk k bs
  s.blockBlkApply k bs

/-- An accepted value takes effect, and is mirrored (R74, R799). -/
def State.applyValue (s : State) (d : ObjDesc) (k : Nat) (bs : List Byte) (origin tag : Nat) : State × List Byte :=
  let p := if d.isBlk then (s.applyBlock d k (normBlock k bs), []) else s.applyScalar d k (decodeValue d.ty bs) origin tag
  (p.1.mirrorWrite d k bs, p.2)

/-- The side effects that a rule names for a refused write (R64): CUE_RESULT, SEAL_RESULT, KERNEL_RESULT and their events. -/
def State.refused (s : State) (d : ObjDesc) (k : Nat) (bs : List Byte) (st : Status) : State :=
  if d.isBlk then
    let s := seqBlkRefused s k bs st
    if k / 256 = Obj.KERNEL_IMAGE / 256 ∧ st = .outOfRange then s.set Obj.KERNEL_RESULT (s.kernelCode bs) else s
  else safetyRefused (seqRefused s k (decodeValue d.ty bs) st) k st

/-- The settings of a bearer, a port or the controller, and LIVE_MAP, apply after the response to their write (R71, R684, R689,
R761). -/
def isDeferred (k : Nat) : Bool :=
  k / 256 == 0x1140 || (decide (0x1100 ≤ k / 256) && decide (k / 256 ≤ 0x110B)) || canKey k || k == Obj.LIVE_MAP

end Sys2Proof.Machine
end

