-- ==== Sys2Proof/Machine/Boot.lean ====
section
/-! DEFINITION. Supplies, reset and boot (chapter 18, R89, R90, R333, R612, R841, R849), the clock monitor (R28) and lockstep (R337). -/

namespace Sys2Proof.Machine

open Sys2Proof

/-! ### Supplies and reset sources (R870 to R874, R880, R881) -/

/-- The device is held in reset. -/
def State.held (s : State) : Bool := s.reset_.phase == .held

/-- SUPPLY_POWER_ON: every supply has stayed above its power-on threshold for 2 ms (R870). -/
def execSupplyPowerOn (s : State) : Host.Outcome State Fault Refusal := .next { s with reset_ := { s.reset_ with powerGood := true } }

/-- The cause of a brown-out: POR for VDD_IO, supply 4 (R873, R885). -/
def brownoutCause (supply : Nat) : ResetSource := if supply = 4 then .por else .brownout

/-- A brown-out in a held device: a power-on reset that goes on keeps its cause (R886). -/
def State.heldBrownout (s : State) (supply : Nat) : State :=
  let r := s.reset_.retained
  { s with reset_ := { s.reset_ with
    powerGood := false
    retained := if !s.reset_.powerGood && supply != 4 then r else r.after (brownoutCause supply) supply } }

/-- BROWNOUT: the trip latch is set, and the reset that follows clears it (R871, R888). -/
def execBrownout (supply : Fin 7) (s : State) : Host.Outcome State Fault Refusal :=
  if s.held then .next (s.heldBrownout supply)
  else .next (({ s with reset_ := { s.reset_ with powerGood := false } }).deviceReset (brownoutCause supply) supply)

/-- RESET_PIN: RESET_N low for 500 ns (R873); in a held device the release waits for it (R887). -/
def execResetPin (s : State) : Host.Outcome State Fault Refusal :=
  let t := { s with reset_ := { s.reset_ with resetPin := false } }
  .next (if s.held then t.resetTogether .pin else t.deviceReset .pin 0)

/-- STANDBY_ENTRY: WAKE low for 10 ms (R881). -/
def execStandbyEntry (s : State) : Host.Outcome State Fault Refusal :=
  let t := { s with reset_ := { s.reset_ with wake := false } }
  .next (if s.held then t.resetTogether .standby else t.deviceReset .standby 0)

/-- WAKE_HIGH: WAKE high for 100 µs (R880). -/
def execWakeHigh (s : State) : Host.Outcome State Fault Refusal := .next { s with reset_ := { s.reset_ with wake := true } }

/-- Vendor firmware runs. -/
def State.firmwareRuns (s : State) : Bool := s.reset_.phase == .firmware || s.running

/-- CC_WATCHDOG_EXPIRY: vendor firmware leaves the watchdog unserviced for 100 ms (R873, R891). -/
def execCcWatchdogExpiry (s : State) : Host.Outcome State Fault Refusal :=
  .next (if s.firmwareRuns then s.deviceReset .watchdog 0 else s.resetTogether .watchdog)

/-- RESET_REQUEST_DELAY_END: 1 ms after the response to RESET_REQUEST was queued (R874). -/
def execResetRequestDelayEnd (s : State) : Host.Outcome State Fault Refusal :=
  match s.reset_.requestAt with
  | some t => .next (if reached s.now t (ms 1) then s.deviceReset .host 0 else s)
  | none => .next s

/-! ### Reset release (R877 to R879, R333, R334, R841, R790) -/

/-- A pending life-cycle transition blows one fuse bit (R846, R878). -/
def State.blowFuse (s : State) : State :=
  match s.reset_.retained.lifecycle with
  | some _ => { s with
      otp := { s.otp with fuses := s.otp.fuses + 1 }
      reset_ := { s.reset_ with retained := { s.reset_.retained with lifecycle := none } } }
  | none => s

/-- A pending seal is written in three copies and read back; one that fails its readback leaves the previous record standing (R335,
R878). -/
def State.writeSeal (s : State) (good : Bool) : State :=
  match s.reset_.retained.sealImage with
  | some image =>
    let s := if good then s.updateRecord 1 image else s
    { s with reset_ := { s.reset_ with
      sealWritten := good, sealFailed := !good, retained := { s.reset_.retained with sealImage := none } } }
  | none => s

/-- One critical record is resolved (R841): its copies are rewritten where they need it, and the outcome is reported. -/
def State.resolveAtBoot (s : State) (kind : Nat) : State :=
  let v := recordVerdict (s.record kind)
  let s := { s with mem := { s.mem with recordState := s.mem.recordState.set (kind - 1) v } }
  match v, recordValue (s.record kind) with
  | 1, some c => (s.setRecord kind (recordOf c)).raise 0x16C 0
  | 2, _ => s.raise 0x16D 0
  | 3, _ => s.raise 0x170 0
  | _, _ => s

/-- SEAL_STATE at release, of the life cycle, whether a seal record stands, and SEAL_EN (R333). -/
def sealStateOf (lifecycle : Nat) (valid sealEn : Bool) : Nat :=
  match lifecycle with
  | 0 => 0
  | 2 => if valid then 2 else 0
  | _ => if sealEn then 1 else if valid then 2 else 0

/-- The working sealed set at release (R334): the record in SEALED and, where one exists, in OPEN; else the defaults. -/
def State.releaseSeal (s : State) (sealEn : Bool) : State :=
  let valid := s.recordStands 1
  let st := sealStateOf s.lifecycle valid sealEn
  let s := s.set Obj.SEAL_STATE st
  let s := match valid, recordValue s.nvm.sealRec with
    | true, some c =>
      let s := (s.set Obj.SEAL_SEQ c.seq).set Obj.SEAL_CRC (crc32 c.content)
      if st = 0 then s else s.loadSeal c.content
    | _, _ => s
  s.sealTouched

/-- The pair-epoch record that stands gives PAIR_EPOCH and ACTIVE_ID; an absent one gives 0 (R807, R841, R842). -/
def State.releaseEpoch (s : State) : State :=
  match s.recordStands 3, recordValue s.nvm.epochRec with
  | true, some c => (s.set Obj.PAIR_EPOCH (beAt c.content 0 4)).set Obj.PAIR_ACTIVE_ID (beAt c.content 4 8)
  | _, _ => s

/-- STRAPS (R879). -/
def strapCode (x : StrapLevels) : Nat :=
  16 * b2n x.sealEn + 8 * b2n x.sa1 + 4 * b2n x.sa0 + 2 * b2n x.pairS + b2n x.bootSel

/-- The straps are sampled (R748, R786, R879). -/
def State.sampleStraps (s : State) (x : StrapLevels) : State :=
  let s := { s with reset_ := { s.reset_ with straps := ⟨x.sealEn, x.sa1, x.sa0, x.pairS, x.bootSel⟩ } }
  let s := { s with pair := { s.pair with position := b2n x.pairS } }
  (s.set Obj.STRAPS (strapCode x)).set Obj.I3C_STATIC_ADDR (0x68 + 2 * b2n x.sa1 + b2n x.sa0)

/-- PAIR_ENABLE as the log holds it, sampled at reset (R790). -/
def State.pairEnabled (s : State) : Bool := storedVal s.nvm.log Obj.PAIR_ENABLE == some (.scalar 1)

/-- An object with a default from OTP takes it. -/
def State.setOtp (s : State) (k : Nat) : State := match s.otpDefault k with | some v => s.set k v | none => s

/-- The objects whose defaults come from OTP take them. -/
def State.otpObjects (s : State) : State :=
  ([Obj.MAC_ADDR, Obj.MAC_ADDR + 1] ++ [0, 1, 2, 3].map (Obj.HOP_SEED + ·)).foldl State.setOtp s

/-- The scan monitor starts, with its own copies of the input filters at the levels at the balls (R316), and so do the audit
boundaries (R315). -/
def State.startMonitor (s : State) : State :=
  let s := (List.range 16).foldl (fun s i => s.setEvIn i { s.evIn i with filt := (s.evIn i).ball }) s
  { s with safety := { s.safety with scanEdge := s.now, auditAt := s.now } }

/-- A device of a pair leaves reset in PAIRING, and in SHADOW when a partner drives (R790). -/
def State.enterPairing (s : State) : State :=
  let s := s.setRole .pairing
  if s.driveState == .partner then s.setRole .shadow else s

/-- The boot ROM starts: OTP is read, the critical records are resolved, and the safety island enters INIT or SAFE_DEFAULT, which raises
event 0x000 (R298). -/
def State.release (s : State) (x : StrapLevels) : State :=
  let s := (s.blowFuse.writeSeal x.sealGood).sampleStraps x
  let s := { s with reset_ := { s.reset_ with phase := .rom, resetPin := true, releasedAt := s.now, sramWiped := false } }
  let s := { s with
    mem := { s.mem with hourAt := s.now }
    pair := { s.pair with undrivenSince := if s.driveState == .undriven then some s.now else none } }
  let s := ([1, 2, 3].foldl State.resolveAtBoot s).drawNonce
  let s := if s.mem.recordState.contains 3 then s.setSafetyState .safeDefault else s.raise 0x000 0
  let s := ((s.releaseSeal x.sealEn).releaseEpoch).otpObjects.startMonitor
  if s.pairEnabled then s.enterPairing else s

/-- RESET_RELEASE: R870 is met, RESET_N and WAKE are high, and the pending writes complete (R877, R878); the readback of a pending seal
record is good or not (R335). -/
def execResetRelease (levels : StrapLevels) (s : State) : Host.Outcome State Fault Refusal :=
  .next (if s.held && s.reset_.powerGood && s.reset_.wake then s.release levels else s)

/-! ### The boot image (R849, R850, R880) -/

/-- Event 0x16B for each image that is not bootable. -/
def State.noteImages (s : State) : State := [1, 2].foldl (fun s n => if s.bootable n then s else s.raise 0x16B 0) s

/-- Firmware runs from an image (R298, R335, R849): event 0x16A carries the image and its SEQ. -/
def State.runImage (s : State) (n : Nat) : State :=
  let s := { s with mem := { s.mem with image := n }, reset_ := { s.reset_ with phase := .firmware } }
  let s := (s.set Obj.BOOT_IMAGE n).raise 0x16A (n * 2 ^ 24 + (s.bootImage n).commit.getD 0 / 256)
  let s := if s.reset_.sealWritten then ({ s with reset_ := { s.reset_ with sealWritten := false } }).raise 0x013 0 else s
  let s := if s.reset_.sealFailed then ({ s with reset_ := { s.reset_ with sealFailed := false } }).setSealResult 0x43 else s
  if s.safety.state == .init && s.safety.selfTestPassed then s.setSafetyState .inhibited else s

/-- BOOT_IMAGE_VERIFIED: the bootable image with the higher SEQ runs; with none, or with BOOT_SEL high, the ROM stays in recovery. -/
def execBootImageVerified (s : State) : Host.Outcome State Fault Refusal :=
  if s.reset_.phase == .rom && s.reset_.sramWiped then
    let n := if s.reset_.straps.bootSel then 0 else s.bootChoice
    let t := s.noteImages
    .next (if n = 0 then { t with reset_ := { t.reset_ with phase := .recovery } } else t.runImage n)
  else .next s

/-! ### The candidate set of stored values (R89, R90) -/

/-- A stored value put into the working store. -/
def State.putStored (s : State) (k : Nat) : StoredVal → State
  | .scalar v => s.set k v
  | .block bs => s.setBlk k bs

/-- The default put back. -/
def State.putDefault (s : State) (k : Nat) : State :=
  { s with reg := s.reg.filter (fun e => e.1 != k), blk := s.blk.filter (fun e => e.1 != k) }.setOtp k

/-- A scalar lies outside its own range. -/
def scalarOwnBad (d : ObjDesc) (k : Nat) (v : Int) : Bool :=
  !d.inRange v || (k == Obj.AXIS_MODE + 1 && v == 3) || (k / 256 == Obj.STREAM_CFG / 256 && !streamCfgOk v.toNat) ||
    (k / 256 == Obj.HK_MEAS / 256 && !measOk v.toNat) || (k == Obj.HK_REF_R && !refRangeOk v) ||
    (k / 256 == Obj.MAC_ADDR / 256 && natBit v.toNat 40)

/-- A BLOCK fails its own range, or the owner's validation of it (R90). -/
def State.blockOwnBad (s : State) (d : ObjDesc) (k : Nat) (bs : List Byte) : Bool :=
  !d.fits bs.length || (k / 256 == Obj.MCAST_FILTER / 256 && bs.length % 6 != 0) || (k == Obj.EXTRINSICS && !extrinsicsOk bs) ||
    (k / 256 == Obj.INT_TABLE / 256 && !intTableOk bs) || (k / 256 == Obj.GEAR_TABLE / 256 && !gearValid bs) ||
    (k == Obj.CODE_FAMILY && !familyOk bs) || (k == Obj.DAILIES_LIST && !s.dailiesListOk bs) ||
    (k == Obj.LIVE_MAP && !s.liveMapOk bs) || (k / 256 == Obj.KERNEL_IMAGE / 256 && s.kernelCode bs != 0)

/-- A stored value fails by itself. CUE_BOOT is never replaced. -/
def State.storedBad (s : State) (d : ObjDesc) (k : Nat) (v : StoredVal) : Bool :=
  k != Obj.CUE_BOOT && (match v with
    | .scalar v => d.isBlk || scalarOwnBad d k v
    | .block bs => !d.isBlk || s.blockOwnBad d k bs)

/-- Each replacement is counted and raises event 0x168 (R90). -/
def State.storedReject (s : State) : State := (s.set Obj.STORED_REJECTS (min 65535 (s.getN Obj.STORED_REJECTS + 1) : Nat)).raise 0x168 0

/-- One stored value enters the candidate set, or is replaced; that of an object that exists no more is ignored. -/
def State.loadStored (s : State) (k : Nat) : State :=
  match s.descOf k, storedVal s.nvm.log k with
  | some d, some v => if d.access != .rws then s else if s.storedBad d k v then s.storedReject else s.putStored k v
  | _, _ => s

/-- A check that involves several objects: it fails on a state, and the keys of the objects. -/
structure CrossCheck where
  fails : State → Bool
  keys  : List Nat

/-- Keys of the first n elements of an object. -/
def keysFrom (k n : Nat) : List Nat := (List.range n).map (k + ·)

/-- The checks of an axis. -/
def axisCross (a : Nat) : List CrossCheck :=
  [⟨fun s => s.tooFast a, [Obj.SPEED_MAX + a, Obj.ENC_LINES + a, Obj.ENC_FORMAT + a, Obj.AXIS_MODE + a]⟩,
   ⟨fun s => !s.linesInRange a, [Obj.ENC_LINES + a, Obj.ENC_FORMAT + a]⟩,
   ⟨fun s => s.getN (Obj.ENC_FORMAT + a) == 0 && s.getN (Obj.GATE_EDGES + a) % 4 != 0, [Obj.ENC_FORMAT + a, Obj.GATE_EDGES + a]⟩,
   ⟨fun s => decide (s.get (Obj.SPEED_MAX + a) < s.get (Obj.SPEED_MIN + a)), [Obj.SPEED_MIN + a, Obj.SPEED_MAX + a]⟩]

/-- The cue axis is axis a, and its mode is OFF (R128). -/
def State.cueAxisOff (s : State) (a : Nat) : Bool := s.getN Obj.CUE_AXIS == a && s.axisMode a == 0

/-- The checks of the crank, the sequencer and the emitter. -/
def motionCross : List CrossCheck :=
  axisCross 0 ++ axisCross 1 ++
  [⟨fun s => s.inputTwice, keysFrom Obj.AXIS_INPUT 6⟩,
   ⟨fun s => s.cueAxisOff 0, [Obj.CUE_AXIS, Obj.AXIS_MODE]⟩, ⟨fun s => s.cueAxisOff 1, [Obj.CUE_AXIS, Obj.AXIS_MODE + 1]⟩,
   ⟨fun s => decide (s.getN Obj.VIRTUAL_PERIOD ≤ s.getN Obj.VIRTUAL_PHASE), [Obj.VIRTUAL_PERIOD, Obj.VIRTUAL_PHASE]⟩,
   ⟨fun s => decide (s.getN Obj.FREEWHEEL_CEILING < s.getN Obj.FREEWHEEL_LIMIT), [Obj.FREEWHEEL_LIMIT]⟩,
   ⟨fun s => s.energySource == 1 && s.getN Obj.CHAIN_LENGTH == 0, [Obj.ENERGY_SOURCE, Obj.CHAIN_LENGTH]⟩,
   ⟨fun s => decide (s.getN Obj.ISENSE_MAX ≤ s.getN Obj.ISENSE_MIN), [Obj.ISENSE_MIN, Obj.ISENSE_MAX]⟩,
   ⟨fun s => !s.spacingOk (s.getBlk Obj.CODE_FAMILY),
     [Obj.CODE_FAMILY, Obj.LISTEN_GROUPS] ++ keysFrom Obj.TRIG_WIDTH 32 ++ keysFrom Obj.PULSE_GAP 4⟩] ++
  (List.range 16).map (fun i =>
    ⟨fun s => decide (s.groups ≤ s.getN (Obj.CHAIN_MAP + i)), [Obj.CHAIN_MAP + i, Obj.LISTEN_GROUPS]⟩)

/-- The checks of the return channels, the history and housekeeping. -/
def receiverCross : List CrossCheck :=
  (List.range 256).map (fun c => ⟨fun s => !s.threshOk c, [Obj.THRESH_LO + c, Obj.THRESH_HI + c]⟩) ++
  [⟨fun s => !mrevFits (s.getBlk Obj.MREV_SPOKES) (s.getN Obj.MREV_DEPTH) (s.getN Obj.MREV_START) (s.getN Obj.MREV_POOL),
     [Obj.MREV_SPOKES, Obj.MREV_DEPTH, Obj.MREV_START, Obj.MREV_POOL]⟩,
   ⟨fun s => s.mem.ddrTrained && decide (s.getN Obj.DDR_SIZE < s.getN Obj.MREV_POOL + 1024), [Obj.MREV_POOL]⟩] ++
  (List.range 16).map (fun m =>
    ⟨fun s => decide (s.get (Obj.HK_LIM_HI + m) < s.get (Obj.HK_LIM_LO + m)), [Obj.HK_LIM_LO + m, Obj.HK_LIM_HI + m]⟩)

/-- The addresses of a port. -/
def portAddresses (p : Nat) : List Nat := [Obj.IPV4_ADDR + p, Obj.IPV6_ADDR + p]

/-- The checks of the networks, the lanes and the trace port. -/
def networkCross : List CrossCheck :=
  [⟨fun s => s.getN Obj.KOA_CAN_RSP_ID == s.getN Obj.KOA_CAN_REQ_ID, [Obj.KOA_CAN_REQ_ID, Obj.KOA_CAN_RSP_ID]⟩,
   ⟨fun s => (canCheck s Obj.CAN_DATA_RATE (s.get Obj.CAN_DATA_RATE)).isSome, [Obj.CAN_MODE, Obj.CAN_DATA_RATE]⟩,
   ⟨fun s => s.getN Obj.KLP_WIDTH == 4 && natBit (s.getN Obj.TRACE_CTRL) 30, [Obj.KLP_WIDTH, Obj.TRACE_CTRL]⟩,
   ⟨fun s => s.lifecycle == 2 && (natBit (s.getN Obj.TRACE_CTRL) 27 || natBit (s.getN Obj.TRACE_CTRL) 28), [Obj.TRACE_CTRL]⟩] ++
  [0, 1].map (fun p => ⟨fun s => (portCheck s (Obj.IPV4_GATEWAY + p) (s.get (Obj.IPV4_GATEWAY + p))).isSome,
    [Obj.IPV4_GATEWAY + p, Obj.IPV4_PREFIX + p, Obj.IPV4_ADDR + p]⟩) ++
  (keysFrom Obj.STREAM_DEST_IP 4 ++ [Obj.DAILIES_DEST_IP, Obj.EVENT_DEST_IP, Obj.SAFE_DEST_IP]).map (fun k =>
    ⟨fun s => (s.portsOf k).any (fun p => s.otherVersion p (beNat (s.getBlk k))), k :: (portAddresses 0 ++ portAddresses 1)⟩)

/-- A KERNEL_SELECT that names a slot without a valid image fails (R506, R90). -/
def kernelCross : List CrossCheck :=
  [⟨fun s => isUserKernel (s.getN Obj.KERNEL_SELECT) && !s.slotValid (s.getN Obj.KERNEL_SELECT), [Obj.KERNEL_SELECT]⟩]

/-- The first check that fails and involves a stored value still in the set: those of its keys that are stored. -/
def State.crossFailure (s : State) (stored : List Nat) (l : List CrossCheck) : List Nat :=
  match l.find? (fun c => c.fails s && c.keys.any (fun k => stored.contains k)) with
  | some c => c.keys.filter (fun k => stored.contains k)
  | none => []

/-- Checks and replacements until none fails (R90). The bound is the number of stored values. -/
def State.settle (l : List CrossCheck) : Nat → List Nat → State → State
  | 0, _, s => s
  | n + 1, stored, s =>
    match s.crossFailure stored l with
    | [] => s
    | ks => State.settle l n (stored.filter (fun k => !ks.contains k)) (ks.foldl (fun s k => (s.putDefault k).storedReject) s)

/-- FREEWHEEL_LIMIT takes the value nearest its default that the sealed ceiling lets pass (R90, R149). -/
def State.limitToCeiling (s : State) : State :=
  if s.getN Obj.FREEWHEEL_CEILING < s.getN Obj.FREEWHEEL_LIMIT then s.set Obj.FREEWHEEL_LIMIT (s.getN Obj.FREEWHEEL_CEILING) else s

/-- The keys of RWS objects of the dictionary. -/
def isRwsKey (k : Nat) : Bool := match dictFind (k / 256) (k % 256) with | some d => d.access == .rws | none => false

/-- Every RWS object at its default. -/
def State.clearRws (s : State) : State :=
  ({ s with reg := s.reg.filter (fun e => !isRwsKey e.1), blk := s.blk.filter (fun e => !isRwsKey e.1) }).otpObjects

/-- The keys that choose the kernel and hold its images. -/
def isKernelKey (k : Nat) : Bool := k == Obj.KERNEL_SELECT || k / 256 == Obj.KERNEL_IMAGE / 256

/-- The stored values that are still in the set. -/
def State.stillStored (s : State) (ks : List Nat) : List Nat :=
  ks.filter (fun k => match s.descOf k, storedVal s.nvm.log k with
    | some d, some v => d.access == .rws && s.workingVal d k == v
    | _, _ => false)

/-- The stored values take effect as one checked set (R90); ENERGY_STATUS follows ENERGY_LOOP (R273). The kernel's choice comes first, for its manifest gives the objects of
0x4000 to 0x4FFF. -/
def State.applyStored (s : State) : State :=
  let ks := storedKeys s.nvm.log
  let kernelKeys := ks.filter isKernelKey
  let s := kernelKeys.foldl State.loadStored s.clearRws
  let s := State.settle kernelCross kernelKeys.length kernelKeys s
  let s := s.set Obj.KERNEL_ACTIVE (s.getN Obj.KERNEL_SELECT)
  let rest := ks.filter (fun k => !isKernelKey k)
  let s := rest.foldl State.loadStored s
  let stored := s.stillStored rest
  (State.settle (motionCross ++ receiverCross ++ networkCross) stored.length stored s).limitToCeiling.resetEnergyStatus

/-! ### Calibration and the start of the blocks (R612, R836, R196) -/

/-- A bank is neither valid nor empty. -/
def CalBank.ignored (b : CalBank) : Bool := b.seq?.isNone && !b.empty

/-- The calibration bank is loaded (R612). -/
def State.loadCalibration (s : State) : State :=
  let a := s.nvm.bankA
  let b := s.nvm.bankB
  let s := [a, b].foldl (fun s x => if x.ignored then s.raise 0x103 0 else s) s
  let s := if a.seq?.isSome && a.seq? == b.seq? then s.raise 0x103 0 else s
  let n := s.newerBank
  let s := (s.set Obj.CAL_BANK n).set Obj.CAL_SEQ ((s.calBank n).seq?.getD 0)
  if n = 0 then s.loadIdeal.raise 0x104 0 else s.loadBank (s.calBank n)

/-- The SERVICE wipe starts where its marker differs from the fuse count (R836); without a FREE slot none starts (DESIGN CHOICE, log
entry 72). -/
def State.serviceWipe (s : State) : State :=
  if s.lifecycle = 3 ∧ !s.wipeComplete then
    match s.startJob .serviceWipe 0 0 .logAndBanks 0 384 with
    | some p => p.2
    | none => s
  else s

/-- The blocks start with the settings now in force. -/
def State.startBlocks (s : State) : State :=
  let s := { s with reset_ := { s.reset_ with phase := .running } }
  let s := s.startCrank.startKernel.startRx.startHist.startHk
  let s := s.startClock.startCan.startLanes.startSeq.takeAlarm
  s.serviceWipe

/-- BOOT_APPLY_STORED: the checked candidate set takes effect, the calibration bank is loaded and the blocks start. -/
def execBootApplyStored (s : State) : Host.Outcome State Fault Refusal :=
  .next (if s.reset_.phase == .firmware then s.applyStored.loadCalibration.startBlocks else s)

/-! ### The clock monitor (R28) and lockstep (R337) -/

/-- A spoke engine stops with the spoke-engine PLL: its OPEN slot's reel goes, without a fault count (R28). -/
def State.clockStop (s : State) (n : Nat) : State :=
  if (s.engine n).st == .running then
    let s := s.loseOpen n
    let e := s.engine n
    s.setEngine n ({ e with st := .restarting, faultAt := s.now, waiting := false, dmaStatus := 0, dmaRun := none }.fillSlots s.now)
  else s

/-- What a fault of a clock does besides event 0x15A (R28); a failed safety PLL also stops the audit engines (R354). -/
def State.clockFaulted (s : State) (clock : Nat) : State :=
  if clock = 3 then
    spokeEngines.foldl State.clockStop { s with reset_ := { s.reset_ with spokeClockAt := none } }
  else if clock = 2 then ({ s with safety := { s.safety with aeStopped := true } }).trip .clockFault
  else s.trip .clockFault

/-- CLOCK_FAULT: clock 0 crystal, 1 main PLL, 2 safety PLL, 3 spoke-engine PLL. -/
def execClockFault (clock : Fin 4) (s : State) : Host.Outcome State Fault Refusal :=
  if s.held || s.reset_.clockFaults.contains clock.val then .next s
  else
    let s := { s with reset_ := { s.reset_ with clockFaults := clock.val :: s.reset_.clockFaults } }
    .next ((s.clockFaulted clock).raise 0x15A (clock * 2 ^ 24))

/-- CLOCK_RECOVERED: event 0x15A again, with bit 23 set. -/
def execClockRecovered (clock : Fin 4) (s : State) : Host.Outcome State Fault Refusal :=
  if s.reset_.clockFaults.contains clock.val then
    let s := { s with reset_ := { s.reset_ with
      clockFaults := s.reset_.clockFaults.filter (· != clock.val)
      spokeClockAt := if clock.val = 3 then some s.now else s.reset_.spokeClockAt } }
    .next (s.raise 0x15A (clock * 2 ^ 24 + 2 ^ 23))
  else .next s

/-- SPOKE_PLL_STABLE: 1 ms within the limits, and the engines restart at ENTRY. -/
def execSpokePllStable (s : State) : Host.Outcome State Fault Refusal :=
  match s.reset_.spokeClockAt with
  | some t =>
    if reached s.now t (ms 1) then
      let s := { s with reset_ := { s.reset_ with spokeClockAt := none } }
      .next (spokeEngines.foldl (fun s n => if (s.engine n).st == .restarting then s.restartEngine n else s) s)
    else .next s
  | none => .next s

/-- LOCKSTEP_DIVERGENCE: a safety trip with cause LOCKSTEP (R337). -/
def execLockstepDivergence (_complex : Fin 2) (s : State) : Host.Outcome State Fault Refusal :=
  .next (if s.held then s else s.trip .lockstep)

end Sys2Proof.Machine
end

