-- ==== Sys2Proof/Machine/Engines.lean ====
section
/-! DEFINITION. The instructions of the spoke and audit engines (R471 to R493), the interrupt entry, and the commands of the
mailbox, the point output, the DMA and the timer. A command carries the engine and bits [25:0] of the instruction (log entry 40);
the row gives the opcode, and FUNC and KIND where the format has them. -/

namespace Sys2Proof.Machine

open Sys2Proof

/-! ### The flow of instructions (R484 to R490) -/

/-- What the flow rules ask of an instruction: a branch (R484), not to be repeated (R485), a load (R490). -/
structure InstrClass where
  branch   : Bool
  noRepeat : Bool
  load     : Bool
  deriving DecidableEq, Repr

def InstrClass.plain : InstrClass := ⟨false, false, false⟩
def InstrClass.loading : InstrClass := ⟨false, false, true⟩
def InstrClass.branching : InstrClass := ⟨true, true, false⟩
def InstrClass.repeating : InstrClass := ⟨false, true, false⟩

/-- An instruction with parallel moves loads where a move is enabled. -/
def InstrClass.moving (w : Nat) : InstrClass := ⟨false, false, natBit w 15 || natBit w 7⟩

/-- A MOVC to SR is not repeated (R485). -/
def InstrClass.control (w : Nat) : InstrClass := ⟨false, field w 18 6 == 0, false⟩

/-- The loop counter of depth d. -/
def Engine.lcAt (e : Engine) (d : Nat) : Nat := tabGet (fun _ => 0) e.lc d
def Engine.setLc (e : Engine) (d v : Nat) : Engine := { e with lc := tabPut (fun _ => 0) e.lc d (v % 65536) }

/-- An instruction address has 14 bits (R467). -/
def pcOf (a : Nat) : Nat := a % 2 ^ 14

/-- The next address, with the end check of the innermost body (R486). -/
def Engine.next (e : Engine) : Engine :=
  match e.loops with
  | [] => { e with pc := pcOf (e.pc + 1) }
  | l :: ls =>
    if e.pc = l.last then
      let n := e.lcAt ls.length
      if n ≤ 1 then { (e.setLc ls.length 0) with loops := ls, pc := pcOf (e.pc + 1) }
      else { (e.setLc ls.length (n - 1)) with pc := l.first, boundary := ls.isEmpty && l.irq }
    else { e with pc := pcOf (e.pc + 1) }

/-- SR as a word (R468): LDEPTH and RPTA follow the loops and the repeat. -/
def Engine.sr (e : Engine) : Nat :=
  b2n e.sat * 2 ^ 15 + b2n e.frac * 2 ^ 14 + b2n e.rnd * 2 ^ 13 + b2n e.ie * 2 ^ 12 + b2n e.aovE * 2 ^ 11 + e.flagsE * 2 ^ 4 +
    e.loops.length % 4 * 4 + b2n e.rpt.isSome * 2

/-- SR takes the writable bits of a word. -/
def Engine.loadSr (e : Engine) (v : Nat) (aov : Bool) : Engine :=
  { e with
    sat := natBit v 15, frac := natBit v 14, rnd := natBit v 13, ie := natBit v 12, aov := aov, nzcv := field v 4 4, flagW := [] }

/-- The shadow set returns (R491); an AOV that the handler set stays set (R468). -/
def Engine.unshadow (e : Engine) : Engine :=
  match e.shadow with
  | none => e.next
  | some h =>
    let e := e.loadSr h.sr (natBit h.sr 11 || e.settledFlags.aov)
    { e with
      pc := h.pc, loops := h.loops, shadow := none
      lc := (List.range 3).foldl (fun t i => tabPut (fun _ => 0) t i (h.lc.getD i 0)) e.lc }

/-- The engine moves past an instruction: delay slots count down to the branch (R484). -/
def Engine.advance (e : Engine) : Engine :=
  if e.slots = 0 then e.next
  else if 1 < e.slots then { e.next with slots := e.slots - 1 }
  else
    match e.branch with
    | .on => { e with slots := 0 }.next
    | .target a => { e with slots := 0, pc := a, branch := .on }
    | .reti => { e with slots := 0, branch := .on }.unshadow

/-- The end of an instruction that ran with `was` repetitions left; a repeat with count 0 skips the instruction after it (R485). -/
def Engine.finish (e : Engine) (was : Option Nat) (load : Bool) : Engine :=
  let e := { e with lastLoad := load, boundary := false }
  let e := match was with
    | some r => if 1 < r then { e with rpt := some (r - 1), rptOn := true } else { e with rpt := none, rptOn := false }.advance
    | none => match e.rpt with
      | some 0 => ({ e with rpt := none }.advance).advance
      | _ => e.advance
  { e with issue := e.issue + 1 }

/-- The word of program memory at the program counter: of P, or of an audit engine's ROM, which the manual does not print (R465, R469). -/
def State.programWord (s : State) (n : Nat) : Nat :=
  let a := (s.engine n).pc
  if n < 32 then s.imgP n (2 * a) * 65536 + s.imgP n (2 * a + 1) else Config.auditRom (0x100000 + a)

/-- The instruction that an engine fetches next, whose command the environment brings (R479, R481; log entry 40). -/
def State.fetchEngine (s : State) (n : Nat) : EngineOp := decodeEngineWord (BitVec.ofNat 32 (s.programWord n))

/-- The engine waits in WAIT: no enabled interrupt pends and no slot is READY (R481). -/
def Engine.asleep (e : Engine) : Bool :=
  e.waiting && e.imask &&& e.ipend == 0 && e.slotA.st != .ready && e.slotB.st != .ready

/-- The engine executes instructions. -/
def State.engineRuns (s : State) (n : Nat) : Bool := if n < 32 then (s.engine n).st == .running else !s.safety.aeStopped

/-- The instructions of program memory (R465). -/
def programEnd (n : Nat) : Nat := if n < 32 then 8192 else 16384

/-- Program flow goes to trace for the engine that SE_SEL names (R856, R857): the cycle count, the two program counters and
the interrupt source, wherever the program counter does not go on to the next word or stay. -/
def State.traceFlow (s : State) (n was : Nat) (irq : Option Nat) : State :=
  let pc := (s.engine n).pc
  if n == field (s.getN Obj.TRACE_CTRL) 19 5 && ((pc != was && pc != was + 1) || irq.isSome) then
    s.traceSend 27 n (beBytes 4 (s.engCycles n % 2 ^ 32) ++ beBytes 2 was ++ beBytes 2 pc ++ beBytes 1 (irq.getD 0xFF))
  else s

/-- The instruction is fetched from P: it is no later repetition of an RPT (R485), and the repeat cache does not hold it (R488). -/
def Engine.fetches (e : Engine) : Bool :=
  !e.rptOn && (match e.loops with | [] => true | l :: _ => !l.cache.contains e.pc)

/-- The repeat cache takes a fetched instruction of an innermost body of 16 instructions or fewer (R488). -/
def Engine.fillCache (e : Engine) : Engine :=
  match e.loops with
  | [] => e
  | l :: ls => if l.last < l.first + 16 ∧ !l.cache.contains e.pc then { e with loops := { l with cache := e.pc :: l.cache } :: ls } else e

/-- The repeat cache holds nothing of the active bodies: another body fills it, or an interrupt has left it to be refilled (R488, R491). -/
def dropCache (ls : List LoopBody) : List LoopBody := ls.map (fun l => { l with cache := [] })

/-- The engine executes one instruction. A fault stops it at once (R502). -/
def State.issue (s : State) (n : Nat) (c : InstrClass) (body : State → Except Nat State) : State :=
  let e := s.engine n
  if !s.engineRuns n || e.asleep then s
  else if programEnd n ≤ e.pc then s.engineFault n badAddress
  else if e.fetches && s.engineBad n (0x80000 + 2 * e.pc) then s.engineFault n memoryEcc
  else if (c.branch && decide (0 < e.slots)) || (c.noRepeat && e.rpt.isSome) then s.engineFault n illegalOpcode
  else match body (s.setEngine n { e.fillCache with waiting := false }) with
    | .error k => s.engineFault n k
    | .ok s' => (s'.modEngine n (fun x => x.finish e.rpt c.load)).traceFlow n e.pc none

/-! ### The multiplier and accumulators (R475 to R477) -/

/-- A half of D0 to D7 by its 4-bit code: as a number of 16 bits. -/
def Engine.half (e : Engine) (c : Nat) : Nat := let v := e.dOp (c / 2); if c % 2 = 1 then v / 65536 else v % 65536

/-- A factor. -/
def factor (isSigned : Bool) (v : Nat) : Int := if isSigned then signed 16 v else (v : Int)

/-- The 32-bit product, shifted left by 1 under FRAC, and sign-extended to 40 bits (R475). -/
def product (frac : Bool) (a b : Int) : Int := signed 32 (unsigned 32 (a * b * (if frac then 2 else 1)))

/-- MAC, MPY, MACU and MACSU. -/
def State.multiply (s : State) (n w : Nat) (accumulate sa sb : Bool) : Except Nat State :=
  match s.moves n w with
  | .error c => .error c
  | .ok s' =>
    let e := s.engine n
    let b := natBit w 25
    let p := product e.frac (factor sa (e.half (field w 20 4))) (factor sb (e.half (field w 16 4)))
    let p := if natBit w 24 then -p else p
    .ok (s'.putAcc n b (if accumulate then e.accW b + p else p))

/-- The operations of format AA on the accumulator a, with the D operand d and the shift n. -/
def addA (a d : Int) (_n : Nat) : Int := a + d
def subA (a d : Int) (_n : Nat) : Int := a - d
def shlA (a _d : Int) (n : Nat) : Int := a * 2 ^ n
def shrA (a _d : Int) (n : Nat) : Int := a / 2 ^ n
def clrA (_a _d : Int) (_n : Nat) : Int := 0

/-- An accumulator instruction of format AA. -/
def State.accOp (s : State) (n w : Nat) (f : Int → Int → Nat → Int) : Except Nat State :=
  match s.moves n w with
  | .error c => .error c
  | .ok s' =>
    let e := s.engine n
    let b := natBit w 25
    .ok (s'.putAcc n b (f (e.accE b) (signed 32 (e.dOp (field w 22 3))) (field w 18 4)))

/-- The 32 bits that MOVA and ST.L move, and whether guard bits and bit 31 differ (R477). -/
def Engine.accLow (e : Engine) (b : Bool) : Nat × Bool :=
  let a := e.accE b
  if fits32 a then (unsigned 32 a, false)
  else (if e.sat then (if 0 ≤ a then 0x7FFFFFFF else 0x80000000) else unsigned 32 a, true)

/-- V is set and the other flags stand (R477). -/
def Engine.raiseV (e : Engine) (v : Bool) : Engine := if v then e.pushFlags ⟨e.issue, false, true, 0, false⟩ else e

/-- MOVA. -/
def State.moveAcc (s : State) (n w : Nat) : Except Nat State :=
  match s.moves n w with
  | .error c => .error c
  | .ok s' =>
    let x := (s.engine n).accLow (natBit w 25)
    .ok (s'.modEngine n (fun e => (e.setD (field w 22 3) .alu x.1).raiseV x.2))

/-- Bits [31:16] as MOVAH moves them: rounded if RND, saturated if SAT (R468, R477). -/
def Engine.accHigh (e : Engine) (b : Bool) : Nat × Bool :=
  let a := e.accE b + (if e.rnd then 0x8000 else 0)
  if fits32 a then (unsigned 32 a / 65536, false)
  else (if e.sat then (if 0 ≤ a then 0x7FFF else 0x8000) else unsigned 32 a / 65536, true)

/-- MOVAH: Dn.L is written, and Dn.H stands, also as a load brings it (R477, R480). -/
def State.moveAccHigh (s : State) (n w : Nat) : Except Nat State :=
  match s.moves n w with
  | .error c => .error c
  | .ok s' =>
    let x := (s.engine n).accHigh (natBit w 25)
    .ok (s'.modEngine n (fun e => (e.putD (field w 22 3) .alu .low x.1).raiseV x.2))

/-! ### The ALU -/

/-- A result: its value, C and V, where none is a value that the manual leaves open. -/
structure AluOut where
  val : Option Nat
  c   : Option Bool
  v   : Option Bool
  deriving DecidableEq, Repr

/-- A result of a signed exact value: V by its range. -/
def aluSum (exact : Int) (c : Bool) : AluOut := ⟨some (unsigned 32 exact), some c, some (!fits32 exact)⟩

/-- A result that has neither carry nor overflow. -/
def aluPlain (v : Nat) : AluOut := ⟨some v, some false, some false⟩

def aluAdd (a b : Nat) : AluOut := aluSum (signed 32 a + signed 32 b) (decide (2 ^ 32 ≤ a + b))
def aluSub (a b : Nat) : AluOut := aluSum (signed 32 a - signed 32 b) (decide (a < b))
def aluAnd (a b : Nat) : AluOut := aluPlain (a &&& b)
def aluOr (a b : Nat) : AluOut := aluPlain (a ||| b)
def aluXor (a b : Nat) : AluOut := aluPlain (a ^^^ b)
def aluMin (a b : Nat) : AluOut := aluPlain (if signed 32 b < signed 32 a then b else a)
def aluMax (a b : Nat) : AluOut := aluPlain (if signed 32 a < signed 32 b then b else a)
def aluMinu (a b : Nat) : AluOut := aluPlain (min a b)
def aluMaxu (a b : Nat) : AluOut := aluPlain (max a b)

/-- SHIFT by SB[5:0] signed: left for positive, arithmetic right for negative; C and V are left open. -/
def aluShift (a b : Nat) : AluOut :=
  let n := signed 6 b
  ⟨some (if 0 ≤ n then unsigned 32 ((a : Int) * 2 ^ n.toNat) else unsigned 32 (signed 32 a / 2 ^ (-n).toNat)), none, none⟩

/-- ABS: the absolute value of the most negative number is left open. -/
def aluAbs (a _b : Nat) : AluOut :=
  ⟨if a = 2 ^ 31 then none else some (signed 32 a).natAbs, none, some (decide (a = 2 ^ 31))⟩

/-- NEG: 0 − SA. -/
def aluNeg (a _b : Nat) : AluOut := aluSum (-(signed 32 a)) (decide (0 < a))

/-- CLZ. -/
def aluClz (a _b : Nat) : AluOut := aluPlain (((List.range 32).find? (fun i => natBit a (31 - i))).getD 32)

/-- An open bit or a given one. -/
def State.pickBit (s : State) (o : Option Bool) : Bool × State := match o with | some b => (b, s) | none => s.drawBit

/-- An open word or a given one. -/
def State.pickWord (s : State) (o : Option Nat) : Nat × State :=
  match o with | some v => (v % 2 ^ 32, s) | none => (s.draw.1 % 2 ^ 32, s.draw.2)

/-- A result reaches its register, if it has one, and the flags. -/
def State.putAlu (s : State) (n : Nat) (dst : Option Nat) (o : AluOut) : State :=
  let v := s.pickWord o.val
  let c := v.2.pickBit o.c
  let f := c.2.pickBit o.v
  f.2.modEngine n (fun e =>
    let e := match dst with | some d => e.setReg d .alu v.1 | none => e
    e.setFlags false (nzcvOf (natBit v.1 31) (v.1 == 0) c.1 f.1) false)

/-- Format A. -/
def State.aluA (s : State) (n w : Nat) (op : Nat → Nat → AluOut) : Except Nat State :=
  match s.moves n w with
  | .error c => .error c
  | .ok s' =>
    let e := s.engine n
    .ok (s'.putAlu n (some (field w 23 3)) (op (e.dOp (field w 20 3)) (e.dOp (field w 17 3))))

/-- Format R, on D0 to D15; another register code is not defined (R481). -/
def State.aluR (s : State) (n w : Nat) (writes : Bool) (op : Nat → Nat → AluOut) : Except Nat State :=
  let d := field w 21 5
  let a := field w 16 5
  let b := field w 11 5
  if 16 ≤ d ∨ 16 ≤ a ∨ 16 ≤ b then .error illegalOpcode
  else
    let e := s.engine n
    .ok (s.putAlu n (if writes then some d else none) (op (e.dOp a) (e.dOp b)))

/-! ### Immediates (format I) -/

/-- IMM16, sign-extended. -/
def imm16 (w : Nat) : Int := signed 16 (field w 0 16)

/-- MOVI: the register takes the immediate. -/
def immMove (e : Engine) (r w : Nat) : Engine := e.setReg r .alu (imm16 w)

/-- MOVIH: bits [31:16] take it. -/
def immHigh (e : Engine) (r w : Nat) : Engine := e.setRegHigh r (field w 0 16)

/-- MOVI and MOVIH. -/
def State.immOp (s : State) (n w : Nat) (f : Engine → Nat → Nat → Engine) : Except Nat State :=
  if 26 ≤ field w 21 5 then .error illegalOpcode else .ok (s.modEngine n (fun e => f e (field w 21 5) w))

/-- ADDI: on an accumulator by R476. -/
def State.addImm (s : State) (n w : Nat) : Except Nat State :=
  let r := field w 21 5
  match (s.engine n).reg? r with
  | none => .error illegalOpcode
  | some v => .ok (if 24 ≤ r then s.putAcc n (r == 25) (v + imm16 w) else s.putAlu n (some r) (aluAdd v.toNat (unsigned 32 (imm16 w))))

/-- CMPI: on an accumulator N and Z from the exact difference, V by 32 bits, C open. -/
def State.cmpImm (s : State) (n w : Nat) : Except Nat State :=
  let r := field w 21 5
  match (s.engine n).reg? r with
  | none => .error illegalOpcode
  | some v =>
    if 24 ≤ r then
      let x := v - imm16 w
      let c := s.drawBit
      .ok (c.2.modEngine n (fun e => e.setFlags false (nzcvOf (decide (x < 0)) (x == 0) c.1 (!fits32 x)) false))
    else .ok (s.putAlu n none (aluSub v.toNat (unsigned 32 (imm16 w))))

/-! ### Loads and stores (format L) -/

/-- The access address, and the pointer afterwards (R471). -/
def Engine.access (e : Engine) (w : Nat) : Nat × Option Nat :=
  let p := field w 18 3
  match field w 16 2 with
  | 0 => (e.pDec p, none)
  | 1 => (e.pDec p, some (e.postModify p (imm16 w)))
  | 2 => (unsigned 20 ((e.pDec p : Int) + imm16 w), none)
  | _ => (e.pDec p, some (e.postModify p e.d15))

/-- The pointer of an access is modified. -/
def Engine.pointed (e : Engine) (w : Nat) (v : Option Nat) : Engine :=
  match v with | some x => e.setP (field w 18 3) .addr x | none => e

/-- The register code of format L is defined. -/
def regOk (w : Nat) : Bool := decide (field w 21 5 < 26)

def wordSigned (v : Nat) : Int := signed 16 v
def wordUnsigned (v : Nat) : Int := (v : Int)

/-- LD.W and LD.UW. -/
def State.load16 (s : State) (n w : Nat) (f : Nat → Int) : Except Nat State :=
  if !regOk w then .error illegalOpcode
  else
    let a := (s.engine n).access w
    match s.read16 n a.1 with
    | .error c => .error c
    | .ok r => .ok (r.2.modEngine n (fun e => (e.pointed w a.2).setReg (field w 21 5) .load (f r.1)))

/-- LD.L: into an accumulator with sign extension (R479). -/
def State.load32 (s : State) (n w : Nat) : Except Nat State :=
  if !regOk w then .error illegalOpcode
  else
    let a := (s.engine n).access w
    match s.read32 n a.1 with
    | .error c => .error c
    | .ok r => .ok (r.2.modEngine n (fun e => (e.pointed w a.2).setReg (field w 21 5) .load (signed 32 r.1)))

/-- ST.W: bits [15:0]. -/
def State.store16 (s : State) (n w : Nat) : Except Nat State :=
  let e := s.engine n
  match e.reg? (field w 21 5) with
  | none => .error illegalOpcode
  | some v =>
    let a := e.access w
    match s.write16 n a.1 (unsigned 16 v) with
    | .error c => .error c
    | .ok s' => .ok (s'.modEngine n (fun e => e.pointed w a.2))

/-- The 32 bits that ST.L stores, and V (R477). -/
def Engine.storeLong (e : Engine) (c : Nat) : Option (Nat × Bool) :=
  if c = 24 ∨ c = 25 then some (e.accLow (c == 25)) else (e.reg? c).map (fun v => (unsigned 32 v, false))

/-- ST.L. -/
def State.store32 (s : State) (n w : Nat) : Except Nat State :=
  let e := s.engine n
  match e.storeLong (field w 21 5) with
  | none => .error illegalOpcode
  | some v =>
    let a := e.access w
    match s.write32 n a.1 v.1 with
    | .error c => .error c
    | .ok s' => .ok (s'.modEngine n (fun e => (e.pointed w a.2).raiseV v.2))

/-- LEA: into a pointer at the end of D (R483), with the access mode's modification of its pointer. -/
def State.loadAddress (s : State) (n w : Nat) : Except Nat State :=
  if !regOk w then .error illegalOpcode
  else
    let a := (s.engine n).access w
    let r := field w 21 5
    .ok (s.modEngine n (fun e => (e.pointed w a.2).setReg r (if r < 16 then .alu else .addr) a.1))

/-! ### Control registers (R468, R472, R473, R489) -/

/-- A control register of the engine; none for an undefined number. IMASK and IPEND are on spoke engines only. -/
def State.control? (s : State) (n cr : Nat) : Option Nat :=
  let e := s.engine n
  if cr = 0 then some e.sr
  else if cr = 1 then some e.pmode
  else if cr = 2 ∧ n < 32 then some e.imask
  else if cr = 3 ∧ n < 32 then some e.ipend
  else if 8 ≤ cr ∧ cr < 12 then some (tabGet (fun _ => 0) e.cb (cr - 8))
  else if 12 ≤ cr ∧ cr < 16 then some (tabGet (fun _ => 0) e.cl (cr - 12))
  else if 16 ≤ cr ∧ cr < 19 then some (e.lcAt (cr - 16))
  else if cr = 24 then some (s.engCycles n % 2 ^ 32)
  else if cr = 25 then some (s.engCycles n / 2 ^ 32 % 2 ^ 32)
  else none

/-- MOVC from a control register. -/
def State.readControl (s : State) (n w : Nat) : Except Nat State :=
  match s.control? n (field w 18 6) with
  | none => .error illegalOpcode
  | some v => .ok (s.modEngine n (fun e => e.setD (field w 0 4) .alu v))

/-- The three cycles of a serialising MOVC let every earlier result settle (R482). -/
def Engine.serialise (e : Engine) : Engine := { e with issue := e.issue + 3 }

/-- A write of SR: AOV is only cleared; IE does not exist on an audit engine (R468). -/
def Engine.writeSr (e : Engine) (n v : Nat) : Engine :=
  let aov := e.settledFlags.aov && natBit v 11
  let e := e.loadSr v aov
  (if n < 32 then e else { e with ie := false }).serialise

/-- A control register takes a value. The cycle counter is read-only: it takes none. -/
def State.setControl (s : State) (n cr v : Nat) : Except Nat State :=
  let upd (f : Engine → Engine) : Except Nat State := .ok (s.modEngine n f)
  if cr = 0 then upd (fun e => e.writeSr n v)
  else if cr = 1 then upd (fun e => { e with pmode := v % 256 })
  else if cr = 2 ∧ n < 32 then upd (fun e => { e with imask := v % 256 }.serialise)
  else if cr = 3 ∧ n < 32 then upd (fun e => { e with ipend := e.ipend &&& v }.serialise)
  else if 8 ≤ cr ∧ cr < 12 then upd (fun e => { e with cb := tabPut (fun _ => 0) e.cb (cr - 8) (v % 2 ^ 20) })
  else if 12 ≤ cr ∧ cr < 16 then upd (fun e => { e with cl := tabPut (fun _ => 0) e.cl (cr - 12) (v % 65536) })
  else if 16 ≤ cr ∧ cr < 19 then upd (fun e => e.setLc (cr - 16) v)
  else if cr = 24 ∨ cr = 25 then .ok s
  else .error illegalOpcode

/-- MOVC from Dn, which D reads for CB, CL, PMODE and LC (R483). -/
def State.writeControl (s : State) (n w : Nat) : Except Nat State :=
  let e := s.engine n
  let cr := field w 18 6
  let d := field w 0 4
  s.setControl n cr (if cr = 0 ∨ cr = 2 ∨ cr = 3 then e.dOp d else e.dDec d)

/-! ### Branches and repeats (R484 to R487, R491) -/

/-- A COND code holds on the flags that a branch sees (R481). -/
def Engine.cond (e : Engine) (c : Nat) : Bool :=
  let f := e.branchFlags
  let n := natBit f 3
  let z := natBit f 2
  let cy := natBit f 1
  let v := natBit f 0
  match c with
  | 0 => true | 1 => z | 2 => !z | 3 => n != v | 4 => n == v | 5 => z || n != v | 6 => !z && n == v | 7 => cy | 8 => !cy
  | 9 => v | 10 => !v | 11 => e.branchAov | 12 => !e.branchAov | 13 => n | 14 => !n | _ => false

/-- The delay slots of a branch here stay inside the innermost body (R487). -/
def Engine.slotsFit (e : Engine) : Bool := match e.loops with | [] => true | l :: _ => decide (e.pc + 2 ≤ l.last)

/-- An address lies in the innermost body, where there is one. -/
def Engine.inBody (e : Engine) (a : Nat) : Bool := match e.loops with | [] => true | l :: _ => decide (l.first ≤ a ∧ a ≤ l.last)

/-- A branch, taken or not: its two delay slots follow (R484, R487). -/
def State.branchTo (s : State) (n : Nat) (taken : Bool) (a : Nat) : Except Nat State :=
  let e := s.engine n
  if !e.slotsFit || (taken && !e.inBody (pcOf a)) then .error badLoop
  else .ok (s.setEngine n { e with slots := 3, branch := if taken then .target (pcOf a) else .on })

/-- CALL. -/
def State.call (s : State) (n w : Nat) : Except Nat State :=
  let e := s.engine n
  if 8 ≤ e.stack.length then .error stackFault
  else (s.setEngine n { e with stack := pcOf (e.pc + 3) :: e.stack }).branchTo n (e.cond (field w 22 4)) (field w 0 16)

/-- RET. -/
def State.ret (s : State) (n w : Nat) : Except Nat State :=
  let e := s.engine n
  match e.stack with
  | [] => .error stackFault
  | a :: t => (s.setEngine n { e with stack := t }).branchTo n (e.cond (field w 22 4)) a

/-- RETI, on a spoke engine only (R466, R491). -/
def State.reti (s : State) (n : Nat) : Except Nat State :=
  let e := s.engine n
  if 32 ≤ n then .error illegalOpcode
  else if !e.slotsFit then .error badLoop
  else .ok (s.setEngine n { e with slots := 3, branch := .reti })

/-- BREAK, on a spoke engine only; outside a block repeat there is none to leave (R466, R487). -/
def State.breakLoop (s : State) (n : Nat) : Except Nat State :=
  let e := s.engine n
  if 32 ≤ n then .error illegalOpcode
  else if !e.slotsFit then .error badLoop
  else match e.loops with
    | [] => .ok s
    | l :: ls => .ok (s.setEngine n { e with loops := ls, slots := 3, branch := .target (pcOf (l.last + 1)) })

/-- RPT: the count is COUNT16 or Dn.L (R485). -/
def Engine.startRpt (e : Engine) (w : Nat) : Engine :=
  { e with rpt := some (if natBit w 25 then e.dDec (field w 21 4) % 65536 else field w 0 16) }

/-- BRPT (R486, R487), on a spoke engine only (R466). -/
def State.blockRepeat (s : State) (n w : Nat) : Except Nat State :=
  let e := s.engine n
  let len := field w 12 8 + 1
  let count := if natBit w 24 then e.dDec (field w 20 4) % 65536 else field w 0 12
  let last := e.pc + len
  let encloses := match e.loops with | [] => true | l :: _ => decide (last < l.last)
  if 32 ≤ n then .error illegalOpcode
  else if 3 ≤ e.loops.length || !encloses then .error badLoop
  else if count = 0 then .ok (s.setEngine n { e with pc := pcOf last })
  else
    .ok (s.setEngine n { (e.setLc e.loops.length count) with
      loops := ⟨e.pc + 1, last, natBit w 25 && e.loops.isEmpty, []⟩ :: dropCache e.loops })

/-! ### Interrupts (R489 to R491) -/

/-- The lowest pending enabled source. -/
def Engine.irqSource (e : Engine) : Option Nat := [0, 1, 2].find? (fun i => natBit (e.imask &&& e.ipend) i)

/-- The place allows an interrupt (R490). -/
def Engine.irqPlace (e : Engine) : Bool :=
  e.slots == 0 && !e.lastLoad && e.rpt.isNone && (e.loops.isEmpty || e.boundary)

/-- The engine accepts an interrupt (R491). -/
def Engine.takeIrq (e : Engine) (src : Nat) : Engine :=
  { e with
    shadow := some ⟨e.pc, e.settledFlags.sr, [e.lcAt 0, e.lcAt 1, e.lcAt 2], dropCache e.loops⟩, ie := false, ipend := e.ipend - 2 ^ src, loops := []
    pc := 0x10 + 4 * src, issue := e.issue + 3, waiting := false, boundary := false }

/-- INTERRUPT_ACCEPT (R490, R491). -/
def execInterruptAccept (eng : Fin 32) (s : State) : Host.Outcome State Fault Refusal :=
  let e := s.engine eng
  match e.irqSource with
  | some i =>
    if e.st == .running && e.ie && e.irqPlace then .next ((s.setEngine eng (e.takeIrq i)).traceFlow eng e.pc (some i)) else .next s
  | none => .next s

/-- TIMER_MATCH: TIMER reaches TIMER_CMP, once in a turn of TIMER (R489). -/
def execTimerMatch (eng : Fin 32) (s : State) : Host.Outcome State Fault Refusal :=
  let e := s.engine eng
  let c := s.engCycles eng
  if e.st == .running && decide (e.timerCmp ≤ c % 2 ^ 32) && e.timerTurn != some (c / 2 ^ 32) then
    .next ((s.setEngine eng { e with timerTurn := some (c / 2 ^ 32) }).pend eng 2)
  else .next s

/-! ### The mailbox, the point output and the DMA as commands -/

/-- A bus operation of a running spoke engine; a fault stops it (R502). -/
def State.busOp (s : State) (n : Nat) (r : Except Nat State) : State :=
  if (s.engine n).st == .running then (match r with | .ok s' => s' | .error c => s.engineFault n c) else s

/-- MBX_NEXT: a read of the register (R496). -/
def execMbxNext (eng : Fin 32) (s : State) : Host.Outcome State Fault Refusal := .next (s.busOp eng (.ok (s.mbxNext eng).2))

/-- MBX_RELEASE: a write of the register (R497). -/
def execMbxRelease (eng : Fin 32) (value : BitVec 16) (s : State) : Host.Outcome State Fault Refusal :=
  .next (s.busOp eng (s.mbxRelease eng value.toNat))

/-- PT_OUT: a write of PT_OUTn (R498). -/
def execPtOut (eng : Fin 32) (n : Fin 8) (value : BitVec 16) (s : State) : Host.Outcome State Fault Refusal :=
  .next (s.busOp eng (s.ptOut eng n value.toNat))

/-- DMA_CTRL: a write of the register (R499). -/
def execDmaCtrl (eng : Fin 32) (value : BitVec 16) (s : State) : Host.Outcome State Fault Refusal :=
  .next (s.busOp eng (.ok (s.dmaCtrl eng value.toNat)))

/-- DMA_DONE: a DMA ends (R489, R499). -/
def execDmaDone (eng : Fin 32) (s : State) : Host.Outcome State Fault Refusal := .next (s.busOp eng (s.dmaDone eng))

/-! ### The instructions -/

/-- MAC: the signed product is accumulated (R475, R481). -/
def execSeMac (eng : Fin 34) (w : BitVec 26) (s : State) : Host.Outcome State Fault Refusal :=
  .next (s.issue eng (InstrClass.moving w.toNat) (fun s => s.multiply eng w.toNat true true true))

/-- MPY: the signed product, or its negation, is placed (R475, R481). -/
def execSeMpy (eng : Fin 34) (w : BitVec 26) (s : State) : Host.Outcome State Fault Refusal :=
  .next (s.issue eng (InstrClass.moving w.toNat) (fun s => s.multiply eng w.toNat false true true))

/-- MACU: the unsigned product is accumulated (R475, R481). -/
def execSeMacu (eng : Fin 34) (w : BitVec 26) (s : State) : Host.Outcome State Fault Refusal :=
  .next (s.issue eng (InstrClass.moving w.toNat) (fun s => s.multiply eng w.toNat true false false))

/-- MACSU: the signed by unsigned product is accumulated (R475, R481). -/
def execSeMacsu (eng : Fin 34) (w : BitVec 26) (s : State) : Host.Outcome State Fault Refusal :=
  .next (s.issue eng (InstrClass.moving w.toNat) (fun s => s.multiply eng w.toNat true true false))

/-- MOVE: the parallel moves only (R481). -/
def execSeMove (eng : Fin 34) (w : BitVec 26) (s : State) : Host.Outcome State Fault Refusal :=
  .next (s.issue eng (InstrClass.moving w.toNat) (fun s => s.moves eng w.toNat))

/-- ADD, format A (R481). -/
def execSeAdd (eng : Fin 34) (w : BitVec 26) (s : State) : Host.Outcome State Fault Refusal :=
  .next (s.issue eng (InstrClass.moving w.toNat) (fun s => s.aluA eng w.toNat aluAdd))

/-- SUB, format A (R481). -/
def execSeSub (eng : Fin 34) (w : BitVec 26) (s : State) : Host.Outcome State Fault Refusal :=
  .next (s.issue eng (InstrClass.moving w.toNat) (fun s => s.aluA eng w.toNat aluSub))

/-- AND, format A (R481). -/
def execSeAnd (eng : Fin 34) (w : BitVec 26) (s : State) : Host.Outcome State Fault Refusal :=
  .next (s.issue eng (InstrClass.moving w.toNat) (fun s => s.aluA eng w.toNat aluAnd))

/-- OR, format A (R481). -/
def execSeOr (eng : Fin 34) (w : BitVec 26) (s : State) : Host.Outcome State Fault Refusal :=
  .next (s.issue eng (InstrClass.moving w.toNat) (fun s => s.aluA eng w.toNat aluOr))

/-- XOR, format A (R481). -/
def execSeXor (eng : Fin 34) (w : BitVec 26) (s : State) : Host.Outcome State Fault Refusal :=
  .next (s.issue eng (InstrClass.moving w.toNat) (fun s => s.aluA eng w.toNat aluXor))

/-- MIN, format A (R481). -/
def execSeMin (eng : Fin 34) (w : BitVec 26) (s : State) : Host.Outcome State Fault Refusal :=
  .next (s.issue eng (InstrClass.moving w.toNat) (fun s => s.aluA eng w.toNat aluMin))

/-- MAX, format A (R481). -/
def execSeMax (eng : Fin 34) (w : BitVec 26) (s : State) : Host.Outcome State Fault Refusal :=
  .next (s.issue eng (InstrClass.moving w.toNat) (fun s => s.aluA eng w.toNat aluMax))

/-- SHIFT, format A (R481). -/
def execSeShift (eng : Fin 34) (w : BitVec 26) (s : State) : Host.Outcome State Fault Refusal :=
  .next (s.issue eng (InstrClass.moving w.toNat) (fun s => s.aluA eng w.toNat aluShift))

/-- ADDA: a D register is added to an accumulator (R481). -/
def execSeAdda (eng : Fin 34) (w : BitVec 26) (s : State) : Host.Outcome State Fault Refusal :=
  .next (s.issue eng (InstrClass.moving w.toNat) (fun s => s.accOp eng w.toNat addA))

/-- SUBA: a D register is subtracted from an accumulator (R481). -/
def execSeSuba (eng : Fin 34) (w : BitVec 26) (s : State) : Host.Outcome State Fault Refusal :=
  .next (s.issue eng (InstrClass.moving w.toNat) (fun s => s.accOp eng w.toNat subA))

/-- SHLA: an accumulator shifts left (R481). -/
def execSeShla (eng : Fin 34) (w : BitVec 26) (s : State) : Host.Outcome State Fault Refusal :=
  .next (s.issue eng (InstrClass.moving w.toNat) (fun s => s.accOp eng w.toNat shlA))

/-- SHRA: an accumulator shifts right arithmetically (R481). -/
def execSeShra (eng : Fin 34) (w : BitVec 26) (s : State) : Host.Outcome State Fault Refusal :=
  .next (s.issue eng (InstrClass.moving w.toNat) (fun s => s.accOp eng w.toNat shrA))

/-- CLRA: an accumulator is cleared (R481). -/
def execSeClra (eng : Fin 34) (w : BitVec 26) (s : State) : Host.Outcome State Fault Refusal :=
  .next (s.issue eng (InstrClass.moving w.toNat) (fun s => s.accOp eng w.toNat clrA))

/-- MOVA: bits [31:0] of an accumulator move to a D register (R477). -/
def execSeMova (eng : Fin 34) (w : BitVec 26) (s : State) : Host.Outcome State Fault Refusal :=
  .next (s.issue eng (InstrClass.moving w.toNat) (fun s => s.moveAcc eng w.toNat))

/-- MOVAH: bits [31:16] of an accumulator move to Dn.L (R477). -/
def execSeMovah (eng : Fin 34) (w : BitVec 26) (s : State) : Host.Outcome State Fault Refusal :=
  .next (s.issue eng (InstrClass.moving w.toNat) (fun s => s.moveAccHigh eng w.toNat))

/-- MOVI: a register takes a sign-extended immediate (R481). -/
def execSeMovi (eng : Fin 34) (w : BitVec 26) (s : State) : Host.Outcome State Fault Refusal :=
  .next (s.issue eng InstrClass.plain (fun s => s.immOp eng w.toNat immMove))

/-- MOVIH: bits [31:16] of a register take an immediate (R481). -/
def execSeMovih (eng : Fin 34) (w : BitVec 26) (s : State) : Host.Outcome State Fault Refusal :=
  .next (s.issue eng InstrClass.plain (fun s => s.immOp eng w.toNat immHigh))

/-- ADDI: a sign-extended immediate is added to a register (R481). -/
def execSeAddi (eng : Fin 34) (w : BitVec 26) (s : State) : Host.Outcome State Fault Refusal :=
  .next (s.issue eng InstrClass.plain (fun s => s.addImm eng w.toNat))

/-- CMPI: flags from a register less an immediate (R481). -/
def execSeCmpi (eng : Fin 34) (w : BitVec 26) (s : State) : Host.Outcome State Fault Refusal :=
  .next (s.issue eng InstrClass.plain (fun s => s.cmpImm eng w.toNat))

/-- ALU with FUNC ADD, format R (R481). -/
def execSeAluAdd (eng : Fin 34) (w : BitVec 26) (s : State) : Host.Outcome State Fault Refusal :=
  .next (s.issue eng InstrClass.plain (fun s => s.aluR eng w.toNat true aluAdd))

/-- ALU with FUNC SUB, format R (R481). -/
def execSeAluSub (eng : Fin 34) (w : BitVec 26) (s : State) : Host.Outcome State Fault Refusal :=
  .next (s.issue eng InstrClass.plain (fun s => s.aluR eng w.toNat true aluSub))

/-- ALU with FUNC AND, format R (R481). -/
def execSeAluAnd (eng : Fin 34) (w : BitVec 26) (s : State) : Host.Outcome State Fault Refusal :=
  .next (s.issue eng InstrClass.plain (fun s => s.aluR eng w.toNat true aluAnd))

/-- ALU with FUNC OR, format R (R481). -/
def execSeAluOr (eng : Fin 34) (w : BitVec 26) (s : State) : Host.Outcome State Fault Refusal :=
  .next (s.issue eng InstrClass.plain (fun s => s.aluR eng w.toNat true aluOr))

/-- ALU with FUNC XOR, format R (R481). -/
def execSeAluXor (eng : Fin 34) (w : BitVec 26) (s : State) : Host.Outcome State Fault Refusal :=
  .next (s.issue eng InstrClass.plain (fun s => s.aluR eng w.toNat true aluXor))

/-- ALU with FUNC MIN, format R (R481). -/
def execSeAluMin (eng : Fin 34) (w : BitVec 26) (s : State) : Host.Outcome State Fault Refusal :=
  .next (s.issue eng InstrClass.plain (fun s => s.aluR eng w.toNat true aluMin))

/-- ALU with FUNC MAX, format R (R481). -/
def execSeAluMax (eng : Fin 34) (w : BitVec 26) (s : State) : Host.Outcome State Fault Refusal :=
  .next (s.issue eng InstrClass.plain (fun s => s.aluR eng w.toNat true aluMax))

/-- ALU with FUNC SHIFT, format R (R481). -/
def execSeAluShift (eng : Fin 34) (w : BitVec 26) (s : State) : Host.Outcome State Fault Refusal :=
  .next (s.issue eng InstrClass.plain (fun s => s.aluR eng w.toNat true aluShift))

/-- ALU with FUNC ABS, format R (R481). -/
def execSeAluAbs (eng : Fin 34) (w : BitVec 26) (s : State) : Host.Outcome State Fault Refusal :=
  .next (s.issue eng InstrClass.plain (fun s => s.aluR eng w.toNat true aluAbs))

/-- ALU with FUNC NEG, format R (R481). -/
def execSeAluNeg (eng : Fin 34) (w : BitVec 26) (s : State) : Host.Outcome State Fault Refusal :=
  .next (s.issue eng InstrClass.plain (fun s => s.aluR eng w.toNat true aluNeg))

/-- ALU with FUNC CLZ, format R (R481). -/
def execSeAluClz (eng : Fin 34) (w : BitVec 26) (s : State) : Host.Outcome State Fault Refusal :=
  .next (s.issue eng InstrClass.plain (fun s => s.aluR eng w.toNat true aluClz))

/-- ALU with FUNC MINU, format R (R481). -/
def execSeAluMinu (eng : Fin 34) (w : BitVec 26) (s : State) : Host.Outcome State Fault Refusal :=
  .next (s.issue eng InstrClass.plain (fun s => s.aluR eng w.toNat true aluMinu))

/-- ALU with FUNC MAXU, format R (R481). -/
def execSeAluMaxu (eng : Fin 34) (w : BitVec 26) (s : State) : Host.Outcome State Fault Refusal :=
  .next (s.issue eng InstrClass.plain (fun s => s.aluR eng w.toNat true aluMaxu))

/-- ALU with FUNC CMP, format R: flags only (R481). -/
def execSeAluCmp (eng : Fin 34) (w : BitVec 26) (s : State) : Host.Outcome State Fault Refusal :=
  .next (s.issue eng InstrClass.plain (fun s => s.aluR eng w.toNat false aluSub))

/-- LD.W: a 16-bit load (R471, R481). -/
def execSeLdW (eng : Fin 34) (w : BitVec 26) (s : State) : Host.Outcome State Fault Refusal :=
  .next (s.issue eng InstrClass.loading (fun s => s.load16 eng w.toNat wordSigned))

/-- LD.UW: a 16-bit load (R471, R481). -/
def execSeLdUw (eng : Fin 34) (w : BitVec 26) (s : State) : Host.Outcome State Fault Refusal :=
  .next (s.issue eng InstrClass.loading (fun s => s.load16 eng w.toNat wordUnsigned))

/-- LD.L: a 32-bit load (R470, R471, R481). -/
def execSeLdL (eng : Fin 34) (w : BitVec 26) (s : State) : Host.Outcome State Fault Refusal :=
  .next (s.issue eng InstrClass.loading (fun s => s.load32 eng w.toNat))

/-- ST.W: a 16-bit store (R471, R481). -/
def execSeStW (eng : Fin 34) (w : BitVec 26) (s : State) : Host.Outcome State Fault Refusal :=
  .next (s.issue eng InstrClass.plain (fun s => s.store16 eng w.toNat))

/-- ST.L: a 32-bit store (R470, R471, R477, R481). -/
def execSeStL (eng : Fin 34) (w : BitVec 26) (s : State) : Host.Outcome State Fault Refusal :=
  .next (s.issue eng InstrClass.plain (fun s => s.store32 eng w.toNat))

/-- LEA: a register takes an access address (R471, R481). -/
def execSeLea (eng : Fin 34) (w : BitVec 26) (s : State) : Host.Outcome State Fault Refusal :=
  .next (s.issue eng InstrClass.plain (fun s => s.loadAddress eng w.toNat))

/-- MOVC, KIND 0: Dn takes a control register (R468, R481). -/
def execSeMovcRead (eng : Fin 34) (w : BitVec 26) (s : State) : Host.Outcome State Fault Refusal :=
  .next (s.issue eng InstrClass.plain (fun s => s.readControl eng w.toNat))

/-- MOVC, KIND 1: a control register takes Dn (R468, R473, R481). -/
def execSeMovcWrite (eng : Fin 34) (w : BitVec 26) (s : State) : Host.Outcome State Fault Refusal :=
  .next (s.issue eng (InstrClass.control w.toNat) (fun s => s.writeControl eng w.toNat))

/-- MOVC, KIND 2: a control register takes an immediate (R468, R473, R481). -/
def execSeMovcImmediate (eng : Fin 34) (w : BitVec 26) (s : State) : Host.Outcome State Fault Refusal :=
  .next (s.issue eng (InstrClass.control w.toNat) (fun s => s.setControl eng (field w.toNat 18 6) (field w.toNat 0 16)))

/-- MOVP: Pn takes Dn[19:0] (R481). -/
def execSeMovp (eng : Fin 34) (w : BitVec 26) (s : State) : Host.Outcome State Fault Refusal :=
  .next (s.issue eng InstrClass.plain (fun s => .ok (s.modEngine eng (fun e => e.setP (field w.toNat 23 3) .addr (e.dDec (field w.toNat 0 4))))))

/-- MOVPI: Pn takes a 20-bit immediate (R481). -/
def execSeMovpi (eng : Fin 34) (w : BitVec 26) (s : State) : Host.Outcome State Fault Refusal :=
  .next (s.issue eng InstrClass.plain (fun s => .ok (s.modEngine eng (fun e => e.setP (field w.toNat 23 3) .addr (field w.toNat 0 20)))))

/-- B: a conditional branch (R481, R484, R487). -/
def execSeB (eng : Fin 34) (w : BitVec 26) (s : State) : Host.Outcome State Fault Refusal :=
  .next (s.issue eng InstrClass.branching (fun s => s.branchTo eng ((s.engine eng).cond (field w.toNat 22 4)) (field w.toNat 0 16)))

/-- CALL: the address after the delay slots is pushed, and the branch is taken on COND (R481, R502). -/
def execSeCall (eng : Fin 34) (w : BitVec 26) (s : State) : Host.Outcome State Fault Refusal :=
  .next (s.issue eng InstrClass.branching (fun s => s.call eng w.toNat))

/-- BR: a branch to Dn.L (R481). -/
def execSeBr (eng : Fin 34) (w : BitVec 26) (s : State) : Host.Outcome State Fault Refusal :=
  .next (s.issue eng InstrClass.branching (fun s => s.branchTo eng true ((s.engine eng).dDec (field w.toNat 0 4) % 65536)))

/-- RET: the return stack is popped, and the branch is taken on COND (R481, R502). -/
def execSeRet (eng : Fin 34) (w : BitVec 26) (s : State) : Host.Outcome State Fault Refusal :=
  .next (s.issue eng InstrClass.branching (fun s => s.ret eng w.toNat))

/-- RETI: the shadow set returns after two delay slots (R491). -/
def execSeReti (eng : Fin 34) (_w : BitVec 26) (s : State) : Host.Outcome State Fault Refusal :=
  .next (s.issue eng InstrClass.branching (fun s => s.reti eng))

/-- BREAK: the innermost block repeat is left (R487). -/
def execSeBreak (eng : Fin 34) (_w : BitVec 26) (s : State) : Host.Outcome State Fault Refusal :=
  .next (s.issue eng InstrClass.branching (fun s => s.breakLoop eng))

/-- RPT: the next instruction is repeated (R485). -/
def execSeRpt (eng : Fin 34) (w : BitVec 26) (s : State) : Host.Outcome State Fault Refusal :=
  .next (s.issue eng InstrClass.repeating (fun s => .ok (s.modEngine eng (fun e => e.startRpt w.toNat))))

/-- BRPT: the next LEN instructions are repeated (R486, R487). -/
def execSeBrpt (eng : Fin 34) (w : BitVec 26) (s : State) : Host.Outcome State Fault Refusal :=
  .next (s.issue eng InstrClass.repeating (fun s => s.blockRepeat eng w.toNat))

/-- NOP (R481). -/
def execSeNop (eng : Fin 34) (s : State) : Host.Outcome State Fault Refusal := .next (s.issue eng InstrClass.plain (fun s => .ok s))

/-- WAIT (R481, R493). -/
def execSeWait (eng : Fin 34) (s : State) : Host.Outcome State Fault Refusal :=
  .next (s.issue eng InstrClass.repeating (fun s => .ok (s.modEngine eng (fun e => { e with waiting := true, waitAt := s.now, issue := e.issue + 5 }))))

/-- ILLEGAL_OPCODE: an undefined opcode or code is executed (R481, R502). -/
def execSeIllegalOpcode (eng : Fin 34) (s : State) : Host.Outcome State Fault Refusal :=
  .next (s.issue eng InstrClass.plain (fun _ => .error illegalOpcode))

end Sys2Proof.Machine
end

