-- ==== Sys2Proof/Machine/Serve.lean ====
section
/-! DEFINITION. The object server (R60 to R83, R109 to R117, R916): the operations of KOA, the segmented sessions and snapshots, the
bearers, the cache and the responses. -/

namespace Sys2Proof.Machine

open Sys2Proof

/-- What the server answers a request with: the state after it, the status, the payload of an OK or of a status that has one, and the
values that apply after the response. -/
structure Answer where
  st      : State
  status  : Status
  payload : List Byte
  later   : List (ObjDesc × Nat × List Byte)

/-- A refused request. -/
def State.fail (s : State) (x : Status) : Answer := ⟨s, x, [], []⟩

/-- A request answered OK. -/
def State.done (s : State) (payload : List Byte) : Answer := ⟨s, .ok, payload, []⟩

/-! ### Descriptor (R73) -/

/-- TYPE of R73. -/
def ObjType.code : ObjType → Nat
  | .bool => 1 | .u8 => 2 | .u16 => 3 | .u32 => 4 | .u64 => 5 | .i16 => 6 | .i32 => 7 | .q16 => 8 | .str => 9 | .block => 10

/-- ACCESS of R73, bits [2:0]. -/
def Access.code : Access → Nat
  | .ro => 0 | .rw => 1 | .wo => 2 | .rws => 3 | .seal => 4

/-- A string in 24 bytes, padded with 0x20. -/
def nameBytes (n : String) : List Byte := ((n.toList.map (fun c => BitVec.ofNat 8 c.toNat)) ++ fill 24 0x20).take 24

/-- MNEMONIC of an object: the dictionary's name, or that of the manifest's entry. -/
def State.mnemonic (s : State) (d : ObjDesc) (k : Nat) : List Byte :=
  match (imgEntries s.activeImage).find? (fun e => isUserKernel s.kernel && manifestKey e == k) with
  | some e => (e.drop 32).take 24
  | none => nameBytes d.name

/-- MAXLEN of R73. -/
def ObjDesc.maxLen (d : ObjDesc) : Nat := if d.isBlk then d.hi.toNat else typeSize d.ty

/-- The array starts at subindex 0x01 (R59); distinct objects at several subindices are scalars. -/
def ObjDesc.base1 (d : ObjDesc) : Bool := decide (1 < d.count) && d.base == 1

/-- The objects whose default the tables give as from NVM, from OTP, from straps, retained, at boot, at release or at reset. -/
def fromDevice (index : Nat) : Bool :=
  [0x1002, 0x1003, 0x1004, 0x1010, 0x1012, 0x1014, 0x1022, 0x1030, 0x1032, 0x1050, 0x1051, 0x1052, 0x1054, 0x1055, 0x1160, 0x1230, 0x2320, 0x23B0, 0x23B1,
   0x2820, 0x2821, 0x2C02, 0x2C10, 0x2C11, 0x2D04].contains index

/-- DEFAULT of an object as DESCRIBE reports it: the default length of a BLOCK; of an object that the device fills from NVM, OTP,
the straps or the boot, what it holds (DEDUCED, log entry 67). -/
def State.dfltOf (s : State) (d : ObjDesc) (k : Nat) : Int :=
  if fromDevice (k / 256) then (if d.isBlk then ((s.readForm d k).length : Int) else decodeValue d.ty (s.readForm d k))
  else if k = Obj.SEQ_EPOCH then s.get Obj.SEQ_EPOCH_INIT
  else match s.defaultVal d k with | .scalar v => v | .block _ => d.dflt

/-- The highest value of an element: AXIS_MODE of axis B has 0 to 2 (object table of chapter 03). -/
def elemHi (d : ObjDesc) (k : Nat) : Int := if k = Obj.AXIS_MODE + 1 then 2 else d.hi

/-- The descriptor of R73. -/
def State.describe (s : State) (d : ObjDesc) (k : Nat) : List Byte :=
  let f := fun (v : Int) => beBytes 8 (unsigned 64 v)
  beBytes 1 d.ty.code ++ beBytes 1 (d.access.code + 8 * b2n d.live + 16 * b2n d.base1) ++ beBytes 2 d.count ++ beBytes 4 d.maxLen ++
    f (s.dfltOf d k) ++ f d.lo ++ f (elemHi d k) ++ s.mnemonic d k

/-! ### Reads and writes of one object (R74 to R78) -/

/-- READ (R17, R74, R78): a BLOCK whose least length is beyond the bearer's payload need not be looked at; a write-only one reads as a
value of length 0. -/
def State.koaRead (s : State) (max : Nat) (d : ObjDesc) (k : Nat) (payload : List Byte) : Answer :=
  if !payload.isEmpty then s.fail .length
  else if d.isBlk && d.access != .wo && decide (max < d.lo.toNat) then s.fail .tooLarge
  else
    let v := s.readForm d k
    if max < v.length then s.fail .tooLarge else s.done v

/-- The handle that answers the write of a job's key does not fit the bearer's payload: nothing starts (R64, R85, R750). -/
def State.handleTooLarge (s : State) (max : Nat) (d : ObjDesc) (k : Nat) (bs : List Byte) : Bool :=
  !d.isBlk && decide (max < 2) && (s.jobOf k (decodeValue d.ty bs).toNat).isSome

/-- What a value whose length does not fit is refused with: LENGTH, unless the life cycle bars it before (R65). -/
def State.lengthChecks (s : State) (k : Nat) (bs : List Byte) : List Status :=
  statusIf (k == Obj.KEY_PROGRAM && !bs.isEmpty && !keySlotOpen s.lifecycle (beAt bs 0 1)) .lifecycle ++ [.length]

/-- The statuses of a write of one value. -/
def State.writeStatus (s : State) (max : Nat) (d : ObjDesc) (k : Nat) (bs : List Byte) : Status :=
  firstStatus (s.accessChecks d ++
    (if !d.fits bs.length || decide (max < bs.length) then s.lengthChecks k bs
     else s.valueChecks d k bs ++ statusIf (s.handleTooLarge max d k bs) .tooLarge) ++
    statusIf (s.inSession k) .inUse ++ statusIf (s.shadowed d k) .state)

/-- A value takes effect at once, or after the response. -/
def State.accept (s : State) (d : ObjDesc) (k : Nat) (bs : List Byte) (origin tag : Nat) : Answer :=
  if isDeferred k then ⟨s, .ok, [], [(d, k, bs)]⟩
  else (let p := s.applyValue d k bs origin tag; ⟨p.1, .ok, p.2, []⟩)

/-- WRITE (R74, R85). -/
def State.koaWrite (s : State) (max : Nat) (d : ObjDesc) (k : Nat) (bs : List Byte) (origin tag : Nat) : Answer :=
  let st := s.writeStatus max d k bs
  if st = .ok then s.accept d k bs origin tag else (s.refused d k bs st).fail st

/-- WRITE_IF (R77): it compares and writes in one step; on BLOCK and STRING objects it is no operation. -/
def State.koaWriteIf (s : State) (d : ObjDesc) (k : Nat) (payload : List Byte) (origin tag : Nat) : Answer :=
  let n := typeSize d.ty
  if d.isBlk then s.fail .badOpcode
  else if payload.length ≠ 2 * n then s.fail (firstStatus (s.lengthChecks k payload ++ s.accessChecks d))
  else
    let new := payload.drop n
    let differs := s.liveValue d k != decodeValue d.ty (payload.take n)
    let st := firstStatus (s.accessChecks d ++ s.valueChecks d k new ++ statusIf differs .mismatch ++
      statusIf (s.inSession k) .inUse ++ statusIf (s.shadowed d k) .state)
    if st = .ok then { s.accept d k new origin tag with payload := [] }
    else if st = .mismatch then ⟨s, st, s.readForm d k, []⟩
    else (s.refused d k new st).fail st

/-! ### Ranges (R59, R63, R76) -/

/-- The count n of a range: 0 stands for 256. -/
def rangeCount (b : Nat) : Nat := if b = 0 then 256 else b

/-- The elements of a range. -/
def State.rangeObjects (s : State) (index sub n : Nat) : List (Option ObjDesc) :=
  (List.range n).map (fun i => s.objectAt index (sub + i))

/-- An element whose length can vary. -/
def variable_ (o : Option ObjDesc) : Bool :=
  match o with | some d => d.elemSize.isNone | none => false

/-- What a range of elements is refused with. -/
def State.rangeChecks (s : State) (index : Nat) (os : List (Option ObjDesc)) : List Status :=
  statusIf (os.any variable_) .badOpcode ++ statusIf (os.any (fun o => o.isNone)) (s.missing index)

/-- READ_RANGE (R76): all elements in one step. -/
def State.koaReadRange (s : State) (max index sub : Nat) (payload : List Byte) : Answer :=
  let os := s.rangeObjects index sub (if payload.length = 1 then rangeCount (beNat payload) else 1)
  let st := firstStatus (s.rangeChecks index os ++ statusIf (payload.length != 1) .length)
  if st ≠ .ok then s.fail st
  else
    let size := (os.map (fun o => (o.map (·.readSize)).getD 0)).sum
    if max < size then s.fail .tooLarge
    else s.done ((os.zip (List.range os.length)).flatMap (fun p =>
      match p.1 with | some d => s.readForm d (index * 256 + sub + p.2) | none => []))

/-- The values of a range with their objects and keys, in subindex order. -/
def rangeValues : Nat → List ObjDesc → List Byte → List (ObjDesc × Nat × List Byte)
  | _, [], _ => []
  | k, d :: ds, bs => let n := d.elemSize.getD 0; (d, k, bs.take n) :: rangeValues (k + 1) ds (bs.drop n)

/-- A value stands in the store for the checks of the others (R76). -/
def State.hold (s : State) (x : ObjDesc × Nat × List Byte) : State :=
  if x.1.isBlk then s.setBlk x.2.1 (normBlock x.2.1 x.2.2) else s.set x.2.1 (normScalar x.2.1 (decodeValue x.1.ty x.2.2))

/-- The values of a range are written one after the other; those that apply after the response are kept. -/
def State.acceptAll (s : State) (vs : List (ObjDesc × Nat × List Byte)) (origin tag : Nat) : Answer :=
  vs.foldl (fun (a : Answer) v =>
    let b := a.st.accept v.1 v.2.1 v.2.2 origin tag
    ⟨b.st, .ok, [], a.later ++ b.later⟩) (s.done [])

/-- What each value of a range is refused with, judged beside the others. -/
def State.rangeStatuses (s : State) (vs : List (ObjDesc × Nat × List Byte)) : List (List Status) :=
  let t := vs.foldl State.hold s
  vs.map (fun v => s.accessChecks v.1 ++ t.valueChecks v.1 v.2.1 v.2.2 ++ statusIf (s.inSession v.2.1) .inUse ++
    statusIf (s.shadowed v.1 v.2.1) .state)

/-- Each refused value has the side effects that its rules name. -/
def State.refuseAll (s : State) (vs : List (ObjDesc × Nat × List Byte)) (ss : List (List Status)) : State :=
  (vs.zip ss).foldl (fun (s : State) p => s.refused p.1.1 p.1.2.1 p.1.2.2 (firstStatus p.2)) s

/-- WRITE_RANGE (R64, R76): all or none. -/
def State.koaWriteRange (s : State) (max index sub : Nat) (payload : List Byte) (origin tag : Nat) : Answer :=
  let os := s.rangeObjects index sub (if payload.isEmpty then 1 else rangeCount (beAt payload 0 1))
  let ds := os.filterMap id
  let size := (ds.map (fun d => d.elemSize.getD 0)).sum
  let st := firstStatus (s.rangeChecks index os ++ ds.flatMap s.accessChecks ++
    statusIf (payload.length != size + 1 || decide (max < payload.length)) .length)
  if st ≠ .ok then s.fail st
  else
    let vs := rangeValues (index * 256 + sub) ds (payload.drop 1)
    let ss := s.rangeStatuses vs
    let jobs := (vs.filter (fun v => (s.jobOf v.2.1 (beNat v.2.2)).isSome)).length
    let st := firstStatus (ss.flatten ++ statusIf (decide ((jobSlots.filter (fun n => (s.job n).state == .free)).length < jobs)) .busy)
    if st = .ok then s.acceptAll vs origin tag
    else if st = .outOfRange then
      ⟨s.refuseAll vs ss, st, beBytes 1 (sub + ss.findIdx (fun l => l.contains .outOfRange)), []⟩
    else (s.refuseAll vs ss).fail st

/-! ### Segmented transfer (R81 to R83) -/

/-- The owner's session or snapshot on the object has closed by timeout. -/
def State.hasExpired (s : State) (req : Requester) (k : Nat) : Bool := s.koa.expired.any (fun e => e.1 == req && e.2 == k)

/-- The owner's next segment request has been told so. -/
def State.tellExpired (s : State) (req : Requester) (k : Nat) : State :=
  { s with koa := { s.koa with expired := s.koa.expired.filter (fun e => !(e.1 == req && e.2 == k)) } }

/-- The owner's snapshot of the object. -/
def State.snapshot (s : State) (req : Requester) (k : Nat) : Option Snapshot :=
  s.koa.snapshots.find? (fun x => x.owner == req && x.key == k)

/-- A snapshot replaces the owner's earlier one of the object. -/
def State.putSnapshot (s : State) (x : Snapshot) : State :=
  { s with koa := { s.koa with
    snapshots := s.koa.snapshots.filter (fun y => !(y.owner == x.owner && y.key == x.key)) ++ [x] } }

/-- READ_SEG (R82). A bearer whose payload is shorter than the total length of 4 bytes gets TOO_LARGE and no snapshot (R64, R750). -/
def State.koaReadSeg (s : State) (req : Requester) (max : Nat) (d : ObjDesc) (k : Nat) (payload : List Byte) : Answer :=
  let off := beAt payload 0 4
  let old := s.snapshot req k
  let gone := s.hasExpired req k
  let full := old.isNone && (decide (8 ≤ s.koa.snapshots.length) || !s.ddrHas ddrSessions)
  let st := firstStatus (statusIf (d.ty != .block) .notBlock ++ statusIf (payload.length != 6) .length ++ statusIf gone .expired ++
    statusIf (!gone && off != 0 && old.isNone) .sequence ++ statusIf (off == 0 && full) .noResource)
  if st = .expired then (s.tellExpired req k).fail st
  else if st ≠ .ok then s.fail st
  else if max < 4 then s.fail .tooLarge
  else
    let data := match old, off with
      | some x, _ + 1 => x.data
      | _, _ => s.liveBlock d k
    (s.putSnapshot ⟨req, k, data, s.now⟩).done
      (beBytes 4 data.length ++ (data.drop off).take (min (beAt payload 4 2) (max - 4)))

/-- The session that is open on the object. -/
def State.session (s : State) (k : Nat) : Option WriteSession := s.koa.sessions.find? (fun x => x.key == k)

/-- The session on an object closes. -/
def State.dropSession (s : State) (k : Nat) : State :=
  { s with koa := { s.koa with sessions := s.koa.sessions.filter (fun x => x.key != k) } }

/-- A further session has room: in recovery one of FW_IMAGE only (R850). -/
def State.sessionRoom (s : State) (k : Nat) : Bool :=
  if s.reset_.phase = .recovery then k == Obj.FW_IMAGE && s.koa.sessions.isEmpty
  else decide (s.koa.sessions.length < 4) && s.ddrHas ddrSessions

/-- A length that the owner's validation refuses is OUT_OF_RANGE at the end of a session (R81). -/
def Status.ofWhole (x : Status) : Status := if x = .length then .outOfRange else x

/-- The whole value of a session meets the owner's validation, and takes effect (R81). -/
def State.koaWhole (s : State) (d : ObjDesc) (k : Nat) (bs : List Byte) (origin tag : Nat) : Answer :=
  let st := firstStatus ((s.valueChecks d k bs).map Status.ofWhole ++ statusIf (s.shadowed d k) .state)
  if st = .ok then s.accept d k bs origin tag else (s.refused d k bs st).fail st

/-- What a segment is refused with. -/
def State.segStatus (s : State) (req : Requester) (max : Nat) (d : ObjDesc) (k : Nat) (last : Bool) (payload : List Byte) : Status :=
  let off := beAt payload 0 4
  let total := off + (payload.length - 4)
  let x := s.session k
  let own := match x with | some y => y.owner == req | none => false
  let got := match x with | some y => if own then y.data.length else 0 | none => 0
  let gone := s.hasExpired req k
  firstStatus (statusIf (d.ty != .block) .notBlock ++ s.accessChecks d ++
    statusIf (decide (payload.length < 4) || decide (max < payload.length)) .length ++
    statusIf (last && !d.fits total) .outOfRange ++ statusIf (x.isSome && !own) .inUse ++
    statusIf (!gone && off != got) .sequence ++ statusIf gone .expired ++
    statusIf (x.isNone && !gone && !s.sessionRoom k) .noResource)

/-- WRITE_SEG (R81). -/
def State.koaWriteSeg (s : State) (req : Requester) (max : Nat) (d : ObjDesc) (k : Nat) (last : Bool) (payload : List Byte)
    (origin tag : Nat) : Answer :=
  let st := s.segStatus req max d k last payload
  let own := match s.session k with | some y => y.owner == req | none => false
  if st = .ok then
    let data := ((s.session k).map (·.data)).getD [] ++ payload.drop 4
    let s := s.dropSession k
    if last then s.koaWhole d k data origin tag
    else ({ s with koa := { s.koa with sessions := s.koa.sessions ++ [(⟨req, k, data, s.now⟩ : WriteSession)] } }).done []
  else if st = .expired then (s.tellExpired req k).fail st
  else if own && (st = .outOfRange || st = .sequence) then (s.dropSession k).fail st
  else s.fail st

/-- A whole value that is longer than one PDU: a session from its first segment to its last (R78, R81). -/
def State.koaLong (s : State) (req : Requester) (d : ObjDesc) (k : Nat) (bs : List Byte) (origin tag : Nat) : Answer :=
  let gone := s.hasExpired req k
  let st := firstStatus (statusIf (d.ty != .block) .notBlock ++ s.accessChecks d ++ statusIf (!d.fits bs.length) .outOfRange ++
    statusIf (s.inSession k) .inUse ++ statusIf gone .expired ++ statusIf (!s.sessionRoom k) .noResource)
  if st = .ok then s.koaWhole d k bs origin tag else if st = .expired then (s.tellExpired req k).fail st else s.fail st

/-! ### A request -/

/-- The header of a PDU (R61). -/
def pduVer (pdu : List Byte) : Nat := beAt pdu 0 1 / 16 % 8
def pduOp (pdu : List Byte) : Nat := beAt pdu 0 1 % 16
def pduTag (pdu : List Byte) : Nat := beAt pdu 1 1
def pduIndex (pdu : List Byte) : Nat := beAt pdu 2 2
def pduSub (pdu : List Byte) : Nat := beAt pdu 4 1
def pduFlags (pdu : List Byte) : Nat := beAt pdu 5 1
def pduLen (pdu : List Byte) : Nat := beAt pdu 6 2
def pduBody (pdu : List Byte) : List Byte := pdu.drop 8

/-- The largest payload of a bearer (R67, R750). -/
def State.maxPayload (s : State) (b : Bearer) : Nat :=
  match b with
  | .i3c => min 256 (s.i3c.mrl - 8)
  | .can => if s.get Obj.CAN_MODE = 1 then 1024 else 56
  | .e0 => 1024
  | .e1 => 1024

/-- A request of a known operation to one object. -/
def State.koaObject (s : State) (req : Requester) (pdu : List Byte) (d : ObjDesc) : Answer :=
  let k := pduIndex pdu * 256 + pduSub pdu
  let body := pduBody pdu
  let max := s.maxPayload req.bearer
  match pduOp pdu with
  | 1 => s.koaRead max d k body
  | 2 => s.koaWrite max d k body req.bearer.origin (pduTag pdu)
  | 5 => s.koaReadSeg req max d k body
  | 6 => s.koaWriteSeg req max d k (natBit (pduFlags pdu) 0) body req.bearer.origin (pduTag pdu)
  | 7 => s.koaWriteIf d k body req.bearer.origin (pduTag pdu)
  | _ => if body.isEmpty then s.done (s.describe d k) else s.fail .length

/-- A request is checked and executed (R61 to R65). -/
def State.koaExec (s : State) (req : Requester) (pdu : List Byte) : Answer :=
  let body := pduBody pdu
  let op := pduOp pdu
  let max := s.maxPayload req.bearer
  if pduVer pdu ≠ 1 then s.fail .badVersion
  else if pduLen pdu ≠ body.length ∨ 2 ≤ pduFlags pdu then s.fail .malformed
  else if op = 0 ∨ 10 ≤ op then s.fail .badOpcode
  else if op = 9 then (if body.isEmpty then s.done [] else s.fail .length)
  else if op = 3 then s.koaReadRange max (pduIndex pdu) (pduSub pdu) body
  else if op = 4 then s.koaWriteRange max (pduIndex pdu) (pduSub pdu) body req.bearer.origin (pduTag pdu)
  else match s.objectAt (pduIndex pdu) (pduSub pdu) with
    | none => s.fail (s.missing (pduIndex pdu))
    | some d => s.koaObject req pdu d

/-! ### Responses (R61, R64, R66 to R72, R79, R80) -/

/-- The response PDU of a request. -/
def koaResponse (pdu : List Byte) (st : Status) (payload : List Byte) : List Byte :=
  beBytes 1 (0x90 + pduOp pdu) ++ (pdu.drop 1).take 4 ++ beBytes 1 st.code ++ beBytes 2 payload.length ++ payload

/-- A response that would not fit is replaced (R750). -/
def fitted (max : Nat) (st : Status) (payload : List Byte) : Status × List Byte :=
  if max < payload.length then (.tooLarge, []) else (st, payload)

/-- The status of a response. -/
def responseStatus (r : List Byte) : Nat := beAt r 5 1

/-- A response is counted (R64, R66): KOA_REQUESTS, KOA_ERRORS and event 0x166. -/
def State.countResponse (s : State) (r : List Byte) : State :=
  let st := responseStatus r
  let s := s.count Obj.KOA_REQUESTS
  let s := if st = 0 then s else s.count Obj.KOA_ERRORS
  if st = 0x0F ∨ st = 0x10 ∨ st = 0x11 then s.raise 0x166 0 else s

/-- When a response to a request of now is queued (R70, R79): within 50 µs, and 1 µs a KiB more at the end of a session; not before
the responses to earlier requests of the bearer. -/
def State.responseTime (s : State) (b : Bearer) (pdu : List Byte) : Time :=
  let own := s.now + Config.responseDelay s.freeCtr % 50001 + (if pduOp pdu = 6 ∧ natBit (pduFlags pdu) 0 then us ((beAt pdu 8 4 + (pdu.length - 12)) / 1024) else 0)
  ((s.koa.outstanding.filter (fun x => x.1 == b)).map (·.2)).foldl max own

/-- The requests of a bearer that are not answered yet. -/
def State.waitingOn (s : State) (b : Bearer) : Nat :=
  (s.koa.outstanding.filter (fun x => x.1 == b && decide (s.now < x.2))).length

/-- The limit of outstanding requests (R67). -/
def Bearer.limit : Bearer → Nat
  | .i3c => 1 | .can => 4 | .e0 => 16 | .e1 => 16

/-- A response leaves on its network. -/
def State.sendResponse (s : State) (req : Requester) (r : List Byte) : State :=
  match req.bearer with
  | .can => s.sendCan (s.getN Obj.KOA_CAN_RSP_ID) .koaResponse r
  | .e0 => s.sendUdp 0 req.addr req.port .koaResponse r
  | .e1 => s.sendUdp 1 req.addr req.port .koaResponse r
  | .i3c => s

/-- The cache keeps the last 16 responses of each bearer (R80). -/
def State.cacheAdd (s : State) (e : CacheEntry) : State :=
  let mine := s.koa.cache.filter (fun x => x.owner.bearer == e.owner.bearer)
  let rest := s.koa.cache.filter (fun x => x.owner.bearer != e.owner.bearer)
  { s with koa := { s.koa with cache := rest ++ (mine ++ [e]).drop (mine.length + 1 - 16) } }

/-- The cached response to an exact retransmission within 1 s (R80). -/
def State.cached (s : State) (req : Requester) (pdu : List Byte) : Option (List Byte) :=
  ((s.koa.cache.reverse.find? (fun e => e.owner == req && e.request == pdu && decide (s.now < e.at_ + sec 1)))).map (·.response)

/-- The request is outstanding until its response is queued. -/
def State.holdRequest (s : State) (b : Bearer) (pdu : List Byte) : State :=
  let t := s.responseTime b pdu
  { s with
    freeCtr := s.freeCtr + 1
    koa := { s.koa with outstanding := s.koa.outstanding.filter (fun x => decide (s.now < x.2)) ++ [(b, t)] } }

/-- A RESET_REQUEST that the request brought counts its 1 ms from the instant at which its response is queued (R874). -/
def State.resetFrom (s old : State) (t : Time) : State :=
  match old.reset_.requestAt, s.reset_.requestAt with
  | none, some _ => { s with reset_ := { s.reset_ with requestAt := some t } }
  | _, _ => s

/-- A network's response: sent, counted and, unless BUSY, cached. -/
def State.netRespond (s : State) (req : Requester) (pdu r : List Byte) : State :=
  let s := (s.sendResponse req r).countResponse r
  if responseStatus r = Status.busy.code then s else s.cacheAdd ⟨req, pdu, r, s.now⟩

/-- The values that wait for the response take effect (R71). -/
def State.applyLater (s : State) (l : List (ObjDesc × Nat × List Byte)) : State :=
  l.foldl (fun s v => (s.applyValue v.1 v.2.1 v.2.2 0 0).1) s

/-- A kept value takes effect. -/
def State.applyKept (s : State) (k : Nat) (bs : List Byte) : State :=
  match s.descOf k with
  | some d => (s.applyValue d k bs 0 0).1
  | none => s

/-- Every response of a bearer has left: nothing waits for the network, and no frame is on the wire (R71, R680). -/
def State.bearerIdle (s : State) (b : Bearer) : Bool :=
  match b with
  | .i3c => true
  | .can => s.net.canQueue.isEmpty
  | .e0 => (s.waitingFrames 0).isEmpty && s.wireIdle 0
  | .e1 => (s.waitingFrames 1).isEmpty && s.wireIdle 1

/-- What applies after a response on a network: at once when it has left, else it is kept until it has (R71, R684, R689). -/
def State.applyAfter (s : State) (b : Bearer) (l : List (ObjDesc × Nat × List Byte)) : State :=
  if s.bearerIdle b then s.applyLater l
  else { s with net := { s.net with held := s.net.held ++ l.map (fun v => (b, v.2.1, v.2.2)) } }

/-- The kept values whose bearer's responses have left take effect (R71). -/
def State.applyHeld (s : State) : State :=
  let due := s.net.held.filter (fun x => s.bearerIdle x.1)
  if due.isEmpty then s
  else due.foldl (fun s x => s.applyKept x.2.1 x.2.2) { s with net := { s.net with held := s.net.held.filter (fun x => !s.bearerIdle x.1) } }

/-- The response place of I3C is emptied: the values that wait for its response take effect (R71), also where the response was never
sent whole (DESIGN CHOICE, log entry 70). -/
def State.applyI3cLater (s : State) : State :=
  s.i3c.later.foldl (fun s v => s.applyKept v.1 v.2) { s with i3c := { s.i3c with later := [] } }

/-- The answer to a request as a response PDU. -/
def Answer.response (a : Answer) (max : Nat) (pdu : List Byte) : List Byte :=
  let p := fitted max a.status a.payload
  koaResponse pdu p.1 p.2

/-- A request on a network (R68, R80). At the bearer's limit it is answered BUSY before the cache and before the PDU is examined
(DESIGN CHOICE, log entry 70). -/
def State.netServe (s : State) (req : Requester) (pdu : List Byte) (run : State → Answer) : State :=
  if req.bearer.limit ≤ s.waitingOn req.bearer then s.netRespond req pdu (koaResponse pdu .busy [])
  else match s.cached req pdu with
    | some r => (s.holdRequest req.bearer pdu).netRespond req pdu r
    | none =>
      let a := run s
      (((a.st.resetFrom s (a.st.responseTime req.bearer pdu)).holdRequest req.bearer pdu).netRespond req pdu (a.response (s.maxPayload req.bearer) pdu)).applyAfter req.bearer a.later

/-- The read source that a command of R753 selects. -/
def State.setSource (s : State) (x : ReadSource) : State := { s with i3c := { s.i3c with source := x } }

/-- A PDU brought by I3C came with KOA_REQUEST, whose read source is the KOA response (R753). -/
def State.selectKoa (s : State) (b : Bearer) (pdu : List Byte) : State :=
  if b = .i3c ∧ 8 ≤ pdu.length then s.setSource .koa else s

/-- A further request on I3C is answered BUSY; that response waits behind the outstanding one, and replaces one that waits (R757). -/
def State.i3cBusy (s : State) (pdu : List Byte) : State :=
  let r := koaResponse pdu .busy []
  let s := if s.i3c.busyResponse.isSome then s.count Obj.KOA_DISCARDS else s
  ({ s with i3c := { s.i3c with source := .koa, busyResponse := some r } }).countResponse r

/-- A request on I3C (R70, R71, R756): its response waits in the response place, and is ready within 50 µs; what applies after the
response applies when the place is emptied. -/
def State.i3cServe (s : State) (pdu : List Byte) (run : State → Answer) : State :=
  if s.i3c.response.isSome then s.i3cBusy pdu
  else
    let a := run s
    let r := a.response (s.maxPayload .i3c) pdu
    let t := a.st.responseTime .i3c pdu
    let s := (a.st.resetFrom s t).countResponse r
    { s with freeCtr := s.freeCtr + 1, i3c := { s.i3c with
      source := .koa, response := some (r, t), ibiResponse := true, later := a.later.map (fun v => (v.2.1, v.2.2)) } }

/-- The bearer's bit of KOA_BEARER_ENABLE is set. -/
def State.bearerEnabled (s : State) (b : Bearer) : Bool :=
  match b with
  | .i3c => true
  | .can => natBit (s.getN Obj.KOA_BEARER_ENABLE) 1
  | .e0 => natBit (s.getN Obj.KOA_BEARER_ENABLE) 2
  | .e1 => natBit (s.getN Obj.KOA_BEARER_ENABLE) 3

/-- The bearer brings requests: I3C from the start of firmware or of recovery and with a dynamic address, the networks once the
stored objects apply (R684, R749, R850, R916). -/
def State.bearerOpen (s : State) (b : Bearer) : Bool :=
  match b with
  | .i3c => (s.reset_.phase == .recovery || s.reset_.phase == .firmware || s.running) && s.get Obj.I3C_DYN_ADDR != 0
  | .can => s.running && s.canUp
  | .e0 => s.running && s.portUp 0
  | .e1 => s.running && s.portUp 1

/-- A PDU that is discarded without a response (R66). -/
def pduDiscarded (pdu : List Byte) : Bool := decide (pdu.length < 8) || natBit (beAt pdu 0 1) 7

/-- A PDU arrives at the object server from a requester (R66, R67, R916); what it runs is given. -/
def State.koaServe (s : State) (req : Requester) (pdu : List Byte) (run : State → Answer) : State :=
  if !s.bearerOpen req.bearer then s
  else if pduDiscarded pdu || !s.bearerEnabled req.bearer then (s.selectKoa req.bearer pdu).count Obj.KOA_DISCARDS
  else if req.bearer = .i3c then s.i3cServe pdu run
  else s.netServe req pdu run

/-- A received PDU. -/
def State.koaPdu (s : State) (req : Requester) (pdu : List Byte) : State := s.koaServe req pdu (fun s => s.koaExec req pdu)

/-- The PDU of a request (R61). -/
def pduOf (op : Nat) (h : KoaHdr) (payload : List Byte) : List Byte :=
  beBytes 1 (h.ver % 8 * 16 + op) ++ beBytes 1 h.tag ++ beBytes 2 h.index ++ beBytes 1 h.sub ++ beBytes 1 h.flags ++ beBytes 2 h.len ++
    payload

/-- A request for one object in good form. -/
def requestPdu (op tag k flags : Nat) (payload : List Byte) : List Byte :=
  pduOf op ⟨1, tag, k / 256, k % 256, flags, payload.length⟩ payload

/-- A write of a value to an object: one WRITE, or a segmented session where the value is longer than a PDU (R78). The session stands
as one WRITE_SEG with all of its bytes, which an exact retransmission repeats (R80, R116). -/
def State.koaWriteOf (s : State) (req : Requester) (tag k : Nat) (bs : List Byte) : State :=
  if bs.length ≤ s.maxPayload req.bearer then s.koaPdu req (requestPdu 2 tag k 0 bs)
  else s.koaServe req (requestPdu 6 tag k 1 (beBytes 4 0 ++ bs)) (fun s =>
    match s.objectAt (k / 256) (k % 256) with
    | none => s.fail (s.missing (k / 256))
    | some d => s.koaLong req d k bs req.bearer.origin tag)

/-- A write of a scalar in the size of its object. -/
def State.koaSet (s : State) (req : Requester) (tag k : Nat) (v : Int) : State :=
  s.koaWriteOf req tag k (match s.descOf k with | some d => encodeValue d.ty v | none => [])

end Sys2Proof.Machine
end

