-- ==== Sys2Proof/Machine/Requests.lean ====
section
/-! DEFINITION. The commands that bring a request to the object server: KOA's operations (R63, R66) and the writes of objects that have
a row of their own. Each hands its PDU to the one server; what the write does stands with its block. -/

namespace Sys2Proof.Machine

open Sys2Proof

/-! ### KOA's operations -/

/-- KOA_READ: one value, sampled at one instant (R74, R75, R78). -/
def execKoaRead (req : Requester) (h : KoaHdr) (payload : List Byte) (s : State) : Host.Outcome State Fault Refusal :=
  .next (s.koaPdu req (pduOf 1 h payload))

/-- KOA_WRITE: the value is checked and applied whole (R74, R78). -/
def execKoaWrite (req : Requester) (h : KoaHdr) (payload : List Byte) (s : State) : Host.Outcome State Fault Refusal :=
  .next (s.koaPdu req (pduOf 2 h payload))

/-- KOA_READ_RANGE: n elements in one step (R76). -/
def execKoaReadRange (req : Requester) (h : KoaHdr) (payload : List Byte) (s : State) : Host.Outcome State Fault Refusal :=
  .next (s.koaPdu req (pduOf 3 h payload))

/-- KOA_WRITE_RANGE: n elements, all or none (R76). -/
def execKoaWriteRange (req : Requester) (h : KoaHdr) (payload : List Byte) (s : State) : Host.Outcome State Fault Refusal :=
  .next (s.koaPdu req (pduOf 4 h payload))

/-- KOA_READ_SEG: a snapshot and its parts (R82). -/
def execKoaReadSeg (req : Requester) (h : KoaHdr) (payload : List Byte) (s : State) : Host.Outcome State Fault Refusal :=
  .next (s.koaPdu req (pduOf 5 h payload))

/-- KOA_WRITE_SEG: a session and its segments (R81). -/
def execKoaWriteSeg (req : Requester) (h : KoaHdr) (payload : List Byte) (s : State) : Host.Outcome State Fault Refusal :=
  .next (s.koaPdu req (pduOf 6 h payload))

/-- KOA_WRITE_IF: compare and write in one step (R77). -/
def execKoaWriteIf (req : Requester) (h : KoaHdr) (payload : List Byte) (s : State) : Host.Outcome State Fault Refusal :=
  .next (s.koaPdu req (pduOf 7 h payload))

/-- KOA_DESCRIBE: the descriptor of an object (R73). -/
def execKoaDescribe (req : Requester) (h : KoaHdr) (payload : List Byte) (s : State) : Host.Outcome State Fault Refusal :=
  .next (s.koaPdu req (pduOf 8 h payload))

/-- KOA_NOP: answered OK with no payload (R63). -/
def execKoaNop (req : Requester) (h : KoaHdr) (payload : List Byte) (s : State) : Host.Outcome State Fault Refusal :=
  .next (s.koaPdu req (pduOf 9 h payload))

/-- KOA_UNASSIGNED_OPCODE: opcode 0x0 or 0xA to 0xF, answered BAD_OPCODE (R63). -/
def execKoaUnassignedOpcode (req : Requester) (op : Fin 16) (h : KoaHdr) (payload : List Byte) (s : State) : Host.Outcome State Fault Refusal :=
  if op.val = 0 ∨ 10 ≤ op.val then .next (s.koaPdu req (pduOf op h payload)) else .next s

/-- KOA_PDU_DISCARD: a PDU shorter than 8 bytes or with RSP set is discarded without a response (R66). -/
def execKoaPduDiscard (req : Requester) (pdu : List Byte) (s : State) : Host.Outcome State Fault Refusal :=
  if pduDiscarded pdu then .next (s.koaPdu req pdu) else .next s

/-- The response place is empty; a waiting BUSY response takes it (R757), and what waited for the response applies (R71), also where the
10 ms or RSTACT took the response away (DESIGN CHOICE, log entry 70). -/
def State.emptyResponse (s : State) : State :=
  let s := s.applyI3cLater
  { s with i3c := { s.i3c with
    response := s.i3c.busyResponse.map (fun r => (r, s.now)), busyResponse := none, ibiResponse := s.i3c.busyResponse.isSome } }

/-- KOA_I3C_RESPONSE_TIMEOUT: a response that has been ready for 10 ms is discarded and counted (R72). -/
def execKoaI3cResponseTimeout  (s : State) : Host.Outcome State Fault Refusal :=
  match s.i3c.response with
  | some r => if reached s.now r.2 (ms 10) then .next (s.emptyResponse.count Obj.KOA_DISCARDS) else .next s
  | none => .next s

/-- A session or snapshot has had no segment request for 100 ms. -/
def segmentIdle (now last : Time) : Bool := reached now last (ms 100)

/-- SEGMENT_EXPIRED: the owner's session or snapshot on an object closes by timeout; event 0x165 (R83). -/
def execSegmentExpired (owner : Requester) (key : Nat) (s : State) : Host.Outcome State Fault Refusal :=
  let w := s.koa.sessions.filter (fun x => x.owner == owner && x.key == key && segmentIdle s.now x.last)
  let r := s.koa.snapshots.filter (fun x => x.owner == owner && x.key == key && segmentIdle s.now x.last)
  if w.isEmpty && r.isEmpty then .next s
  else
    let s := { s with koa := { s.koa with
      sessions := s.koa.sessions.filter (fun x => !w.contains x), snapshots := s.koa.snapshots.filter (fun x => !r.contains x) } }
    .next ((s.loseSegments owner key).raise 0x165 0)

/-! ### Scalar writes -/

/-- STORE_ALL: the key starts a job and returns its handle (R85, R86). -/
def execStoreAll (req : Requester) (tag : Nat) (value : Nat) (s : State) : Host.Outcome State Fault Refusal :=
  .next (s.koaSet req tag Obj.STORE_ALL value)

/-- STORE_CAL: the key starts a job that writes the older calibration bank (R85, R94). -/
def execStoreCal (req : Requester) (tag : Nat) (value : Nat) (s : State) : Host.Outcome State Fault Refusal :=
  .next (s.koaSet req tag Obj.STORE_CAL value)

/-- RESTORE_DEFAULTS: the key starts a job that writes a restore record (R85, R92). -/
def execRestoreDefaults (req : Requester) (tag : Nat) (value : Nat) (s : State) : Host.Outcome State Fault Refusal :=
  .next (s.koaSet req tag Obj.RESTORE_DEFAULTS value)

/-- JOB_ACK: the slot of a finished job returns to FREE (R98). -/
def execJobAck (req : Requester) (tag : Nat) (value : Nat) (s : State) : Host.Outcome State Fault Refusal :=
  .next (s.koaSet req tag Obj.JOB_ACK value)

/-- JOB_ABORT: a waiting or an abortable running job ends (R99). -/
def execJobAbort (req : Requester) (tag : Nat) (value : Nat) (s : State) : Host.Outcome State Fault Refusal :=
  .next (s.koaSet req tag Obj.JOB_ABORT value)

/-- FREEWHEEL_LIMIT_WRITE (R149). -/
def execFreewheelLimitWrite (req : Requester) (tag : Nat) (value : Nat) (s : State) : Host.Outcome State Fault Refusal :=
  .next (s.koaSet req tag Obj.FREEWHEEL_LIMIT value)

/-- CUE_COMMIT: the staged list is submitted (R192 to R194). -/
def execCueCommit (req : Requester) (tag : Nat) (value : Nat) (s : State) : Host.Outcome State Fault Refusal :=
  .next (s.koaSet req tag Obj.CUE_COMMIT value)

/-- CUE_CAPTURE: the active bank is copied into CUE_BOOT (R197). -/
def execCueCapture (req : Requester) (tag : Nat) (value : Nat) (s : State) : Host.Outcome State Fault Refusal :=
  .next (s.koaSet req tag Obj.CUE_CAPTURE value)

/-- SEQ_EPOCH_INIT_WRITE (R219). -/
def execSeqEpochInitWrite (req : Requester) (tag : Nat) (value : Nat) (s : State) : Host.Outcome State Fault Refusal :=
  .next (s.koaSet req tag Obj.SEQ_EPOCH_INIT value)

/-- ZONE_DIAG_CLEAR: one zone or all of them (R279). -/
def execZoneDiagClear (req : Requester) (tag : Nat) (value : Nat) (s : State) : Host.Outcome State Fault Refusal :=
  .next (s.koaSet req tag Obj.ZONE_DIAG_CLEAR value)

/-- TRIP_TEST: the key trips (R306). -/
def execTripTest (req : Requester) (tag : Nat) (value : Nat) (s : State) : Host.Outcome State Fault Refusal :=
  .next (s.koaSet req tag Obj.TRIP_TEST value)

/-- SEAL_COMMIT (R335). -/
def execSealCommit (req : Requester) (tag : Nat) (value : Nat) (s : State) : Host.Outcome State Fault Refusal :=
  .next (s.koaSet req tag Obj.SEAL_COMMIT value)

/-- LOCKOUT_RESET (R338). -/
def execLockoutReset (req : Requester) (tag : Nat) (value : Nat) (s : State) : Host.Outcome State Fault Refusal :=
  .next (s.koaSet req tag Obj.LOCKOUT_RESET value)

/-- KERNEL_SELECT (R506). -/
def execKernelSelect (req : Requester) (tag : Nat) (value : Nat) (s : State) : Host.Outcome State Fault Refusal :=
  .next (s.koaSet req tag Obj.KERNEL_SELECT value)

/-- CAL_ONLINE_WRITE (R610). -/
def execCalOnlineWrite (req : Requester) (tag : Nat) (value : Nat) (s : State) : Host.Outcome State Fault Refusal :=
  .next (s.koaSet req tag Obj.CAL_ONLINE value)

/-- HK_INJECT: an injected conversion is requested (R644). -/
def execHkInject (req : Requester) (tag : Nat) (value : Nat) (s : State) : Host.Outcome State Fault Refusal :=
  .next (s.koaSet req tag Obj.HK_INJECT value)

/-- CLOCK_INCREMENT_WRITE (R661). -/
def execClockIncrementWrite (req : Requester) (tag : Nat) (value : Nat) (s : State) : Host.Outcome State Fault Refusal :=
  .next (s.koaSet req tag Obj.CLOCK_INCREMENT value)

/-- TIME_SOURCE_WRITE (R677). -/
def execTimeSourceWrite (req : Requester) (tag : Nat) (value : Nat) (s : State) : Host.Outcome State Fault Refusal :=
  .next (s.koaSet req tag Obj.TIME_SOURCE value)

/-- CAN_AUTO_RECOVER_WRITE (R688). -/
def execCanAutoRecoverWrite (req : Requester) (tag : Nat) (value : Nat) (s : State) : Host.Outcome State Fault Refusal :=
  .next (s.koaSet req tag Obj.CAN_AUTO_RECOVER value)

/-- EYE_SCAN: the write starts a job (R730). -/
def execEyeScan (req : Requester) (tag : Nat) (value : Nat) (s : State) : Host.Outcome State Fault Refusal :=
  .next (s.koaSet req tag Obj.EYE_SCAN value)

/-- EVENT_ACK clears pending bits (R773). -/
def execEventAck (req : Requester) (tag : Nat) (value : Nat) (s : State) : Host.Outcome State Fault Refusal :=
  .next (s.koaSet req tag Obj.EVENT_ACK value)

/-- PAIR_HANDOVER (R805). -/
def execPairHandover (req : Requester) (tag : Nat) (value : Nat) (s : State) : Host.Outcome State Fault Refusal :=
  .next (s.koaSet req tag Obj.PAIR_HANDOVER value)

/-- RECORD_RESOLVE (R842). -/
def execRecordResolve (req : Requester) (tag : Nat) (value : Nat) (s : State) : Host.Outcome State Fault Refusal :=
  .next (s.koaSet req tag Obj.RECORD_RESOLVE value)

/-- KEY_REVOKE (R844). -/
def execKeyRevoke (req : Requester) (tag : Nat) (value : Nat) (s : State) : Host.Outcome State Fault Refusal :=
  .next (s.koaSet req tag Obj.KEY_REVOKE value)

/-- FW_COMMIT: the key starts the firmware update job (R851). -/
def execFwCommit (req : Requester) (tag : Nat) (value : Nat) (s : State) : Host.Outcome State Fault Refusal :=
  .next (s.koaSet req tag Obj.FW_COMMIT value)

/-- SVN_COMMIT raises MIN_SVN (R851). -/
def execSvnCommit (req : Requester) (tag : Nat) (value : Nat) (s : State) : Host.Outcome State Fault Refusal :=
  .next (s.koaSet req tag Obj.SVN_COMMIT value)

/-- SELFTEST_START: the bit map starts a job (R853). -/
def execSelftestStart (req : Requester) (tag : Nat) (value : Nat) (s : State) : Host.Outcome State Fault Refusal :=
  .next (s.koaSet req tag Obj.SELFTEST_START value)

/-- NVM_VERIFY: the region map starts a job (R854). -/
def execNvmVerify (req : Requester) (tag : Nat) (value : Nat) (s : State) : Host.Outcome State Fault Refusal :=
  .next (s.koaSet req tag Obj.NVM_VERIFY value)

/-- TRACE_CTRL_WRITE (R856). -/
def execTraceCtrlWrite (req : Requester) (tag : Nat) (value : Nat) (s : State) : Host.Outcome State Fault Refusal :=
  .next (s.koaSet req tag Obj.TRACE_CTRL value)

/-- RESET_REQUEST: the reset follows 1 ms after the response (R874). -/
def execResetRequest (req : Requester) (tag : Nat) (value : Nat) (s : State) : Host.Outcome State Fault Refusal :=
  .next (s.koaSet req tag Obj.RESET_REQUEST value)

/-- SEQ_CTRL_START (R200, R201). -/
def execSeqCtrlStart (req : Requester) (tag : Nat) (s : State) : Host.Outcome State Fault Refusal :=
  .next (s.koaSet req tag Obj.SEQ_CTRL 1)

/-- SEQ_CTRL_STOP (R202). -/
def execSeqCtrlStop (req : Requester) (tag : Nat) (s : State) : Host.Outcome State Fault Refusal :=
  .next (s.koaSet req tag Obj.SEQ_CTRL 2)

/-- CAL_START_TDC (R608). -/
def execCalStartTdc (req : Requester) (tag : Nat) (s : State) : Host.Outcome State Fault Refusal :=
  .next (s.koaSet req tag Obj.CAL_START 1)

/-- CAL_START_THRESHOLD (R608). -/
def execCalStartThreshold (req : Requester) (tag : Nat) (s : State) : Host.Outcome State Fault Refusal :=
  .next (s.koaSet req tag Obj.CAL_START 2)

/-- CAL_START_RANGE_OFFSET (R588, R602). -/
def execCalStartRangeOffset (req : Requester) (tag : Nat) (s : State) : Host.Outcome State Fault Refusal :=
  .next (s.koaSet req tag Obj.CAL_START 3)

/-- TIME_RESTEP_TO_GPTP (R667). -/
def execTimeRestepToGptp (req : Requester) (tag : Nat) (s : State) : Host.Outcome State Fault Refusal :=
  .next (s.koaSet req tag Obj.TIME_RESTEP 1)

/-- TIME_RESTEP_TO_TIME_SET (R667). -/
def execTimeRestepToTimeSet (req : Requester) (tag : Nat) (s : State) : Host.Outcome State Fault Refusal :=
  .next (s.koaSet req tag Obj.TIME_RESTEP 2)

/-- HOST_LOCKED_SET (R918). -/
def execHostLockedSet (req : Requester) (tag : Nat) (s : State) : Host.Outcome State Fault Refusal :=
  .next (s.koaSet req tag Obj.HOST_LOCKED 1)

/-- HOST_LOCKED_CLEAR (R918). -/
def execHostLockedClear (req : Requester) (tag : Nat) (s : State) : Host.Outcome State Fault Refusal :=
  .next (s.koaSet req tag Obj.HOST_LOCKED 0)

/-- EV_BANK_LEVEL_WRITE: a bank's thresholds switch (R121). -/
def execEvBankLevelWrite (req : Requester) (tag : Nat) (bank : Fin 2) (value : Nat) (s : State) : Host.Outcome State Fault Refusal :=
  .next (s.koaSet req tag (Obj.EV_BANK_LEVEL + bank) value)

/-- SE_ENABLE_WRITE (R505). -/
def execSeEnableWrite (req : Requester) (tag : Nat) (eng : Fin 32) (value : Nat) (s : State) : Host.Outcome State Fault Refusal :=
  .next (s.koaSet req tag (Obj.SE_ENABLE + eng) value)

/-- LANE_MODE_WRITE (R705). -/
def execLaneModeWrite (req : Requester) (tag : Nat) (lane : Fin 8) (value : Nat) (s : State) : Host.Outcome State Fault Refusal :=
  .next (s.koaSet req tag (Obj.LANE_MODE + lane) value)

/-- PRBS_GEN_WRITE: a write of PRBS_CTRL (R733, R734). -/
def execPrbsGenWrite (req : Requester) (tag : Nat) (lane : Fin 8) (value : Nat) (s : State) : Host.Outcome State Fault Refusal :=
  .next (s.koaSet req tag (Obj.PRBS_CTRL + lane) value)

/-- PRBS_CHECK_WRITE: a write of PRBS_CTRL (R733, R734). -/
def execPrbsCheckWrite (req : Requester) (tag : Nat) (lane : Fin 8) (value : Nat) (s : State) : Host.Outcome State Fault Refusal :=
  .next (s.koaSet req tag (Obj.PRBS_CTRL + lane) value)

/-- LANE_LOOP_WRITE (R733, R735). -/
def execLaneLoopWrite (req : Requester) (tag : Nat) (lane : Fin 8) (value : Nat) (s : State) : Host.Outcome State Fault Refusal :=
  .next (s.koaSet req tag (Obj.LANE_LOOP + lane) value)

/-! ### Writes of one of several objects: of another object the command is none -/

/-- AXIS_CONFIG_WRITE: AXIS_MODE, ENC_LINES, ENC_FORMAT, AXIS_INPUT, CUE_AXIS, FACETS or FACET_OFFSET (R125). -/
def execAxisConfigWrite (req : Requester) (tag : Nat) (key : Nat) (value : Nat) (s : State) : Host.Outcome State Fault Refusal :=
  if axisConfigKey key then .next (s.koaSet req tag key value) else .next s

/-- The objects of R364. -/
def threshKey (k : Nat) : Bool := k / 256 == Obj.THRESH_LO / 256 || k / 256 == Obj.THRESH_HI / 256 || k == Obj.RX_HYST

/-- The objects of R443 and the pool that R444 checks them against. -/
def mrevWriteKey (k : Nat) : Bool := mrevKey k || k == Obj.MREV_POOL

/-- EXTRINSICS and BEAM_TABLE (R556, R557). -/
def extrinsicsKey (k : Nat) : Bool := k == Obj.EXTRINSICS || k == Obj.BEAM_TABLE

/-- The objects of 0x1100 to 0x110B (R684). -/
def portKey (k : Nat) : Bool := decide (0x1100 ≤ k / 256) && decide (k / 256 ≤ 0x110B)

/-- KLP_WIDTH and BOND_RATE (R728). -/
def bondKey (k : Nat) : Bool := k == Obj.KLP_WIDTH || k / 256 == Obj.BOND_RATE / 256

/-- EVENT_MASK and EVENT_ROUTE (R774). -/
def maskKey (k : Nat) : Bool := k == Obj.EVENT_MASK || k == Obj.EVENT_ROUTE

/-- THRESH_WRITE (R364). -/
def execThreshWrite (req : Requester) (tag : Nat) (key : Nat) (value : List Byte) (s : State) : Host.Outcome State Fault Refusal :=
  if threshKey key then .next (s.koaWriteOf req tag key value) else .next s

/-- RX_ENABLE_WRITE (R382). -/
def execRxEnableWrite (req : Requester) (tag : Nat) (key : Nat) (value : List Byte) (s : State) : Host.Outcome State Fault Refusal :=
  if key / 256 == Obj.RX_ENABLE / 256 then .next (s.koaWriteOf req tag key value) else .next s

/-- MREV_CONFIG_WRITE (R443, R444). -/
def execMrevConfigWrite (req : Requester) (tag : Nat) (key : Nat) (value : List Byte) (s : State) : Host.Outcome State Fault Refusal :=
  if mrevWriteKey key then .next (s.koaWriteOf req tag key value) else .next s

/-- EXTRINSICS_WRITE (R556, R557). -/
def execExtrinsicsWrite (req : Requester) (tag : Nat) (key : Nat) (value : List Byte) (s : State) : Host.Outcome State Fault Refusal :=
  if extrinsicsKey key then .next (s.koaWriteOf req tag key value) else .next s

/-- GPTP_CONFIG_WRITE (R677). -/
def execGptpConfigWrite (req : Requester) (tag : Nat) (key : Nat) (value : List Byte) (s : State) : Host.Outcome State Fault Refusal :=
  if gptpKey key then .next (s.koaWriteOf req tag key value) else .next s

/-- PORT_CONFIG_WRITE (R684). -/
def execPortConfigWrite (req : Requester) (tag : Nat) (key : Nat) (value : List Byte) (s : State) : Host.Outcome State Fault Refusal :=
  if portKey key then .next (s.koaWriteOf req tag key value) else .next s

/-- CAN_CONFIG_WRITE (R689). -/
def execCanConfigWrite (req : Requester) (tag : Nat) (key : Nat) (value : List Byte) (s : State) : Host.Outcome State Fault Refusal :=
  if canKey key then .next (s.koaWriteOf req tag key value) else .next s

/-- BOND_CONFIG_WRITE (R728). -/
def execBondConfigWrite (req : Requester) (tag : Nat) (key : Nat) (value : List Byte) (s : State) : Host.Outcome State Fault Refusal :=
  if bondKey key then .next (s.koaWriteOf req tag key value) else .next s

/-- EVENT_MASK_WRITE (R774). -/
def execEventMaskWrite (req : Requester) (tag : Nat) (key : Nat) (value : List Byte) (s : State) : Host.Outcome State Fault Refusal :=
  if maskKey key then .next (s.koaWriteOf req tag key value) else .next s

/-! ### BLOCK writes -/

/-- CUE_BOOT_WRITE (R196). -/
def execCueBootWrite (req : Requester) (tag : Nat) (value : List Byte) (s : State) : Host.Outcome State Fault Refusal :=
  .next (s.koaWriteOf req tag Obj.CUE_BOOT value)

/-- CODE_FAMILY_WRITE (R416). -/
def execCodeFamilyWrite (req : Requester) (tag : Nat) (value : List Byte) (s : State) : Host.Outcome State Fault Refusal :=
  .next (s.koaWriteOf req tag Obj.CODE_FAMILY value)

/-- KEY_PROGRAM (R844). -/
def execKeyProgram (req : Requester) (tag : Nat) (value : List Byte) (s : State) : Host.Outcome State Fault Refusal :=
  .next (s.koaWriteOf req tag Obj.KEY_PROGRAM value)

/-- IDENTITY_SET (R840). -/
def execIdentitySet (req : Requester) (tag : Nat) (value : List Byte) (s : State) : Host.Outcome State Fault Refusal :=
  .next (s.koaWriteOf req tag Obj.IDENTITY_SET value)

/-- LIFECYCLE_REQUEST (R846). -/
def execLifecycleRequest (req : Requester) (tag : Nat) (value : List Byte) (s : State) : Host.Outcome State Fault Refusal :=
  .next (s.koaWriteOf req tag Obj.LIFECYCLE_REQUEST value)

/-- LIVE_MAP_WRITE (R761). -/
def execLiveMapWrite (req : Requester) (tag : Nat) (value : List Byte) (s : State) : Host.Outcome State Fault Refusal :=
  .next (s.koaWriteOf req tag Obj.LIVE_MAP value)

/-- GEAR_TABLE_WRITE (R413, R414). -/
def execGearTableWrite (req : Requester) (tag : Nat) (group : Nat) (value : List Byte) (s : State) : Host.Outcome State Fault Refusal :=
  .next (s.koaWriteOf req tag (Obj.GEAR_TABLE + group % 4) value)

/-! ### The cue window (R190) -/

/-- A CUE_WINDOW value: OP, 0x00, FIRST, COUNT, 0x0000 and the entries. -/
def windowValue (op first count : Nat) (cues : List Byte) : List Byte :=
  beBytes 1 op ++ [0] ++ beBytes 2 first ++ beBytes 2 count ++ [0, 0] ++ cues

/-- CUE_WINDOW_WRITE (R190, R191). -/
def execCueWindowWrite (req : Requester) (tag : Nat) (first : Nat) (count : Nat) (cues : List Byte) (s : State) : Host.Outcome State Fault Refusal :=
  .next (s.koaWriteOf req tag Obj.CUE_WINDOW (windowValue 1 first count cues))

/-- CUE_WINDOW_INSERT (R190, R191). -/
def execCueWindowInsert (req : Requester) (tag : Nat) (first : Nat) (count : Nat) (cues : List Byte) (s : State) : Host.Outcome State Fault Refusal :=
  .next (s.koaWriteOf req tag Obj.CUE_WINDOW (windowValue 2 first count cues))

/-- CUE_WINDOW_DELETE (R190, R191). -/
def execCueWindowDelete (req : Requester) (tag : Nat) (first : Nat) (count : Nat) (s : State) : Host.Outcome State Fault Refusal :=
  .next (s.koaWriteOf req tag Obj.CUE_WINDOW (windowValue 3 first count []))

/-- CUE_WINDOW_CLEAR (R190, R191). -/
def execCueWindowClear (req : Requester) (tag : Nat) (s : State) : Host.Outcome State Fault Refusal :=
  .next (s.koaWriteOf req tag Obj.CUE_WINDOW (windowValue 4 0 0 []))

/-! ### The interleave trim -/

/-- FC_TRIM: a write of FC_TRIM by a requester, or the trim that a move of die sensor 16 makes due while SEQ_STATE is not RUNNING (R650). -/
def execFcTrim (write : Option Requester) (tag : Nat) (value : Nat) (s : State) : Host.Outcome State Fault Refusal :=
  match write with
  | some req => .next (s.koaSet req tag Obj.FC_TRIM value)
  | none => if s.running && s.trimDue && s.seq.state != .running && s.hk.trimAt.isNone then .next s.startTrim else .next s

end Sys2Proof.Machine
end

