-- ==== Sys2Proof/Machine/Frames.lean ====
section
/-! DEFINITION. Frames that arrive and digests that leave: Ethernet and CAN frames (R679 to R690), frames of the bonds (R720), the
OBJECT frames and the resync of a pair (R798, R799, R803), the dailies (R570, R571) and the trace snapshots (R857). -/

namespace Sys2Proof.Machine

open Sys2Proof

/-! ### Ethernet (R679 to R681) -/

/-- The gPTP address, and the broadcast address. -/
def gptpMac : Nat := 0x0180C200000E
def broadcastMac : Nat := 0xFFFFFFFFFFFF

/-- The multicast addresses of MCAST_FILTER. -/
def filterMacs (bs : List Byte) : List Nat := (List.range (bs.length / 6)).map (fun i => beAt bs (6 * i) 6)

/-- The MAC takes frames to an address (R679). -/
def State.macTakes (s : State) (p dst : Nat) : Bool :=
  dst == s.getN (Obj.MAC_ADDR + p) || dst == broadcastMac || dst == gptpMac ||
    (filterMacs (s.getBlk (Obj.MCAST_FILTER + p))).contains dst

/-- Untagged frames and frames with the port's VLAN_ID are received (R679). -/
def State.tagTaken (s : State) (p : Nat) (tags : List Nat) : Bool :=
  match tags with
  | [] => true
  | [v] => v != 0 && v == s.getN (Obj.VLAN_ID + p)
  | _ => false

/-- The filter of the MAC takes the frame. -/
def State.frameTaken (s : State) (p : Nat) (f : EthFrame) : Bool :=
  decide (64 ≤ f.length) && decide (f.length ≤ 9022) && s.macTakes p f.dst && s.tagTaken p f.tags

/-- A neighbour's address is learnt when it is asked for, cached already, or asks for this port (R681). -/
def State.meet (s : State) (p a : Nat) (asked : Bool) : State :=
  if asked || s.isAsking p a || s.isResolved p a then s.learn p a else s

/-- A reply of address resolution leaves. -/
def State.answerResolve (s : State) (p dst : Nat) : State := s.transmit p (s.resolveFrame p dst)

/-- ARP (R681). -/
def State.arpFrame (s : State) (p : Nat) (request : Bool) (sender target : Nat) : State :=
  let mine := target != 0 && target == s.ownV4 p
  let s := s.meet p sender mine
  if request && mine then s.answerResolve p sender else s

/-- The requester of a port. -/
def netReq (p src sport : Nat) : Requester := ⟨if p = 0 then .e0 else .e1, src, sport⟩

/-- The meaning of one command inside another's. -/
def andThen (s : State) (f : State → Host.Outcome State Fault Refusal) : State :=
  match f s with
  | .next t => t
  | _ => s

/-- A SAFE_CMD copy goes to the bearer that the network is (R326, R328). -/
def State.safeCopy (s : State) (net : Nat) (data : List Byte) : State :=
  let s := if s.safeNet false = net then andThen s (execSafeCmdReceive 0 data) else s
  if s.safeNet true = net then andThen s (execSafeCmdReceive 1 data) else s

/-- A datagram goes to the service of its port: KOA, SAFE_CMD or the vehicle speed (R67, R326, R690). -/
def State.udpTo (s : State) (p src sport dport : Nat) (data : List Byte) : State :=
  if dport = s.getN Obj.KOA_UDP_PORT then s.koaPdu (netReq p src sport) data
  else if dport = s.getN Obj.SAFE_UDP_PORT then s.safeCopy (p + 1) data
  else if dport = s.getN Obj.EGO_UDP_PORT then andThen s (execEgoSpeedReceive 1 data)
  else s

/-- What an IP packet to the port brings (R681). -/
def State.ipPayload (s : State) (p : Nat) (x : IpPacket) : State :=
  match x.payload with
  | .echoRequest d => s.sendUdp p x.src 0 .icmp d
  | .solicitation t => if s.ownAddress p t && !isV4 t then (s.meet p x.src true).answerResolve p x.src else s
  | .advertisement t => s.meet p t false
  | .udp sport dport d => s.udpTo p x.src sport dport d
  | .other => s

/-- An IP packet (R681): a fragment or a packet with an extension header is discarded; checksums are checked. -/
def State.ipPacket (s : State) (p : Nat) (x : IpPacket) : State :=
  if x.split then s.count (Obj.RX_DISCARDS + p)
  else if !x.checksumOk || !(s.ownAddress p x.dst || groupAddress x.dst) then s
  else s.ipPayload p x

/-- ETH_FRAME_RECEIVE (R679, R681, R685): the frames of gPTP have commands of their own. -/
def execEthFrameReceive (port : Fin 2) (frame : EthFrame) (s : State) : Host.Outcome State Fault Refusal :=
  if !(s.running && s.portUp port) then .next s
  else if !frame.fcsOk then .next (s.count (Obj.RX_FCS_ERRORS + port))
  else if frame.body = .pause then .next (s.count (Obj.PAUSE_RX + port))
  else if !s.frameTaken port frame then .next (s.count (Obj.RX_DISCARDS + port))
  else
    let s := s.count (Obj.RX_FRAMES + port)
    match frame.body with
    | .arp q a t => .next (s.arpFrame port q a t)
    | .ip x => .next (s.ipPacket port x)
    | .gptp => .next s
    | .pause => .next s
    | .other => .next s

/-! ### CAN (R686, R687, R690, R703) -/

/-- CAN_FRAME_RECEIVE: a KOA request first, then a SAFE_CMD copy, then a speed frame; classical frames carry a speed only. -/
def execCanFrameReceive (frame : CanFrame) (s : State) : Host.Outcome State Fault Refusal :=
  if !(s.running && s.canTakes frame) then .next s
  else
    let long := frame.format != .classic
    let s := if long && frame.id == s.getN Obj.KOA_CAN_REQ_ID then s.koaPdu ⟨.can, 0, 0⟩ frame.data else s
    let s := if long && frame.id == s.getN Obj.SAFE_CAN_CMD_ID then s.safeCopy 0 frame.data else s
    if frame.id = s.getN Obj.EGO_CAN_ID then .next (andThen s (execEgoSpeedReceive 0 frame.data)) else .next s

/-! ### OBJECT frames and the resync (R798, R799, R803) -/

/-- A mirrored value is applied as if it had been received on KOA: what that refuses is left out. -/
def State.mirrored (s : State) (d : ObjDesc) (k : Nat) (bs : List Byte) : State :=
  let st := firstStatus (s.accessChecks d ++ (if !d.fits bs.length then [.length] else s.valueChecks d k bs) ++
    statusIf (s.inSession k) .inUse)
  if st = .ok then (s.applyValue d k bs 0 0).1 else s.refused d k bs st

/-- The bytes received so far of a value. -/
def State.partialOf (s : State) (k : Nat) : List Byte := ((s.pair.partial_.find? (fun e => e.1 == k)).map (·.2)).getD []

/-- Keeps the bytes received so far. -/
def State.setPartial (s : State) (k : Nat) (bs : Option (List Byte)) : State :=
  let rest := s.pair.partial_.filter (fun e => e.1 != k)
  { s with pair := { s.pair with partial_ := match bs with | some b => rest ++ [(k, b)] | none => rest } }

/-- The value of an OBJECT frame with LAST takes effect, and counts for the resync. -/
def State.objectDone (s : State) (k : Nat) (bs : List Byte) : State :=
  let s := match s.descOf k with
    | some d => if isEmitterMirror k then s.takeEmitter k bs else if isMirrored d k then s.mirrored d k bs else s
    | none => s
  let got := if s.pair.gotObjects.contains k then s.pair.gotObjects else k :: s.pair.gotObjects
  ({ s with pair := { s.pair with gotObjects := got } }).checkResync

/-- An OBJECT frame: consecutive parts of a value; one that does not follow the part before it ends the value. -/
def State.objectFrame (s : State) (p : List Byte) : State :=
  let k := beAt p 0 3
  let off := beAt p 4 4
  let before := if off = 0 then [] else s.partialOf k
  let bs := before ++ p.drop 8
  if before.length ≠ off then s.setPartial k none
  else if natBit (beAt p 3 1) 0 then (s.setPartial k none).objectDone k bs
  else s.setPartial k (some bs)

/-- OBJECT_FRAME_RECEIVE: at least its 8-byte head, and at most 65,536 value bytes (R798). -/
def execObjectFrameReceive (payload : List Byte) (s : State) : Host.Outcome State Fault Refusal :=
  if !s.running then .next s
  else if payload.length < 8 ∨ 65544 < payload.length then .next (s.badFrame 1)
  else if s.isShadow then .next (s.objectFrame payload)
  else .next s

/-- The ACTIVE device sends every mirrored object, the trims and the zone statuses (R282), the cue list, the time and the account (R803). -/
def State.sendResync (s : State) : State :=
  let ds := mirroredObjects ++ s.kernelObjects ++ dictionary.filter (fun d => isEmitterMirror (d.index * 256 + d.base))
  let s := (ds.flatMap elemKeys).foldl (fun s x => s.sendObject x.2 (s.readForm x.1 x.2)) s
  let s := s.sendFarlu 0x14 (beBytes 2 s.seq.active.length ++ [0, 0] ++ cueBytes s.seq.active)
  (s.sendFarlu 0x15 s.timeFrame).sendAccount

/-- RESYNC_REQ_RECEIVE. -/
def execResyncReqReceive (payload : List Byte) (s : State) : Host.Outcome State Fault Refusal :=
  s.onFrame payload 8 (fun s => if s.pair.role = .active then s.sendResync else s)

/-! ### Frames of the bonds (R718, R720) -/

/-- The blocks of a frame with every FILL block removed (R714). -/
def frameContent (f : LaneFrame) : List FrameBlock := f.blocks.filter (fun x => !isFill x)

/-- The frame bytes: those of its data blocks. -/
def frameData (f : LaneFrame) : List Byte := ((frameContent f).filter (fun x => x.header == 1#2)).flatMap (·.bytes)

/-- The END block of a frame. -/
def frameEnd (f : LaneFrame) : Option FrameBlock :=
  (frameContent f).getLast?.filter (fun x => x.header == 2#2 && beAt x.bytes 0 1 == 0x44)

/-- ABORT and PAD of END (R712). -/
def frameAborted (f : LaneFrame) : Bool := (frameEnd f).any (fun x => natBit (beAt x.bytes 1 1) 7)
def framePad (f : LaneFrame) : Nat := ((frameEnd f).map (fun x => beAt x.bytes 1 1 % 8)).getD 0

/-- A block inside a frame is valid: data, or an ALIGN or STATUS block whose CRC-8 holds (R712, R717). -/
def blockInside (x : FrameBlock) : Bool :=
  x.header == 1#2 || (x.header == 2#2 && (beAt x.bytes 0 1 == 0x55 || beAt x.bytes 0 1 == 0x66) && x.bytes.getD 7 0 == crc8 (x.bytes.take 7))

/-- No block inside the frame is invalid, and END closes it (R720). -/
def blocksGood (f : LaneFrame) : Bool := (frameEnd f).isSome && (frameContent f).dropLast.all blockInside

/-- TYPE, LENGTH and payload of a received frame. -/
def frameType (f : LaneFrame) : Nat := beAt (frameData f) 0 1
def frameLength (f : LaneFrame) : Nat := beAt (frameData f) 4 3
def framePayload (f : LaneFrame) : List Byte := ((frameData f).drop 8).take (frameLength f)

/-- TYPE is one of the bond's: a Farlu frame of R798. -/
def typeValid (t : Nat) : Bool := decide (0x10 ≤ t) && decide (t ≤ 0x19)

/-- The frame passes the checks of R720. -/
def frameGood (f : LaneFrame) : Bool :=
  let bytes := frameData f
  blocksGood f && decide (8 ≤ bytes.length) && crc8 (bytes.take 7) == bytes.getD 7 0 && typeValid (frameType f) &&
    decide (1 ≤ frameLength f) && decide (frameLength f ≤ 262144) && bytes.length == 12 + frameLength f + framePad f &&
    beAt bytes (8 + frameLength f) 4 == crc32 (framePayload f)

/-- A Farlu frame goes to its reader (R798). -/
def State.farluFrame (s : State) (t : Nat) (p : List Byte) : Host.Outcome State Fault Refusal :=
  match t with
  | 0x10 => execHeartbeatReceive p s
  | 0x11 => execTakeFrameReceive p s
  | 0x12 => execSpokeSumReceive p s
  | 0x13 => execObjectFrameReceive p s
  | 0x14 => execCueFrameReceive p s
  | 0x15 => execTimeFrameReceive p s
  | 0x16 => execAccountFrameReceive p s
  | 0x17 => execEpochFrameReceive p s
  | 0x18 => execYieldFrameReceive p s
  | _ => execResyncReqReceive p s

/-- KLP_FRAME_RECEIVE: a frame on the KLP bond (0) is always discarded; one on the Farlu bond (1) is checked and passed on. A frame
that ended with ABORT is discarded uncounted (R720). -/
def execKlpFrameReceive (bond : Fin 2) (frame : LaneFrame) (s : State) : Host.Outcome State Fault Refusal :=
  if !s.running || (s.enabledLanes bond).isEmpty || frameAborted frame then .next s
  else if bond.val = 0 ∨ !frameGood frame then .next (s.badFrame bond)
  else s.farluFrame (frameType frame) (framePayload frame)

/-! ### Dailies (R570, R571) -/

/-- The value of an entry of DAILIES_LIST in its KOA form. -/
def State.dailyValue (s : State) (e : Nat × Nat) : List Byte :=
  match s.descOf e.1 with
  | some d => s.readForm d e.1
  | none => []

/-- The header of the digest with a CRC field. -/
def State.digestHeader (s : State) (n crc : Nat) : List Byte :=
  beBytes 4 (s.getN Obj.DAILIES_SEQ) ++ beBytes 4 s.time.sec ++ beBytes 2 (s.getN Obj.TIME_EPOCH) ++ beBytes 1 s.lifecycle ++
    beBytes 1 s.safety.state.code ++ beBytes 2 n ++ beBytes 2 crc

/-- The digest is assembled and queued at priority 0, exempt from R568; no queue holds it before the area of the queues is wiped (R42, R835),
nor on a SHADOW (R789). -/
def State.makeDigest (s : State) : State :=
  let es := listEntries (s.getBlk Obj.DAILIES_LIST)
  let vs := es.map s.dailyValue
  let head := s.digestHeader es.length (crc16 (s.digestHeader es.length 0 ++ vs.flatten))
  let dest := s.getN Obj.DAILIES_DEST
  let m : OutMessage := ⟨4, 0, 0, 0, head, vs, s.getN Obj.UDP_MAX_PAYLOAD⟩
  let s := s.setBlk Obj.DAILIES_LAST (head ++ vs.flatten)
  let s := if s.ddrHas ddrQueues && !s.isShadow then s.setOutQueue dest (s.outQueue dest ++ [m]) else s
  s.countWrap Obj.DAILIES_SEQ 1

/-- DAILIES_DIGEST: local nanoseconds have passed 0 into a second for which no digest has been assembled. -/
def execDailiesDigest (s : State) : Host.Outcome State Fault Refusal :=
  if s.running && s.get Obj.DAILIES_DEST != 0 && s.time.sec != s.pipe.dailyAt then
    .next ({ s with pipe := { s.pipe with dailyAt := s.time.sec } }).makeDigest
  else .next s

/-! ### Trace snapshots (R857) -/

/-- The snapshot record of an entry of DAILIES_LIST. -/
def State.snapRecord (s : State) (e : Nat × Nat) : List Byte :=
  let v := match s.descOf e.1 with | some d => unsigned 64 (s.liveValue d e.1) | none => 0
  beBytes 3 e.1 ++ [0] ++ beBytes 8 v ++ beBytes 4 s.time.ns

/-- TRACE_SNAPSHOT: every SNAP_PERIOD ms while class 25 is on. -/
def execTraceSnapshot (s : State) : Host.Outcome State Fault Refusal :=
  let period := s.getN Obj.TRACE_CTRL % 256
  if s.running && s.traceOn 25 && period != 0 && reached s.now s.mem.snapAt (ms period) then
    let es := listEntries (s.getBlk Obj.DAILIES_LIST)
    let s := { s with mem := { s.mem with snapAt := s.now } }
    .next (es.foldl (fun s e => s.traceSend 25 0 (s.snapRecord e)) s)
  else .next s

end Sys2Proof.Machine
end

