-- ==== Sys2Proof/Machine/I3c.lean ====
section
/-! DEFINITION. The I3C target (R748 to R770): private transfers, the live window, in-band interrupts and common command codes; and the
event datagrams (R771). -/

namespace Sys2Proof.Machine

open Sys2Proof

/-! ### Private writes (R749, R753) -/

/-- Private transfers are accepted: the device is out of reset and has a dynamic address (R749). -/
def State.i3cOn (s : State) : Bool := s.powered && s.get Obj.I3C_DYN_ADDR != 0

/-- A private write is discarded whole: I3C_ERRORS and PROTOCOL_ERROR; the read source stays (R753). -/
def State.discardWrite (s : State) : State :=
  let s := s.count Obj.I3C_ERRORS
  { s with i3c := { s.i3c with protocolError := true } }

/-- A KOA_REQUEST whose length the command and the maximum write length allow (R750, R753). -/
def State.requestFits (s : State) (pdu : List Byte) : Bool :=
  decide (8 ≤ pdu.length) && decide (pdu.length ≤ 264) && decide (pdu.length + 1 ≤ s.i3c.mwl)

/-- The requester of the I3C bearer. -/
def i3cReq : Requester := ⟨.i3c, 0, 0⟩

/-- KOA_REQUEST: command 0x01 hands a PDU to the object server. A PDU shorter than 8 bytes is discarded under R66 as well (R755). -/
def execKoaRequest (pdu : List Byte) (s : State) : Host.Outcome State Fault Refusal :=
  if !s.i3cOn then .next s
  else if s.requestFits pdu then .next ((s.setSource .koa).koaPdu i3cReq pdu)
  else if pdu.length < 8 then .next (s.discardWrite.count Obj.KOA_DISCARDS)
  else .next s.discardWrite

/-- LIVE_SELECT: command 0x02 (R753). -/
def execLiveSelect (half : Fin 512) (s : State) : Host.Outcome State Fault Refusal :=
  if s.i3cOn then .next (s.setSource (.live half)) else .next s

/-- EVENT_READ: command 0x03 (R753). -/
def execEventRead (s : State) : Host.Outcome State Fault Refusal :=
  if s.i3cOn then .next (s.setSource .events) else .next s

/-- I3C_WRITE_DISCARD: an unknown command, a length that is not allowed, a parity or CRC error (R753). -/
def execI3cWriteDiscard (_data : List Byte) (s : State) : Host.Outcome State Fault Refusal :=
  if s.i3cOn then .next s.discardWrite else .next s

/-! ### Live window (R758 to R762) -/

/-- The live status word (R762). -/
def State.liveStatus (s : State) : Nat :=
  (s.now - s.reset_.releasedAt) / 1000 % 2 ^ 32 * 2 ^ 32 + b2n s.i3c.torn * 2 ^ 31 + b2n s.i3c.mapChanged * 2 ^ 30 +
    b2n s.irqActive * 2 ^ 29 + b2n (!s.ev.ibiQueue.isEmpty) * 2 ^ 28 + s.eventSummary % 4096 * 2 ^ 12

/-- Word j of the live window: the object of entry j - 1 of LIVE_MAP, extended as in R73; 0 with no entry (R760). -/
def State.liveWord (s : State) (j : Nat) : Nat :=
  if j = 0 then s.liveStatus
  else match (listEntries (s.getBlk Obj.LIVE_MAP))[j - 1]? with
    | none => 0
    | some e =>
      match s.descOf e.1 with
      | some d => unsigned 64 (s.liveValue d e.1)
      | none => 0

/-- The low half of a word is read: the high half is latched, and a status word that is read loses TORN and MAP_CHANGED. -/
def State.readLow (s : State) (j : Nat) : Nat × State :=
  let w := s.liveWord j
  (w % 2 ^ 32, { s with i3c := { s.i3c with
    latch := some (j, w / 2 ^ 32), torn := s.i3c.torn && j != 0, mapChanged := s.i3c.mapChanged && j != 0 } })

/-- The high half of a word is read: the latch, or the current value with TORN (R759). -/
def State.readHigh (s : State) (j : Nat) : Nat × State :=
  match s.i3c.latch with
  | some (i, v) =>
    if i = j then (v, { s with i3c := { s.i3c with latch := none } })
    else (s.liveWord j / 2 ^ 32, ({ s with i3c := { s.i3c with latch := none, torn := true } }).count Obj.LIVE_TORN)
  | none => (s.liveWord j / 2 ^ 32, ({ s with i3c := { s.i3c with torn := true } }).count Obj.LIVE_TORN)

/-- One half is read. -/
def State.readHalf (s : State) (h : Nat) : Nat × State := if h % 2 = 0 then s.readLow (h / 2) else s.readHigh (h / 2)

/-- Successive halves of one read; half 0x1FF is followed by half 0x000 (R758). -/
def State.readHalves (s : State) : Nat → Nat → List Byte × State
  | 0, _ => ([], s)
  | n + 1, h =>
    let p := s.readHalf h
    let q := p.2.readHalves n ((h + 1) % 512)
    (beBytes 4 p.1 ++ q.1, q.2)

/-- What a private read returns, or the NACK of one. -/
def State.i3cAnswer (s : State) (kind : SentKind) (bs : List Byte) : State := s.send ⟨.i3c, kind, 0, 0, bs, noHead⟩

/-- LIVE_WINDOW_READ: a private read of some halves from the selected one, within the maximum read length (R750, R758). -/
def execLiveWindowRead (count : Nat) (s : State) : Host.Outcome State Fault Refusal :=
  match s.i3cOn, s.i3c.source with
  | true, .live h =>
    let p := s.readHalves (min count (s.i3c.mrl / 4)) h
    .next (p.2.i3cAnswer .live p.1)
  | _, _ => .next s

/-! ### The KOA response and the event queue (R756, R757, R770) -/

/-- The response that is ready. -/
def State.readyResponse (s : State) : Option (List Byte) :=
  match s.i3c.response with
  | some (r, t) => if t ≤ s.now then some r else none
  | none => none

/-- KOA_RESPONSE_READ: a private read of some bytes; the response is collected when its last byte is read (R756). -/
def execKoaResponseRead (count : Nat) (s : State) : Host.Outcome State Fault Refusal :=
  if !(s.i3cOn && s.i3c.source == .koa) then .next s
  else match s.readyResponse with
    | none => .next (s.i3cAnswer .nack [])
    | some r =>
      let s := s.i3cAnswer .koaResponse (r.take count)
      .next (if r.length ≤ count then s.emptyResponse else s)

/-- EVENT_QUEUE_READ: a private read of some records, oldest first, within the maximum read length; NACKed with the queue empty
(R750, R770). -/
def execEventQueueRead (count : Nat) (s : State) : Host.Outcome State Fault Refusal :=
  if !(s.i3cOn && s.i3c.source == .events) then .next s
  else if s.ev.ibiQueue.isEmpty then .next (s.i3cAnswer .nack [])
  else
    let n := min count (s.i3c.mrl / 16)
    let s1 := s.i3cAnswer .eventRecords (s.ev.ibiQueue.take n).flatten
    .next { s1 with ev := { s1.ev with ibiQueue := s1.ev.ibiQueue.drop n } }

/-- I3C_TRANSFER_TIMEOUT: 100 µs without an SCL edge inside a transfer (R751). -/
def execI3cTransferTimeout (s : State) : Host.Outcome State Fault Refusal :=
  if s.powered then .next (s.count Obj.I3C_ABANDONED) else .next s

/-! ### In-band interrupts (R769) -/

/-- IBIs are enabled by ENEC, and a dynamic address is assigned. -/
def State.ibiOn (s : State) : Bool := s.i3cOn && s.getB Obj.I3C_IBI_ENABLED

/-- IBI_REQUEST: at a bus-free condition a ready response is signalled before any record; an IBI that is NACKed or loses
arbitration stays due. -/
def execIbiRequest (acked : Bool) (s : State) : Host.Outcome State Fault Refusal :=
  if !s.ibiOn || !acked then .next s
  else if s.i3c.ibiResponse && s.readyResponse.isSome then
    .next (({ s with i3c := { s.i3c with ibiResponse := false } }).i3cAnswer .ibi [0x01])
  else match s.ev.ibiQueue with
    | [] => .next s
    | r :: rest =>
      if 17 ≤ s.i3c.ibiPayload then .next (({ s with ev := { s.ev with ibiQueue := rest } }).i3cAnswer .ibi (0x00 :: r))
      else if s.i3c.ibiShort then .next (({ s with i3c := { s.i3c with ibiShort := false } }).i3cAnswer .ibi [0x00])
      else .next s

/-! ### Common command codes (R748) -/

/-- A CCC is sent in SDR: HDR mode has been left. -/
def State.sdr (s : State) : State := { s with i3c := { s.i3c with hdr := false } }

/-- What a CCC does to a device that is out of reset. -/
def State.onCcc (s : State) (f : State → State) : Host.Outcome State Fault Refusal := if s.powered then .next (f s.sdr) else .next s

/-- ENEC enables IBIs. -/
def execEnec (s : State) : Host.Outcome State Fault Refusal := s.onCcc (fun s => s.set Obj.I3C_IBI_ENABLED 1)

/-- DISEC disables IBIs; records stay queued (R780). -/
def execDisec (s : State) : Host.Outcome State Fault Refusal := s.onCcc (fun s => s.set Obj.I3C_IBI_ENABLED 0)

/-- RSTDAA clears the dynamic address; the response stays (R781). -/
def execRstdaa (s : State) : Host.Outcome State Fault Refusal := s.onCcc (fun s => s.set Obj.I3C_DYN_ADDR 0)

/-- A dynamic address lies within 0x08 to 0x7D. -/
def dynOk (a : BitVec 7) : Bool := decide (0x08 ≤ a.toNat) && decide (a.toNat ≤ 0x7D)

/-- A dynamic address is assigned. -/
def State.assign (s : State) (a : BitVec 7) : State := if dynOk a then s.set Obj.I3C_DYN_ADDR a.toNat else s

/-- ENTDAA: a device without a dynamic address that wins the arbitration takes the address. -/
def execEntdaa (won : Bool) (address : BitVec 7) (s : State) : Host.Outcome State Fault Refusal :=
  s.onCcc (fun s => if won && s.get Obj.I3C_DYN_ADDR == 0 then s.assign address else s)

/-- SETDASA: the device of the static address takes a dynamic address if it has none. -/
def execSetdasa (staticAddr address : BitVec 7) (s : State) : Host.Outcome State Fault Refusal :=
  s.onCcc (fun s =>
    if staticAddr.toNat == s.getN Obj.I3C_STATIC_ADDR && s.get Obj.I3C_DYN_ADDR == 0 then s.assign address else s)

/-- SETNEWDA changes the dynamic address; the response stays (R781). -/
def execSetnewda (address : BitVec 7) (s : State) : Host.Outcome State Fault Refusal :=
  s.onCcc (fun s => if s.get Obj.I3C_DYN_ADDR == 0 then s else s.assign address)

/-- SETMWL sets the maximum write length, 9 to 265 bytes (R750). -/
def execSetmwl (length : Nat) (s : State) : Host.Outcome State Fault Refusal :=
  s.onCcc (fun s => if 9 ≤ length ∧ length ≤ 265 then { s with i3c := { s.i3c with mwl := length } } else s)

/-- The ready response no longer fits the maximum read length: STATUS TOO_LARGE takes its place (R750). -/
def State.refitResponse (s : State) : State :=
  match s.i3c.response with
  | none => s
  | some (r, t) =>
    if r.length ≤ s.i3c.mrl then s
    else
      let s := if responseStatus r = 0 then s.count Obj.KOA_ERRORS else s
      { s with i3c := { s.i3c with response := some (r.take 5 ++ beBytes 1 Status.tooLarge.code ++ [0, 0], t) } }

/-- SETMRL sets the maximum read length, 9 to 264 bytes, and the IBI payload size, 17 at most (R750). -/
def execSetmrl (length : Nat) (ibi : Option Nat) (s : State) : Host.Outcome State Fault Refusal :=
  s.onCcc (fun s =>
    let s := if 9 ≤ length ∧ length ≤ 264 then { s with i3c := { s.i3c with mrl := length } } else s
    let s := match ibi with
      | some n => { s with i3c := { s.i3c with ibiPayload := min n 17, ibiShort := s.i3c.ibiShort && decide (n < 17) } }
      | none => s
    s.refitResponse)

/-- GETMWL (R750). -/
def execGetmwl (s : State) : Host.Outcome State Fault Refusal := s.onCcc (fun s => s.i3cAnswer .ccc (beBytes 2 s.i3c.mwl))

/-- GETMRL (R750). -/
def execGetmrl (s : State) : Host.Outcome State Fault Refusal :=
  s.onCcc (fun s => s.i3cAnswer .ccc (beBytes 2 s.i3c.mrl ++ beBytes 1 s.i3c.ibiPayload))

/-- The provisional ID (R748): manufacturer, fixed value, part, instance and silicon revision. -/
def State.provisionalId (s : State) : Nat :=
  0x3A5D * 2 ^ 33 + 0x9680 * 2 ^ 16 + (b2n s.reset_.straps.sa1 * 8 + b2n s.reset_.straps.sa0 * 4) * 2 ^ 12 + 0x0B1

/-- GETPID. -/
def execGetpid (s : State) : Host.Outcome State Fault Refusal := s.onCcc (fun s => s.i3cAnswer .ccc (beBytes 6 s.provisionalId))

/-- GETBCR: 0x26. -/
def execGetbcr (s : State) : Host.Outcome State Fault Refusal := s.onCcc (fun s => s.i3cAnswer .ccc [0x26])

/-- GETDCR: 0x00. -/
def execGetdcr (s : State) : Host.Outcome State Fault Refusal := s.onCcc (fun s => s.i3cAnswer .ccc [0x00])

/-- The word of GETSTATUS (R751). -/
def State.i3cStatus (s : State) : Nat :=
  s.safety.state.code * 2 ^ 8 + b2n s.i3c.protocolError * 2 ^ 5 +
    (if s.readyResponse.isSome then 2 else if s.ev.ibiQueue.isEmpty then 0 else 1)

/-- GETSTATUS returns the status word and clears PROTOCOL_ERROR (R751). -/
def execGetstatus (s : State) : Host.Outcome State Fault Refusal :=
  s.onCcc (fun s => ({ s with i3c := { s.i3c with protocolError := false } }).i3cAnswer .ccc (beBytes 2 s.i3cStatus))

/-- An answer whose value the manual does not print: free (log entry 2). -/
def State.openAnswer (s : State) (n : Nat) : State :=
  let (v, s) := s.draw
  s.i3cAnswer .ccc (beBytes n v)

/-- GETMXDS: the maximum data speed, which R748 does not give. -/
def execGetmxds (s : State) : Host.Outcome State Fault Refusal := s.onCcc (fun s => s.openAnswer 2)

/-- GETCAPS: the capabilities, which R748 does not give. -/
def execGetcaps (s : State) : Host.Outcome State Fault Refusal := s.onCcc (fun s => s.openAnswer 4)

/-- ENTHDR0 enters HDR-DDR mode. -/
def execEnthdr0 (s : State) : Host.Outcome State Fault Refusal :=
  s.onCcc (fun s => { s with i3c := { s.i3c with hdr := true } })

/-- RSTACT with defining byte 0x00: no reset. -/
def execRstactNoReset (s : State) : Host.Outcome State Fault Refusal := s.onCcc (fun s => s)

/-- RSTACT 0x01 (R752): the dynamic address and the settings made by CCC are cleared, the response place and the IBI queue emptied
and the latch dropped; pending event bits stay. -/
def State.resetI3c (s : State) : State :=
  let s := (s.applyI3cLater.set Obj.I3C_DYN_ADDR 0).set Obj.I3C_IBI_ENABLED 0
  { s with
    i3c := { s.i3c with
      mwl := 265, mrl := 264, ibiPayload := 17, latch := none, response := none, busyResponse := none, hdr := false
      ibiResponse := false, ibiShort := false }
    ev := { s.ev with ibiQueue := [] } }

/-- RSTACT_RESET_I3C. -/
def execRstactResetI3c (s : State) : Host.Outcome State Fault Refusal := s.onCcc State.resetI3c

/-! ### Event datagrams (R771) -/

/-- EVENT_DATAGRAM_FLUSH: the datagram is queued 1 ms after its first record. -/
def execEventDatagramFlush (port : Fin 2) (s : State) : Host.Outcome State Fault Refusal :=
  let g := s.gathered (port.val == 1)
  if !g.records.isEmpty && reached s.now g.since (ms 1) then .next (s.flushEvents (port.val == 1)) else .next s

end Sys2Proof.Machine
end

