-- ==== Sys2Proof/Machine/Dispatch.lean ====
section
/-! DEFINITION. One arm for each command. -/

namespace Sys2Proof.Machine

open Sys2Proof

def exec (i : Instr) (s : State) : Host.Outcome State Fault Refusal :=
  match i with
  | .koaRead req h payload => Sys2Proof.Machine.execKoaRead req h payload s
  | .koaWrite req h payload => Sys2Proof.Machine.execKoaWrite req h payload s
  | .koaReadRange req h payload => Sys2Proof.Machine.execKoaReadRange req h payload s
  | .koaWriteRange req h payload => Sys2Proof.Machine.execKoaWriteRange req h payload s
  | .koaReadSeg req h payload => Sys2Proof.Machine.execKoaReadSeg req h payload s
  | .koaWriteSeg req h payload => Sys2Proof.Machine.execKoaWriteSeg req h payload s
  | .koaWriteIf req h payload => Sys2Proof.Machine.execKoaWriteIf req h payload s
  | .koaDescribe req h payload => Sys2Proof.Machine.execKoaDescribe req h payload s
  | .koaNop req h payload => Sys2Proof.Machine.execKoaNop req h payload s
  | .koaUnassignedOpcode req op h payload => Sys2Proof.Machine.execKoaUnassignedOpcode req op h payload s
  | .koaPduDiscard req pdu => Sys2Proof.Machine.execKoaPduDiscard req pdu s
  | .koaI3cResponseTimeout => Sys2Proof.Machine.execKoaI3cResponseTimeout s
  | .segmentExpired owner key => Sys2Proof.Machine.execSegmentExpired owner key s
  | .storeAll req tag value => Sys2Proof.Machine.execStoreAll req tag value s
  | .storeCal req tag value => Sys2Proof.Machine.execStoreCal req tag value s
  | .restoreDefaults req tag value => Sys2Proof.Machine.execRestoreDefaults req tag value s
  | .jobAck req tag value => Sys2Proof.Machine.execJobAck req tag value s
  | .jobAbort req tag value => Sys2Proof.Machine.execJobAbort req tag value s
  | .jobStep input => Sys2Proof.Machine.execJobStep input s
  | .jobRetentionExpiry slot => Sys2Proof.Machine.execJobRetentionExpiry slot s
  | .nvmProgramDone ok => Sys2Proof.Machine.execNvmProgramDone ok s
  | .nvmEraseDone ok => Sys2Proof.Machine.execNvmEraseDone ok s
  | .nvmWearLevelErase => Sys2Proof.Machine.execNvmWearLevelErase s
  | .clockFault clock => Sys2Proof.Machine.execClockFault clock s
  | .clockRecovered clock => Sys2Proof.Machine.execClockRecovered clock s
  | .spokePllStable => Sys2Proof.Machine.execSpokePllStable s
  | .evRawTransition input level tap => Sys2Proof.Machine.execEvRawTransition input level tap s
  | .evEdgeAccepted input => Sys2Proof.Machine.execEvEdgeAccepted input s
  | .evBankLevelWrite req tag bank value => Sys2Proof.Machine.execEvBankLevelWrite req tag bank value s
  | .evBankGapEnd bank => Sys2Proof.Machine.execEvBankGapEnd bank s
  | .axisConfigWrite req tag key value => Sys2Proof.Machine.execAxisConfigWrite req tag key value s
  | .freewheelEntry axis => Sys2Proof.Machine.execFreewheelEntry axis s
  | .freewheelLimitReached axis => Sys2Proof.Machine.execFreewheelLimitReached axis s
  | .freewheelLimitWrite req tag value => Sys2Proof.Machine.execFreewheelLimitWrite req tag value s
  | .revolutionA axis => Sys2Proof.Machine.execRevolutionA axis s
  | .facetStart facet => Sys2Proof.Machine.execFacetStart facet s
  | .virtualBoundary => Sys2Proof.Machine.execVirtualBoundary s
  | .evFreqGateEnd input => Sys2Proof.Machine.execEvFreqGateEnd input s
  | .cueWindowWrite req tag first count cues => Sys2Proof.Machine.execCueWindowWrite req tag first count cues s
  | .cueWindowInsert req tag first count cues => Sys2Proof.Machine.execCueWindowInsert req tag first count cues s
  | .cueWindowDelete req tag first count => Sys2Proof.Machine.execCueWindowDelete req tag first count s
  | .cueWindowClear req tag => Sys2Proof.Machine.execCueWindowClear req tag s
  | .cueCommit req tag value => Sys2Proof.Machine.execCueCommit req tag value s
  | .cueSwap => Sys2Proof.Machine.execCueSwap s
  | .stagingCopyDone => Sys2Proof.Machine.execStagingCopyDone s
  | .cueBootWrite req tag value => Sys2Proof.Machine.execCueBootWrite req tag value s
  | .cueCapture req tag value => Sys2Proof.Machine.execCueCapture req tag value s
  | .seqCtrlStart req tag => Sys2Proof.Machine.execSeqCtrlStart req tag s
  | .seqCtrlStop req tag => Sys2Proof.Machine.execSeqCtrlStop req tag s
  | .seqEpochInitWrite req tag value => Sys2Proof.Machine.execSeqEpochInitWrite req tag value s
  | .fireDecision => Sys2Proof.Machine.execFireDecision s
  | .prechargeStart => Sys2Proof.Machine.execPrechargeStart s
  | .matrixIntervalEnd => Sys2Proof.Machine.execMatrixIntervalEnd s
  | .triggerIssue => Sys2Proof.Machine.execTriggerIssue s
  | .loopbackEdge out tap => Sys2Proof.Machine.execLoopbackEdge out tap s
  | .startMissing => Sys2Proof.Machine.execStartMissing s
  | .takeWindowClose => Sys2Proof.Machine.execTakeWindowClose s
  | .colRechargeEnd column => Sys2Proof.Machine.execColRechargeEnd column s
  | .chainFrameShiftDone readback => Sys2Proof.Machine.execChainFrameShiftDone readback s
  | .chainLatch => Sys2Proof.Machine.execChainLatch s
  | .captureComplete samples => Sys2Proof.Machine.execCaptureComplete samples s
  | .zoneDiagClear req tag value => Sys2Proof.Machine.execZoneDiagClear req tag value s
  | .diagIntervalBoundary => Sys2Proof.Machine.execDiagIntervalBoundary s
  | .diagPulseInsert => Sys2Proof.Machine.execDiagPulseInsert s
  | .diagTurnaroundEnd => Sys2Proof.Machine.execDiagTurnaroundEnd s
  | .safetySelfTestDone passed => Sys2Proof.Machine.execSafetySelfTestDone passed s
  | .armingStart => Sys2Proof.Machine.execArmingStart s
  | .rearmHoldElapsed => Sys2Proof.Machine.execRearmHoldElapsed s
  | .offtestStart out => Sys2Proof.Machine.execOfftestStart out s
  | .offtestEnRise => Sys2Proof.Machine.execOfftestEnRise s
  | .offtestCheck => Sys2Proof.Machine.execOfftestCheck s
  | .tripTest req tag value => Sys2Proof.Machine.execTripTest req tag value s
  | .gateLeak ball => Sys2Proof.Machine.execGateLeak ball s
  | .overEnergy input integrator => Sys2Proof.Machine.execOverEnergy input integrator s
  | .accBucketRoll window => Sys2Proof.Machine.execAccBucketRoll window s
  | .auditBoundary => Sys2Proof.Machine.execAuditBoundary s
  | .auditCompareDone => Sys2Proof.Machine.execAuditCompareDone s
  | .scanMonitor => Sys2Proof.Machine.execScanMonitor s
  | .safeInputAccept channel level => Sys2Proof.Machine.execSafeInputAccept channel level s
  | .inputDiscrepancy pair => Sys2Proof.Machine.execInputDiscrepancy pair s
  | .supplyFbChange out level => Sys2Proof.Machine.execSupplyFbChange out level s
  | .supplyReadback out => Sys2Proof.Machine.execSupplyReadback out s
  | .safeStatusSend => Sys2Proof.Machine.execSafeStatusSend s
  | .safeCmdReceive bearer data => Sys2Proof.Machine.execSafeCmdReceive bearer data s
  | .safeMsgTimeout bearer => Sys2Proof.Machine.execSafeMsgTimeout bearer s
  | .safeMsgDiscrepancy => Sys2Proof.Machine.execSafeMsgDiscrepancy s
  | .sealCommit req tag value => Sys2Proof.Machine.execSealCommit req tag value s
  | .lockoutReset req tag value => Sys2Proof.Machine.execLockoutReset req tag value s
  | .refFaultDetect block => Sys2Proof.Machine.execRefFaultDetect block s
  | .refFaultClear block => Sys2Proof.Machine.execRefFaultClear block s
  | .threshWrite req tag key value => Sys2Proof.Machine.execThreshWrite req tag key value s
  | .rxLeadingEdge channel tap => Sys2Proof.Machine.execRxLeadingEdge channel tap s
  | .rxHighCrossing channel => Sys2Proof.Machine.execRxHighCrossing channel s
  | .rxTrailingEdge channel tap => Sys2Proof.Machine.execRxTrailingEdge channel tap s
  | .rxTotLong channel => Sys2Proof.Machine.execRxTotLong channel s
  | .rxDeadTimeEnd channel => Sys2Proof.Machine.execRxDeadTimeEnd channel s
  | .hitDelivery channel => Sys2Proof.Machine.execHitDelivery channel s
  | .dllUnlock dll => Sys2Proof.Machine.execDllUnlock dll s
  | .dllLockHeld dll => Sys2Proof.Machine.execDllLockHeld dll s
  | .rxEnableWrite req tag key value => Sys2Proof.Machine.execRxEnableWrite req tag key value s
  | .rxStuck channel => Sys2Proof.Machine.execRxStuck channel s
  | .rxStuckClear channel => Sys2Proof.Machine.execRxStuckClear channel s
  | .rxBgInterval => Sys2Proof.Machine.execRxBgInterval s
  | .binUpdate bank => Sys2Proof.Machine.execBinUpdate bank s
  | .gearTableWrite req tag group value => Sys2Proof.Machine.execGearTableWrite req tag group value s
  | .codeFamilyWrite req tag value => Sys2Proof.Machine.execCodeFamilyWrite req tag value s
  | .reelSetComplete => Sys2Proof.Machine.execReelSetComplete s
  | .descriptorPost => Sys2Proof.Machine.execDescriptorPost s
  | .rawExportCopyDone channel buf => Sys2Proof.Machine.execRawExportCopyDone channel buf s
  | .reelClearDone channel buf => Sys2Proof.Machine.execReelClearDone channel buf s
  | .mrevSumBuild => Sys2Proof.Machine.execMrevSumBuild s
  | .mrevConfigWrite req tag key value => Sys2Proof.Machine.execMrevConfigWrite req tag key value s
  | .egoStale => Sys2Proof.Machine.execEgoStale s
  | .seMac eng w => Sys2Proof.Machine.execSeMac eng w s
  | .seMpy eng w => Sys2Proof.Machine.execSeMpy eng w s
  | .seMacu eng w => Sys2Proof.Machine.execSeMacu eng w s
  | .seMacsu eng w => Sys2Proof.Machine.execSeMacsu eng w s
  | .seMove eng w => Sys2Proof.Machine.execSeMove eng w s
  | .seAdd eng w => Sys2Proof.Machine.execSeAdd eng w s
  | .seSub eng w => Sys2Proof.Machine.execSeSub eng w s
  | .seAnd eng w => Sys2Proof.Machine.execSeAnd eng w s
  | .seOr eng w => Sys2Proof.Machine.execSeOr eng w s
  | .seXor eng w => Sys2Proof.Machine.execSeXor eng w s
  | .seMin eng w => Sys2Proof.Machine.execSeMin eng w s
  | .seMax eng w => Sys2Proof.Machine.execSeMax eng w s
  | .seShift eng w => Sys2Proof.Machine.execSeShift eng w s
  | .seAdda eng w => Sys2Proof.Machine.execSeAdda eng w s
  | .seSuba eng w => Sys2Proof.Machine.execSeSuba eng w s
  | .seShla eng w => Sys2Proof.Machine.execSeShla eng w s
  | .seShra eng w => Sys2Proof.Machine.execSeShra eng w s
  | .seMova eng w => Sys2Proof.Machine.execSeMova eng w s
  | .seMovah eng w => Sys2Proof.Machine.execSeMovah eng w s
  | .seClra eng w => Sys2Proof.Machine.execSeClra eng w s
  | .seMovi eng w => Sys2Proof.Machine.execSeMovi eng w s
  | .seMovih eng w => Sys2Proof.Machine.execSeMovih eng w s
  | .seAddi eng w => Sys2Proof.Machine.execSeAddi eng w s
  | .seCmpi eng w => Sys2Proof.Machine.execSeCmpi eng w s
  | .seAluAdd eng w => Sys2Proof.Machine.execSeAluAdd eng w s
  | .seAluSub eng w => Sys2Proof.Machine.execSeAluSub eng w s
  | .seAluAnd eng w => Sys2Proof.Machine.execSeAluAnd eng w s
  | .seAluOr eng w => Sys2Proof.Machine.execSeAluOr eng w s
  | .seAluXor eng w => Sys2Proof.Machine.execSeAluXor eng w s
  | .seAluMin eng w => Sys2Proof.Machine.execSeAluMin eng w s
  | .seAluMax eng w => Sys2Proof.Machine.execSeAluMax eng w s
  | .seAluShift eng w => Sys2Proof.Machine.execSeAluShift eng w s
  | .seAluCmp eng w => Sys2Proof.Machine.execSeAluCmp eng w s
  | .seAluAbs eng w => Sys2Proof.Machine.execSeAluAbs eng w s
  | .seAluNeg eng w => Sys2Proof.Machine.execSeAluNeg eng w s
  | .seAluClz eng w => Sys2Proof.Machine.execSeAluClz eng w s
  | .seAluMinu eng w => Sys2Proof.Machine.execSeAluMinu eng w s
  | .seAluMaxu eng w => Sys2Proof.Machine.execSeAluMaxu eng w s
  | .seLdW eng w => Sys2Proof.Machine.execSeLdW eng w s
  | .seLdUw eng w => Sys2Proof.Machine.execSeLdUw eng w s
  | .seLdL eng w => Sys2Proof.Machine.execSeLdL eng w s
  | .seStW eng w => Sys2Proof.Machine.execSeStW eng w s
  | .seStL eng w => Sys2Proof.Machine.execSeStL eng w s
  | .seLea eng w => Sys2Proof.Machine.execSeLea eng w s
  | .seMovcRead eng w => Sys2Proof.Machine.execSeMovcRead eng w s
  | .seMovcWrite eng w => Sys2Proof.Machine.execSeMovcWrite eng w s
  | .seMovcImmediate eng w => Sys2Proof.Machine.execSeMovcImmediate eng w s
  | .seMovp eng w => Sys2Proof.Machine.execSeMovp eng w s
  | .seMovpi eng w => Sys2Proof.Machine.execSeMovpi eng w s
  | .seB eng w => Sys2Proof.Machine.execSeB eng w s
  | .seCall eng w => Sys2Proof.Machine.execSeCall eng w s
  | .seBr eng w => Sys2Proof.Machine.execSeBr eng w s
  | .seRet eng w => Sys2Proof.Machine.execSeRet eng w s
  | .seReti eng w => Sys2Proof.Machine.execSeReti eng w s
  | .seBreak eng w => Sys2Proof.Machine.execSeBreak eng w s
  | .seRpt eng w => Sys2Proof.Machine.execSeRpt eng w s
  | .seBrpt eng w => Sys2Proof.Machine.execSeBrpt eng w s
  | .seNop eng => Sys2Proof.Machine.execSeNop eng s
  | .seWait eng => Sys2Proof.Machine.execSeWait eng s
  | .seIllegalOpcode eng => Sys2Proof.Machine.execSeIllegalOpcode eng s
  | .seRestartDone eng => Sys2Proof.Machine.execSeRestartDone eng s
  | .seWatchdog eng => Sys2Proof.Machine.execSeWatchdog eng s
  | .interruptAccept eng => Sys2Proof.Machine.execInterruptAccept eng s
  | .timerMatch eng => Sys2Proof.Machine.execTimerMatch eng s
  | .slotReady eng slot => Sys2Proof.Machine.execSlotReady eng slot s
  | .mbxNext eng => Sys2Proof.Machine.execMbxNext eng s
  | .mbxRelease eng value => Sys2Proof.Machine.execMbxRelease eng value s
  | .ptOut eng n value => Sys2Proof.Machine.execPtOut eng n value s
  | .dmaCtrl eng value => Sys2Proof.Machine.execDmaCtrl eng value s
  | .dmaDone eng => Sys2Proof.Machine.execDmaDone eng s
  | .kernelSelect req tag value => Sys2Proof.Machine.execKernelSelect req tag value s
  | .kernelParamDeliver eng => Sys2Proof.Machine.execKernelParamDeliver eng s
  | .seEnableWrite req tag eng value => Sys2Proof.Machine.execSeEnableWrite req tag eng value s
  | .seQueueDrained eng => Sys2Proof.Machine.execSeQueueDrained eng s
  | .spokeClose => Sys2Proof.Machine.execSpokeClose s
  | .spokeSplit => Sys2Proof.Machine.execSpokeSplit s
  | .streamMessageSend dest => Sys2Proof.Machine.execStreamMessageSend dest s
  | .dailiesDigest => Sys2Proof.Machine.execDailiesDigest s
  | .extrinsicsWrite req tag key value => Sys2Proof.Machine.execExtrinsicsWrite req tag key value s
  | .calStartTdc req tag => Sys2Proof.Machine.execCalStartTdc req tag s
  | .calStartThreshold req tag => Sys2Proof.Machine.execCalStartThreshold req tag s
  | .calStartRangeOffset req tag => Sys2Proof.Machine.execCalStartRangeOffset req tag s
  | .calSpanStart unit => Sys2Proof.Machine.execCalSpanStart unit s
  | .calSpanEnd unit => Sys2Proof.Machine.execCalSpanEnd unit s
  | .calRepeatDone unit measure => Sys2Proof.Machine.execCalRepeatDone unit measure s
  | .calTdcTimeout unit => Sys2Proof.Machine.execCalTdcTimeout unit s
  | .calAgeExpiry unit => Sys2Proof.Machine.execCalAgeExpiry unit s
  | .calOnlineStart => Sys2Proof.Machine.execCalOnlineStart s
  | .calOnlineWrite req tag value => Sys2Proof.Machine.execCalOnlineWrite req tag value s
  | .hkMeasurementStart => Sys2Proof.Machine.execHkMeasurementStart s
  | .hkDischargeEnd m => Sys2Proof.Machine.execHkDischargeEnd m s
  | .hkSettleEnd m => Sys2Proof.Machine.execHkSettleEnd m s
  | .hkPeriodStart m => Sys2Proof.Machine.execHkPeriodStart m s
  | .hkPeriodEnd m n1 ref1 flags => Sys2Proof.Machine.execHkPeriodEnd m n1 ref1 flags s
  | .hkUnlocked m => Sys2Proof.Machine.execHkUnlocked m s
  | .hkDieTempDone conv reading => Sys2Proof.Machine.execHkDieTempDone conv reading s
  | .hkInject req tag value => Sys2Proof.Machine.execHkInject req tag value s
  | .fcGainApply input => Sys2Proof.Machine.execFcGainApply input s
  | .fcTrim write tag value => Sys2Proof.Machine.execFcTrim write tag value s
  | .fcTrimDone offset gain skew => Sys2Proof.Machine.execFcTrimDone offset gain skew s
  | .clockIncrementWrite req tag value => Sys2Proof.Machine.execClockIncrementWrite req tag value s
  | .gptpSyncReceive port msg => Sys2Proof.Machine.execGptpSyncReceive port msg s
  | .gptpFollowUpReceive port msg => Sys2Proof.Machine.execGptpFollowUpReceive port msg s
  | .gptpPdelayReqReceive port msg => Sys2Proof.Machine.execGptpPdelayReqReceive port msg s
  | .gptpPdelayRespReceive port msg => Sys2Proof.Machine.execGptpPdelayRespReceive port msg s
  | .gptpAnnounceReceive port msg => Sys2Proof.Machine.execGptpAnnounceReceive port msg s
  | .gptpSignalingReceive port msg => Sys2Proof.Machine.execGptpSignalingReceive port msg s
  | .gptpSyncTransmit port stamp => Sys2Proof.Machine.execGptpSyncTransmit port stamp s
  | .gptpPdelayReqTransmit port stamp => Sys2Proof.Machine.execGptpPdelayReqTransmit port stamp s
  | .gptpAnnounceTransmit port => Sys2Proof.Machine.execGptpAnnounceTransmit port s
  | .syncTimeout port => Sys2Proof.Machine.execSyncTimeout port s
  | .announceReceiptTimeout port => Sys2Proof.Machine.execAnnounceReceiptTimeout port s
  | .timeRestepToGptp req tag => Sys2Proof.Machine.execTimeRestepToGptp req tag s
  | .timeRestepToTimeSet req tag => Sys2Proof.Machine.execTimeRestepToTimeSet req tag s
  | .timeStepped => Sys2Proof.Machine.execTimeStepped s
  | .hostLockedSet req tag => Sys2Proof.Machine.execHostLockedSet req tag s
  | .hostLockedClear req tag => Sys2Proof.Machine.execHostLockedClear req tag s
  | .hostTimeout => Sys2Proof.Machine.execHostTimeout s
  | .xtalLearned => Sys2Proof.Machine.execXtalLearned s
  | .timeSourceWrite req tag value => Sys2Proof.Machine.execTimeSourceWrite req tag value s
  | .gptpConfigWrite req tag key value => Sys2Proof.Machine.execGptpConfigWrite req tag key value s
  | .ethFrameReceive port frame => Sys2Proof.Machine.execEthFrameReceive port frame s
  | .addressResolutionRetry => Sys2Proof.Machine.execAddressResolutionRetry s
  | .arpRefresh => Sys2Proof.Machine.execArpRefresh s
  | .linkChange port level => Sys2Proof.Machine.execLinkChange port level s
  | .portConfigWrite req tag key value => Sys2Proof.Machine.execPortConfigWrite req tag key value s
  | .canFrameReceive frame => Sys2Proof.Machine.execCanFrameReceive frame s
  | .canState errors => Sys2Proof.Machine.execCanState errors s
  | .canBusOffRecovery => Sys2Proof.Machine.execCanBusOffRecovery s
  | .canAutoRecoverWrite req tag value => Sys2Proof.Machine.execCanAutoRecoverWrite req tag value s
  | .canTxTimeout => Sys2Proof.Machine.execCanTxTimeout s
  | .canConfigWrite req tag key value => Sys2Proof.Machine.execCanConfigWrite req tag key value s
  | .egoSpeedReceive source data => Sys2Proof.Machine.execEgoSpeedReceive source data s
  | .laneBlockReceive lane block => Sys2Proof.Machine.execLaneBlockReceive lane block s
  | .laneLocked lane => Sys2Proof.Machine.execLaneLocked lane s
  | .alignReceive lane col => Sys2Proof.Machine.execAlignReceive lane col s
  | .statusReceive lane col => Sys2Proof.Machine.execStatusReceive lane col s
  | .laneStatusAged bond => Sys2Proof.Machine.execLaneStatusAged bond s
  | .alignColumnSend bond => Sys2Proof.Machine.execAlignColumnSend bond s
  | .statusColumnSend bond => Sys2Proof.Machine.execStatusColumnSend bond s
  | .klpFrameReceive bond frame => Sys2Proof.Machine.execKlpFrameReceive bond frame s
  | .laneModeWrite req tag lane value => Sys2Proof.Machine.execLaneModeWrite req tag lane value s
  | .bondConfigWrite req tag key value => Sys2Proof.Machine.execBondConfigWrite req tag key value s
  | .adaptWindowEnd lane transitions => Sys2Proof.Machine.execAdaptWindowEnd lane transitions s
  | .eyeScan req tag value => Sys2Proof.Machine.execEyeScan req tag value s
  | .prbsGenWrite req tag lane value => Sys2Proof.Machine.execPrbsGenWrite req tag lane value s
  | .prbsCheckWrite req tag lane value => Sys2Proof.Machine.execPrbsCheckWrite req tag lane value s
  | .prbsLockAcquired lane => Sys2Proof.Machine.execPrbsLockAcquired lane s
  | .prbsLoss lane => Sys2Proof.Machine.execPrbsLoss lane s
  | .laneLoopWrite req tag lane value => Sys2Proof.Machine.execLaneLoopWrite req tag lane value s
  | .koaRequest pdu => Sys2Proof.Machine.execKoaRequest pdu s
  | .liveSelect half => Sys2Proof.Machine.execLiveSelect half s
  | .eventRead => Sys2Proof.Machine.execEventRead s
  | .i3cWriteDiscard data => Sys2Proof.Machine.execI3cWriteDiscard data s
  | .liveWindowRead count => Sys2Proof.Machine.execLiveWindowRead count s
  | .koaResponseRead count => Sys2Proof.Machine.execKoaResponseRead count s
  | .eventQueueRead count => Sys2Proof.Machine.execEventQueueRead count s
  | .i3cTransferTimeout => Sys2Proof.Machine.execI3cTransferTimeout s
  | .ibiRequest acked => Sys2Proof.Machine.execIbiRequest acked s
  | .enec => Sys2Proof.Machine.execEnec s
  | .disec => Sys2Proof.Machine.execDisec s
  | .rstdaa => Sys2Proof.Machine.execRstdaa s
  | .entdaa won address => Sys2Proof.Machine.execEntdaa won address s
  | .setdasa staticAddr address => Sys2Proof.Machine.execSetdasa staticAddr address s
  | .setnewda address => Sys2Proof.Machine.execSetnewda address s
  | .setmwl length => Sys2Proof.Machine.execSetmwl length s
  | .setmrl length ibi => Sys2Proof.Machine.execSetmrl length ibi s
  | .getmwl => Sys2Proof.Machine.execGetmwl s
  | .getmrl => Sys2Proof.Machine.execGetmrl s
  | .getpid => Sys2Proof.Machine.execGetpid s
  | .getbcr => Sys2Proof.Machine.execGetbcr s
  | .getdcr => Sys2Proof.Machine.execGetdcr s
  | .getstatus => Sys2Proof.Machine.execGetstatus s
  | .getmxds => Sys2Proof.Machine.execGetmxds s
  | .getcaps => Sys2Proof.Machine.execGetcaps s
  | .enthdr0 => Sys2Proof.Machine.execEnthdr0 s
  | .rstactNoReset => Sys2Proof.Machine.execRstactNoReset s
  | .rstactResetI3c => Sys2Proof.Machine.execRstactResetI3c s
  | .eventAck req tag value => Sys2Proof.Machine.execEventAck req tag value s
  | .eventMaskWrite req tag key value => Sys2Proof.Machine.execEventMaskWrite req tag key value s
  | .eventDatagramFlush port => Sys2Proof.Machine.execEventDatagramFlush port s
  | .liveMapWrite req tag value => Sys2Proof.Machine.execLiveMapWrite req tag value s
  | .trigDriveClassChange pair level => Sys2Proof.Machine.execTrigDriveClassChange pair level s
  | .takeover => Sys2Proof.Machine.execTakeover s
  | .aloneWaitExpiry => Sys2Proof.Machine.execAloneWaitExpiry s
  | .claimQuietEnd => Sys2Proof.Machine.execClaimQuietEnd s
  | .claimComplete => Sys2Proof.Machine.execClaimComplete s
  | .heartbeatSend => Sys2Proof.Machine.execHeartbeatSend s
  | .heartbeatReceive payload => Sys2Proof.Machine.execHeartbeatReceive payload s
  | .heartbeatLost => Sys2Proof.Machine.execHeartbeatLost s
  | .takeFrameReceive payload => Sys2Proof.Machine.execTakeFrameReceive payload s
  | .takeDivergence group => Sys2Proof.Machine.execTakeDivergence group s
  | .spokeSumReceive payload => Sys2Proof.Machine.execSpokeSumReceive payload s
  | .sumUnpairedTimeout => Sys2Proof.Machine.execSumUnpairedTimeout s
  | .objectFrameReceive payload => Sys2Proof.Machine.execObjectFrameReceive payload s
  | .cueFrameReceive payload => Sys2Proof.Machine.execCueFrameReceive payload s
  | .timeFrameSend => Sys2Proof.Machine.execTimeFrameSend s
  | .timeFrameReceive payload => Sys2Proof.Machine.execTimeFrameReceive payload s
  | .accountFrameReceive payload => Sys2Proof.Machine.execAccountFrameReceive payload s
  | .epochFrameReceive payload => Sys2Proof.Machine.execEpochFrameReceive payload s
  | .yieldFrameReceive payload => Sys2Proof.Machine.execYieldFrameReceive payload s
  | .resyncReqReceive payload => Sys2Proof.Machine.execResyncReqReceive payload s
  | .pairHandover req tag value => Sys2Proof.Machine.execPairHandover req tag value s
  | .sramScrubRead mem addr found owner passEnd => Sys2Proof.Machine.execSramScrubRead mem addr found owner passEnd s
  | .ddrScrubRead addr found item passEnd => Sys2Proof.Machine.execDdrScrubRead addr found item passEnd s
  | .ddrTrainingDone lanesOk org => Sys2Proof.Machine.execDdrTrainingDone lanesOk org s
  | .ddrWipeRegionDone => Sys2Proof.Machine.execDdrWipeRegionDone s
  | .ddrTempPoll temps => Sys2Proof.Machine.execDdrTempPoll temps s
  | .sramWipeDone => Sys2Proof.Machine.execSramWipeDone s
  | .operatingLogAppend => Sys2Proof.Machine.execOperatingLogAppend s
  | .recordResolve req tag value => Sys2Proof.Machine.execRecordResolve req tag value s
  | .keyProgram req tag value => Sys2Proof.Machine.execKeyProgram req tag value s
  | .keyRevoke req tag value => Sys2Proof.Machine.execKeyRevoke req tag value s
  | .identitySet req tag value => Sys2Proof.Machine.execIdentitySet req tag value s
  | .lifecycleRequest req tag value => Sys2Proof.Machine.execLifecycleRequest req tag value s
  | .fwCommit req tag value => Sys2Proof.Machine.execFwCommit req tag value s
  | .svnCommit req tag value => Sys2Proof.Machine.execSvnCommit req tag value s
  | .selftestStart req tag value => Sys2Proof.Machine.execSelftestStart req tag value s
  | .nvmVerify req tag value => Sys2Proof.Machine.execNvmVerify req tag value s
  | .traceCtrlWrite req tag value => Sys2Proof.Machine.execTraceCtrlWrite req tag value s
  | .traceSnapshot => Sys2Proof.Machine.execTraceSnapshot s
  | .supplyPowerOn => Sys2Proof.Machine.execSupplyPowerOn s
  | .brownout supply => Sys2Proof.Machine.execBrownout supply s
  | .resetPin => Sys2Proof.Machine.execResetPin s
  | .standbyEntry => Sys2Proof.Machine.execStandbyEntry s
  | .wakeHigh => Sys2Proof.Machine.execWakeHigh s
  | .ccWatchdogExpiry => Sys2Proof.Machine.execCcWatchdogExpiry s
  | .resetRequest req tag value => Sys2Proof.Machine.execResetRequest req tag value s
  | .resetRequestDelayEnd => Sys2Proof.Machine.execResetRequestDelayEnd s
  | .resetRelease levels => Sys2Proof.Machine.execResetRelease levels s
  | .bootImageVerified => Sys2Proof.Machine.execBootImageVerified s
  | .bootApplyStored => Sys2Proof.Machine.execBootApplyStored s
  | .lockstepDivergence complex => Sys2Proof.Machine.execLockstepDivergence complex s

end Sys2Proof.Machine
end

