-- ==== Sys2Proof/Machine/Tick.lean ====
section
/-! DEFINITION. What one core cycle does when no command waits (log entry 1): the model's clock counts, reel sets
whose completion came in the cycle complete, watchdog faults are taken (R523), takes are stamped (R551), spokes leave (R453, R575), a Pdelay_Resp that waited leaves (R701) and the Ethernet ports begin frames (R680), local time advances by CLOCK_INCREMENT (R660, R661), the events of the cycle that is over are handled
(R765), the trace buffer drains (R858), encoder edges of the cycle that is over reach the decoders (R133), CHAIN_LAT falls (R264),
recharges start (R260), the charges of uncaptured takes are judged (R314), an hour in LOCKED ends (R669), a TIME frame is sampled (R798), the lanes begin the columns whose time has come (R713), and settings that wait for their responses apply (R71). -/

namespace Sys2Proof.Machine

open Sys2Proof

/-- A record leaves on the trace pins: 160 bits at 3.2 Gb/s. -/
def State.tracePins (s : State) : State :=
  match s.mem.trace with
  | [] => s
  | r :: rs => { s with mem := { s.mem with trace := rs, traceUntil := s.now + 50 } }.send ⟨.trace, .trace, 0, 0, r, noHead⟩

/-- A frame of up to 64 records leaves on L3, with TYPE 0x20. -/
def State.traceLane (s : State) : State :=
  match s.mem.trace with
  | [] => s
  | r :: rs =>
    let out := (r :: rs).take 64
    let bytes := frameBytes 0x20 0 s.mem.traceFseq (out.flatMap (fun x => x))
    { s with mem := { s.mem with
      trace := (r :: rs).drop 64, traceUntil := s.now + s.traceCycles bytes, traceFseq := (s.mem.traceFseq + 1) % 65536 } }.send
        ⟨.trace, .trace, 0, 0, bytes, noHead⟩

/-- The trace buffer drains to the port that TRACE_CTRL selects (R856, R858): to L3 only while it is in FUNCTION and no lane of the KLP bond
(R705, R706). -/
def State.drainTrace (s : State) : State :=
  if natBit (s.getN Obj.TRACE_CTRL) 31 && decide (s.mem.traceUntil ≤ s.now) then
    if !natBit (s.getN Obj.TRACE_CTRL) 30 then s.tracePins else if s.traceOnLane && s.laneMode 3 == 1 then s.traceLane else s
  else s

/-- Local time advances in every core cycle outside reset (R660). -/
def State.advanceTime (s : State) : State :=
  if s.reset_.phase != .held then { s with time := s.time.advance (s.getN Obj.CLOCK_INCREMENT) } else s

/-- One core cycle: the one that runs ends, and the next begins. -/
def State.tick (s : State) : State :=
  let s := s.blockCut.stampTakes.expireSlots.completeSets.endSpokes.sendPdelayResps.servePorts.latchCrossings.followSwing
  let t := State.holdPosition s (State.holdPosition s { s with now := s.now + 1 } 0) 1
  t.handleEvents.advanceTime.drainTrace.releaseHeld.chainFall.openBuffers.settleWaiting.beginRecharges.lapseCaptures.flushLows.endSpans.endHour.sampleTime.laneColumns.applyHeld

end Sys2Proof.Machine
end

