-- ==== Sys2Proof/Machine/Pins.lean ====
section
/-! DEFINITION. What the pins of the emitter interface show (R251, R256, R264, R282, R283, R302), and the other outputs in reset and until
the device is configured (R882): levels that the state decides, which no command reads. Instants within a core cycle are in taps. -/

namespace Sys2Proof.Machine

open Sys2Proof

/-- The state of a pin. A sink runs at a current of G_s × C × 50 mA / 65,025 (R259); a clamp holds PRECHARGE_LEVEL × 10 mV. -/
inductive PinLevel where
  | low | high | hiZ | sinkOff
  | sink (drive : Nat)
  | clamp (level : Nat)
  deriving DecidableEq, Repr

/-- The drivers of the emitter interface are high impedance: the device is held in reset, or is SHADOW or PAIRING and does not claim
(R282, R791). -/
def State.pinsReleased (s : State) : Bool := s.reset_.phase == .held || (s.isShadow && !s.pair.driving)

/-- SUPPLY_EN_A (0) or SUPPLY_EN_B (1): high impedance in reset and in SHADOW, else as driven (R322, R340, R787). -/
def State.supplyPin (s : State) (out : Nat) : PinLevel :=
  if s.pinsReleased then .hiZ else if (if out = 0 then s.safety.enA else s.safety.enB) then .high else .low

/-- TRIG output i at an instant: high within a pulse that left through the gate (R251, R283, R302). -/
def State.trigPin (s : State) (i : Nat) (t : Int) : PinLevel :=
  if s.pinsReleased then .hiZ
  else if s.emit.pulses.any (fun p => p.out == i && decide (p.rise ≤ t ∧ t < p.fall)) then .high else .low

/-- ROW output r: high in a matrix interval of the row with the gate open (R256, R283). -/
def State.rowPin (s : State) (r : Nat) : PinLevel :=
  if s.pinsReleased then .hiZ
  else match s.emit.rowHigh with | some m => if m.row = r then .high else .low | none => .low

/-- A take is in progress: a pulse of one is still to end (R283). -/
def State.takeRuns (s : State) : Bool := s.emit.matrixNow.isSome || s.emit.pulses.any (fun p => decide (s.nowTaps ≤ p.fall))

/-- COL output c while no take is in progress, or with the gate closed (R283). -/
def State.colIdle (s : State) : PinLevel :=
  if s.energySource = 0 then .sinkOff else if s.matrixMode then .low else .hiZ

/-- COL output c outside a matrix interval with the gate open (R256, R260): its sink recharges, or it idles. DEDUCED (log entry 75): the
high impedance of R256 in MATRIX with CHAIN or FIXED holds while a take is in progress, the low of R283 otherwise. -/
def State.colOpen (s : State) (c : Nat) : PinLevel :=
  if s.energySource = 0 then (if (s.column c).endAt.isSome then .sink (s.column c).drive else .sinkOff)
  else if s.takeRuns then .hiZ else s.colIdle

/-- COL output c (R256, R283, R302). -/
def State.colPin (s : State) (c : Nat) : PinLevel :=
  if s.pinsReleased then .hiZ
  else if !s.gateOpen then s.colIdle
  else match s.emit.matrixNow with
    | some m =>
      if s.energySource = 0 then (if m.col = c then .sinkOff else .clamp (s.getN Obj.PRECHARGE_LEVEL))
      else if m.col = c then .high else .low
    | none => s.colOpen c

/-- The bits of a frame in the order in which they shift: the word of IC CHAIN_LENGTH − 1 first, each MSB first (R264). -/
def ChainFrame.bits (f : ChainFrame) : List Bool :=
  (((f.words.zip (List.range f.words.length)).reverse).map (fun p =>
    (List.range 32).map (fun i => natBit (p.1.bits p.2) (31 - i)))).flatten

/-- A level of a chain output (R264, R283). -/
def State.chainPin (s : State) (x : Bool) : PinLevel := if s.pinsReleased then .hiZ else if x then .high else .low

/-- CHAIN_CLK: bit k is sampled at the rising edge k + 1 periods after the start; high for half a period (log entry 75). -/
def State.chainClk (s : State) : PinLevel :=
  s.chainPin (match s.emit.frame with
    | some f =>
      let t := s.now - f.startAt
      decide (f.div ≤ t) && decide (t < f.time + f.div / 2) && decide (t % f.div < f.div / 2)
    | none => false)

/-- CHAIN_DOUT changes 2 ns after each falling edge of CHAIN_CLK (R264). -/
def State.chainDout (s : State) : PinLevel :=
  s.chainPin (match s.emit.frame with
    | some f =>
      let t := s.now - f.startAt
      let k := if t < f.div + f.div / 2 + 2 then 0 else (t - f.div / 2 - 2) / f.div
      if f.latAt.isNone then f.bits.getD k false else false
    | none => false)

/-- CHAIN_LAT: high from its rise for 20 ns, low while the gate is closed (R264, R302). -/
def State.chainLat (s : State) : PinLevel :=
  s.chainPin (s.gateOpen && (match s.emit.frame with | some f => f.latAt.isSome | none => false))

/-! ### The other outputs (R882) -/

/-- XTAL_OUT: the oscillator runs from release on (R882). -/
def State.oscillatorRuns (s : State) : Bool := s.reset_.phase != .held

/-- IEXC_A (0) and IEXC_B (1): a measurement steers its sources to HK pins, so these balls stay at high impedance (R632, R882; DEDUCED,
log entry 75). -/
def State.iexcPin (_s : State) (_out : Nat) : PinLevel := .hiZ

/-- TRACE_CLK and TRACE_D0 to D7 are low: in reset, before the stored objects apply, and while TRACE_CTRL EN is 0 (R882). -/
def State.tracePinsLow (s : State) : Bool := !s.running || !natBit (s.getN Obj.TRACE_CTRL) 31

/-- DDR5 RESET_n, CA and CK are low: in reset, and until firmware powers the memory up (R832, R882). -/
def State.ddrHeld (s : State) : Bool := !(s.reset_.phase == .firmware || s.running)

end Sys2Proof.Machine
end

