-- ==== Sys2Proof/Safety.lean ====
section
/-! DEFINITION. What counts as a safe state and a safe run, and the terms that the statements use. -/

namespace Sys2Proof.Safety

open Sys2Proof Sys2Proof.Machine

/-- The trigger pins can fire an emitter: the gate is open (R297, R302). -/
def canEmit (s : State) : Bool := s.gateOpen

/-- A state is dark: the gate is closed and both supply enables are low (R297). -/
def dark (s : State) : Bool := !s.gateOpen && !s.safety.enA && !s.safety.enB

/-- A step ends in a next state that satisfies a property; a stop satisfies none. -/
def stepsTo (s : State) (P : State → Prop) : Prop := ∃ t, step s = .next t ∧ P t

/-- No stop: a step of the state answers a next state. -/
def goesOn (s : State) : Prop := stepsTo s (fun _ => True)

/-- The supply enables are low and no off-pulse test runs outside ARMING and ARMED, and a held device is in INIT or LOCKOUT
(R297, R301, R324). -/
def supplyInv (s : State) : Bool :=
  (s.safety.state == .arming || s.safety.state == .armed ||
    (!s.safety.enA && !s.safety.enB && s.safety.offTest.isNone)) &&
  (s.reset_.phase != .held || s.safety.state == .init || s.safety.state == .lockout)

/-- The engine, the operation and bits [25:0] of an instruction row. -/
def engineRow : Instr → Option (Fin 34 × EngineOp × Option (BitVec 26))
  | .seMac n w => some (n, .mac, some w) | .seMpy n w => some (n, .mpy, some w) | .seMacu n w => some (n, .macu, some w)
  | .seMacsu n w => some (n, .macsu, some w) | .seMove n w => some (n, .move, some w) | .seAdd n w => some (n, .add, some w)
  | .seSub n w => some (n, .sub, some w) | .seAnd n w => some (n, .and_, some w) | .seOr n w => some (n, .or_, some w)
  | .seXor n w => some (n, .xor, some w) | .seMin n w => some (n, .min, some w) | .seMax n w => some (n, .max, some w)
  | .seShift n w => some (n, .shift, some w) | .seAdda n w => some (n, .adda, some w) | .seSuba n w => some (n, .suba, some w)
  | .seShla n w => some (n, .shla, some w) | .seShra n w => some (n, .shra, some w) | .seMova n w => some (n, .mova, some w)
  | .seMovah n w => some (n, .movah, some w) | .seClra n w => some (n, .clra, some w) | .seMovi n w => some (n, .movi, some w)
  | .seMovih n w => some (n, .movih, some w) | .seAddi n w => some (n, .addi, some w) | .seCmpi n w => some (n, .cmpi, some w)
  | .seAluAdd n w => some (n, .aluAdd, some w) | .seAluSub n w => some (n, .aluSub, some w)
  | .seAluAnd n w => some (n, .aluAnd, some w) | .seAluOr n w => some (n, .aluOr, some w)
  | .seAluXor n w => some (n, .aluXor, some w) | .seAluMin n w => some (n, .aluMin, some w)
  | .seAluMax n w => some (n, .aluMax, some w) | .seAluShift n w => some (n, .aluShift, some w)
  | .seAluCmp n w => some (n, .aluCmp, some w) | .seAluAbs n w => some (n, .aluAbs, some w)
  | .seAluNeg n w => some (n, .aluNeg, some w) | .seAluClz n w => some (n, .aluClz, some w)
  | .seAluMinu n w => some (n, .aluMinu, some w) | .seAluMaxu n w => some (n, .aluMaxu, some w)
  | .seLdW n w => some (n, .ldW, some w) | .seLdUw n w => some (n, .ldUw, some w) | .seLdL n w => some (n, .ldL, some w)
  | .seStW n w => some (n, .stW, some w) | .seStL n w => some (n, .stL, some w) | .seLea n w => some (n, .lea, some w)
  | .seMovcRead n w => some (n, .movcRead, some w) | .seMovcWrite n w => some (n, .movcWrite, some w)
  | .seMovcImmediate n w => some (n, .movcImmediate, some w) | .seMovp n w => some (n, .movp, some w)
  | .seMovpi n w => some (n, .movpi, some w) | .seB n w => some (n, .b, some w) | .seCall n w => some (n, .call, some w)
  | .seBr n w => some (n, .br, some w) | .seRet n w => some (n, .ret, some w) | .seReti n w => some (n, .reti, some w)
  | .seBreak n w => some (n, .break_, some w) | .seRpt n w => some (n, .rpt, some w) | .seBrpt n w => some (n, .brpt, some w)
  | .seNop n => some (n, .nop, none) | .seWait n => some (n, .wait, none) | .seIllegalOpcode n => some (n, .illegalOpcode, none)
  | _ => none

/-- The command at the front of the queue is, for an engine that runs, the instruction that its program memory holds at its program
counter (R479, R481; log entry 40). -/
def frontFetched (s : State) : Bool :=
  match s.pending with
  | [] => true
  | c :: _ => match engineRow c with
    | some (n, op, w) => !s.engineRuns n ||
        (op == s.fetchEngine n && w.all (fun x => x == BitVec.ofNat 26 (s.programWord n)))
    | none => true

/-! ### The integrator's duties at the laser supply (R321) -/

/-- The command is one that the wiring of R321 allows: SUPPLY_FB goes high only while its own switch conducts, whose SUPPLY_EN is high. -/
def fbWired (s : State) : Instr → Bool
  | .supplyFbChange out level => !level || (if out = 0 then s.safety.enA else s.safety.enB)
  | _ => true

/-- The core cycles for which the hold-up capacitance downstream of both switches keeps the drivers supplied: OFFTEST_PULSE plus
SUPPLY_FB_DELAY (R321). -/
def holdUpTime (s : State) : Nat := us (s.getN Obj.OFFTEST_PULSE) + s.fbDelay

/-! ### Parts of the state -/

/-- The parts of State: one for each field. -/
inductive Part where
  | now | freeCtr | reg | blk | koa | jobs | crank | seq | emit | safety | rx | hist | eng | pipe | cal | hk | time | net
  | lanes | ev | i3c | pair | nvm | otp | mem | reset | sent | pending
  deriving DecidableEq, Repr

/-- Two states agree in a part. -/
def Part.same (p : Part) (s t : State) : Prop :=
  match p with
  | .now => t.now = s.now | .freeCtr => t.freeCtr = s.freeCtr | .reg => t.reg = s.reg | .blk => t.blk = s.blk
  | .koa => t.koa = s.koa | .jobs => t.jobs = s.jobs | .crank => t.crank = s.crank | .seq => t.seq = s.seq
  | .emit => t.emit = s.emit | .safety => t.safety = s.safety | .rx => t.rx = s.rx | .hist => t.hist = s.hist
  | .eng => t.eng = s.eng | .pipe => t.pipe = s.pipe | .cal => t.cal = s.cal | .hk => t.hk = s.hk
  | .time => t.time = s.time | .net => t.net = s.net | .lanes => t.lanes = s.lanes | .ev => t.ev = s.ev
  | .i3c => t.i3c = s.i3c | .pair => t.pair = s.pair | .nvm => t.nvm = s.nvm | .otp => t.otp = s.otp
  | .mem => t.mem = s.mem | .reset => t.reset_ = s.reset_ | .sent => t.sent = s.sent | .pending => t.pending = s.pending

/-- Two states agree in every part outside a list. -/
def onlyParts (ps : List Part) (s t : State) : Prop := ∀ p : Part, p ∉ ps → p.same s t

/-- The parts that reporting an event may change: the counters, the records, the matrix, the routes of R765 and what leaves. -/
def reporting : List Part := [.reg, .blk, .net, .ev, .i3c, .mem, .sent]

/-- The parts that the handling of a raised event may change: its counter and record, the matrix, and what its routes hold (R765). -/
def handling : List Part := [.reg, .blk, .pipe, .ev, .i3c, .mem]

/-- How often an event has been raised in the present core cycle (R765). -/
def raisedCount (s : State) (e : Nat) : Nat := (s.ev.raised.filter (fun r => r.event == e)).length

/-! ### Registers -/

/-- The objects that reporting an event may count in: the event counters, the frames sent, the drops of the routes. -/
def reportKey (k : Nat) : Bool :=
  k / 256 == Obj.EVENT_COUNT / 256 || k / 256 == Obj.EVENT_COUNT_HI / 256 || k / 256 == Obj.TX_FRAMES / 256 ||
    k / 256 == Obj.UNRESOLVED_DROPS / 256 || k == Obj.IBI_DROPS || k == Obj.TRACE_DROPS

/-- Two states hold the same value in every scalar object outside a set of keys. -/
def onlyKeys (ks : Nat → Bool) (s t : State) : Prop := ∀ k : Nat, ks k = false → t.get k = s.get k

/-- The object store is in its canonical form: keys strictly rising, no entry equal to the object's default. -/
def storeWf (s : State) : Bool := tabWf objDflt s.reg && tabWf blkDflt s.blk

/-- A reset source has reset the device (R873, R877): it is held and dark, every object is at its default, what ran is gone; OTP and NVM
stay but for RESET_COUNT, with a word being programmed given up; the retained register says the cause. -/
def afterReset (s t : State) (c : ResetSource) (supply : Nat) : Prop :=
  t.reset_.phase = .held ∧ dark t = true ∧ t.faultLow = true ∧ (∀ k, t.get k = objDflt k) ∧ (∀ k, t.getBlk k = blkDflt k) ∧
    t.jobs.slots = [] ∧ t.koa.sessions = [] ∧ t.seq.takes = [] ∧ t.seq.state = .stopped ∧ t.i3c.response = none ∧
    t.ev.pending = 0 ∧ t.otp = s.otp ∧ t.nvm = { s.nvm with busy := .idle, resets := min 0xFFFFFFFF (s.nvm.resets + 1) } ∧
    t.reset_.retained = s.reset_.retained.after c supply ∧ t.pending = s.pending ∧ t.now = s.now

/-! ### Requests -/

/-- The object server takes the request: its bearer is open and enabled, the PDU is no response and long enough, nothing of the
bearer stands in the way, and it repeats no request of the last second (R66 to R68, R80, R756). -/
def takes (s : State) (req : Requester) (pdu : List Byte) : Prop :=
  s.bearerOpen req.bearer = true ∧ s.bearerEnabled req.bearer = true ∧ pduDiscarded pdu = false ∧
    (if req.bearer = .i3c then s.i3c.response = none
     else s.waitingOn req.bearer < req.bearer.limit ∧ s.cached req pdu = none)

/-- The state once a request is answered: on I3C the read source is the KOA response (R753), the response waits in the response place, and so do the values that apply after it;
on a network it is given to its bearer, counted and cached, and those values apply once it has left (R66, R70, R71, R79, R80). -/
def served (s : State) (req : Requester) (pdu : List Byte) (a : Answer) : State :=
  let r := a.response (s.maxPayload req.bearer) pdu
  if req.bearer = .i3c then
    let t := (a.st.resetFrom s (a.st.responseTime .i3c pdu)).countResponse r
    { t with
      freeCtr := t.freeCtr + 1
      i3c := { t.i3c with
        source := .koa, response := some (r, a.st.responseTime .i3c pdu), ibiResponse := true, later := a.later.map (fun v => (v.2.1, v.2.2)) } }
  else (((a.st.resetFrom s (a.st.responseTime req.bearer pdu)).holdRequest req.bearer pdu).netRespond req pdu r).applyAfter req.bearer a.later

/-- A header in good form for its payload (R61). -/
def goodHeader (h : KoaHdr) (payload : List Byte) : Prop :=
  h.ver = 1 ∧ h.tag < 256 ∧ h.index < 65536 ∧ h.sub < 256 ∧ h.flags < 2 ∧ h.len = payload.length ∧ h.len < 65536

/-- The bytes of a scalar value in the size of its object. -/
def scalarBytes (s : State) (k : Nat) (v : Int) : List Byte :=
  match s.descOf k with | some d => encodeValue d.ty v | none => []

/-- The rows that write one scalar object: requester, tag, key and value. -/
def scalarRow : Instr → Option (Requester × Nat × Nat × Int)
  | .storeAll r t v => some (r, t, Obj.STORE_ALL, v)
  | .storeCal r t v => some (r, t, Obj.STORE_CAL, v)
  | .restoreDefaults r t v => some (r, t, Obj.RESTORE_DEFAULTS, v)
  | .jobAck r t v => some (r, t, Obj.JOB_ACK, v)
  | .jobAbort r t v => some (r, t, Obj.JOB_ABORT, v)
  | .evBankLevelWrite r t b v => some (r, t, Obj.EV_BANK_LEVEL + b, v)
  | .freewheelLimitWrite r t v => some (r, t, Obj.FREEWHEEL_LIMIT, v)
  | .cueCommit r t v => some (r, t, Obj.CUE_COMMIT, v)
  | .cueCapture r t v => some (r, t, Obj.CUE_CAPTURE, v)
  | .seqCtrlStart r t => some (r, t, Obj.SEQ_CTRL, 1)
  | .seqCtrlStop r t => some (r, t, Obj.SEQ_CTRL, 2)
  | .seqEpochInitWrite r t v => some (r, t, Obj.SEQ_EPOCH_INIT, v)
  | .zoneDiagClear r t v => some (r, t, Obj.ZONE_DIAG_CLEAR, v)
  | .tripTest r t v => some (r, t, Obj.TRIP_TEST, v)
  | .sealCommit r t v => some (r, t, Obj.SEAL_COMMIT, v)
  | .lockoutReset r t v => some (r, t, Obj.LOCKOUT_RESET, v)
  | .kernelSelect r t v => some (r, t, Obj.KERNEL_SELECT, v)
  | .seEnableWrite r t e v => some (r, t, Obj.SE_ENABLE + e, v)
  | .calStartTdc r t => some (r, t, Obj.CAL_START, 1)
  | .calStartThreshold r t => some (r, t, Obj.CAL_START, 2)
  | .calStartRangeOffset r t => some (r, t, Obj.CAL_START, 3)
  | .calOnlineWrite r t v => some (r, t, Obj.CAL_ONLINE, v)
  | .hkInject r t v => some (r, t, Obj.HK_INJECT, v)
  | .fcTrim (some r) t v => some (r, t, Obj.FC_TRIM, v)
  | .clockIncrementWrite r t v => some (r, t, Obj.CLOCK_INCREMENT, v)
  | .timeRestepToGptp r t => some (r, t, Obj.TIME_RESTEP, 1)
  | .timeRestepToTimeSet r t => some (r, t, Obj.TIME_RESTEP, 2)
  | .hostLockedSet r t => some (r, t, Obj.HOST_LOCKED, 1)
  | .hostLockedClear r t => some (r, t, Obj.HOST_LOCKED, 0)
  | .timeSourceWrite r t v => some (r, t, Obj.TIME_SOURCE, v)
  | .canAutoRecoverWrite r t v => some (r, t, Obj.CAN_AUTO_RECOVER, v)
  | .laneModeWrite r t n v => some (r, t, Obj.LANE_MODE + n, v)
  | .eyeScan r t v => some (r, t, Obj.EYE_SCAN, v)
  | .prbsGenWrite r t n v => some (r, t, Obj.PRBS_CTRL + n, v)
  | .prbsCheckWrite r t n v => some (r, t, Obj.PRBS_CTRL + n, v)
  | .laneLoopWrite r t n v => some (r, t, Obj.LANE_LOOP + n, v)
  | .eventAck r t v => some (r, t, Obj.EVENT_ACK, v)
  | .pairHandover r t v => some (r, t, Obj.PAIR_HANDOVER, v)
  | .recordResolve r t v => some (r, t, Obj.RECORD_RESOLVE, v)
  | .keyRevoke r t v => some (r, t, Obj.KEY_REVOKE, v)
  | .fwCommit r t v => some (r, t, Obj.FW_COMMIT, v)
  | .svnCommit r t v => some (r, t, Obj.SVN_COMMIT, v)
  | .selftestStart r t v => some (r, t, Obj.SELFTEST_START, v)
  | .nvmVerify r t v => some (r, t, Obj.NVM_VERIFY, v)
  | .traceCtrlWrite r t v => some (r, t, Obj.TRACE_CTRL, v)
  | .resetRequest r t v => some (r, t, Obj.RESET_REQUEST, v)
  | .axisConfigWrite r t k v => if axisConfigKey k then some (r, t, k, v) else none
  | _ => none

/-- The rows that write an object by its bytes: requester, tag, key and bytes. -/
def bytesRow : Instr → Option (Requester × Nat × Nat × List Byte)
  | .threshWrite r t k v => if threshKey k then some (r, t, k, v) else none
  | .rxEnableWrite r t k v => if k / 256 == Obj.RX_ENABLE / 256 then some (r, t, k, v) else none
  | .mrevConfigWrite r t k v => if mrevWriteKey k then some (r, t, k, v) else none
  | .extrinsicsWrite r t k v => if extrinsicsKey k then some (r, t, k, v) else none
  | .gptpConfigWrite r t k v => if gptpKey k then some (r, t, k, v) else none
  | .portConfigWrite r t k v => if portKey k then some (r, t, k, v) else none
  | .canConfigWrite r t k v => if canKey k then some (r, t, k, v) else none
  | .bondConfigWrite r t k v => if bondKey k then some (r, t, k, v) else none
  | .eventMaskWrite r t k v => if maskKey k then some (r, t, k, v) else none
  | .cueWindowWrite r t f n c => some (r, t, Obj.CUE_WINDOW, windowValue 1 f n c)
  | .cueWindowInsert r t f n c => some (r, t, Obj.CUE_WINDOW, windowValue 2 f n c)
  | .cueWindowDelete r t f n => some (r, t, Obj.CUE_WINDOW, windowValue 3 f n [])
  | .cueWindowClear r t => some (r, t, Obj.CUE_WINDOW, windowValue 4 0 0 [])
  | .cueBootWrite r t v => some (r, t, Obj.CUE_BOOT, v)
  | .gearTableWrite r t g v => some (r, t, Obj.GEAR_TABLE + g % 4, v)
  | .codeFamilyWrite r t v => some (r, t, Obj.CODE_FAMILY, v)
  | .keyProgram r t v => some (r, t, Obj.KEY_PROGRAM, v)
  | .identitySet r t v => some (r, t, Obj.IDENTITY_SET, v)
  | .lifecycleRequest r t v => some (r, t, Obj.LIFECYCLE_REQUEST, v)
  | .liveMapWrite r t v => some (r, t, Obj.LIVE_MAP, v)
  | _ => none

/-- Every row that writes one object: requester, tag, key and the value's bytes. -/
def writeRow (s : State) (c : Instr) : Option (Requester × Nat × Nat × List Byte) :=
  match scalarRow c with
  | some (r, t, k, v) => some (r, t, k, scalarBytes s k v)
  | none => bytesRow c

/-! ### The order of requests in one cycle (R55) -/

/-- The place of a bearer's requests among those of one cycle (R55). -/
def placeOf : Bearer → Nat
  | .i3c => 0 | .can => 1 | .e0 => 2 | .e1 => 3

/-- What a request asks for: its bearer, the first object's key and the number of consecutive objects, which READ_RANGE and
WRITE_RANGE give in their first payload byte (R61, R76). -/
structure Asked where
  bearer : Bearer
  key    : Nat
  count  : Nat
  deriving DecidableEq, Repr

/-- The request of an operation on a key. -/
def askedBy (b : Bearer) (op key : Nat) (payload : List Byte) : Asked :=
  ⟨b, key, if op = 3 ∨ op = 4 then beAt payload 0 1 else 1⟩

/-- The request that a PDU brings; one that is discarded asks for nothing (R66). -/
def askedPdu (b : Bearer) (pdu : List Byte) : Option Asked :=
  if pduDiscarded pdu then none else some (askedBy b (beAt pdu 0 1 % 16) (beAt pdu 2 3) (pdu.drop 8))

/-- The request that a row of KOA's operations brings. -/
def askedRow (req : Requester) (op : Nat) (h : KoaHdr) (payload : List Byte) : Option Asked :=
  some (askedBy req.bearer op (h.index * 256 + h.sub) payload)

/-- The object request that a command brings, a received frame or datagram with a KOA PDU included (R67, R703). -/
def asked (s : State) : Instr → Option Asked
  | .koaRequest pdu => askedPdu .i3c pdu
  | .koaRead req h p => askedRow req 1 h p
  | .koaWrite req h p => askedRow req 2 h p
  | .koaReadRange req h p => askedRow req 3 h p
  | .koaWriteRange req h p => askedRow req 4 h p
  | .koaReadSeg req h p => askedRow req 5 h p
  | .koaWriteSeg req h p => askedRow req 6 h p
  | .koaWriteIf req h p => askedRow req 7 h p
  | .koaDescribe req h p => askedRow req 8 h p
  | .koaUnassignedOpcode req op h p => askedRow req op h p
  | .canFrameReceive f =>
    if f.format != .classic && f.id == s.getN Obj.KOA_CAN_REQ_ID then askedPdu .can f.data else none
  | .ethFrameReceive port f =>
    match f.body with
    | .ip x => match x.payload with
      | .udp sport dport d =>
        if dport = s.getN Obj.KOA_UDP_PORT then askedPdu (netReq port x.src sport).bearer d else none
      | _ => none
    | _ => none
  | c => (writeRow s c).map (fun w => ⟨w.1.bearer, w.2.2.1, 1⟩)

/-- Two requests meet in an object. -/
def Asked.meets (a b : Asked) : Bool := decide (a.key < b.key + b.count) && decide (b.key < a.key + a.count)

/-- Of two requests that meet in an object, the second is not of a bearer that R55 serves before the first's. -/
def mayFollow (s : State) (c d : Instr) : Bool :=
  match asked s c, asked s d with
  | some a, some b => !a.meets b || decide (placeOf a.bearer ≤ placeOf b.bearer)
  | _, _ => true

/-- Commands that wait together arrived in one core cycle (log entry 53): those of different networks for one object stand in the
order of R55. -/
def queueOk (s : State) : List Instr → Bool
  | [] => true
  | c :: rest => rest.all (fun d => mayFollow s c d) && queueOk s rest

/-! ### Engine instructions -/

/-- The engine executes an instruction of a class now: it runs and is awake, its program counter lies in its program memory on a
good word, a branch is in no delay slot, and what is not repeated is not under RPT (R481, R484, R485, R502). -/
def issues (s : State) (n : Nat) (c : InstrClass) : Prop :=
  let e := s.engine n
  s.engineRuns n = true ∧ e.asleep = false ∧ e.pc < programEnd n ∧ s.engineBad n (0x80000 + 2 * e.pc) = false ∧
    (c.branch = true → e.slots = 0) ∧ (c.noRepeat = true → e.rpt = none)

/-- The state in which an instruction does its work: the engine waits no more, and the repeat cache has taken the instruction (R481,
R488). -/
def woken (s : State) (n : Nat) : State := s.setEngine n { (s.engine n).fillCache with waiting := false }

/-- The state after an instruction whose work gave a state: the engine moves on, and program flow goes to trace (R484 to R486, R857). -/
def issued (s : State) (n : Nat) (c : InstrClass) (done : State) : State :=
  (done.modEngine n (fun e => e.finish (s.engine n).rpt c.load)).traceFlow n (s.engine n).pc none

end Sys2Proof.Safety
end

