-- ==== Sys2Proof/Certificates/Slice0/Obligations.lean ====
section
/-! DEFINITION. The statements for the provers. -/

open Sys2Proof Sys2Proof.Machine Sys2Proof.Safety

/-- A step with a command at the front of the queue is that command's effect on the state with the queue's rest (the block's law of this
package; log entry 1). -/
def Obligations.StepRunsTheFrontCommand : Prop :=
  (∀ (c : Instr) (s : State), step (s.enqueueFront c) = exec c s) ∧
  (∀ (c : Instr) (rest : List Instr) (s : State), s.pending = c :: rest → step s = exec c (s.dequeue rest))

/-- A step of an empty queue is one core cycle (DESIGN CHOICE, log entry 1): the clock counts, local time advances by CLOCK_INCREMENT
outside reset (R660), a port that is up and free begins the oldest frame of the first class that waits (R680), and what no cycle touches by
itself stays unless a setting waits for its response (R71). -/
def Obligations.EmptyQueueIsOneCycle : Prop :=
  ∀ s : State, s.pending = [] → ∃ t, step s = .next t ∧ t.now = s.now + 1 ∧ t.pending = [] ∧
    (s.net.held = [] →
      (s.reset_.phase ≠ .held → t.time.total = (s.time.advance (s.getN Obj.CLOCK_INCREMENT)).total) ∧
      (s.reset_.phase = .held → t.time.total = s.time.total) ∧
      t.koa = s.koa ∧ s.freeCtr ≤ t.freeCtr ∧ t.hk = s.hk ∧ t.nvm = s.nvm ∧ t.otp = s.otp ∧ t.reset_ = s.reset_ ∧
      (∀ p : Fin 2, s.portUp p = true → s.wireIdle p = true → ∀ f, f ∈ s.waitingFrames p →
        ∃ g ∈ s.sendPdelayResps.waitingFrames p, g.cls ≤ f.cls ∧ g.msg ∈ t.sent) ∧
      (∀ p : Fin 2, s.portUp p = true → s.wireIdle p = false → ∀ f, f ∈ s.waitingFrames p → f ∈ t.waitingFrames p))

/-- Every command completes on every state, and so does every step (derived: chapter 01 gives every command an effect or none). -/
def Obligations.EveryCommandCompletes : Prop :=
  (∀ (c : Instr) (s : State), ∃ t, exec c s = .next t) ∧ (∀ s : State, goesOn s)

/-- A command leaves the queue and the model's clock as they were, a reset of the device included (log entry 1). -/
def Obligations.CommandsKeepQueueAndClock : Prop :=
  ∀ (c : Instr) (s t : State), exec c s = .next t → t.pending = s.pending ∧ t.now = s.now

/-- The object store's canonical form is an invariant of every step: all 346 commands, the boot, the resets and the restore of stored
values included (derived: R14 gives every object one value, its default until it is written). -/
def Obligations.StepKeepsTheStoreCanonical : Prop :=
  ∀ s t : State, storeWf s = true → step s = .next t → storeWf t = true

/-- The state after reset (R297, R298, R870, R873; the reset values the tables leave open are those of log entries 4 to 7). -/
def Obligations.ResetIsHeldDark : Prop :=
  storeWf State.reset = true ∧ dark State.reset = true ∧ State.reset.faultLow = true ∧ State.reset.pending = [] ∧
  State.reset.reset_.phase = .held ∧ State.reset.safety.state = .init ∧ State.reset.seq.state = .stopped ∧
  (State.reset.axis 0).st = .off ∧ (State.reset.axis 1).st = .off ∧ State.reset.jobs.slots = [] ∧
  State.reset.koa.sessions = [] ∧ State.reset.seq.takes = [] ∧
  (∀ k, State.reset.get k = objDflt k) ∧ (∀ k, State.reset.getBlk k = blkDflt k)

/-- R765: a raise notes the event with the local time; its handling counts it, records it, sets its pending bit and sends its record to the
routes of its EVENT_ROUTE byte while it is enabled, and does no more while it is not. The events of a cycle are handled in ascending
number. -/
def Obligations.RaisedEventIsCountedAndRouted : Prop :=
  ∀ (s : State) (e p : Nat), e < 384 →
    let r : RaisedEvent := ⟨e, p, !s.synced, s.time.sec, s.time.ns⟩
    (s.raise e p).ev.raised = s.ev.raised ++ [r] ∧
    (s.handleEvent r).get (eventCountKey e) = satAdd 0xFFFFFFFF (s.get (eventCountKey e)) 1 ∧
    (s.handleEvent r).getBlk (eventLastKey e) = eventRecord e false (!s.synced) p s.time.sec s.time.ns ∧
    (s.eventEnabled e = true → (s.handleEvent r).ev.pending.getLsbD e = true ∧
      s.handleEvent r = ((s.noteEvent r).setPending e).routeEvent r) ∧
    (s.eventEnabled e = false → s.handleEvent r = s.noteEvent r) ∧
    (∃ rs : List RaisedEvent, rs.Perm s.ev.raised ∧ rs.Pairwise (fun a b => a.event ≤ b.event) ∧
      let u := rs.foldl State.handleEvent { s with ev := { s.ev with raised := [] } }
      s.handleEvents = { u with ev := { u.ev with maskWas := none, routeWas := none } })

/-- The frame of every report: what raising an event and what handling it can change. -/
def Obligations.ReportingChangesOnlyReports : Prop :=
  ∀ (s : State) (e p : Nat) (r : RaisedEvent), e < 384 → r.event < 384 →
    onlyParts [.ev] s (s.raise e p) ∧ onlyKeys (fun _ => false) s (s.raise e p) ∧
    onlyParts handling s (s.handleEvent r) ∧ onlyKeys reportKey s (s.handleEvent r)

/-- R66: KOA_PDU_DISCARD. -/
def Obligations.DiscardedPdusAreOnlyCounted : Prop :=
  ∀ (s : State) (req : Requester) (pdu : List Byte), s.bearerOpen req.bearer = true →
    (pdu.length < 8 ∨ natBit (beAt pdu 0 1) 7 = true) →
    ∃ t, exec (.koaPduDiscard req pdu) s = .next t ∧ onlyParts [.reg] s t ∧
      t.get Obj.KOA_DISCARDS = satAdd 0xFFFFFFFF (s.get Obj.KOA_DISCARDS) 1 ∧ onlyKeys (· == Obj.KOA_DISCARDS) s t

/-- R65: of several statuses the first of the rule's list is the one that is answered. -/
def Obligations.FirstStatusInOrder : Prop :=
  let order : List Status := [.badVersion, .malformed, .badOpcode, .noObject, .noSubindex, .notBlock, .readOnly, .sealed, .lifecycle,
    .length, .tooLarge, .key, .outOfRange, .mismatch, .inUse, .sequence, .expired, .noResource, .state, .busy]
  firstStatus [] = .ok ∧
  ∀ l : List Status, (∀ x ∈ l, x ∈ order) → l ≠ [] →
    firstStatus l ∈ l ∧ ∀ x ∈ l, order.idxOf (firstStatus l) ≤ order.idxOf x

/-- R61: each field of the header is read from where it is put. -/
def Obligations.RequestsAreReadFromTheirBytes : Prop :=
  ∀ (op : Nat) (h : KoaHdr) (payload : List Byte), op < 16 → goodHeader h payload →
    let p := pduOf op h payload
    pduVer p = 1 ∧ pduOp p = op ∧ pduTag p = h.tag ∧ pduIndex p = h.index ∧ pduSub p = h.sub ∧ pduFlags p = h.flags ∧
      pduLen p = h.len ∧ pduBody p = payload ∧ pduDiscarded p = false

/-- Chapter 02's operations (R63, R73, R74, R76, R77, R78, R81, R82): what each is answered with and what it leaves. -/
def Obligations.KoaOperationsAreExecuted : Prop :=
  ∀ (s : State) (req : Requester) (h : KoaHdr) (p : List Byte), goodHeader h p →
    let k := h.index * 256 + h.sub
    let max := s.maxPayload req.bearer
    (takes s req (pduOf 1 h p) → p = [] → ∀ d, s.objectAt h.index h.sub = some d → (d.isBlk = true → d.access ≠ .wo → d.lo.toNat ≤ max) →
      (s.readForm d k).length ≤ max →
      exec (.koaRead req h p) s = .next (served s req (pduOf 1 h p) (s.done (s.readForm d k)))) ∧
    (takes s req (pduOf 2 h p) → ∀ d, s.objectAt h.index h.sub = some d → s.writeStatus max d k p = .ok →
      exec (.koaWrite req h p) s = .next (served s req (pduOf 2 h p) (s.accept d k p req.bearer.origin h.tag))) ∧
    (takes s req (pduOf 3 h p) → exec (.koaReadRange req h p) s =
      .next (served s req (pduOf 3 h p) (s.koaReadRange max h.index h.sub p))) ∧
    (takes s req (pduOf 4 h p) → exec (.koaWriteRange req h p) s =
      .next (served s req (pduOf 4 h p) (s.koaWriteRange max h.index h.sub p req.bearer.origin h.tag))) ∧
    (takes s req (pduOf 5 h p) → ∀ d, s.objectAt h.index h.sub = some d →
      exec (.koaReadSeg req h p) s = .next (served s req (pduOf 5 h p) (s.koaReadSeg req max d k p))) ∧
    (takes s req (pduOf 6 h p) → ∀ d, s.objectAt h.index h.sub = some d →
      exec (.koaWriteSeg req h p) s =
        .next (served s req (pduOf 6 h p) (s.koaWriteSeg req max d k (natBit h.flags 0) p req.bearer.origin h.tag))) ∧
    (takes s req (pduOf 7 h p) → ∀ d, s.objectAt h.index h.sub = some d →
      exec (.koaWriteIf req h p) s = .next (served s req (pduOf 7 h p) (s.koaWriteIf d k p req.bearer.origin h.tag))) ∧
    (takes s req (pduOf 8 h p) → p = [] → ∀ d, s.objectAt h.index h.sub = some d →
      exec (.koaDescribe req h p) s = .next (served s req (pduOf 8 h p) (s.done (s.describe d k)))) ∧
    (takes s req (pduOf 9 h p) → p = [] →
      exec (.koaNop req h p) s = .next (served s req (pduOf 9 h p) (s.done []))) ∧
    (∀ op : Fin 16, (op.val = 0 ∨ 10 ≤ op.val) → takes s req (pduOf op h p) →
      exec (.koaUnassignedOpcode req op h p) s = .next (served s req (pduOf op h p) (s.fail .badOpcode)))

/-- R76, R77, R81, R82: what the operations answer and leave when nothing refuses them. -/
def Obligations.RangesAndSegmentsKeepTheirRules : Prop :=
  ∀ (s : State) (req : Requester) (max index sub k : Nat) (p : List Byte) (origin tag : Nat) (d : ObjDesc),
    (∀ n : Nat, 0 < n → n ≤ 256 → p = beBytes 1 n → (s.rangeObjects index sub n).all (fun o => o.isSome && !variable_ o) = true →
      ((s.rangeObjects index sub n).map (fun o => (o.map (·.readSize)).getD 0)).sum ≤ max →
      s.koaReadRange max index sub p = s.done (((s.rangeObjects index sub n).zip (List.range n)).flatMap (fun x =>
        match x.1 with | some e => s.readForm e (index * 256 + sub + x.2) | none => []))) ∧
    (s.segStatus req max d k false p = .ok →
      (s.koaWriteSeg req max d k false p origin tag).status = .ok ∧
      (s.koaWriteSeg req max d k false p origin tag).st.session k =
        some ⟨req, k, ((s.session k).map (·.data)).getD [] ++ p.drop 4, s.now⟩) ∧
    (∀ n : Nat, 0 < n → n ≤ 256 → p ≠ [] → beAt p 0 1 = n % 256 →
      (s.rangeObjects index sub n).all (fun o => o.isSome && !variable_ o) = true →
      let ds := (s.rangeObjects index sub n).filterMap id
      let vs := rangeValues (index * 256 + sub) ds (p.drop 1)
      ds.flatMap s.accessChecks = [] → p.length = (ds.map (fun e => e.elemSize.getD 0)).sum + 1 → p.length ≤ max →
      (s.rangeStatuses vs).flatten = [] →
      (vs.filter (fun v => (s.jobOf v.2.1 (beNat v.2.2)).isSome)).length ≤
        (jobSlots.filter (fun m => (s.job m).state == .free)).length →
      s.koaWriteRange max index sub p origin tag = s.acceptAll vs origin tag) ∧
    (d.ty = .block → p.length = 6 → 4 ≤ max → beAt p 0 4 = 0 → s.hasExpired req k = false →
      (s.snapshot req k = none → s.koa.snapshots.length < 8 ∧ s.ddrHas ddrSessions = true) →
      (s.koaReadSeg req max d k p).status = .ok ∧
      (s.koaReadSeg req max d k p).st.snapshot req k = some ⟨req, k, s.liveBlock d k, s.now⟩ ∧
      (s.koaReadSeg req max d k p).payload =
        beBytes 4 (s.liveBlock d k).length ++ (s.liveBlock d k).take (min (beAt p 4 2) (max - 4))) ∧
    (d.isBlk = false → p.length = 2 * typeSize d.ty → s.accessChecks d = [] → s.inSession k = false → s.shadowed d k = false →
      s.valueChecks d k (p.drop (typeSize d.ty)) = [] →
      (s.liveValue d k = decodeValue d.ty (p.take (typeSize d.ty)) →
        s.koaWriteIf d k p origin tag = { s.accept d k (p.drop (typeSize d.ty)) origin tag with payload := [] }) ∧
      (s.liveValue d k ≠ decodeValue d.ty (p.take (typeSize d.ty)) →
        s.koaWriteIf d k p origin tag = ⟨s, .mismatch, s.readForm d k, []⟩))

/-- The write rows of the command table complete: 67 rows, one object each (R74, R78 and each row's own rule). -/
def Obligations.WriteCommandsApplyTheirValue : Prop :=
  ∀ (s : State) (c : Instr) (req : Requester) (tag k : Nat) (bs : List Byte) (d : ObjDesc),
    writeRow s c = some (req, tag, k, bs) → tag < 256 → k < 2 ^ 24 →
    s.objectAt (k / 256) (k % 256) = some d → bs.length ≤ s.maxPayload req.bearer →
    takes s req (requestPdu 2 tag k 0 bs) → s.writeStatus (s.maxPayload req.bearer) d k bs = .ok →
    exec c s = .next (served s req (requestPdu 2 tag k 0 bs) (s.accept d k bs req.bearer.origin tag))

/-- R78, R81: a long value; and the keys that a keyed row does not cover (log entry 5). -/
def Obligations.LongWritesRunOneSession : Prop :=
  (∀ (s : State) (c : Instr) (req : Requester) (tag k : Nat) (bs : List Byte) (d : ObjDesc),
    writeRow s c = some (req, tag, k, bs) → tag < 256 → k < 2 ^ 24 → s.maxPayload req.bearer < bs.length →
    s.objectAt (k / 256) (k % 256) = some d → takes s req (requestPdu 6 tag k 1 (beBytes 4 0 ++ bs)) →
    exec c s = .next (served s req (requestPdu 6 tag k 1 (beBytes 4 0 ++ bs)) (s.koaLong req d k bs req.bearer.origin tag))) ∧
  (∀ (s : State) (req : Requester) (tag k v : Nat) (bs : List Byte),
    (axisConfigKey k = false → exec (.axisConfigWrite req tag k v) s = .next s) ∧
    (threshKey k = false → exec (.threshWrite req tag k bs) s = .next s) ∧
    ((k / 256 == Obj.RX_ENABLE / 256) = false → exec (.rxEnableWrite req tag k bs) s = .next s) ∧
    (mrevWriteKey k = false → exec (.mrevConfigWrite req tag k bs) s = .next s) ∧
    (extrinsicsKey k = false → exec (.extrinsicsWrite req tag k bs) s = .next s) ∧
    (gptpKey k = false → exec (.gptpConfigWrite req tag k bs) s = .next s) ∧
    (portKey k = false → exec (.portConfigWrite req tag k bs) s = .next s) ∧
    (canKey k = false → exec (.canConfigWrite req tag k bs) s = .next s) ∧
    (bondKey k = false → exec (.bondConfigWrite req tag k bs) s = .next s) ∧
    (maskKey k = false → exec (.eventMaskWrite req tag k bs) s = .next s))

/-- R64: what a refused WRITE may change. -/
def Obligations.RefusedWritesChangeNoObject : Prop :=
  ∀ (s : State) (max : Nat) (d : ObjDesc) (k : Nat) (bs : List Byte) (origin tag : Nat),
    s.writeStatus max d k bs ≠ .ok →
    let t := (s.koaWrite max d k bs origin tag).st
    onlyParts reporting s t ∧
    onlyKeys (fun j => reportKey j || j == Obj.CUE_RESULT || j == Obj.SEAL_RESULT || j / 256 == Obj.KERNEL_RESULT / 256) s t ∧
    (∀ j, j / 256 ≠ Obj.EVENT_LAST / 256 → j / 256 ≠ Obj.EVENT_LAST_HI / 256 → t.getBlk j = s.getBlk j) ∧
    (s.koaWrite max d k bs origin tag).status = s.writeStatus max d k bs

/-- R68, R80: KOA_WRITE stands for every request on a network. -/
def Obligations.RepeatedAndCrowdedRequestsAreNotExecuted : Prop :=
  ∀ (s : State) (req : Requester) (h : KoaHdr) (p : List Byte), goodHeader h p → req.bearer ≠ .i3c →
    s.bearerOpen req.bearer = true → s.bearerEnabled req.bearer = true →
    (∀ r, s.waitingOn req.bearer < req.bearer.limit → s.cached req (pduOf 2 h p) = some r →
      exec (.koaWrite req h p) s = .next ((s.holdRequest req.bearer (pduOf 2 h p)).netRespond req (pduOf 2 h p) r) ∧
      ∃ t, exec (.koaWrite req h p) s = .next t ∧ onlyParts (.koa :: .freeCtr :: reporting) s t) ∧
    (req.bearer.limit ≤ s.waitingOn req.bearer →
      ∃ t, exec (.koaWrite req h p) s = .next t ∧ t.koa = s.koa ∧ onlyParts reporting s t ∧
        exec (.koaWrite req h p) s = .next (s.netRespond req (pduOf 2 h p) (koaResponse (pduOf 2 h p) .busy [])))

/-- R72, R83: SEGMENT_EXPIRED and KOA_I3C_RESPONSE_TIMEOUT. -/
def Obligations.SegmentsAndResponsesTimeOut : Prop :=
  (∀ (s : State) (x : WriteSession), x ∈ s.koa.sessions → s.now ≥ x.last + ms 100 →
    ∃ t, exec (.segmentExpired x.owner x.key) s = .next t ∧ x ∉ t.koa.sessions ∧ t.hasExpired x.owner x.key = true ∧
      raisedCount t 0x165 = raisedCount s 0x165 + 1) ∧
  (∀ (s : State) (x : Snapshot), x ∈ s.koa.snapshots → s.now ≥ x.last + ms 100 →
    ∃ t, exec (.segmentExpired x.owner x.key) s = .next t ∧ x ∉ t.koa.snapshots ∧ t.hasExpired x.owner x.key = true) ∧
  (∀ (s : State) (r : List Byte) (t0 : Time), s.i3c.response = some (r, t0) → s.i3c.later = [] → s.now ≥ t0 + ms 10 →
    ∃ t, exec .koaI3cResponseTimeout s = .next t ∧
      t.i3c.response = s.i3c.busyResponse.map (fun b => (b, s.now)) ∧ t.i3c.busyResponse = none ∧
      t.get Obj.KOA_DISCARDS = satAdd 0xFFFFFFFF (s.get Obj.KOA_DISCARDS) 1)

/-- R98: JOB_RETENTION_EXPIRY, and what an accepted JOB_ACK does. -/
def Obligations.FinishedJobsFreeTheirSlot : Prop :=
  ∀ (s : State) (n : Nat), 1 ≤ n → n ≤ 16 → (s.job n).finished = true →
    ((s.job n).finishedAt + sec 10 ≤ s.now → ∃ t, exec (.jobRetentionExpiry n) s = .next t ∧
      t.job n = { Job.free with seq := (s.job n).seq } ∧ (∀ m, m ≠ n → t.job m = s.job m) ∧ onlyParts [.jobs] s t) ∧
    (∀ v : Nat, s.handleNames v = true → handleSlot v = n →
      (s.ackJob v).job n = { Job.free with seq := (s.job n).seq } ∧ ∀ m, m ≠ n → (s.ackJob v).job m = s.job m) ∧
    (∀ v : Nat, s.handleNames v = false ∨ (s.job (handleSlot v)).finished = false → s.ackJob v = s)

/-- R46, R47: JOB_STEP. -/
def Obligations.JobStepRunsTheNextJobOnce : Prop :=
  ∀ (s : State) (input : JobInput),
    (∀ n, s.jobs.round.find? (fun m => s.canStep m) = some n →
      let s1 := { s with jobs := { s.jobs with round := s.jobs.round.filter (· != n) ++ [n] } }
      let s2 := s1.setJob n { s1.job n with steps := min 0xFFFF ((s1.job n).steps + 1) }
      exec (.jobStep input) s = .next (s2.stepJob n input)) ∧
    ((∀ m ∈ s.jobs.round, s.canStep m = false) → exec (.jobStep input) s = .next s)

/-- R28, R86, R91, R102, R315, R337, R354, R826 to R831, R839, R857, R913: the NVM, the scrubbers of the SRAM and of the DDR5, its
training and wipe, the operating log, the trace snapshots, the audit comparison and the clock monitors. -/
def Obligations.MemoriesAuditsAndClocksKeepTheirRules : Prop :=
  ∀ s : State,
    let a : SafetyIsland := { s.safety with
      ae0 := s.auditCopy s.safety.ae0, ae1 := s.auditCopy s.safety.ae1, auditLog := [], ae0Busy := false, ae1Busy := false
      ae0W0 := s.auditW0 s.safety.ae0W0, ae1W0 := s.auditW0 s.safety.ae1W0 }
    let u : State := { s with safety := a }
    (∀ n r, s.nvm.busy = .program n r →
      (∃ t, exec (.nvmProgramDone true) s = .next t ∧ t.nvm.log = s.nvm.log ++ [r.programmed] ∧ t.nvm.busy = .idle ∧
        (t.job n).records = (s.job n).records.drop 1 ∧ onlyParts [.nvm, .jobs] s t) ∧
      (∃ t, exec (.nvmProgramDone false) s = .next t ∧ t.nvm.log = s.nvm.log ∧ t.nvm.busy = .idle ∧
        onlyParts (.nvm :: .jobs :: reporting) s t ∧
        t = State.finishJob { s with nvm := { s.nvm with busy := .idle, headUsed := s.nvm.headUsed + 1 }.moveHead } n .failed 0x10)) ∧
    (∀ x, s.nvm.busy = .erase x →
      (∃ t, exec (.nvmEraseDone true) s = .next t ∧ t.nvm.busy = .idle ∧ t.nvm.erases x = s.nvm.erases x + 1 ∧
        onlyParts (.nvm :: reporting) s t) ∧
      (∃ t, exec (.nvmEraseDone false) s = .next t ∧ t.nvm.busy = .idle ∧ t.nvm.worn = s.nvm.worn ++ [x] ∧
        t.nvm.erases x = s.nvm.erases x + 1)) ∧
    (s.nvm.busy = .idle → s.nvm.erasedAhead = 0 →
      ∃ t, exec .nvmWearLevelErase s = .next t ∧
        t.nvm.busy = .erase (nextSector s.nvm.worn 256 s.nvm.headSector) ∧ onlyParts [.nvm] s t ∧
        ∀ r ∈ s.nvm.log, logLive s.nvm.log r = true → ∃ q ∈ t.nvm.log, { q with sector := r.sector } = r) ∧
    (s.powered = true → s.reset_.sramWiped = true → ∀ (m : Fin 6) (addr y : Nat) (owner : Bool),
      exec (.sramScrubRead m addr .clean owner false) s = .next s ∧
      (∃ t, exec (.sramScrubRead m addr (.corrected y) owner false) s = .next t ∧ onlyParts reporting s t ∧
        t.get (Obj.ECC_CORRECTED + m) = satAdd 0xFFFFFFFF (s.get (Obj.ECC_CORRECTED + m)) 1) ∧
      (m.val = 0 → ∃ t, exec (.sramScrubRead m addr (.uncorrectable y) owner false) s = .next t ∧ onlyParts (.hist :: reporting) s t ∧
        (addr / 4096 % 256, addr / 2048 % 2, addr % 2048) ∈ t.hist.badWords ∧
        t.get (Obj.ECC_UNCORRECTED + m) = satAdd 0xFFFFFFFF (s.get (Obj.ECC_UNCORRECTED + m)) 1) ∧
      (m.val = 1 → ∃ t, exec (.sramScrubRead m addr (.uncorrectable y) owner false) s = .next t ∧ (1, addr) ∈ t.mem.badWords ∧
        onlyParts reporting s t) ∧
      (m.val = 2 → owner = true → ∃ t, exec (.sramScrubRead m addr (.uncorrectable y) owner false) s = .next t ∧
        t.reset_.phase = .held ∧ t.reset_.retained = s.reset_.retained.after .memory 0xFF) ∧
      (m.val = 3 → ∃ t, exec (.sramScrubRead m addr (.uncorrectable y) owner false) s = .next t ∧ t.gateOpen = false) ∧
      (m.val = 4 → addr < 16384 → addr < s.seq.active.length → ∃ t, exec (.sramScrubRead m addr (.uncorrectable y) owner false) s = .next t ∧
        addr ∈ t.seq.void_ ∧ onlyParts (.seq :: reporting) s t)) ∧
    (s.ddrReady = true → ∀ (addr y : Nat),
      (∃ t, exec (.ddrScrubRead addr (.corrected y) .other false) s = .next t ∧ onlyParts reporting s t ∧
        t.get (Obj.ECC_CORRECTED + 6) = satAdd 0xFFFFFFFF (s.get (Obj.ECC_CORRECTED + 6)) 1) ∧
      (∃ t, exec (.ddrScrubRead addr .burstCrc .other false) s = .next t ∧ onlyParts reporting s t ∧
        t.get (Obj.ECC_UNCORRECTED + 6) = satAdd 0xFFFFFFFF (s.get (Obj.ECC_UNCORRECTED + 6)) 8) ∧
      (∃ t, exec (.ddrScrubRead addr .clean .other true) s = .next t ∧ onlyParts reporting s t ∧
        t.get (Obj.SCRUB_PASSES + 1) = satAdd 0xFFFFFFFF (s.get (Obj.SCRUB_PASSES + 1)) 1) ∧
      (∀ o k, s.koa.sessions.any (fun z => z.owner == o && z.key == k) = true →
        ∃ t, exec (.ddrScrubRead addr (.uncorrectable y) (.session o k) false) s = .next t ∧ (o, k) ∈ t.koa.expired ∧
          t.koa.sessions = s.koa.sessions.filter (fun z => !(z.owner == o && z.key == k)) ∧ onlyParts (.koa :: reporting) s t)) ∧
    (∀ org : Fin 5, s.reset_.phase = .firmware ∨ s.running = true → s.get Obj.DDR_STATE = 0 →
      let o := if s.ddrConfig = 0 then org.val else s.ddrConfig
      (o = 0 → ∃ t, exec (.ddrTrainingDone true org) s = .next t ∧ t.get Obj.DDR_STATE = 3 ∧ onlyParts reporting s t) ∧
      (∃ t, exec (.ddrTrainingDone false org) s = .next t ∧ t.get Obj.DDR_STATE = 3 ∧ onlyParts reporting s t ∧
        raisedCount t 0x156 = raisedCount s 0x156 + 1) ∧
      (o ≠ 0 → ∃ t, exec (.ddrTrainingDone true org) s = .next t ∧ t.get Obj.DDR_STATE = 1 ∧
        t.get Obj.DDR_SIZE = (ddrCapacity o : Int) ∧ onlyParts (.jobs :: reporting) s t)) ∧
    (∀ n, s.wipeSlot = some n →
      ((s.job n).doneCount + 1 < (s.job n).total → ∃ t, exec .ddrWipeRegionDone s = .next t ∧ t.mem.regions = s.mem.regions + 1 ∧
        (t.job n).doneCount = (s.job n).doneCount + 1 ∧ onlyParts [.mem, .jobs] s t) ∧
      ((s.job n).total ≤ (s.job n).doneCount + 1 → ∃ t, exec .ddrWipeRegionDone s = .next t ∧
        t.mem.regions = s.mem.regions + 1 ∧ t.get Obj.DDR_STATE = 2 ∧
        raisedCount t 0x155 = raisedCount s 0x155 + 1)) ∧
    (∀ temps : List Int, s.mem.ddrTrained = true → temps.any (fun v => decide (85 < v)) ≠ s.mem.refreshHalved →
      ∃ t, exec (.ddrTempPoll temps) s = .next t ∧ t.mem.refreshHalved = temps.any (fun v => decide (85 < v)) ∧
        raisedCount t 0x157 = raisedCount s 0x157 + 1 ∧ onlyParts reporting s t) ∧
    (s.powered = true → reached s.now s.mem.hourAt hour = true → ∃ t, exec .operatingLogAppend s = .next t ∧
      t.nvm.opLog = ((min 0xFFFFFFFF (s.powerOnHours + 1), s.nvm.resets, s.mem.hourPeak) :: s.nvm.opLog).take (16 * 256) ∧
      t.mem.hourAt = s.now ∧ onlyParts [.nvm, .mem] s t) ∧
    (s.running = true → s.traceOn 25 = true → s.getN Obj.TRACE_CTRL % 256 ≠ 0 →
      reached s.now s.mem.snapAt (ms (s.getN Obj.TRACE_CTRL % 256)) = true → ∃ t, exec .traceSnapshot s = .next t ∧
        t.mem.snapAt = s.now ∧ onlyParts reporting s t) ∧
    (s.safety.ae0Busy = true → s.safety.ae1Busy = true → s.safety.aeStopped = false → u.auditEqual = true →
      u.copyAtLimit a.ae0 = false → u.copyAtLimit a.ae1 = false → s.sealIntact = true →
      ∃ t, exec .auditCompareDone s = .next t ∧ t.safety = { a with auditOk := true, auditMet := true } ∧ onlyParts [.safety] s t) ∧
    (s.safety.ae0Busy = true → s.safety.ae1Busy = true → s.safety.aeStopped = false → u.auditEqual = false →
      ∃ t, exec .auditCompareDone s = .next t ∧ dark t = true ∧
        natBit (t.getN Obj.LOCKOUT_CAUSE) Cause.auditMismatch.bit = true) ∧
    (∀ c : Fin 4, s.held = false → s.reset_.clockFaults.contains c.val = false → c ≠ 3 → ∃ t, exec (.clockFault c) s = .next t ∧
      dark t = true ∧ natBit (t.getN Obj.LOCKOUT_CAUSE) Cause.clockFault.bit = true ∧ c.val ∈ t.reset_.clockFaults ∧
      (c = 2 → t.safety.aeStopped = true) ∧
      raisedCount t 0x15A = raisedCount s 0x15A + 1) ∧
    (s.held = false → s.reset_.clockFaults.contains 3 = false → ∃ t, exec (.clockFault 3) s = .next t ∧ t.safety = s.safety ∧
      3 ∈ t.reset_.clockFaults ∧ t.reset_.spokeClockAt = none) ∧
    (∀ c : Fin 4, s.reset_.clockFaults.contains c.val = true → ∃ t, exec (.clockRecovered c) s = .next t ∧
      c.val ∉ t.reset_.clockFaults ∧ t.safety = s.safety ∧ (c = 3 → t.reset_.spokeClockAt = some s.now) ∧
      raisedCount t 0x15A = raisedCount s 0x15A + 1) ∧
    (∀ w, s.reset_.spokeClockAt = some w → reached s.now w (ms 1) = true → ∃ t, exec .spokePllStable s = .next t ∧
      t.reset_.spokeClockAt = none ∧ onlyParts [.eng, .reset] s t ∧
      (∀ n, (s.engine n).st ≠ .restarting → t.engine n = s.engine n))

/-- R95, R98, R103: the end of a job. -/
def Obligations.FinishedJobsReportOnce : Prop :=
  ∀ (s : State) (n : Nat) (st : JobState) (result : Nat), 1 ≤ n → n ≤ 16 → st = .done ∨ st = .failed ∨ st = .aborted →
    let t := s.finishJob n st result
    let e := if st == .done then 0x160 else if st == .failed then 0x161 else 0x162
    (t.job n).state = st ∧ (t.job n).result = result ∧ (t.job n).finishedAt = s.now ∧ (t.job n).seq = (s.job n).seq ∧
    (st = .done → (t.job n).progress = 100) ∧ n ∉ t.jobs.round ∧
    raisedCount t e = raisedCount s e + 1 ∧ onlyParts (.jobs :: reporting) s t

/-- R118, R121, R181, R316, R917: EV_RAW_TRANSITION, EV_EDGE_ACCEPTED, EV_BANK_GAP_END. Between release and the start of the inputs the
safety island's own copy of the filter follows a ball (the model's reading, log entry 55). -/
def Obligations.EventInputsAreFiltered : Prop :=
  ∀ (s : State) (i : Fin 16) (lv : Bool) (tap : Fin 64),
    let x := lv != s.getB (Obj.EV_INVERT + i)
    (s.reset_.phase = .held → exec (.evRawTransition i lv tap) s = .next (s.setEvIn i { s.evIn i with ball := lv })) ∧
    (s.running = false → s.reset_.phase ≠ .held → x ≠ (s.evIn i).filt → (s.evIn i).pend = none →
      exec (.evRawTransition i lv tap) s = .next (s.setEvIn i { s.evIn i with
        ball := lv, pend := some (x, 64 * s.now + tap, s.getN (Obj.EV_FILTER + i)) })) ∧
    (s.running = false → s.reset_.phase ≠ .held → x = (s.evIn i).filt →
      exec (.evRawTransition i lv tap) s = .next (s.setEvIn i { s.evIn i with ball := lv, pend := none })) ∧
    (s.running = true → x ≠ (s.evIn i).filt → (s.evIn i).pend = none →
      ∃ t, exec (.evRawTransition i lv tap) s = .next t ∧ onlyParts [.crank] s t ∧
        t.evIn i = { s.evIn i with ball := lv, pend := some (x, 64 * s.now + tap, s.getN (Obj.EV_FILTER + i)) }) ∧
    (s.running = true → x = (s.evIn i).filt →
      exec (.evRawTransition i lv tap) s = .next (((s.setEvIn i { s.evIn i with ball := lv, pend := none }).releaseChannels 0).releaseChannels 1)) ∧
    (∀ level at_ filter, (s.evIn i).pend = some (level, at_, filter) → at_ + 64 * filter ≤ 64 * s.now + 63 →
      (s.running = true → exec (.evEdgeAccepted i) s = .next (s.acceptEdge i level at_)) ∧
      (s.running = false → ∃ t, exec (.evEdgeAccepted i) s = .next t ∧ t.evIn i = { s.evIn i with filt := level, pend := none } ∧
        t.safety = (if level = true ∧ s.getN Obj.SCAN_MONITOR_INPUT = i then
          { s.safety with scanEdge := s.now, scanSeen := true } else s.safety) ∧ onlyParts [.crank, .safety] s t)) ∧
    (s.inGap 0 = false → ∃ t, exec (.evBankGapEnd 0) s = .next t ∧ t.crank.gap0 = none ∧ t.crank.gap1 = s.crank.gap1 ∧
      t.crank.ev = s.crank.ev ∧ onlyParts [.crank] s t) ∧
    (s.inGap 8 = false → ∃ t, exec (.evBankGapEnd 1) s = .next t ∧ t.crank.gap1 = none ∧ t.crank.gap0 = s.crank.gap0 ∧
      t.crank.ev = s.crank.ev ∧ onlyParts [.crank] s t)

/-- R120: the later of two close edges. -/
def Obligations.CloseEdgesAreDropped : Prop :=
  ∀ (s : State) (i : Fin 16) (lv : Bool) (stamp t0 : Nat), (s.evIn i).last = some t0 → stamp < t0 + 4 * 1024 →
    let t := s.deliverEdge i lv stamp
    t.get (Obj.EV_DROPS + i) = satAdd 0xFFFFFFFF (s.get (Obj.EV_DROPS + i)) 1 ∧
    raisedCount t 0x02B = raisedCount s 0x02B + 1 ∧ t.evIn i = s.evIn i

/-- R167: EV_FREQ_GATE_END. -/
def Obligations.FrequencyGateGivesItsResult : Prop :=
  ∀ (s : State) (i : Fin 16), s.running = true → (s.evIn i).gateAt + ms (s.evIn i).gateMs ≤ s.now →
    ∃ t, exec (.evFreqGateEnd i) s = .next t ∧ t.get (Obj.EV_FREQ + i) = ((s.evIn i).frequency : Int) ∧
      ((s.evIn i).edges < 2 → t.get (Obj.EV_FREQ + i) = 0 ∧
        raisedCount t 0x02E = raisedCount s 0x02E + 1) ∧
      (2 ≤ (s.evIn i).edges → raisedCount t 0x02E = raisedCount s 0x02E) ∧
      (t.evIn i).gateAt = (s.evIn i).gateAt + ms (s.evIn i).gateMs ∧ (t.evIn i).edges = 0 ∧
      (t.evIn i).gateMs = s.getN (Obj.EV_FREQ_GATE + i) ∧ onlyParts (.crank :: reporting) s t

/-- R145, R146, R148: FREEWHEEL_ENTRY and FREEWHEEL_LIMIT_REACHED. -/
def Obligations.LostEdgesFreewheelThenStall : Prop :=
  ∀ (s : State) (a : Fin 2),
    (s.lossDue a = true → ∃ t, exec (.freewheelEntry a) s = .next t ∧ (t.axis a).st = .freewheel ∧ (t.axis a).fwAt = s.now ∧
      (t.axis a).core = { (s.axis a).core with since := 0 } ∧
      t.get (Obj.FREEWHEEL_ENTRIES + 256 * a) = satAdd 0xFFFFFFFF (s.get (Obj.FREEWHEEL_ENTRIES + 256 * a)) 1) ∧
    ((s.axis a).st = .freewheel → (s.axis a).fwAt + us (s.getN Obj.FREEWHEEL_LIMIT) ≤ s.now →
      ∃ t, exec (.freewheelLimitReached a) s = .next t ∧ (t.axis a).st = .stall ∧ dark t = true ∧
        t.get (Obj.STALLS + 256 * a) = satAdd 0xFFFFFFFF (s.get (Obj.STALLS + 256 * a)) 1 ∧
        natBit (t.getN Obj.LOCKOUT_CAUSE) Cause.scanStall.bit = true)

/-- R138: REVOLUTION_A on either axis. -/
def Obligations.RevolutionFollowsThePosition : Prop :=
  ∀ (s : State) (a : Fin 2),
    ((s.axis a).turn < s.published a / revTu → ∃ t, exec (.revolutionA a) s = .next t ∧
      (t.axis a).revolution = ((s.axis a).revolution + 1) % 2 ^ 40 ∧ (t.axis a).turn = (s.axis a).turn + 1) ∧
    (s.published a / revTu < (s.axis a).turn → ∃ t, exec (.revolutionA a) s = .next t ∧
      (t.axis a).revolution = ((s.axis a).revolution + (2 ^ 40 - 1)) % 2 ^ 40 ∧ (t.axis a).turn = (s.axis a).turn - 1 ∧
      onlyParts [.crank] s t) ∧
    (s.published a / revTu = (s.axis a).turn → exec (.revolutionA a) s = .next s) ∧
    (s.axisMode a ≠ 2 → s.position a = unsigned 32 (s.published a))

/-- R129, R164, R165, R666: FACET_START, VIRTUAL_BOUNDARY, TIME_STEPPED. -/
def Obligations.FacetsAndBoundariesAreDelivered : Prop :=
  ∀ s : State,
    (∀ (f : Fin 16) (p : Int), f.val < s.getN Obj.FACETS → s.facetCrossed f = some p →
      (s.nextFacet f ≤ s.facetPos → p = s.nextFacet f) ∧
      ∃ t, exec (.facetStart f) s = .next t ∧ (t.axis 0).facetAt = p ∧
        t.seq.turnAt = (if s.getN Obj.TURN_SPAN = 0 then none else some s.now) ∧ t.seq.turnServed = 0 ∧ t.hk.facetAt = some s.now ∧ onlyParts (.crank :: .seq :: .hk :: reporting) s t ∧
        raisedCount t 0x030 = raisedCount s 0x030 + 1) ∧
    (s.boundaryDue = true → ∃ t, exec .virtualBoundary s = .next t ∧ (t.axis 0).vPeriod = s.getN Obj.VIRTUAL_PERIOD ∧
      (t.axis 0).vTurn = s.predict 0 s.nowTaps / revTu ∧ t.time.step = .none) ∧
    (s.stepPending = true → s.noPass = true → ∃ t, exec .timeStepped s = .next t ∧ t.time.step = .none ∧
      t.time.total = s.stepTarget % (2 ^ 48 * 1000000000 * 16777216) ∧
      t.get Obj.TIME_EPOCH = (((s.getN Obj.TIME_EPOCH + 1) % 65536 : Nat) : Int) ∧ t.get Obj.CLOCK_STATE = 2)

/-- R193, R195: CUE_SWAP and STAGING_COPY_DONE. -/
def Obligations.CueSwapExchangesTheBanks : Prop :=
  ∀ s : State,
    (s.seq.pending = false → exec .cueSwap s = .next s) ∧
    (s.seq.pending = true → s.swapNow = false → s.lookAhead s.cueAxis < s.swapZero → exec .cueSwap s = .next s) ∧
    (s.seq.pending = true → (s.swapNow = true ∨ s.swapZero ≤ s.lookAhead s.cueAxis) →
      ∃ t, exec .cueSwap s = .next t ∧ t.seq.active = s.stagedFor ∧ t.seq.staging = s.seq.active ∧ t.seq.next = 0 ∧
        t.seq.pending = false ∧ t.seq.copying = some s.now ∧ t.seq.heldWindow = [] ∧ t.seq.state = s.seq.state ∧
        t.seq.lookAt = some (if s.swapNow then s.lookAhead s.cueAxis else s.swapZero) ∧
        raisedCount t 0x044 = raisedCount s 0x044 + 1 ∧
        onlyParts (.seq :: .lanes :: reporting) s t) ∧
    (∀ c, s.seq.copying = some c → ∃ t, exec .stagingCopyDone s = .next t ∧
      t.seq = { s.seq with staging := s.seq.heldWindow.foldl winApply s.seq.active, copying := none, heldWindow := [], void_ := s.activeVoid } ∧
      onlyParts [.seq] s t)

/-- R207, R208, R214, R217: FIRE_DECISION. -/
def Obligations.CrossedCuesAreExaminedInOrder : Prop :=
  ∀ (s : State) (c : Cue) (p : Int), s.crossed = some (c, p) →
    let g := c.lg.toNat
    let free : Prop := s.examinedNow < 4 ∧ s.seq.void_.contains s.seq.next = false
    let early : Prop := ¬ (64 * s.getN (Obj.CUE_SLACK + g) : Nat) < (s.earliest g : Int) - s.crossingAt p
    let skipped (k e : Nat) : Prop := ∃ t, exec .fireDecision s = .next t ∧ t.seq.takes = s.seq.takes ∧
      t.seq.takeSeq = s.seq.takeSeq ∧ t.seq.lfsr = s.seq.lfsr ∧ t.get k = satAdd 0xFFFFFFFF (s.get k) 1 ∧
      raisedCount t e = raisedCount s e + 1 ∧ onlyParts (.seq :: reporting) s t
    (4 ≤ s.examinedNow → exec .fireDecision s = .next s) ∧
    (s.examinedNow < 4 → s.seq.void_.contains s.seq.next = true → ∃ t, exec .fireDecision s = .next t ∧
      t.seq.takes = s.seq.takes ∧ t.seq.takeSeq = s.seq.takeSeq ∧ t.seq.lfsr = s.seq.lfsr ∧ t.seq.examined = s.examinedNow + 1 ∧
      onlyParts [.seq] s t) ∧
    (free → 16384 ≤ s.inFlight → skipped Obj.SKIP_IN_FLIGHT 0x041) ∧
    (free → s.inFlight < 16384 → 64 ≤ s.recentDecisions.length → skipped Obj.SKIP_RATE 0x043) ∧
    (free → s.inFlight < 16384 → s.recentDecisions.length < 64 → ¬ early → skipped Obj.SKIP_LATE 0x042) ∧
    (free → s.inFlight < 16384 → s.recentDecisions.length < 64 → early → ∃ t, exec .fireDecision s = .next t ∧
      t.seq.takeSeq = (if s.seq.takeSeq = 2 ^ 48 - 1 then 0 else s.seq.takeSeq + 1) ∧
      t.lfsr g = (lfsrDraw 16 (s.lfsr g) 0).1 ∧ (∀ h, h ≠ g → t.lfsr h = s.lfsr h) ∧
      t.now = s.now ∧ t.seq.examined = s.examinedNow + 1)

/-- R225, R226, R227: DIAG_PULSE_INSERT and DIAG_TURNAROUND_END. -/
def Obligations.DiagnosticPulsesServeDueZones : Prop :=
  ∀ s : State,
    (s.diagPlace = false → exec .diagPulseInsert s = .next s) ∧
    (s.dueZones = [] → exec .diagPulseInsert s = .next s) ∧
    (∀ z rest, s.diagPlace = true → s.dueZones = z :: rest → s.zoneDisabled z = false ∧ (s.zone z).due = true) ∧
    (∀ z rest, s.diagPlace = true → s.dueZones = z :: rest → s.zoneDisabled z = false → s.budgetOk z = false →
      ∃ t, exec .diagPulseInsert s = .next t ∧ t.get Obj.BUDGET_HOLDS = satAdd 0xFFFFFFFF (s.get Obj.BUDGET_HOLDS) 1 ∧
        t.get Obj.DIAG_PULSES = satAdd 0xFFFFFFFF (s.get Obj.DIAG_PULSES) 1 ∧ t.seq.diags = s.seq.diags ∧
        t.safety = s.safety ∧ t.emit.matrix = s.emit.matrix ∧ (t.zone z).due = (s.zone z).due) ∧
    (∀ z rest, s.diagPlace = true → s.dueZones = z :: rest → s.zoneDisabled z = false → s.budgetOk z = true →
      ∃ t, exec .diagPulseInsert s = .next t ∧ (t.zone z).due = (s.zone z).due ∧ t.seq.takeSeq = s.seq.takeSeq ∧ t.seq.takes = s.seq.takes ∧
        t.seq.lfsr = s.seq.lfsr ∧ t.seq.turnServed = s.seq.turnServed + 1 ∧ t.seq.diags.length = s.seq.diags.length + 1 ∧
        t.seq.diagUntil = s.nowTaps + 240 * 64 ∧ t.now = s.now ∧
        t.get Obj.DIAG_PULSES = satAdd 0xFFFFFFFF (s.get Obj.DIAG_PULSES) 1) ∧
    (∀ w, s.seq.turnAt = some w → s.inTurnaround = true → exec .diagTurnaroundEnd s = .next s) ∧
    (∀ w, s.seq.turnAt = some w → s.inTurnaround = false → s.isShadow = false → s.get Obj.DIAG_DEFERRED ≤ 0xFFFFFFFF →
      ∃ t, exec .diagTurnaroundEnd s = .next t ∧
      t.seq = { s.seq with turnAt := none } ∧ (∀ z, t.zone z = s.zone z) ∧ onlyParts (.seq :: reporting) s t ∧
      t.get Obj.DIAG_DEFERRED = satAdd 0xFFFFFFFF (s.get Obj.DIAG_DEFERRED) s.waitingZones.length)

/-- R50, R210, R251, R254, R302: TRIGGER_ISSUE, START_MISSING, TAKE_WINDOW_CLOSE. -/
def Obligations.FiringsFollowTheGate : Prop :=
  ∀ s : State,
    let due := s.firstFiring (fun t => t.drives && !t.issued && decide (t.trig < s.cycleEnd))
    let silent := s.firstFiring (fun t => !t.diag && t.issued && t.drives && t.start.isNone && decide (t.trig + 128 < s.cycleEnd))
    let past := s.firstFiring (fun t => !t.diag && !t.closed && (t.start.isSome || !t.drives) && decide (t.windowEnd < s.cycleEnd))
    (due = none → exec .triggerIssue s = .next s) ∧
    (∀ k, due = some k → s.gateOpen = true → s.isShadow = false → ∃ t, exec .triggerIssue s = .next t ∧
      t.emit.pulses = s.pulsesOf k ++ s.emit.pulses.filter (fun p => decide (s.nowTaps < p.fall + 64000)) ∧
      t.emit.captureEnd = (if k.capOpen < s.emit.captureEnd then s.emit.captureEnd else k.capEnd) ∧
      t.get Obj.CAPTURE_CONFLICTS = (if k.capOpen < s.emit.captureEnd then satAdd 0xFFFFFFFF (s.get Obj.CAPTURE_CONFLICTS) 1
        else s.get Obj.CAPTURE_CONFLICTS) ∧
      t.safety = s.safety ∧ onlyParts (.seq :: .emit :: .rx :: .pipe :: reporting) s t) ∧
    (∀ k, due = some k → s.gateOpen = false ∨ s.isShadow = true → ∃ t, exec .triggerIssue s = .next t ∧
      t.emit.pulses = s.emit.pulses ∧ (∀ c ∈ t.safety.charges, c.isOf k.seq k.epoch k.group k.trig = false) ∧
      onlyParts (.seq :: .emit :: .safety :: .hist :: .rx :: .eng :: reporting) s t) ∧
    (silent = none → exec .startMissing s = .next s) ∧
    (∀ k, silent = some k → ∃ t, exec .startMissing s = .next t ∧
      t.get Obj.START_MISSING = satAdd 0xFFFFFFFF (s.get Obj.START_MISSING) 1 ∧
      raisedCount t 0x060 = raisedCount s 0x060 + 1 ∧
      onlyParts (.seq :: .hist :: .rx :: .eng :: reporting) s t) ∧
    (past = none → exec .takeWindowClose s = .next s) ∧
    (∀ k, past = some k → ∃ t, exec .takeWindowClose s = .next t ∧
      t.seq.takes = s.seq.takes.map (fun x => if x.same k then { x with closed := true } else x) ∧
      onlyParts (.seq :: .hist :: .rx :: .cal :: reporting) s t)

/-- R251, R256, R257, R259, R260, R264, R282, R283, R302: PRECHARGE_START, MATRIX_INTERVAL_END, COL_RECHARGE_END, and what the pins show. -/
def Obligations.LineScanAndColumnsKeepTheirIntervals : Prop :=
  ∀ s : State,
    (∀ m rest, s.emit.matrixNow = none → s.emit.matrix = m :: rest → m.start < s.cycleEnd →
      ∃ t, exec .prechargeStart s = .next t ∧ t.emit.matrixNow = some m ∧
        t.emit.rowHigh = (if s.gateOpen then some m else none) ∧ t.emit.matrix = s.emit.matrix ∧
        (∀ c e, (s.column c).endAt = some e →
          (t.column c).endAt = some (if m.start < e then e + (m.stop - m.start) else e)) ∧ onlyParts [.emit] s t) ∧
    (∀ m, s.emit.matrixNow = some m → m.stop < s.cycleEnd → ∃ t, exec .matrixIntervalEnd s = .next t ∧ t.emit.rowHigh = none ∧
      t.emit.matrixNow = none ∧
      m ∉ t.emit.matrix ∧ onlyParts [.emit] s t ∧
      (s.energySource = 0 → (t.column m.col).endAt = some (m.stop + 64 * s.get Obj.COL_CHARGE_TIME) ∧
        (t.column m.col).drive = s.getN (Obj.COL_SINK_GLOBAL + (t.column m.col).step) * (s.columnSetting m.col).toNat) ∧
      (∀ c, c ≠ m.col → t.column c = s.column c)) ∧
    (∀ (c : Fin 32) (e : Int), (s.column c).endAt = some e → e < s.cycleEnd → ∃ t, exec (.colRechargeEnd c) s = .next t ∧
      (t.column c).endAt = none ∧ (t.column c).step = (s.column c).step ∧ (∀ d, d ≠ c.val → t.column d = s.column d) ∧
      onlyParts [.emit] s t) ∧
    (∀ (c : Fin 32) (e : Int), (s.column c).endAt = some e → s.cycleEnd ≤ e → exec (.colRechargeEnd c) s = .next s) ∧
    (s.pinsReleased = true → ∀ i t, s.trigPin i t = .hiZ ∧ s.rowPin i = .hiZ ∧ s.colPin i = .hiZ ∧ s.chainClk = .hiZ ∧
      s.chainDout = .hiZ ∧ s.chainLat = .hiZ) ∧
    (s.pinsReleased = false →
      (∀ p ∈ s.emit.pulses, ∀ t, p.rise ≤ t → t < p.fall → s.trigPin p.out t = .high) ∧
      (∀ i t, (∀ p ∈ s.emit.pulses, p.out = i → t < p.rise ∨ p.fall ≤ t) → s.trigPin i t = .low) ∧
      (s.emit.rowHigh = none → ∀ r, s.rowPin r = .low) ∧
      (∀ m, s.emit.rowHigh = some m → s.rowPin m.row = .high ∧ ∀ r, r ≠ m.row → s.rowPin r = .low) ∧
      (s.gateOpen = false → s.chainLat = .low ∧ ∀ c, s.colPin c =
        if s.energySource = 0 then .sinkOff else if s.matrixMode then .low else .hiZ) ∧
      (∀ m, s.gateOpen = true → s.emit.matrixNow = some m → ∀ c, s.colPin c =
        if s.energySource = 0 then (if m.col = c then .sinkOff else .clamp (s.getN Obj.PRECHARGE_LEVEL))
        else if m.col = c then .high else .low) ∧
      (s.gateOpen = true → s.emit.matrixNow = none → s.energySource = 0 → ∀ c e, (s.column c).endAt = some e →
        s.colPin c = .sink (s.column c).drive))

/-- R264, R266, R268, R295: CHAIN_FRAME_SHIFT_DONE and CHAIN_LATCH. -/
def Obligations.ChainFramesLatchAndReadBack : Prop :=
  ∀ (s : State) (f : ChainFrame), s.emit.frame = some f →
    (∀ got, f.shifted = false → reached s.now f.startAt f.time = true → badWordsOf s.emit.previous got = 0 →
      ∃ t, exec (.chainFrameShiftDone got) s = .next t ∧
        t.emit = { s.emit with frame := some { f with shifted := true }, previous := f.words, badFrames := 0 } ∧
        onlyParts [.emit] s t) ∧
    (∀ got, f.shifted = true → exec (.chainFrameShiftDone got) s = .next s) ∧
    (f.shifted = true → f.latAt = none → reached s.now f.startAt (f.time + 10) = true → s.latchBlocked = false → s.gateOpen = true →
      ∃ t, exec .chainLatch s = .next t ∧ t.emit.frame = some { f with latAt := some s.now } ∧
        (∀ i, i < f.words.length → tabGet (fun _ => ChainWord.zero) t.emit.latched i = f.words.getD i ChainWord.zero) ∧
        onlyParts [.emit] s t) ∧
    (∀ w, f.latAt = some w → reached s.now w 20 = true →
      s.chainFall.get Obj.CHAIN_FRAMES = (s.get Obj.CHAIN_FRAMES + 1) % 4294967296) ∧
    (s.latchBlocked = true ∨ s.gateOpen = false → exec .chainLatch s = .next s)

/-- R269, R271, R280, R648, R649: CAPTURE_COMPLETE and DIAG_INTERVAL_BOUNDARY. -/
def Obligations.CapturesFeedLoopAndVerdicts : Prop :=
  ∀ (s : State) (c : CaptureSamples),
    let ended := s.firstFiring (fun t => t.captured && !t.captureDone && decide (t.capEnd < s.cycleEnd))
    (ended = none → exec (.captureComplete c) s = .next s) ∧
    (∀ k, ended = some k → k.blocked = true → ∃ t, exec (.captureComplete c) s = .next t ∧ onlyParts [.seq] s t) ∧
    (∀ k, ended = some k → k.blocked = false → s.gainSettling k = true → ∃ t, exec (.captureComplete c) s = .next t ∧
      t.now = s.now ∧ satAdd 0xFFFFFFFF (s.get Obj.FC_GAIN_DISCARDS) 1 = t.get Obj.FC_GAIN_DISCARDS) ∧
    (∀ k, ended = some k → k.blocked = false → s.gainSettling k = false → c.ovr = true →
      ∃ t, exec (.captureComplete c) s = .next t ∧ t.now = s.now ∧
        satAdd 0xFFFFFFFF (s.get Obj.FC_OVR_CAPTURES) 1 = t.get Obj.FC_OVR_CAPTURES) ∧
    (∀ k, ended = some k → k.blocked = false → s.gainSettling k = false → c.ovr = false → s.mpdCaptured = true →
      let u := s.mapTake k (fun x => { x with captureDone := true })
      exec (.captureComplete c) s = .next ((u.useCapture k (s.figures k c)).dropDiag k)) ∧
    (s.seq.state = .running → s.isShadow = false → reached s.now s.emit.diagAt (ms (s.getN Obj.DIAG_INTERVAL)) = true →
      ∃ t, exec .diagIntervalBoundary s = .next t ∧ t.emit.diagAt = s.emit.diagAt + ms (s.getN Obj.DIAG_INTERVAL) ∧
        (∀ z, t.zone z = if z ∈ s.coverageZones then (s.zone z).interval s.now else s.zone z) ∧
        onlyParts (.emit :: .lanes :: reporting) s t) ∧
    (s.seq.state ≠ .running → exec .diagIntervalBoundary s = .next s)

/-- R301, R325, R337: a trip. -/
def Obligations.TripsLockTheEmitterOut : Prop :=
  ∀ (s : State) (c : Cause),
    let t := s.trip c
    dark t = true ∧ t.safety.latch = true ∧ t.safety.offTest = none ∧
      natBit (t.getN Obj.LOCKOUT_CAUSE) c.bit = true ∧
      (∀ b, natBit (s.getN Obj.LOCKOUT_CAUSE) b = true → natBit (t.getN Obj.LOCKOUT_CAUSE) b = true) ∧
      (s.getN Obj.LOCKOUT_FIRST = 0xFF → t.getN Obj.LOCKOUT_FIRST = c.bit) ∧
      t.get Obj.TRIPS = satAdd 0xFFFFFFFF (s.get Obj.TRIPS) 1 ∧
      raisedCount t 0x001 = raisedCount s 0x001 + 1 ∧
      t.safety.state = (if s.safety.state.trips then .lockout else s.safety.state) ∧
      t.seq = { s.seq with takes := s.seq.takes.map s.cutTake, diags := s.seq.diags.map s.cutTake } ∧
      t.now = s.now ∧ t.time = s.time ∧ t.crank = s.crank

/-- R298, R303, R307, R316, R320, R323, R330, R337: the detectors. -/
def Obligations.DetectorsTripWithTheirCause : Prop :=
  ∀ s : State,
    (s.safety.state = .init → s.reset_.phase ≠ .held → exec (.safetySelfTestDone false) s = .next (s.trip .selfTest)) ∧
    (∀ ball, s.gateOpen = false → s.reset_.phase ≠ .held → s.isShadow = false →
      exec (.gateLeak ball) s = .next (s.trip .gateLeak)) ∧
    (∀ ball, s.gateOpen = true → exec (.gateLeak ball) s = .next s) ∧
    (∀ i j, s.reset_.phase ≠ .held → ∃ u, exec (.overEnergy i j) s = .next (State.trip u .overEnergy) ∧
      raisedCount u 0x004 = raisedCount s 0x004 + 1 ∧ u.safety.state = s.safety.state) ∧
    (s.reset_.phase ≠ .held → s.getB Obj.SCAN_REQUIRED = true → s.safety.scanTrip = none →
      reached s.now s.safety.scanEdge (us (s.getN Obj.SCAN_EDGE_TIMEOUT)) = true →
      ∃ u, exec .scanMonitor s = .next (State.trip u .scanMonitor) ∧ u.safety = { s.safety with scanTrip := some s.now } ∧
        raisedCount u 0x009 = raisedCount s 0x009 + 1) ∧
    (∀ out : Fin 2, s.readbackDue out = true → ∃ u, exec (.supplyReadback out) s = .next (State.trip u
        (if out = 0 then .supplyReadbackA else .supplyReadbackB)) ∧
      raisedCount u 0x00D = raisedCount s 0x00D + 1 ∧ u.safety.state = s.safety.state) ∧
    (∀ pair : Fin 2, s.discrepancyDue pair = true → ∃ u, exec (.inputDiscrepancy pair) s = .next (State.trip u
        (if pair = 0 then .emitReqDiscrepancy else .ilkDiscrepancy)) ∧
      raisedCount u 0x00A = raisedCount s 0x00A + 1 ∧ u.discrepancyDue pair = false) ∧
    (∀ d, s.safety.cmdDiffer = some d → reached s.now d (ms (s.getN Obj.DISCREPANCY_TIME)) = true → s.safety.cmdJudged = false →
      ∃ u, exec .safeMsgDiscrepancy s = .next (State.trip u .safeMsgDiscrepancy) ∧ u.safety = { s.safety with cmdJudged := true }) ∧
    (∀ x, s.held = false → exec (.lockstepDivergence x) s = .next (s.trip .lockstep))

/-- R300, R302, R324: ARMING_START, OFFTEST_START, OFFTEST_EN_RISE, OFFTEST_CHECK. That a failed test clears the departure of its
output, and that the interval after the falling edge is judged at its end, are the model's readings (log entry 68). -/
def Obligations.ArmingRunsBothOffPulseTests : Prop :=
  ∀ s : State,
    (s.safety.state = .inhibited → s.armingConditions = true → ∃ t, exec .armingStart s = .next t ∧ t.safety.state = .arming ∧
      t.safety.enA = true ∧ t.safety.enB = true ∧ t.gateOpen = false ∧ t.safety.passedA = false ∧ t.safety.passedB = false ∧
      t.safety.armingAt = s.now) ∧
    (s.safety.state ≠ .inhibited ∨ s.armingConditions = false → exec .armingStart s = .next s) ∧
    (s.offTestDue 0 = true → ∃ t, exec (.offtestStart 0) s = .next t ∧ t.safety.enA = false ∧ t.safety.enB = s.safety.enB ∧
      t.safety.offTest = some ⟨0, s.now, none, true, !s.safety.fbA, false⟩ ∧ onlyParts [.safety] s t) ∧
    (s.offTestDue 1 = true → ∃ t, exec (.offtestStart 1) s = .next t ∧ t.safety.enB = false ∧ t.safety.enA = s.safety.enA ∧
      t.safety.offTest = some ⟨1, s.now, none, true, !s.safety.fbB, false⟩ ∧ onlyParts [.safety] s t) ∧
    (∀ o, s.safety.offTest = some o → o.roseAt = none → reached s.now o.startAt (us (s.getN Obj.OFFTEST_PULSE)) = true →
      ∃ t, exec .offtestEnRise s = .next t ∧ (if o.out = 0 then t.safety.enA else t.safety.enB) = true ∧
        t.safety.offTest = some { o with roseAt := some s.now, good := o.good && o.fbFell } ∧ onlyParts [.safety] s t) ∧
    (∀ o r, s.safety.offTest = some o → o.roseAt = some r → reached s.now r s.fbDelay = true → o.good = true →
      o.fbRose = true → ∃ t, exec .offtestCheck s = .next t ∧ t.safety.offTest = none ∧
        t.get Obj.OFFTEST_PASSES = satAdd 0xFFFFFFFF (s.get Obj.OFFTEST_PASSES) 1 ∧ t.safety.latch = s.safety.latch ∧
        (s.safety.state = .arming → o.out = 0 → t.safety.passedA = true ∧ t.safety.state = .arming) ∧
        (s.safety.state = .arming → o.out ≠ 0 → t.safety.passedB = true ∧ t.safety.state = .armed) ∧
        (s.safety.state ≠ .arming → t.safety.state = s.safety.state)) ∧
    (∀ o r, s.safety.offTest = some o → o.roseAt = some r → reached s.now r s.fbDelay = true →
      o.good = false ∨ o.fbRose = false → ∃ u, exec .offtestCheck s = .next (State.trip u
        (if o.out = 0 then .offtestA else .offtestB)) ∧ u.safety = (s.judged o.out).safety ∧
        raisedCount u 0x00E = raisedCount s 0x00E + 1) ∧
    (∀ o, s.safety.offTest = some o → o.roseAt = none → reached s.now o.startAt s.fbDelay = true →
      o.good = false ∨ o.fbFell = false → ∃ u, exec .offtestCheck s = .next (State.trip u
        (if o.out = 0 then .offtestA else .offtestB)) ∧ u.safety = (s.judged o.out).safety)

/-- R300, R301, R317, R318, R328, R329: SAFE_INPUT_ACCEPT, SAFE_CMD_RECEIVE, SAFE_MSG_TIMEOUT. -/
def Obligations.LostConditionsStopTheEmitter : Prop :=
  ∀ (s : State), let on := s.safety.state = .arming ∨ s.safety.state = .armed
    let stopped (t : State) : Prop := t.safety.state = .inhibited ∧ dark t = true ∧ t.safety.latch = s.safety.latch ∧
      t.get Obj.LOCKOUT_CAUSE = s.get Obj.LOCKOUT_CAUSE ∧ t.get Obj.TRIPS = s.get Obj.TRIPS
    (on → stopped s.stop ∧ s.stop.safety.offTest = none) ∧ (¬ on → s.stop = s) ∧
    (∀ (ch : Fin 4) (lv : Bool), on → s.reset_.phase ≠ .held → 2 ≤ ch.val → s.discrepancyDue 1 = false → s.channelOn ch lv = false →
      ∃ t, exec (.safeInputAccept ch lv) s = .next t ∧ stopped t) ∧
    (∀ (ch : Fin 4) (lv : Bool), on → s.reset_.phase ≠ .held → ch.val < 2 → s.getN Obj.EMIT_REQ_SOURCE = 0 →
      s.discrepancyDue 0 = false → s.channelOn ch lv = false → ∃ t, exec (.safeInputAccept ch lv) s = .next t ∧ stopped t) ∧
    (∀ (b : Fin 2) (d : List Byte), on → s.reset_.phase ≠ .held → s.safeCmdValid b d = true → s.judgeCommands = s → beAt d 4 1 = 0 →
      s.getN Obj.EMIT_REQ_SOURCE = 0 → s.getN Obj.SAFE_CMD_REQUIRED ≠ 0 →
      ∃ t, exec (.safeCmdReceive b d) s = .next t ∧ stopped t) ∧
    (∀ (b : Fin 2) (d : List Byte), s.reset_.phase ≠ .held → s.safeCmdValid b d = false →
      ∃ t, exec (.safeCmdReceive b d) s = .next t ∧ t.safety = s.safety ∧ onlyParts reporting s t ∧
        t.get (Obj.SAFE_MSG_INVALID + b) = satAdd 0xFFFFFFFF (s.get (Obj.SAFE_MSG_INVALID + b)) 1 ∧
        raisedCount t 0x012 = raisedCount s 0x012 + 1) ∧
    (∀ (b : Fin 2), on → (s.safeBearer b).permit.isSome = true → (s.safeBearer b).aged = false →
      reached s.now (s.safeBearer b).validAt (ms (s.getN Obj.SAFE_CMD_TIMEOUT)) = true →
      s.getN Obj.EMIT_REQ_SOURCE = 0 → s.getN Obj.SAFE_CMD_REQUIRED ≠ 0 →
      ∃ t, exec (.safeMsgTimeout b) s = .next t ∧ stopped t ∧ (t.safeBearer b).aged = true)

/-- R298, R300, R311, R315, R322, R326, R327: bookkeeping of the safety island. -/
def Obligations.SafetyBookkeepingCompletes : Prop :=
  ∀ s : State,
    (s.safety.state = .init → s.reset_.phase = .firmware ∨ s.reset_.phase = .running → s.selfTestInTime = true →
      ∃ t, exec (.safetySelfTestDone true) s = .next t ∧ t.safety.state = .inhibited ∧ t.safety.selfTestPassed = true ∧
        t.safety.latch = s.safety.latch ∧ t.safety.enA = s.safety.enA ∧ t.safety.enB = s.safety.enB) ∧
    (s.reset_.phase ≠ .held → reached s.now s.reset_.releasedAt (ms (s.getN Obj.REARM_HOLD)) = true →
      ∃ t, exec .rearmHoldElapsed s = .next t ∧ t.safety = { s.safety with holdDone := true } ∧ onlyParts [.safety] s t) ∧
    (∀ (o : Fin 2) (lv : Bool), s.fb o ≠ lv → ∃ t, exec (.supplyFbChange o lv) s = .next t ∧ t.fb o = lv ∧
      t.safety.state = s.safety.state ∧ t.safety.enA = s.safety.enA ∧ t.safety.enB = s.safety.enB ∧ onlyParts [.safety] s t) ∧
    (s.running = true → s.isShadow = false → s.safety.statusDue = true → ∃ t, exec .safeStatusSend s = .next t ∧
      t.safety = { s.safety with statusDue := false, statusAt := s.now, statusCounter := (s.safety.statusCounter + 1) % 256 } ∧
      onlyParts (.safety :: reporting) s t) ∧
    (∀ w : Fin 4, s.reset_.phase ≠ .held → s.safety.buckets.length = 4 → s.bucket w < s.now / bucketSpan w → ∃ t, exec (.accBucketRoll w) s = .next t ∧
      t.bucket w = s.now / bucketSpan w ∧ (∀ e ∈ t.safety.sums, e ∈ s.safety.sums) ∧ onlyParts [.safety] s t) ∧
    (s.reset_.phase ≠ .held → s.reset_.sramWiped = true → reached s.now s.safety.auditAt (ms 1) = true → s.auditWaits 32 = true →
      s.auditWaits 33 = true → s.safety.ae0Busy = false → s.safety.ae1Busy = false → s.safety.aeStopped = false → ∃ t, exec .auditBoundary s = .next t ∧ t.safety.snapshot = s.safety.sums ∧
        t.safety.state = s.safety.state ∧ t.safety.ae0Busy = true ∧ t.safety.ae1Busy = true ∧ t.safety.auditAt = s.now) ∧
    (s.reset_.phase ≠ .held → s.reset_.sramWiped = true → reached s.now s.safety.auditAt (ms 1) = true →
      s.auditWaits 32 = false ∨ s.auditWaits 33 = false ∨ s.safety.ae0Busy = true ∨ s.safety.ae1Busy = true ∨ s.safety.aeStopped = true →
      ∃ t, exec .auditBoundary s = .next t ∧ dark t = true ∧ t.safety.snapshot = s.safety.sums ∧
        natBit (t.getN Obj.LOCKOUT_CAUSE) Cause.auditOverrun.bit = true)

/-- R790, R798 to R804, R807, R808: the frames of the pair. -/
def Obligations.PairFramesAreFollowed : Prop :=
  ∀ s : State, let x := s.pair
    (∀ p : List Byte, s.running = true →
      (∀ c, (c, p.length) ∉ [(Instr.heartbeatReceive p, 40), (.takeFrameReceive p, 24), (.spokeSumReceive p, 32),
          (.cueFrameReceive p, 4 + 8 * beAt p 0 2), (.timeFrameReceive p, 20), (.accountFrameReceive p, 65536),
          (.epochFrameReceive p, 16), (.yieldFrameReceive p, 12), (.resyncReqReceive p, 8)] →
        c ∈ [Instr.heartbeatReceive p, .takeFrameReceive p, .spokeSumReceive p, .cueFrameReceive p, .timeFrameReceive p,
          .accountFrameReceive p, .epochFrameReceive p, .yieldFrameReceive p, .resyncReqReceive p] →
        ∃ t, exec c s = .next t ∧ onlyParts reporting s t ∧
          t.get (Obj.RX_FRAME_ERRORS + 1) = satAdd 0xFFFFFFFF (s.get (Obj.RX_FRAME_ERRORS + 1)) 1) ∧
      (x.role ≠ .solo → p.length = 40 → ∃ t, exec (.heartbeatReceive p) s = .next t ∧ t.pair.beat = some (parseBeat s.now p) ∧
        t.pair.partnerSeen = true ∧ t.getN Obj.PARTNER_EPOCH = beAt p 4 4 ∧ onlyParts (.pair :: .lanes :: reporting) s t) ∧
      (p.length = 12 → exec (.yieldFrameReceive p) s = .next s) ∧
      (x.role = .active → p.length = 8 → ∃ t, exec (.resyncReqReceive p) s = .next t ∧ onlyParts (.lanes :: reporting) s t ∧
        (s.bondUp 1 = true → (s.bond 1).frames.length + 3 ≤ (t.bond 1).frames.length)) ∧
      (x.role = .shadow →
        (p.length = 24 → ∃ t, exec (.takeFrameReceive p) s = .next t ∧ t.lastTake (parseTake p).lg = some (parseTake p) ∧
          (parseTake p).lg ∉ t.pair.diverged) ∧
        (p.length = 32 → x.ownSums.find? (fun y => y.pairs (parseSum s.now p)) = none → ∃ t, exec (.spokeSumReceive p) s = .next t ∧
          t.pair = { x with peerSums := x.peerSums ++ [parseSum s.now p] } ∧ onlyParts [.pair] s t) ∧
        (∀ y, p.length = 32 → x.ownSums.find? (fun y => y.pairs (parseSum s.now p)) = some y →
          ∃ t, exec (.spokeSumReceive p) s = .next t ∧ t.pair.lastSumOk = s.sumsMatch (parseSum s.now p) y ∧
            t.get Obj.SUMS_COMPARED = satAdd 0xFFFFFFFF (s.get Obj.SUMS_COMPARED) 1 ∧ onlyParts (.pair :: reporting) s t) ∧
        (8 ≤ p.length → p.length ≤ 65544 →
          let k := beAt p 0 3
          let before := if beAt p 4 4 = 0 then [] else s.partialOf k
          (before.length ≠ beAt p 4 4 → exec (.objectFrameReceive p) s = .next (s.setPartial k none)) ∧
          (before.length = beAt p 4 4 → natBit (beAt p 3 1) 0 = false → ∃ t, exec (.objectFrameReceive p) s = .next t ∧
            t.partialOf k = before ++ p.drop 8 ∧ onlyParts [.pair] s t) ∧
          (before.length = beAt p 4 4 → natBit (beAt p 3 1) 0 = true → ∃ t, exec (.objectFrameReceive p) s = .next t ∧
            (k ∈ t.pair.gotObjects ∨ t.pair.mirrorSync = true))) ∧
        (p.length = 4 + 8 * beAt p 0 2 → ∃ t, exec (.cueFrameReceive p) s = .next t ∧ t.seq.active = cuesOf (p.drop 4) ∧
          t.seq.void_ = s.seq.void_.filter (fun i => decide (16384 ≤ i)) ∧ onlyParts (.seq :: .pair :: reporting) s t) ∧
        (p.length = 20 → s.pair.mirrorSync = true → ∃ t, exec (.timeFrameReceive p) s = .next t ∧ t.getN Obj.TIME_EPOCH = beAt p 12 2 ∧
          t.getN Obj.CLOCK_STATE = beAt p 14 1 ∧ t.getN Obj.CLOCK_INCREMENT = beAt p 16 4 ∧
          (let f := (beAt p 0 6 * 1000000000 + beAt p 6 4) * 16777216 + beAt p 10 2 * 256
           50 * 16777216 ≤ f → f + 50 * 16777216 < 2 ^ 48 * 1000000000 * 16777216 →
            f - 50 * 16777216 ≤ t.time.total ∧ t.time.total ≤ f + 50 * 16777216)) ∧
        (p.length = 65536 → ∃ t, exec (.accountFrameReceive p) s = .next t ∧ t.pair.mirrorSums = parseAccount p ∧
          onlyParts (.pair :: reporting) s t) ∧
        (p.length = 16 → x.exchange = false → s.getN Obj.PAIR_EPOCH < beAt p 0 4 → ∃ t, exec (.epochFrameReceive p) s = .next t ∧
          t.getN Obj.PAIR_EPOCH = beAt p 0 4 ∧ t.getN Obj.PAIR_ACTIVE_ID = beAt p 4 8)) ∧
      (x.role ≠ .solo → p.length = 16 → x.exchange = true → s.getN Obj.PAIR_EPOCH = beAt p 0 4 →
        s.getN Obj.PAIR_ACTIVE_ID ≠ beAt p 4 8 → ∃ t, exec (.epochFrameReceive p) s = .next t ∧ t.reset_.phase = .held)) ∧
    (∃ t, exec .sumUnpairedTimeout s = .next t ∧ onlyParts [.reg, .pair] s t ∧
      t.pair.ownSums = x.ownSums.filter (fun y => !reached s.now y.at_ (ms 10)) ∧
      t.pair.peerSums = x.peerSums.filter (fun y => !reached s.now y.at_ (ms 10)) ∧
      t.get Obj.SUM_UNPAIRED = satAdd 0xFFFFFFFF (s.get Obj.SUM_UNPAIRED)
        ((x.ownSums.filter (fun y => reached s.now y.at_ (ms 10))).length +
          (x.peerSums.filter (fun y => reached s.now y.at_ (ms 10))).length))

/-- R297, R298, R301, R324: over every command and every tick. -/
def Obligations.SupplyEnablesNeedArming : Prop :=
  ∀ s t : State, supplyInv s = true → step s = .next t → supplyInv t = true

/-- The state after reset meets the premises of the two invariants. -/
def Obligations.ResetMeetsTheInvariants : Prop :=
  storeWf State.reset = true ∧ supplyInv State.reset = true ∧ dark State.reset = true ∧ canEmit State.reset = false

/-- R372, R374, R375, R377: RX_LEADING_EDGE, RX_HIGH_CROSSING, RX_TRAILING_EDGE, RX_TOT_LONG, RX_DEAD_TIME_END. -/
def Obligations.EdgesBecomePulsesOnce : Prop :=
  ∀ (s : State) (c : Fin 256) (tap : Fin 64),
    let x := s.rxChan c
    let stamp := s.stampOf c tap
    let up : RxChan := { x with lo := true, highSince := some s.now, lowSince := none }
    let ready : Prop := s.running = true ∧ s.rxEnabled c = true ∧ x.lo = false ∧ s.inCalSpan c (s.nowTaps + tap) = false
    (s.running = false ∨ s.rxEnabled c = false ∨ x.lo = true → exec (.rxLeadingEdge c tap) s = .next s) ∧
    (ready → x.blind stamp = true → ∃ t, exec (.rxLeadingEdge c tap) s = .next t ∧
      t.rxChan c = { up with waitLow := true } ∧ (∀ d, d ≠ c.val → t.rxChan d = s.rxChan d) ∧ onlyParts [.rx] s t) ∧
    (ready → x.blind stamp = false → s.startPending c stamp = true → ∃ t, exec (.rxLeadingEdge c tap) s = .next t ∧
      t.rxChan c = { up with
        cur := some ⟨stamp, none, false, false, x.stuck, s.blockLost c, .undecided⟩, dead := none } ∧
      onlyParts [.rx] s t) ∧
    (ready → x.blind stamp = false → s.startPending c stamp = false → s.takeOf c stamp = none →
      ∃ t, exec (.rxLeadingEdge c tap) s = .next t ∧
        t.get (Obj.BACKGROUND + c) = (s.get (Obj.BACKGROUND + c) + 1) % 2 ^ 32 ∧ onlyParts [.rx, .reg] s t) ∧
    (s.reset_.phase ≠ .held → ∃ t, exec (.rxHighCrossing c) s = .next t ∧ (t.rxChan c).hiLevel = true ∧
      (∀ p, x.cur = some p → (t.rxChan c).cur = some { p with hi := true }) ∧ (t.rxChan c).buf = x.buf ∧ onlyParts [.rx] s t) ∧
    (x.lo = false → exec (.rxTrailingEdge c tap) s = .next s) ∧
    (x.lo = true → x.cur = none → ∃ t, exec (.rxTrailingEdge c tap) s = .next t ∧ (t.rxChan c).lo = false ∧
      (t.rxChan c).waitLow = false ∧ (t.rxChan c).buf = x.buf ∧ (t.rxChan c).lowSince = some s.now ∧ onlyParts [.rx] s t) ∧
    (∀ p, x.lo = true → x.cur = some p → ∃ t, exec (.rxTrailingEdge c tap) s = .next t ∧ (t.rxChan c).lo = false ∧
      (t.rxChan c).cur = none ∧ (t.rxChan c).dead = some (stamp + 2048) ∧ onlyParts (.rx :: .hist :: .eng :: reporting) s t) ∧
    (∀ p, x.cur = some p → p.lead + 16 * 0xFFFF ≤ 1024 * ((s.now : Int) + 1) → ∃ t, exec (.rxTotLong c) s = .next t ∧
      (t.rxChan c).cur = none ∧ (t.rxChan c).waitLow = true ∧ onlyParts (.rx :: .hist :: .eng :: reporting) s t) ∧
    (∀ e, x.dead = some e → e ≤ 1024 * ((s.now : Int) + 1) → ∃ t, exec (.rxDeadTimeEnd c) s = .next t ∧
      t.rxChan c = { x with dead := none, waitLow := x.lo && x.cur.isNone } ∧ onlyParts [.rx] s t)

/-- R376, R411, R418, R423, R424, R427, R447: HIT_DELIVERY, BIN_UPDATE, REEL_CLEAR_DONE. -/
def Obligations.HitsReachTheirBins : Prop :=
  ∀ s : State,
    (∀ (c : Fin 256), (s.rxChan c).buf = [] → exec (.hitDelivery c) s = .next s) ∧
    (∀ (c : Fin 256) h rest, (s.rxChan c).buf = h :: rest → h.bad = true → exec (.hitDelivery c) s = .next (s.discardHit c h.set_)) ∧
    (∀ (c : Fin 256) h rest, (s.rxChan c).buf = h :: rest → h.bad = false → s.take? h.seq h.epoch = none →
      ∃ t, exec (.hitDelivery c) s = .next t ∧ (t.rxChan c).buf = rest ∧
        t.get Obj.LATE_HITS = satAdd 0xFFFFFFFF (s.get Obj.LATE_HITS) 1 ∧ onlyParts (.rx :: reporting) s t) ∧
    (∀ (c : Fin 256) h rest k st b, (s.rxChan c).buf = h :: rest → h.bad = false → s.take? h.seq h.epoch = some k → k.lost = false →
      s.set? k.set_ = some st → s.reelOf c k.set_ = some b →
      let as := hitAdditions h b st.id s.now k.pulses
      (s.wordsClear st.gear as = false → exec (.hitDelivery c) s = .next s) ∧
      (s.bankRoom st.gear as = false → exec (.hitDelivery c) s = .next s) ∧
      (h.ch = c.val → s.wordsClear st.gear as = true → s.bankRoom st.gear as = true →
        ∃ t, exec (.hitDelivery c) s = .next t ∧ (t.rxChan c).buf = rest ∧ onlyParts (.rx :: .hist :: reporting) s t ∧
          t = (as.foldl (fun s a => s.queueAddition st.gear a) (s.popHit c)).spanCheck st.gear h)) ∧
    (∀ (b : Fin 64), s.bank b = [] → exec (.binUpdate b) s = .next s) ∧
    (∀ (b : Fin 64) a q, s.bank b = a :: q → s.now ≤ a.at_ ∨ s.now < tabGet (fun _ => 0) s.hist.bankFree b →
      exec (.binUpdate b) s = .next s) ∧
    (∀ (b : Fin 64) a q, s.bank b = a :: q → s.bankServes b a = true → s.set? a.set_ = none → ∃ t, exec (.binUpdate b) s = .next t ∧ t.bank b = q ∧
      onlyParts [.hist] s t) ∧
    (∀ (b : Fin 64) a q st j rho, s.bank b = a :: q → s.bankServes b a = true → s.set? a.set_ = some st → binOf st.gear a.time = some (j, rho) →
      s.hist.badWords.contains (a.ch, a.buf, j / 2) = false →
      let old := tabGet (fun _ => 0) (s.reel a.ch a.buf).bins j
      ∃ t, exec (.binUpdate b) s = .next t ∧ t.bank b = q ∧ tabGet (fun _ => 0) t.hist.bankFree b = s.now + 2 ∧
        tabGet (fun _ => 0) (t.reel a.ch a.buf).bins j =
          min (binCount old + 1) 16383 * 2 ^ 18 + min (binResid old + rho) 262143 ∧
        (∀ i, i ≠ j → tabGet (fun _ => 0) (t.reel a.ch a.buf).bins i = tabGet (fun _ => 0) (s.reel a.ch a.buf).bins i) ∧
        onlyParts (.hist :: reporting) s t) ∧
    (∀ (c : Fin 256) (b : Fin 2), (s.reel c b).state = .clearing → ∃ t, exec (.reelClearDone c b) s = .next t ∧
      t.reel c b = Reel.clear_ ∧ onlyParts [.hist] s t) ∧
    (∀ (c : Fin 256) (b : Fin 2), (s.reel c b).state ≠ .clearing → ∃ t, exec (.reelClearDone c b) s = .next t ∧
      t.reel c b = { s.reel c b with notClear := false } ∧ onlyParts [.hist] s t)

/-- R361, R370, R384, R387: REF_FAULT_DETECT, REF_FAULT_CLEAR, DLL_UNLOCK, DLL_LOCK_HELD, RX_STUCK, RX_STUCK_CLEAR,
RX_BG_INTERVAL. -/
def Obligations.ReceiverFaultsAreHeldPerBlock : Prop :=
  ∀ s : State,
    (∀ b : Fin 16, s.running = true → s.getB (Obj.RXREF_OK + b) = true → ∃ t, exec (.refFaultDetect b) s = .next t ∧
      t.get (Obj.RXREF_OK + b) = 0 ∧ t.rx = s.rx ∧ t.hist = s.hist ∧ t.safety = s.safety) ∧
    (∀ b : Fin 16, s.running = true → exec (.refFaultClear b) s = .next (s.set (Obj.RXREF_OK + b) 1)) ∧
    (∀ d : Fin 18, s.running = true → s.getB (Obj.TDC_LOCK + d) = true → ∃ t, exec (.dllUnlock d) s = .next t ∧
      t.get (Obj.TDC_LOCK + d) = 0 ∧ t.rx = s.rx ∧ t.hist = s.hist) ∧
    (∀ d : Fin 18, s.running = true → s.getB (Obj.TDC_LOCK + d) = false → ∃ t, exec (.dllLockHeld d) s = .next t ∧
      t.get (Obj.TDC_LOCK + d) = 1 ∧ tabGet (fun _ => false) t.rx.dllSeen d = true ∧ onlyParts (.rx :: .hist :: reporting) s t) ∧
    (∀ (c : Fin 256) w, (s.rxChan c).highSince = some w → (s.rxChan c).lo = true → (s.rxChan c).stuck = false →
      s.rxEnabled c = true → reached s.now w (us (s.getN Obj.RX_STUCK_TIME)) = true → ∃ t, exec (.rxStuck c) s = .next t ∧
        t.rxChan c = { s.rxChan c with stuck := true } ∧ (∀ d, d ≠ c.val → t.rxChan d = s.rxChan d) ∧ t.safety = s.safety) ∧
    (∀ (c : Fin 256) w, (s.rxChan c).lowSince = some w → (s.rxChan c).stuck = true → reached s.now w (us 1) = true →
      ∃ t, exec (.rxStuckClear c) s = .next t ∧ t.rxChan c = { s.rxChan c with stuck := false } ∧ onlyParts [.rx] s t) ∧
    (s.running = true → reached s.now s.rx.bgIntervalAt (ms 10) = true → ∃ t, exec .rxBgInterval s = .next t ∧
      t.rx.bgIntervalAt = s.rx.bgIntervalAt + ms 10 ∧ onlyParts (.rx :: reporting) s t ∧
      ∀ c, c < 256 → t.get (Obj.RX_BG_RATE + c) =
        (((s.getN (Obj.BACKGROUND + c) + 2 ^ 32 - (s.rxChan c).bgAt) % 2 ^ 32 * 100 : Nat) : Int))

/-- R39, R421, R441, R442, R446, R545, R546, R569, R570: the output of the histogram engine and of the pipeline. -/
def Obligations.ReelsSpokesAndStreamsFlow : Prop :=
  ∀ s : State,
    (∀ st, s.hist.sets.find? (fun r => r.closed && !r.completing && !r.completed && r.open_ == 0 &&
        decide (r.lastEnd + 60 * 64 ≤ s.nowTaps)) = some st →
      ∃ t, exec .reelSetComplete s = .next t ∧ onlyParts [.hist] s t ∧
        t.hist.sets = s.hist.sets.map (fun r => if r.id = st.id then { r with completing := true } else r)) ∧
    (∀ st, (s.completeSet st).seq.takes = s.seq.takes.filter (fun k => k.set_ != st.id) ∧
      (s.completeSet st).seq.takeSeq = s.seq.takeSeq ∧ (s.completeSet st).safety = s.safety) ∧
    (∀ d w n, s.hist.descWait = d :: w → s.someEngine = true → s.bestEngine = some n → ∃ t, exec .descriptorPost s = .next t ∧
      t.hist = { s.hist with descWait := w } ∧ t.get Obj.REELS_POSTED = satAdd 0xFFFFFFFF (s.get Obj.REELS_POSTED) 1 ∧
      onlyParts [.hist, .eng, .reg] s t) ∧
    (∀ d w, s.hist.descWait = d :: w → s.someEngine = true → s.bestEngine = none → exec .descriptorPost s = .next s) ∧
    (∀ d w, s.hist.descWait = d :: w → s.someEngine = false → ∃ t, exec .descriptorPost s = .next t ∧
      t.hist.descWait = w ∧ t.get Obj.REELS_UNPROCESSED = satAdd 0xFFFFFFFF (s.get Obj.REELS_UNPROCESSED) 1) ∧
    (∀ (c : Fin 256) (b : Fin 2) x, s.hist.rawCopies.find? (fun x => x.1 == c.val && x.2.1 == b.val) = some x →
      ∃ t, exec (.rawExportCopyDone c b) s = .next t ∧ t.hist.rawUsed = s.hist.rawUsed - x.2.2.length ∧
        t.hist.rawCopies = s.hist.rawCopies.erase x ∧
        (s.hist.claims.all (fun k => k.ch != c.val) = true → (t.reel c b).exporting = false ∧
          (t.reel c b).state = (if (s.reel c b).releaseDue then .clearing else (s.reel c b).state))) ∧
    (∀ x rest, s.hist.mrevDue = x :: rest → s.egoOld = true → ∃ t, exec .mrevSumBuild s = .next t ∧ t.hist.mrevDue = rest ∧
      onlyParts [.hist] s t) ∧
    (∀ x rest, s.hist.mrevDue = x :: rest → s.egoOld = false → reached s.now s.hist.sumsAt (ms 1) = false →
      100 ≤ s.hist.sumsBuilt → ∃ t, exec .mrevSumBuild s = .next t ∧ t.hist = { s.hist with mrevDue := rest } ∧
        t.get Obj.MREV_SKIPS = satAdd 0xFFFFFFFF (s.get Obj.MREV_SKIPS) 1 ∧ onlyParts (.hist :: reporting) s t) ∧
    (∀ x rest, s.hist.mrevDue = x :: rest → s.egoOld = false → reached s.now s.hist.sumsAt (ms 1) = false →
      s.hist.sumsBuilt < 100 → ∃ t, exec .mrevSumBuild s = .next t ∧ t.hist.mrevDue = rest ∧
        t.hist.sumsBuilt = s.hist.sumsBuilt + 1 ∧ t.hist.mrev = s.hist.mrev) ∧
    (s.running = true → s.egoOld = true → s.hist.egoStale = false → ∃ t, exec .egoStale s = .next t ∧ t.hist = { s.hist with egoStale := true } ∧
      onlyParts (.hist :: reporting) s t) ∧
    (∃ t, exec .spokeClose s = .next t ∧ onlyParts [.pipe] s t ∧ t.pipe.spokes = s.pipe.spokes.map (fun x =>
      if s.holdPassed x = true ∧ x.leaving ≠ some true then { x with leaving := some false } else x)) ∧
    (∃ t, exec .spokeSplit s = .next t ∧ onlyParts [.pipe] s t ∧ t.pipe.spokes = s.pipe.spokes.map (fun x =>
      if x.first.trig + 64 * 1000 * (x.settings.maxAge : Int) ≤ s.nowTaps then { x with leaving := some true } else x)) ∧
    (∀ x, x.leaving = some true → (s.endSpoke x).pipe.spokes = s.pipe.spokes.filter (fun y => y.id != x.id) ∧
      (s.endSpoke x).get Obj.SPOKE_SPLITS = satAdd 0xFFFFFFFF (s.get Obj.SPOKE_SPLITS) 1) ∧
    (∀ x, x.leaving = some false → s.holdPassed x = true →
      (s.endSpoke x).pipe.spokes = s.pipe.spokes.filter (fun y => y.id != x.id)) ∧
    (∀ (d : Fin 3) m, s.destUp (d + 1) = true → s.ddrHas ddrQueues = true → nextMessage (s.sendable (d + 1)) = some m →
      (d.val ≠ 0 → ∃ t, exec (.streamMessageSend d) s = .next t ∧ t.outQueue (d + 1) = (s.outQueue (d + 1)).erase m) ∧
      (d.val = 0 → m.stream < 4 → ∃ t f, exec (.streamMessageSend d) s = .next t ∧ t.outQueue 1 = s.outQueue 1 ∧
        (t.bond 0).frames = (s.bond 0).frames ++ [f] ∧ f.msg = some m ∧ f.next = 0)) ∧
    (∀ (f : TxFrame) m, f.msg = some m → (s.frameLeft 0 f).outQueue 1 = (s.outQueue 1).erase m) ∧
    (s.running = true → s.get Obj.DAILIES_DEST ≠ 0 → s.time.sec ≠ s.pipe.dailyAt → ∃ t, exec .dailiesDigest s = .next t ∧
      t.pipe.dailyAt = s.time.sec ∧ t.get Obj.DAILIES_SEQ = (s.get Obj.DAILIES_SEQ + 1) % 2 ^ 32 ∧
      onlyParts [.pipe, .reg, .blk] s t)

/-- R475, R476, R477, R481: formats M and AA. -/
def Obligations.MultiplierAndAccumulatorsCompute : Prop :=
  ∀ (s : State) (n : Fin 34) (w : BitVec 26) (m : State),
    let x := w.toNat
    let u := woken s n
    let e := u.engine n
    let b := natBit x 25
    let prod : Int → Int → Int := fun f g => signed 32 (unsigned 32 (f * g * (if e.frac then 2 else 1)))
    (issues s n (InstrClass.moving x) → u.moves n x = .ok m → exec (.seMac n w) s = .next (issued s n (InstrClass.moving x) (m.putAcc n b (e.accW b + (if natBit x 24 then -1 else 1) * prod (signed 16 (e.half (field x 20 4))) (signed 16 (e.half (field x 16 4))))))) ∧
    (issues s n (InstrClass.moving x) → u.moves n x = .ok m → exec (.seMpy n w) s = .next (issued s n (InstrClass.moving x) (m.putAcc n b ((if natBit x 24 then -1 else 1) * prod (signed 16 (e.half (field x 20 4))) (signed 16 (e.half (field x 16 4))))))) ∧
    (issues s n (InstrClass.moving x) → u.moves n x = .ok m → exec (.seMacu n w) s = .next (issued s n (InstrClass.moving x) (m.putAcc n b (e.accW b + (if natBit x 24 then -1 else 1) * prod (Int.ofNat (e.half (field x 20 4))) (Int.ofNat (e.half (field x 16 4))))))) ∧
    (issues s n (InstrClass.moving x) → u.moves n x = .ok m → exec (.seMacsu n w) s = .next (issued s n (InstrClass.moving x) (m.putAcc n b (e.accW b + (if natBit x 24 then -1 else 1) * prod (signed 16 (e.half (field x 20 4))) (Int.ofNat (e.half (field x 16 4))))))) ∧
    (issues s n (InstrClass.moving x) → u.moves n x = .ok m → exec (.seMove n w) s = .next (issued s n (InstrClass.moving x) (m))) ∧
    (issues s n (InstrClass.moving x) → u.moves n x = .ok m → exec (.seAdda n w) s = .next (issued s n (InstrClass.moving x) (m.putAcc n b (e.accE b + signed 32 (e.dOp (field x 22 3)))))) ∧
    (issues s n (InstrClass.moving x) → u.moves n x = .ok m → exec (.seSuba n w) s = .next (issued s n (InstrClass.moving x) (m.putAcc n b (e.accE b - signed 32 (e.dOp (field x 22 3)))))) ∧
    (issues s n (InstrClass.moving x) → u.moves n x = .ok m → exec (.seShla n w) s = .next (issued s n (InstrClass.moving x) (m.putAcc n b (e.accE b * 2 ^ field x 18 4)))) ∧
    (issues s n (InstrClass.moving x) → u.moves n x = .ok m → exec (.seShra n w) s = .next (issued s n (InstrClass.moving x) (m.putAcc n b (e.accE b / 2 ^ field x 18 4)))) ∧
    (issues s n (InstrClass.moving x) → u.moves n x = .ok m → exec (.seClra n w) s = .next (issued s n (InstrClass.moving x) (m.putAcc n b 0))) ∧
    (issues s n (InstrClass.moving x) → u.moves n x = .ok m → exec (.seMova n w) s = .next (issued s n (InstrClass.moving x) (m.modEngine n (fun y => (y.setD (field x 22 3) .alu (e.accLow b).1).raiseV (e.accLow b).2)))) ∧
    (issues s n (InstrClass.moving x) → u.moves n x = .ok m → exec (.seMovah n w) s = .next (issued s n (InstrClass.moving x) (m.modEngine n (fun y => (y.putD (field x 22 3) .alu .low (e.accHigh b).1).raiseV (e.accHigh b).2))))

/-- R476, R481: formats A, R and I. -/
def Obligations.AluInstructionsReachTheirRegisters : Prop :=
  ∀ (s : State) (n : Fin 34) (w : BitVec 26) (m : State) (v : Int),
    let x := w.toNat
    let u := woken s n
    let e := u.engine n
    (issues s n (InstrClass.moving x) → u.moves n x = .ok m → exec (.seAdd n w) s = .next (issued s n (InstrClass.moving x) (m.putAlu n (some (field x 23 3)) (aluAdd (e.dOp (field x 20 3)) (e.dOp (field x 17 3)))))) ∧
    (issues s n (InstrClass.moving x) → u.moves n x = .ok m → exec (.seSub n w) s = .next (issued s n (InstrClass.moving x) (m.putAlu n (some (field x 23 3)) (aluSub (e.dOp (field x 20 3)) (e.dOp (field x 17 3)))))) ∧
    (issues s n (InstrClass.moving x) → u.moves n x = .ok m → exec (.seAnd n w) s = .next (issued s n (InstrClass.moving x) (m.putAlu n (some (field x 23 3)) (aluAnd (e.dOp (field x 20 3)) (e.dOp (field x 17 3)))))) ∧
    (issues s n (InstrClass.moving x) → u.moves n x = .ok m → exec (.seOr n w) s = .next (issued s n (InstrClass.moving x) (m.putAlu n (some (field x 23 3)) (aluOr (e.dOp (field x 20 3)) (e.dOp (field x 17 3)))))) ∧
    (issues s n (InstrClass.moving x) → u.moves n x = .ok m → exec (.seXor n w) s = .next (issued s n (InstrClass.moving x) (m.putAlu n (some (field x 23 3)) (aluXor (e.dOp (field x 20 3)) (e.dOp (field x 17 3)))))) ∧
    (issues s n (InstrClass.moving x) → u.moves n x = .ok m → exec (.seMin n w) s = .next (issued s n (InstrClass.moving x) (m.putAlu n (some (field x 23 3)) (aluMin (e.dOp (field x 20 3)) (e.dOp (field x 17 3)))))) ∧
    (issues s n (InstrClass.moving x) → u.moves n x = .ok m → exec (.seMax n w) s = .next (issued s n (InstrClass.moving x) (m.putAlu n (some (field x 23 3)) (aluMax (e.dOp (field x 20 3)) (e.dOp (field x 17 3)))))) ∧
    (issues s n (InstrClass.moving x) → u.moves n x = .ok m → exec (.seShift n w) s = .next (issued s n (InstrClass.moving x) (m.putAlu n (some (field x 23 3)) (aluShift (e.dOp (field x 20 3)) (e.dOp (field x 17 3)))))) ∧
    (issues s n (InstrClass.plain) → field x 21 5 < 16 → field x 16 5 < 16 → field x 11 5 < 16 → exec (.seAluAdd n w) s = .next (issued s n (InstrClass.plain) (u.putAlu n (some (field x 21 5)) (aluAdd (e.dOp (field x 16 5)) (e.dOp (field x 11 5)))))) ∧
    (issues s n (InstrClass.plain) → field x 21 5 < 16 → field x 16 5 < 16 → field x 11 5 < 16 → exec (.seAluSub n w) s = .next (issued s n (InstrClass.plain) (u.putAlu n (some (field x 21 5)) (aluSub (e.dOp (field x 16 5)) (e.dOp (field x 11 5)))))) ∧
    (issues s n (InstrClass.plain) → field x 21 5 < 16 → field x 16 5 < 16 → field x 11 5 < 16 → exec (.seAluAnd n w) s = .next (issued s n (InstrClass.plain) (u.putAlu n (some (field x 21 5)) (aluAnd (e.dOp (field x 16 5)) (e.dOp (field x 11 5)))))) ∧
    (issues s n (InstrClass.plain) → field x 21 5 < 16 → field x 16 5 < 16 → field x 11 5 < 16 → exec (.seAluOr n w) s = .next (issued s n (InstrClass.plain) (u.putAlu n (some (field x 21 5)) (aluOr (e.dOp (field x 16 5)) (e.dOp (field x 11 5)))))) ∧
    (issues s n (InstrClass.plain) → field x 21 5 < 16 → field x 16 5 < 16 → field x 11 5 < 16 → exec (.seAluXor n w) s = .next (issued s n (InstrClass.plain) (u.putAlu n (some (field x 21 5)) (aluXor (e.dOp (field x 16 5)) (e.dOp (field x 11 5)))))) ∧
    (issues s n (InstrClass.plain) → field x 21 5 < 16 → field x 16 5 < 16 → field x 11 5 < 16 → exec (.seAluMin n w) s = .next (issued s n (InstrClass.plain) (u.putAlu n (some (field x 21 5)) (aluMin (e.dOp (field x 16 5)) (e.dOp (field x 11 5)))))) ∧
    (issues s n (InstrClass.plain) → field x 21 5 < 16 → field x 16 5 < 16 → field x 11 5 < 16 → exec (.seAluMax n w) s = .next (issued s n (InstrClass.plain) (u.putAlu n (some (field x 21 5)) (aluMax (e.dOp (field x 16 5)) (e.dOp (field x 11 5)))))) ∧
    (issues s n (InstrClass.plain) → field x 21 5 < 16 → field x 16 5 < 16 → field x 11 5 < 16 → exec (.seAluShift n w) s = .next (issued s n (InstrClass.plain) (u.putAlu n (some (field x 21 5)) (aluShift (e.dOp (field x 16 5)) (e.dOp (field x 11 5)))))) ∧
    (issues s n (InstrClass.plain) → field x 21 5 < 16 → field x 16 5 < 16 → field x 11 5 < 16 → exec (.seAluAbs n w) s = .next (issued s n (InstrClass.plain) (u.putAlu n (some (field x 21 5)) (aluAbs (e.dOp (field x 16 5)) (e.dOp (field x 11 5)))))) ∧
    (issues s n (InstrClass.plain) → field x 21 5 < 16 → field x 16 5 < 16 → field x 11 5 < 16 → exec (.seAluNeg n w) s = .next (issued s n (InstrClass.plain) (u.putAlu n (some (field x 21 5)) (aluNeg (e.dOp (field x 16 5)) (e.dOp (field x 11 5)))))) ∧
    (issues s n (InstrClass.plain) → field x 21 5 < 16 → field x 16 5 < 16 → field x 11 5 < 16 → exec (.seAluClz n w) s = .next (issued s n (InstrClass.plain) (u.putAlu n (some (field x 21 5)) (aluClz (e.dOp (field x 16 5)) (e.dOp (field x 11 5)))))) ∧
    (issues s n (InstrClass.plain) → field x 21 5 < 16 → field x 16 5 < 16 → field x 11 5 < 16 → exec (.seAluMinu n w) s = .next (issued s n (InstrClass.plain) (u.putAlu n (some (field x 21 5)) (aluMinu (e.dOp (field x 16 5)) (e.dOp (field x 11 5)))))) ∧
    (issues s n (InstrClass.plain) → field x 21 5 < 16 → field x 16 5 < 16 → field x 11 5 < 16 → exec (.seAluMaxu n w) s = .next (issued s n (InstrClass.plain) (u.putAlu n (some (field x 21 5)) (aluMaxu (e.dOp (field x 16 5)) (e.dOp (field x 11 5)))))) ∧
    (issues s n (InstrClass.plain) → field x 21 5 < 16 → field x 16 5 < 16 → field x 11 5 < 16 → exec (.seAluCmp n w) s = .next (issued s n (InstrClass.plain) (u.putAlu n none (aluSub (e.dOp (field x 16 5)) (e.dOp (field x 11 5)))))) ∧
    (issues s n (InstrClass.plain) → e.reg? (field x 21 5) = some v → exec (.seMovi n w) s = .next (issued s n (InstrClass.plain) (u.modEngine n (fun y => y.setReg (field x 21 5) .alu (imm16 x))))) ∧
    (issues s n (InstrClass.plain) → e.reg? (field x 21 5) = some v → exec (.seMovih n w) s = .next (issued s n (InstrClass.plain) (u.modEngine n (fun y => y.setRegHigh (field x 21 5) (field x 0 16))))) ∧
    (issues s n (InstrClass.plain) → e.reg? (field x 21 5) = some v → field x 21 5 < 24 → exec (.seAddi n w) s = .next (issued s n (InstrClass.plain) (u.putAlu n (some (field x 21 5)) (aluAdd v.toNat (unsigned 32 (imm16 x)))))) ∧
    (issues s n (InstrClass.plain) → e.reg? (field x 21 5) = some v → 24 ≤ field x 21 5 → exec (.seAddi n w) s = .next (issued s n (InstrClass.plain) (u.putAcc n (field x 21 5 == 25) (v + imm16 x)))) ∧
    (issues s n (InstrClass.plain) → e.reg? (field x 21 5) = some v → field x 21 5 < 24 → exec (.seCmpi n w) s = .next (issued s n (InstrClass.plain) (u.putAlu n none (aluSub v.toNat (unsigned 32 (imm16 x))))))

/-- R481: the operations of formats A and R. -/
def Obligations.AluResultsAreExact : Prop :=
  ∀ a b : Nat, a < 2 ^ 32 → b < 2 ^ 32 →
    (aluAdd a b).val = some ((a + b) % 2 ^ 32) ∧ ((aluAdd a b).c = some true ↔ 2 ^ 32 ≤ a + b) ∧
    ((aluAdd a b).v = some true ↔ signed 32 ((a + b) % 2 ^ 32) ≠ signed 32 a + signed 32 b) ∧
    (aluSub a b).val = some ((a + (2 ^ 32 - b)) % 2 ^ 32) ∧ ((aluSub a b).c = some true ↔ a < b) ∧
    ((aluSub a b).v = some true ↔ signed 32 ((a + (2 ^ 32 - b)) % 2 ^ 32) ≠ signed 32 a - signed 32 b) ∧
    (∀ i, natBit (a &&& b) i = (natBit a i && natBit b i)) ∧ (aluAnd a b).val = some (a &&& b) ∧
    (∀ i, natBit (a ||| b) i = (natBit a i || natBit b i)) ∧ (aluOr a b).val = some (a ||| b) ∧
    (∀ i, natBit (a ^^^ b) i = (natBit a i ^^ natBit b i)) ∧ (aluXor a b).val = some (a ^^^ b) ∧
    (∃ r, (aluMin a b).val = some r ∧ (r = a ∨ r = b) ∧ signed 32 r ≤ signed 32 a ∧ signed 32 r ≤ signed 32 b) ∧
    (∃ r, (aluMax a b).val = some r ∧ (r = a ∨ r = b) ∧ signed 32 a ≤ signed 32 r ∧ signed 32 b ≤ signed 32 r) ∧
    (∃ r, (aluMinu a b).val = some r ∧ (r = a ∨ r = b) ∧ r ≤ a ∧ r ≤ b) ∧
    (∃ r, (aluMaxu a b).val = some r ∧ (r = a ∨ r = b) ∧ a ≤ r ∧ b ≤ r) ∧
    (∀ k, k < 32 → b % 64 = k → (aluShift a b).val = some (a * 2 ^ k % 2 ^ 32)) ∧
    (∀ k, 0 < k → k ≤ 32 → b % 64 = 64 - k → (aluShift a b).val = some (unsigned 32 (signed 32 a / 2 ^ k))) ∧
    (aluNeg a b).val = some ((2 ^ 32 - a) % 2 ^ 32) ∧ (a ≠ 2 ^ 31 → (aluAbs a b).val = some (signed 32 a).natAbs) ∧
    (a = 2 ^ 31 → (aluAbs a b).val = none) ∧ (a = 0 → (aluClz a b).val = some 32) ∧
    (∀ k, 2 ^ k ≤ a → a < 2 ^ (k + 1) → (aluClz a b).val = some (31 - k))

/-- R471, R472, R481, R484 to R487, R491: formats L, C, P, B and Q. -/
def Obligations.MemoryAndControlInstructionsComplete : Prop :=
  ∀ (s : State) (n : Fin 34) (w : BitVec 26) (m : State) (r : Nat × State) (v : Int) (l : Nat × Bool) (k : Nat) (rest : List Nat)
      (taken : Bool) (l1 : LoopBody) (ls : List LoopBody),
    let x := w.toNat
    let u := woken s n
    let e := u.engine n
    let at_ := e.access x
    (issues s n (InstrClass.loading) → field x 21 5 < 26 → u.read16 n at_.1 = .ok r → exec (.seLdW n w) s = .next (issued s n (InstrClass.loading) (r.2.modEngine n (fun y => (y.pointed x at_.2).setReg (field x 21 5) .load (signed 16 r.1))))) ∧
    (issues s n (InstrClass.loading) → field x 21 5 < 26 → u.read16 n at_.1 = .ok r → exec (.seLdUw n w) s = .next (issued s n (InstrClass.loading) (r.2.modEngine n (fun y => (y.pointed x at_.2).setReg (field x 21 5) .load (r.1 : Int))))) ∧
    (issues s n (InstrClass.loading) → field x 21 5 < 26 → u.read32 n at_.1 = .ok r → exec (.seLdL n w) s = .next (issued s n (InstrClass.loading) (r.2.modEngine n (fun y => (y.pointed x at_.2).setReg (field x 21 5) .load (signed 32 r.1))))) ∧
    (issues s n (InstrClass.plain) → e.reg? (field x 21 5) = some v → u.write16 n at_.1 (unsigned 16 v) = .ok m → exec (.seStW n w) s = .next (issued s n (InstrClass.plain) (m.modEngine n (fun y => y.pointed x at_.2)))) ∧
    (issues s n (InstrClass.plain) → e.storeLong (field x 21 5) = some l → u.write32 n at_.1 l.1 = .ok m → exec (.seStL n w) s = .next (issued s n (InstrClass.plain) (m.modEngine n (fun y => (y.pointed x at_.2).raiseV l.2)))) ∧
    (issues s n (InstrClass.plain) → field x 21 5 < 26 → exec (.seLea n w) s = .next (issued s n (InstrClass.plain) (u.modEngine n (fun y => (y.pointed x at_.2).setReg (field x 21 5) (if field x 21 5 < 16 then .alu else .addr) at_.1)))) ∧
    (issues s n (InstrClass.plain) → u.control? n (field x 18 6) = some k → exec (.seMovcRead n w) s = .next (issued s n (InstrClass.plain) (u.modEngine n (fun y => y.setD (field x 0 4) .alu k)))) ∧
    (issues s n (InstrClass.control x) → u.setControl n (field x 18 6) (if field x 18 6 ∈ [0, 2, 3] then e.dOp (field x 0 4) else e.dDec (field x 0 4)) = .ok m → exec (.seMovcWrite n w) s = .next (issued s n (InstrClass.control x) (m))) ∧
    (issues s n (InstrClass.control x) → u.setControl n (field x 18 6) (field x 0 16) = .ok m → exec (.seMovcImmediate n w) s = .next (issued s n (InstrClass.control x) (m))) ∧
    (issues s n (InstrClass.plain) → exec (.seMovp n w) s = .next (issued s n (InstrClass.plain) (u.modEngine n (fun y => y.setP (field x 23 3) .addr (y.dDec (field x 0 4)))))) ∧
    (issues s n (InstrClass.plain) → exec (.seMovpi n w) s = .next (issued s n (InstrClass.plain) (u.modEngine n (fun y => y.setP (field x 23 3) .addr (field x 0 20))))) ∧
    (issues s n (InstrClass.plain) → exec (.seNop n) s = .next (issued s n (InstrClass.plain) (u))) ∧
    (issues s n (InstrClass.repeating) → exec (.seWait n) s = .next (issued s n (InstrClass.repeating) (u.modEngine n (fun y => { y with waiting := true, waitAt := s.now, issue := y.issue + 5 })))) ∧
    (issues s n (InstrClass.repeating) → exec (.seRpt n w) s = .next (issued s n (InstrClass.repeating) (u.modEngine n (fun y => { y with rpt := some (if natBit x 25 then y.dDec (field x 21 4) % 65536 else field x 0 16) })))) ∧
    (issues s n (InstrClass.branching) → taken = e.cond (field x 22 4) → e.slotsFit = true → (taken = true → e.inBody (pcOf (field x 0 16)) = true) → exec (.seB n w) s = .next (issued s n (InstrClass.branching) (u.setEngine n { e with slots := 3, branch := if taken then .target (pcOf (field x 0 16)) else .on }))) ∧
    (issues s n (InstrClass.branching) → e.stack.length < 8 → taken = e.cond (field x 22 4) → e.slotsFit = true → (taken = true → e.inBody (pcOf (field x 0 16)) = true) → exec (.seCall n w) s = .next (issued s n (InstrClass.branching) (u.setEngine n { e with stack := pcOf (e.pc + 3) :: e.stack, slots := 3, branch := if taken then .target (pcOf (field x 0 16)) else .on }))) ∧
    (issues s n (InstrClass.branching) → e.slotsFit = true → e.inBody (pcOf (e.dDec (field x 0 4) % 65536)) = true → exec (.seBr n w) s = .next (issued s n (InstrClass.branching) (u.setEngine n { e with slots := 3, branch := .target (pcOf (e.dDec (field x 0 4) % 65536)) }))) ∧
    (issues s n (InstrClass.branching) → e.stack = k :: rest → taken = e.cond (field x 22 4) → e.slotsFit = true → (taken = true → e.inBody (pcOf k) = true) → exec (.seRet n w) s = .next (issued s n (InstrClass.branching) (u.setEngine n { e with stack := rest, slots := 3, branch := if taken then .target (pcOf k) else .on }))) ∧
    (issues s n (InstrClass.branching) → n.val < 32 → e.slotsFit = true → exec (.seReti n w) s = .next (issued s n (InstrClass.branching) (u.setEngine n { e with slots := 3, branch := .reti }))) ∧
    (issues s n (InstrClass.branching) → n.val < 32 → e.slotsFit = true → e.loops = l1 :: ls → exec (.seBreak n w) s = .next (issued s n (InstrClass.branching) (u.setEngine n { e with loops := ls, slots := 3, branch := .target (pcOf (l1.last + 1)) }))) ∧
    (issues s n (InstrClass.repeating) → n.val < 32 → natBit x 24 = false → natBit x 25 = false → field x 0 12 ≠ 0 → e.loops = [] → exec (.seBrpt n w) s = .next (issued s n (InstrClass.repeating) (u.setEngine n { e.setLc 0 (field x 0 12) with loops := [⟨e.pc + 1, e.pc + (field x 12 8 + 1), false, []⟩] })))

/-- R489, R490, R491, R493, R495, R496, R498, R499, R502, R503, R505, R512: the engine commands. -/
def Obligations.EngineEventsFollowTheirRules : Prop :=
  ∀ (s : State) (n : Fin 32),
    let e := s.engine n
    (∀ i, e.irqSource = some i → e.st = .running → e.ie = true → e.irqPlace = true →
      exec (.interruptAccept n) s = .next ((s.setEngine n (e.takeIrq i)).traceFlow n e.pc (some i)) ∧
      (e.takeIrq i).pc = 0x10 + 4 * i ∧ (e.takeIrq i).ie = false ∧ natBit (e.takeIrq i).ipend i = false ∧
      (e.takeIrq i).loops = [] ∧ (e.takeIrq i).shadow = some ⟨e.pc, e.settledFlags.sr, [e.lcAt 0, e.lcAt 1, e.lcAt 2], dropCache e.loops⟩) ∧
    (e.st = .running → e.timerCmp ≤ s.engCycles n % 2 ^ 32 → e.timerTurn ≠ some (s.engCycles n / 2 ^ 32) →
      ∃ t, exec (.timerMatch n) s = .next t ∧ natBit (t.engine n).ipend 2 = true ∧ (t.engine n).pc = e.pc ∧
        onlyParts [.eng] s t) ∧
    (∀ (b : Fin 2) d, (e.slot b).desc = some d → (e.slot b).st = .filling → e.st ≠ .off → e.st ≠ .offline →
      ∃ t, exec (.slotReady n b) s = .next t ∧ ((t.engine n).slot b).st = .ready ∧ natBit (t.engine n).ipend 0 = true ∧
        onlyParts (.eng :: .hist :: reporting) s t) ∧
    (∀ b, e.st = .running → e.openSlot = none → e.oldestReady s.now = some b →
      exec (.mbxNext n) s = .next (s.openSlot n b)) ∧
    (∀ b (v : BitVec 16), e.st = .running → e.openSlot = some b → v.toNat = slotBase b → e.dma0 = false →
      exec (.mbxRelease n v) s = .next (s.releaseSlot n b)) ∧
    (∀ b (i : Fin 8) (v : BitVec 16), e.st = .running → e.openSlot = some b → i.val ≠ 7 → ∃ t, exec (.ptOut n i v) s = .next t ∧
      (t.engine n).ptOut = (if i.val = 0 then List.replicate 8 0 else (e.ptOut ++ List.replicate (8 - e.ptOut.length) 0)).set i v.toNat ∧
      onlyParts [.eng] s t) ∧
    (e.st = .running → s.dmaOk n = true → ∃ t, exec (.dmaCtrl n 1) s = .next t ∧
      t.engine n = { e with dmaStatus := 1, dmaRun := some (e.dmaSrc, e.dmaDst, e.dmaLen) } ∧ onlyParts [.eng] s t) ∧
    (e.st = .running → s.dmaOk n = false → ∃ t, exec (.dmaCtrl n 1) s = .next t ∧ t.engine n = { e with dmaStatus := 3 } ∧
      onlyParts [.eng] s t) ∧
    (∀ src dst len, e.st = .running → e.dmaRun = some (src, dst, len) → e.openSlot = none → s.dmaWaits src = false →
      s.dmaBad n src dst len = false → ∃ t, exec (.dmaDone n) s = .next t ∧
      (t.engine n).dmaRun = none ∧ (t.engine n).dmaStatus = 2 ∧ natBit (t.engine n).ipend 1 = true) ∧
    (∀ w : Fin 34, issues s w InstrClass.plain → exec (.seIllegalOpcode w) s = .next (s.engineFault w 1)) ∧
    (∀ b, e.openSlot = some b → e.st = .running → (e.slot b).releaseDue = false →
      4 * (e.slot b).watchdog ≤ 5 * (s.now - (e.slot b).since) →
      exec (.seWatchdog n) s = .next (s.setEngine n (e.setSlot b { e.slot b with expired := true }))) ∧
    (∀ b, e.openSlot = some b → e.st = .running → (e.slot b).releaseDue = false → (e.slot b).expired = true →
      ((s.expire n).engine n).st ≠ .running ∧
        (s.expire n).get (Obj.SE_FAULTS + n) = satAdd 0xFFFFFFFF (s.get (Obj.SE_FAULTS + n)) 1) ∧
    (e.openSlot = none → s.expire n = s) ∧
    (e.st = .restarting → s.spokeStopped = false → ∃ t, exec (.seRestartDone n) s = .next t ∧ (t.engine n).st = .running ∧
      (t.engine n).pc = s.entryPoint ∧ (t.engine n).queue = e.queue ∧ (t.engine n).slotA = e.slotA ∧
      (t.engine n).slotB = e.slotB ∧ onlyParts [.eng, .mem] s t) ∧
    (e.leaving = true → e.st = .running → e.load = 0 → ∃ t, exec (.seQueueDrained n) s = .next t ∧ (t.engine n).st = .off ∧
      (t.engine n).leaving = true ∧ onlyParts [.eng] s t) ∧
    (e.openSlot = none → ∃ t, exec (.kernelParamDeliver n) s = .next t ∧ (t.engine n).params = [] ∧ (t.engine n).pc = e.pc ∧
      onlyParts [.eng, .mem] s t)

/-- R591 to R600, R604, R605, R607, R609: the calibration commands. -/
def Obligations.CalibrationRunsToItsVerdict : Prop :=
  ∀ s : State,
    (∀ u : Fin 304, ∃ t, exec (.calSpanStart u) s = .next t ∧ (∀ r ∈ t.cal.runs, r.unit_ = u.val →
      r.inSpan = s.spanAt u r.kind (s.nowTaps + 63)) ∧ t.cal.runs.length = s.cal.runs.length ∧ onlyParts [.cal, .rx] s t) ∧
    (∀ (u : Fin 304) k x, u.val < 256 → s.windowOpen (s.groupOf u) = true → s.spanAt u k x = false) ∧
    (∀ (u : Fin 304) k x, u.val < 256 → s.windowOpen (s.groupOf u) = false → s.seq.state ≠ .running → s.spanAt u k x = true) ∧
    (∀ u : Fin 304, ∃ t, exec (.calSpanEnd u) s = .next t ∧ (∀ r ∈ t.cal.runs, r.unit_ = u.val → r.inSpan = false) ∧
      onlyParts [.cal, .rx] s t) ∧
    (∀ (u : Fin 305) (m : CalMeasure) r, s.cal.runs.find? (fun r => r.unit_ == u.val && !r.waits) = some r →
      s.repeatFull r (r.measured m) = false → exec (.calRepeatDone u m) s = .next s) ∧
    (∀ (u : Fin 305) (m : CalMeasure) r, s.cal.runs.find? (fun r => r.unit_ == u.val && !r.waits) = some r → r.kind = 2 →
      s.repeatFull r m = true → r.unit_ < 256 → thresholdCode r.done.isEmpty m ≠ 0 →
      exec (.calRepeatDone u m) s = .next (s.failRun r u (thresholdCode r.done.isEmpty m))) ∧
    (∀ (u : Fin 305) (m' : CalMeasure) r, s.cal.runs.find? (fun r => r.unit_ == u.val && !r.waits) = some r → r.kind = 1 →
      let m := r.measured m'
      s.repeatFull r m = true →
      (tdcCode m ≠ 0 → exec (.calRepeatDone u m') s = .next (s.failRun r u (tdcCode m))) ∧
      (tdcCode m = 0 → r.done = [] → ∃ t, exec (.calRepeatDone u m') s = .next t ∧ onlyParts [.cal] s t ∧
        (∀ x ∈ t.cal.runs, x.unit_ = u.val → x.kind = 1 → x.done = [⟨m, [], r.temps, s.dieTemps⟩] ∧ x.since = s.now)) ∧
      (∀ a rest, tdcCode m = 0 → r.done = a :: rest →
        tdcAgree a.result m = true ∧ s.tempMoved u [a, ⟨m, [], r.temps, s.dieTemps⟩] = false →
        ∃ t, exec (.calRepeatDone u m') s = .next t ∧
          tabGet (fun _ => []) t.cal.tables u =
            tdcTable ((List.range 64).map (fun k => a.result.taps.getD k 0 + m.taps.getD k 0)) ∧
          (r.slot = 0 → t.getN (calKey u) % 2 ^ 11 = 0 ∧
            raisedCount t 0x100 = raisedCount s 0x100 + 1))) ∧
    (∀ (u : Fin 304) r, s.cal.runs.find? (fun r => r.unit_ == u.val && r.kind == 1) = some r →
      reached s.now r.since (s.tdcTimeout u) = true → exec (.calTdcTimeout u) s = .next (s.failRun r u 0x21)) ∧
    (∀ u : Fin 304, s.running = true → s.getB Obj.CAL_ONLINE = true →
      reached s.now (tabGet (fun _ => s.cal.loadedAt) s.cal.acceptedAt u) (sec (s.getN Obj.CAL_MAX_AGE)) = true →
      ∃ t, exec (.calAgeExpiry u) s = .next t ∧ natBit (t.getN (calKey u)) 15 = true ∧ onlyParts reporting s t) ∧
    (∀ x rest, s.running = true → s.getB Obj.CAL_ONLINE = true → (∀ r ∈ s.cal.runs, r.slot ≠ 0) →
      s.onlineChoices = x :: rest → ∃ t, exec .calOnlineStart s = .next t ∧ onlyParts [.cal, .reg] s t ∧
        t.cal.runs = s.cal.runs ++ [⟨x.2, x.1, 0, s.now, s.dieTemps, s.injecting, [], false, [], [], []⟩])

/-- R626, R630, R634, R636, R637, R638, R643, R644, R649, R650: the housekeeping commands. -/
def Obligations.HousekeepingMeasuresInStages : Prop :=
  ∀ s : State,
    (∀ m, s.running = true → s.hk.inject = some m → s.hkFree (s.hkRun m true) = true →
      ∃ t, exec .hkMeasurementStart s = .next t ∧ t.hk = { s.hk with inject := none, runs := s.hk.runs ++ [s.hkRun m true] } ∧
        onlyParts [.hk] s t) ∧
    (∀ m, s.running = true → s.hk.inject = none → s.hkNext = some m → s.hkFree (s.hkRun m false) = true →
      ∃ t, exec .hkMeasurementStart s = .next t ∧
        t.hk = { s.hk with next := (m + 1) % 16, runs := s.hk.runs ++ [s.hkRun m false] } ∧ onlyParts [.hk] s t) ∧
    (∀ (m : Fin 16) r, s.hkFind m = some r →
      (r.stage = .discharge → reached s.now r.since (us r.dischargeUs) = true → ∃ t, exec (.hkDischargeEnd m) s = .next t ∧
        t.hkFind m = some { r with stage := .settle, since := s.now } ∧ onlyParts [.hk] s t) ∧
      (r.stage = .settle → reached s.now r.since (us r.settleUs) = true → ∃ t, exec (.hkSettleEnd m) s = .next t ∧
        t.hkFind m = some { r with stage := .wait, since := s.now } ∧ onlyParts [.hk] s t) ∧
      (r.stage = .wait → r.mode = 2 → ∃ t, exec (.hkPeriodStart m) s = .next t ∧
        t.hkFind m = some { r with stage := .fixed (ms r.fixedMs), since := s.now } ∧ onlyParts [.hk] s t) ∧
      (r.stage = .locked → s.periodBoundary r = none → reached s.now r.since (ms 1000) = true →
        ∃ t, exec (.hkUnlocked m) s = .next t ∧ t.hkFind m = some { r with stage := .fixed (ms 1000), unlocked := true } ∧
          onlyParts (.hk :: reporting) s t) ∧
      (∀ n1 ref1 flags stop, s.periodEnd r = some stop → ∃ t, exec (.hkPeriodEnd m n1 ref1 flags) s = .next t ∧
        (∃ r', t.hkFind m = some r' ∧ r'.stage = .die ∧
          r'.codes = r.codes ++ [(periodCode n1 ((stop - r.since) / 100), periodCode ref1 ((stop - r.since) / 100))] ∧
          r'.ovr = (r.ovr || flags.ovr)))) ∧
    (∀ (c : Fin 2) (v : Int) sensor w, s.die c = some (sensor, w) → sensor < 18 → reached s.now w (us 250) = true →
      ∃ t, exec (.hkDieTempDone c v) s = .next t ∧ t.get (Obj.HK_DIE_TEMP + sensor) = clampInt (-800) 2400 v ∧ t.die c = none) ∧
    (∀ i : Fin 3, tabGet (fun _ => false) s.hk.gainDue i = true → s.captureOpen i = false → s.hk.trimAt = none →
      ∃ t, exec (.fcGainApply i) s = .next t ∧ tabGet (fun _ => 0) t.hk.gain i = s.getN (Obj.FC_GAIN + i) ∧
        tabGet (fun _ => false) t.hk.gainDue i = false ∧ tabGet (fun _ => none) t.hk.gainAt i = some s.now ∧
        onlyParts [.hk] s t) ∧
    (∀ tag v, s.running = true → s.trimDue = true → s.seq.state ≠ .running → s.hk.trimAt = none →
      ∃ t, exec (.fcTrim none tag v) s = .next t ∧ t.hk = { s.hk with trimAt := some s.now } ∧ onlyParts [.hk] s t) ∧
    (∀ w offset gain skew, s.hk.trimAt = some w → reached s.now w (us 50) = true →
      ∃ t, exec (.fcTrimDone offset gain skew) s = .next t ∧ t.hk.trimAt = none ∧
        t.get Obj.FC_TRIM_STATE = clampInt (-32768) 32767 offset ∧ t.get (Obj.FC_TRIM_STATE + 1) = clampInt (-32768) 32767 gain ∧
        t.get (Obj.FC_TRIM_STATE + 2) = clampInt (-64) 64 skew ∧
        raisedCount t 0x119 = raisedCount s 0x119 + 1 ∧ onlyParts (.hk :: reporting) s t)

/-- R663, R664, R669, R671, R673, R674, R676: the commands of the clock and of gPTP. -/
def Obligations.ClockFollowsItsSyncs : Prop :=
  ∀ (s : State) (p : Fin 2),
    let x := s.ptp p
    (∀ (m : GptpSync) id, s.ptpTakes p m.domain = true → s.asCapable p = true → s.syncIdentity p m.source = some id →
      (m.twoStep = true → ∃ t, exec (.gptpSyncReceive p m) s = .next t ∧ t.ptp p = { x with waiting := some m } ∧
        onlyParts [.time] s t) ∧
      (m.twoStep = false → s.getN Obj.GPTP_PRIMARY < 2 → s.follows p = true → s.getN Obj.CLOCK_STATE = 0 → s.get Obj.TIME_SOURCE = 0 →
        let o := s.syncOffset p m.stamp m.origin m.correction
        ∃ t, exec (.gptpSyncReceive p m) s = .next t ∧ t.get Obj.OFFSET_LAST = offsetNs o ∧ t.time.offset = o ∧
          t.time.step = .gptp ∧ t.get Obj.CLOCK_STATE = 1 ∧ (t.ptp p).lastSync = some s.now ∧ t.time.servoPort = p.val)) ∧
    (∀ (m : GptpFollowUp) w id, x.waiting = some w → s.syncIdentity p m.source = some id → s.ptpTakes p m.domain = true →
      w.source = m.source → w.seq = m.seq → ∃ t, exec (.gptpFollowUpReceive p m) s = .next t ∧ (t.ptp p).waiting = none ∧
        (t.ptp p).lastSync = some s.now ∧ (t.ptp p).timedOut = false) ∧
    (∀ m : GptpPdelayReq, s.pdelayTakes p m.domain = true →
      (s.syncDue p = false → ∃ t f, exec (.gptpPdelayReqReceive p m) s = .next t ∧
        t.net.egress = s.net.egress ++ [f] ∧ f.port = p.val ∧ f.cls = 0 ∧ f.msg.kind = .gptp ∧ onlyParts [.net] s t) ∧
      (s.syncDue p = true → ∃ t, exec (.gptpPdelayReqReceive p m) s = .next t ∧ (t.ptp p).response.isSome = true ∧
        onlyParts [.time] s t)) ∧
    (∀ m : GptpPdelayResp, s.pdelayTakes p m.domain = true → m.seq = x.pdelaySeq →
      (m.form = .oneStep → ∃ t, exec (.gptpPdelayRespReceive p m) s = .next t ∧ (t.ptp p).delayKnown = true ∧
        t.get (Obj.LINK_DELAY + p) = clampInt 0 0xFFFFFFFF
          (linkDelay x.pdelayT1 (((m.stamp : Int) - s.get (Obj.RX_LATENCY + p)) * 65536) m.correction) ∧
        onlyParts [.time, .reg] s t) ∧
      (∀ r, m.form = .twoStep r → ∃ t, exec (.gptpPdelayRespReceive p m) s = .next t ∧ t.reg = s.reg ∧
        (t.ptp p).pdelayT2.isSome = true ∧ onlyParts [.time] s t)) ∧
    (∀ stamp, s.ptpOn p = true → reached s.now x.pdelayTxAt (logSec x.logPdelay) = true →
      ∃ t, exec (.gptpPdelayReqTransmit p stamp) s = .next t ∧ (t.ptp p).pdelaySeq = (x.pdelaySeq + 1) % 65536 ∧
        (t.ptp p).pdelayTxAt = s.now ∧ t.net.egress.length = s.net.egress.length + 1 ∧ onlyParts [.time, .net] s t) ∧
    (∀ stamp, s.ptpOn p = true → s.isGrandmaster = true → s.asCapable p = true →
      reached s.now x.syncTxAt (logSec x.logSync) = true → ∃ t, exec (.gptpSyncTransmit p stamp) s = .next t ∧
        (t.ptp p).syncSeq = (x.syncSeq + 1) % 65536 ∧ (t.ptp p).response = none ∧
        t.net.egress.length = s.net.egress.length + (if x.response.isSome then 2 else 1) ∧ onlyParts [.time, .net] s t) ∧
    (s.ptpOn p = true → s.isGrandmaster = true → s.asCapable p = true →
      reached s.now x.announceTxAt (logSec x.logAnnounce) = true → ∃ t, exec (.gptpAnnounceTransmit p) s = .next t ∧
        (t.ptp p).announceSeq = (x.announceSeq + 1) % 65536 ∧ t.net.egress.length = s.net.egress.length + 1 ∧
        onlyParts [.time, .net] s t) ∧
    (∀ m : GptpAnnounce, s.ptpTakes p m.domain = true → s.asCapable p = true → s.getB Obj.GPTP_EXT_CONFIG = false →
      m.source ≠ s.clockIdentity → m.vector.steps < 255 → x.betters m = true → ∃ t, exec (.gptpAnnounceReceive p m) s = .next t ∧
        (t.ptp p).announce = some m ∧ (t.ptp p).announceAt = s.now ∧ onlyParts (.time :: reporting) s t) ∧
    (∀ m : GptpSignaling, s.ptpTakes p m.domain = true → ∃ t, exec (.gptpSignalingReceive p m) s = .next t ∧
      (t.ptp p).logSync = askInterval m.sync x.logSync (s.get Obj.LOG_SYNC_INTERVAL) (-5) 1 ∧ onlyParts [.time] s t) ∧
    (s.running = true → s.portTimedOut p = true → s.time.servoPort ≠ p.val → ∃ t, exec (.syncTimeout p) s = .next t ∧ (t.ptp p).timedOut = true ∧
      raisedCount t 0x124 = raisedCount s 0x124 + 1 ∧ onlyParts (.time :: reporting) s t) ∧
    (∀ a, x.announce = some a → reached s.now x.announceAt (3 * logSec (s.get Obj.LOG_ANNOUNCE_INTERVAL)) = true →
      ∃ t, exec (.announceReceiptTimeout p) s = .next t ∧ (t.ptp p).announce = none ∧ onlyParts (.time :: reporting) s t) ∧
    (s.get Obj.TIME_SOURCE = 1 → s.steered = true →
      s.running = true → reached s.now s.hostSince (ms (s.getN Obj.HOST_TIMEOUT)) = true →
      ∃ t, exec .hostTimeout s = .next t ∧ t.get Obj.CLOCK_STATE = 4 ∧ onlyParts (.time :: reporting) s t ∧
        raisedCount t 0x12B = raisedCount s 0x12B + (if s.time.hostLate then 0 else 1)) ∧
    (s.get Obj.TIME_SOURCE = 1 → s.steered = false → s.time.hostLate = false → s.running = true →
      reached s.now s.hostSince (ms (s.getN Obj.HOST_TIMEOUT)) = true → ∃ t, exec .hostTimeout s = .next t ∧
        t.get Obj.CLOCK_STATE = s.get Obj.CLOCK_STATE ∧ raisedCount t 0x12B = raisedCount s 0x12B + 1 ∧ onlyParts [.time, .ev] s t) ∧
    (s.getB Obj.XTAL_LEARN = true → s.synced = true → s.get Obj.TIME_SOURCE = 0 → reached s.now s.time.hourAt hour = true →
      ∃ t, exec .xtalLearned s = .next t ∧ -50000 ≤ t.get Obj.XTAL_AGEING ∧ t.get Obj.XTAL_AGEING ≤ 50000 ∧
        t.time.hourAt = s.now ∧ t.time.hourSum = 0 ∧
        raisedCount t 0x12A = raisedCount s 0x12A + 1)

/-- R678, R679, R681, R682, R684, R686, R688, R690, R691: the commands of the networks. -/
def Obligations.NetworksCountWhatTheyDiscard : Prop :=
  ∀ (s : State) (p : Fin 2),
    (∀ f : EthFrame, s.running = true → s.portUp p = true →
      (f.fcsOk = false → exec (.ethFrameReceive p f) s = .next (s.count (Obj.RX_FCS_ERRORS + p))) ∧
      (f.fcsOk = true → f.body = .pause → exec (.ethFrameReceive p f) s = .next (s.count (Obj.PAUSE_RX + p))) ∧
      (f.fcsOk = true → f.body ≠ .pause → s.frameTaken p f = false →
        exec (.ethFrameReceive p f) s = .next (s.count (Obj.RX_DISCARDS + p))) ∧
      (f.fcsOk = true → f.body = .other → s.frameTaken p f = true → ∃ t, exec (.ethFrameReceive p f) s = .next t ∧
        t.get (Obj.RX_FRAMES + p) = satAdd 0xFFFFFFFF (s.get (Obj.RX_FRAMES + p)) 1 ∧ onlyParts [.reg] s t) ∧
      (∀ a k, f.fcsOk = true → f.body = .arp true a k → s.frameTaken p f = true → k ≠ 0 → k = s.ownV4 p →
        ∃ t, exec (.ethFrameReceive p f) s = .next t ∧ (p.val, a, s.now) ∈ t.net.resolved ∧
          t.net.egress.length = s.net.egress.length + 1 ∧ onlyParts [.reg, .net] s t)) ∧
    (s.running = false ∨ s.portUp p = false → ∀ f, exec (.ethFrameReceive p f) s = .next s) ∧
    (∀ f : CanFrame, s.running = true → s.canTakes f = true → f.format = .classic → f.id ≠ s.getN Obj.EGO_CAN_ID →
      exec (.canFrameReceive f) s = .next s) ∧
    (∀ f : CanFrame, s.running = true → s.canTakes f = true → f.format = .classic → f.id = s.getN Obj.EGO_CAN_ID →
      s.getN Obj.EGO_SOURCE = 1 → exec (.canFrameReceive f) s = .next (s.egoMessage (f.data.take 4))) ∧
    (∀ d, s.getN Obj.EGO_SOURCE = p + 1 → d.length = 4 → s.egoValid d = true → ∃ t, exec (.egoSpeedReceive p d) s = .next t ∧
      t.get Obj.EGO_SPEED = beIntAt d 0 2 ∧ t.time.egoAt = some s.now ∧ t.time.egoCounter = some (beAt d 2 1) ∧
      t.hist.egoStale = false ∧ onlyParts [.reg, .time, .hist] s t) ∧
    (∀ d, s.getN Obj.EGO_SOURCE = p + 1 → d.length = 4 → s.egoValid d = false → ∃ t, exec (.egoSpeedReceive p d) s = .next t ∧
      t.get Obj.EGO_INVALID = satAdd 0xFFFFFFFF (s.get Obj.EGO_INVALID) 1 ∧ onlyParts reporting s t) ∧
    (∀ d, s.getN Obj.EGO_SOURCE ≠ p + 1 → exec (.egoSpeedReceive p d) s = .next s) ∧
    (∃ t, exec .addressResolutionRetry s = .next t ∧ onlyParts [.net] s t ∧
      (∀ x ∈ s.net.asking, reached s.now x.2.2 (sec 1) = true → (x.1, x.2.1, s.now) ∈ t.net.asking)) ∧
    (∃ t, exec .arpRefresh s = .next t ∧ onlyParts [.net] s t ∧
      (∀ x ∈ s.net.resolved, isV4 x.2.1 = true → reached s.now x.2.2 (sec 60) = true → (x.1, x.2.1, s.now) ∈ t.net.resolved)) ∧
    (∀ l : Fin 5, l.val ≠ 0 → s.portOn p = true → s.rateOk p l = true → s.getN (Obj.LINK_STATE + p) ≠ l.val →
      ∃ t, exec (.linkChange p l) s = .next t ∧ t.get (Obj.LINK_STATE + p) = (l.val : Int) ∧ onlyParts reporting s t ∧
        raisedCount t 0x126 = raisedCount s 0x126 + 1) ∧
    (s.getN (Obj.LINK_STATE + p) ≠ 0 → ∃ t, exec (.linkChange p 0) s = .next t ∧ t.get (Obj.LINK_STATE + p) = 0) ∧
    (∀ e : Fin 3, s.get Obj.CAN_MODE ≠ 0 → s.getN Obj.CAN_STATE ≠ 0 → s.get Obj.CAN_STATE ≠ 3 → s.net.canOff = false →
      s.getN Obj.CAN_STATE ≠ e.val + 1 → ∃ t, exec (.canState e) s = .next t ∧ t.get Obj.CAN_STATE = (e.val : Int) + 1 ∧
        raisedCount t 0x128 = raisedCount s 0x128 + 1 ∧ onlyParts reporting s t) ∧
    (s.getB Obj.CAN_AUTO_RECOVER = true → s.get Obj.CAN_STATE = 3 → ∃ t, exec .canBusOffRecovery s = .next t ∧
      t.get Obj.CAN_STATE = 1 ∧ onlyParts reporting s t) ∧
    (s.getB Obj.CAN_AUTO_RECOVER = false → exec .canBusOffRecovery s = .next s) ∧
    (∃ t, exec .canTxTimeout s = .next t ∧ t.net.canQueue = s.net.canQueue.filter (fun f => !reached s.now f.at_ (ms 100)) ∧
      t.get Obj.CAN_TX_DROPS = satAdd 0xFFFFFFFF (s.get Obj.CAN_TX_DROPS)
        (s.net.canQueue.filter (fun f => reached s.now f.at_ (ms 100))).length ∧ onlyParts [.reg, .net] s t)

/-- R711, R716, R717, R720, R721, R722, R729, R734: the commands of the lanes and the bonds. -/
def Obligations.LanesLockAlignAndTrain : Prop :=
  ∀ (s : State) (lane : Fin 8) (bond : Fin 2),
    let x := s.lane lane
    (∀ block, s.running = false ∨ s.lanePowered lane = false ∨ s.nearLoop lane = true →
      exec (.laneBlockReceive lane block) s = .next s) ∧
    (∀ block : LaneBlock, s.running = true → s.lanePowered lane = true → s.nearLoop lane = false → s.prbsChecks lane = true →
      ∃ t, exec (.laneBlockReceive lane block) s = .next t ∧ onlyParts [.lanes, .reg] s t ∧ t.get (Obj.PRBS_ERRORS + lane) =
        if s.getB (Obj.PRBS_LOCK + lane) then
          satAdd 0xFFFFFFFF (s.get (Obj.PRBS_ERRORS + lane)) (prbsWrong x.prbsRx (wireBits ⟨block.header, block.bytes⟩))
        else s.get (Obj.PRBS_ERRORS + lane)) ∧
    (∀ (st : Nat) (bits : List Bool), descramble st (scramble st bits).1 = (bits, (scramble st bits).2)) ∧
    (∀ (block : LaneBlock) b, s.running = true → s.lanePowered lane = true → s.nearLoop lane = false → s.prbsChecks lane = false →
      laneBond lane = some b →
      (x.locked = false → (blockHeaderOk block = true → ∃ t, exec (.laneBlockReceive lane block) s = .next t ∧
          t.lane lane = { x.sees block with valid := min 64 (x.valid + 1) } ∧ onlyParts [.lanes] s t) ∧
        (blockHeaderOk block = false → ∃ t, exec (.laneBlockReceive lane block) s = .next t ∧
          t.lane lane = { x.sees block with valid := 0 } ∧
          t.get (Obj.BLOCK_ERRORS + lane) = satAdd 0xFFFFFFFF (s.get (Obj.BLOCK_ERRORS + lane)) 1 ∧ onlyParts [.lanes, .reg] s t)) ∧
      (x.locked = true → blockHeaderOk block = false →
        (((true :: x.window).take 64).filter id).length < 16 → ∃ t, exec (.laneBlockReceive lane block) s = .next t ∧
          t.lane lane = { x.sees block with window := (true :: x.window).take 64 } ∧ onlyParts [.lanes, .reg] s t) ∧
      (x.locked = true → blockHeaderOk block = false →
        16 ≤ (((true :: x.window).take 64).filter id).length → ∃ t, exec (.laneBlockReceive lane block) s = .next t ∧
          (t.lane lane).locked = false ∧ (t.lane lane).deskewed = false ∧
          t.get (Obj.LOCK_LOSSES + lane) = satAdd 0xFFFFFFFF (s.get (Obj.LOCK_LOSSES + lane)) 1 ∧
          onlyParts (.lanes :: .jobs :: reporting) s t) ∧
      (x.locked = true → block.header = 1#2 → s.laneMode lane = 1 → (s.bond b).level < block.taken →
        (((false :: x.window).take 64).filter id).length < 16 → lane.val ∈ s.rxLanes b →
        ∃ t, exec (.laneBlockReceive lane block) s = .next t ∧ (t.lane lane).locked = false ∧
          t.get (Obj.ELASTIC_ERRORS + lane) = satAdd 0xFFFFFFFF (s.get (Obj.ELASTIC_ERRORS + lane)) 1)) ∧
    (∀ y, y = s.bond bond →
      (24 < y.level → (s.enterColumn bond lane true).bond bond = y ∧
        ∀ n ∈ s.rxLanes bond, (s.enterColumn bond lane true).get (Obj.FILL_DELETES + n) = (s.get (Obj.FILL_DELETES + n) + 1) % 2 ^ 32) ∧
      (y.level < 8 → ((s.enterColumn bond lane true).bond bond) = { y with level := y.level + 2 } ∧
        ∀ n ∈ s.rxLanes bond, (s.enterColumn bond lane true).get (Obj.FILL_INSERTS + n) = (s.get (Obj.FILL_INSERTS + n) + 1) % 2 ^ 32) ∧
      (y.level < 32 → s.enterColumn bond lane false = s.setBond bond { y with level := y.level + 1 })) ∧
    (s.running = true → s.lanePowered lane = true → x.locked = false → 64 ≤ x.valid → ∃ t, exec (.laneLocked lane) s = .next t ∧
      t.lane lane = { x with locked := true, window := [] } ∧ onlyParts (.lanes :: reporting) s t ∧
      raisedCount t 0x131 = raisedCount s 0x131 + 1) ∧
    (∀ (col : AlignColumn) b, laneBond lane = some b → s.running = true → x.locked = true →
      ∃ t, exec (.alignReceive lane col) s = .next t ∧ (t.bond b).peerMap = col.map ∧ onlyParts (.lanes :: reporting) s t ∧
        (∀ n k, col.skew = [(n, k)] → n ∈ s.bondLanes b → (s.lane n).locked = true → (t.lane n).deskewed = decide (k ≤ 16))) ∧
    (∀ (col : StatusColumn) b, laneBond lane = some b → s.running = true → x.locked = true →
      (s.statusLater b col.seq = true → ∃ t, exec (.statusReceive lane col) s = .next t ∧
        (t.bond b).peerStatus = some (col.seq % 65536, s.now) ∧ (∀ n ∈ s.bondLanes b, (t.lane n).peerOk = inMap col.rxOk n) ∧
        onlyParts (.lanes :: .pair :: reporting) s t) ∧
      (s.statusLater b col.seq = false → exec (.statusReceive lane col) s = .next s)) ∧
    (s.running = true → (s.bond bond).peerStatus.isSome = true → s.statusFresh bond = false →
      ∃ t, exec (.laneStatusAged bond) s = .next t ∧ (∀ n ∈ s.bondLanes bond, (t.lane n).usable = none) ∧
        (s.activeLanes bond ≠ [] → t.activeMap bond = 0 ∧ t.bondState bond = 0)) ∧
    (s.running = true → s.enabledLanes bond ≠ [] → s.alignDue bond = true → ∃ t, exec (.alignColumnSend bond) s = .next t ∧
      (t.bond bond).alignSeq = ((s.bond bond).alignSeq + 1) % 65536 ∧ (t.bond bond).alignAt = s.now ∧
      onlyParts (.lanes :: .pair :: reporting) s t) ∧
    (s.running = true → s.enabledLanes bond ≠ [] → reached s.now (s.bond bond).statusTxAt (us 8) = true →
      ∃ t, exec (.statusColumnSend bond) s = .next t ∧
        (∃ c : ControlColumn, t.bond bond = { s.bond bond with
          statusSeq := ((s.bond bond).statusSeq + 1) % 65536, statusTxAt := s.now, control := (s.bond bond).control ++ [c] } ∧
          c.map (·.1) = s.enabledLanes bond ∧ (∀ e ∈ c, e.2.header = 2#2 ∧ beAt e.2.bytes 0 1 = 0x66)) ∧ onlyParts [.lanes] s t) ∧
    (∀ frame : LaneFrame, s.running = true → s.enabledLanes bond ≠ [] → frameAborted frame = false →
      (bond.val = 0 ∨ frameGood frame = false → ∃ t, exec (.klpFrameReceive bond frame) s = .next t ∧
        t.get (Obj.RX_FRAME_ERRORS + bond) = satAdd 0xFFFFFFFF (s.get (Obj.RX_FRAME_ERRORS + bond)) 1 ∧
        onlyParts reporting s t) ∧
      (bond.val = 1 → frameGood frame = true →
        (frameType frame = 0x10 → exec (.klpFrameReceive bond frame) s = exec (.heartbeatReceive (framePayload frame)) s) ∧
        (frameType frame = 0x11 → exec (.klpFrameReceive bond frame) s = exec (.takeFrameReceive (framePayload frame)) s) ∧
        (frameType frame = 0x12 → exec (.klpFrameReceive bond frame) s = exec (.spokeSumReceive (framePayload frame)) s) ∧
        (frameType frame = 0x13 → exec (.klpFrameReceive bond frame) s = exec (.objectFrameReceive (framePayload frame)) s) ∧
        (frameType frame = 0x14 → exec (.klpFrameReceive bond frame) s = exec (.cueFrameReceive (framePayload frame)) s) ∧
        (frameType frame = 0x15 → exec (.klpFrameReceive bond frame) s = exec (.timeFrameReceive (framePayload frame)) s) ∧
        (frameType frame = 0x16 → exec (.klpFrameReceive bond frame) s = exec (.accountFrameReceive (framePayload frame)) s) ∧
        (frameType frame = 0x17 → exec (.klpFrameReceive bond frame) s = exec (.epochFrameReceive (framePayload frame)) s) ∧
        (frameType frame = 0x18 → exec (.klpFrameReceive bond frame) s = exec (.yieldFrameReceive (framePayload frame)) s) ∧
        (frameType frame = 0x19 → exec (.klpFrameReceive bond frame) s = exec (.resyncReqReceive (framePayload frame)) s))) ∧
    (∀ (w t seq : Nat) (p : List Byte), 1 ≤ w →
      ((frameColumns w p).flatten.filter (fun b => !isFill b) = frameBlocks p) ∧ (∀ c ∈ frameColumns w p, c.length = w) ∧
      (typeValid t = true → 1 ≤ p.length → p.length ≤ 262144 →
        let f : LaneFrame := ⟨(frameColumns w (frameBytes t 0 seq p)).flatten.drop 1⟩
        frameGood f = true ∧ frameAborted f = false ∧ frameType f = t ∧ framePayload f = p)) ∧
    ((s.bond bond).frames = [] → (s.bond bond).control = [] → s.columnNow bond = []) ∧
    (1023 ≤ (s.bond bond).sinceFill → s.columnNow bond = []) ∧
    ((s.bond bond).sinceFill ≤ 1023 → ((s.beginColumn bond).bond bond).sinceFill ≤ 1023) ∧
    (∀ n : Nat, s.running = true → s.lanePowered lane = true → ∃ t, exec (.adaptWindowEnd lane n) s = .next t ∧
      t.get (Obj.TRANSITION_DENSITY + lane) = (min 100 (n * 100 / 65536) : Nat) ∧
      t.getB (Obj.ADAPT_FROZEN + lane) = decide (n * 4 < 65536) ∧ onlyParts (.lanes :: .freeCtr :: reporting) s t ∧
      (n * 4 < 65536 ∨ s.getB (Obj.RX_ADAPT + lane) = false → (t.lane lane).equaliser = x.equaliser)) ∧
    (s.prbsFound lane = true → ∃ t, exec (.prbsLockAcquired lane) s = .next t ∧ t.get (Obj.PRBS_LOCK + lane) = 1 ∧
      onlyParts [.lanes, .reg] s t) ∧
    (s.prbsLost lane = true → ∃ t, exec (.prbsLoss lane) s = .next t ∧
      t.get (Obj.PRBS_LOCK + lane) = 0 ∧ (t.lane lane).prbsGood = 0 ∧ onlyParts (.lanes :: .jobs :: reporting) s t ∧
      raisedCount t 0x139 = raisedCount s 0x139 + 1)

/-- R748 to R752, R756 to R759, R769 to R771: the commands of the I3C target and of the event datagrams. -/
def Obligations.I3cTransfersAndCccsAnswer : Prop :=
  ∀ s : State, let x := s.i3c
    (s.i3cOn = false → ∀ (pdu : List Byte) (h : Fin 512), exec (.koaRequest pdu) s = .next s ∧ exec (.liveSelect h) s = .next s ∧
      exec .eventRead s = .next s ∧ exec (.i3cWriteDiscard pdu) s = .next s) ∧
    (s.i3cOn = true →
      (∀ pdu : List Byte, s.requestFits pdu = true →
        (takes (s.setSource .koa) i3cReq pdu → exec (.koaRequest pdu) s =
          .next (served (s.setSource .koa) i3cReq pdu ((s.setSource .koa).koaExec i3cReq pdu))) ∧
        (x.response.isSome = true → s.bearerOpen .i3c = true → pduDiscarded pdu = false →
          ∃ t, exec (.koaRequest pdu) s = .next t ∧ t.i3c.busyResponse = some (koaResponse pdu .busy []) ∧
            t.i3c.source = .koa ∧ t.i3c.response = x.response ∧ onlyParts reporting s t)) ∧
      (∀ pdu : List Byte, s.requestFits pdu = false → ∃ t, exec (.koaRequest pdu) s = .next t ∧
        t.i3c = { x with protocolError := true } ∧ t.get Obj.I3C_ERRORS = satAdd 0xFFFFFFFF (s.get Obj.I3C_ERRORS) 1 ∧
        onlyParts [.reg, .i3c] s t) ∧
      (∀ h : Fin 512, ∃ t, exec (.liveSelect h) s = .next t ∧ t.i3c = { x with source := .live h } ∧ onlyParts [.i3c] s t) ∧
      (∃ t, exec .eventRead s = .next t ∧ t.i3c = { x with source := .events } ∧ onlyParts [.i3c] s t) ∧
      (∀ bs, ∃ t, exec (.i3cWriteDiscard bs) s = .next t ∧ t.i3c = { x with protocolError := true } ∧
        t.get Obj.I3C_ERRORS = satAdd 0xFFFFFFFF (s.get Obj.I3C_ERRORS) 1 ∧ onlyParts [.reg, .i3c] s t) ∧
      (∀ h : Fin 512, x.source = .live h → 4 ≤ x.mrl →
        (h.val % 2 = 0 → ∃ t, exec (.liveWindowRead 1) s = .next t ∧ t.i3c.latch = some (h.val / 2, s.liveWord (h.val / 2) / 2 ^ 32) ∧
          t.sent = ⟨.i3c, .live, 0, 0, beBytes 4 (s.liveWord (h.val / 2) % 2 ^ 32), noHead⟩ :: s.sent ∧ onlyParts [.i3c, .sent] s t) ∧
        (∀ v, h.val % 2 = 1 → x.latch = some (h.val / 2, v) → ∃ t, exec (.liveWindowRead 1) s = .next t ∧ t.i3c.latch = none ∧
          t.i3c.torn = x.torn ∧ t.sent = ⟨.i3c, .live, 0, 0, beBytes 4 v, noHead⟩ :: s.sent ∧ onlyParts [.i3c, .sent] s t) ∧
        (h.val % 2 = 1 → (∀ v, x.latch ≠ some (h.val / 2, v)) → ∃ t, exec (.liveWindowRead 1) s = .next t ∧ t.i3c.latch = none ∧
          t.i3c.torn = true ∧ t.get Obj.LIVE_TORN = satAdd 0xFFFFFFFF (s.get Obj.LIVE_TORN) 1 ∧
          onlyParts [.i3c, .sent, .reg] s t)) ∧
      (x.source = .koa →
        (∀ n, s.readyResponse = none → exec (.koaResponseRead n) s = .next (s.i3cAnswer .nack [])) ∧
        (∀ n r, s.readyResponse = some r → (r.length ≤ n → x.later = []) → ∃ t, exec (.koaResponseRead n) s = .next t ∧
          t.sent = ⟨.i3c, .koaResponse, 0, 0, r.take n, noHead⟩ :: s.sent ∧ onlyParts [.i3c, .sent] s t ∧
          t.i3c.response = if r.length ≤ n then x.busyResponse.map (fun b => (b, s.now)) else x.response)) ∧
      (x.source = .events → s.ev.ibiQueue ≠ [] → ∀ n, ∃ t, exec (.eventQueueRead n) s = .next t ∧
        t.ev.ibiQueue = s.ev.ibiQueue.drop (min n (x.mrl / 16)) ∧ onlyParts [.ev, .sent] s t ∧
        t.sent = ⟨.i3c, .eventRecords, 0, 0, (s.ev.ibiQueue.take (min n (x.mrl / 16))).flatten, noHead⟩ :: s.sent) ∧
      (s.getB Obj.I3C_IBI_ENABLED = true →
        (x.ibiResponse = true → s.readyResponse.isSome = true → ∃ t, exec (.ibiRequest true) s = .next t ∧
          t.i3c.ibiResponse = false ∧ t.sent = ⟨.i3c, .ibi, 0, 0, [0x01], noHead⟩ :: s.sent ∧ onlyParts [.i3c, .sent] s t) ∧
        (∀ r rest, (x.ibiResponse && s.readyResponse.isSome) = false → s.ev.ibiQueue = r :: rest → 17 ≤ x.ibiPayload →
          ∃ t, exec (.ibiRequest true) s = .next t ∧ t.ev.ibiQueue = rest ∧ onlyParts [.ev, .sent] s t ∧
            t.sent = ⟨.i3c, .ibi, 0, 0, 0x00 :: r, noHead⟩ :: s.sent) ∧
        exec (.ibiRequest false) s = .next s)) ∧
    (s.powered = true →
      (∃ t, exec .i3cTransferTimeout s = .next t ∧ onlyParts [.reg] s t ∧
        t.get Obj.I3C_ABANDONED = satAdd 0xFFFFFFFF (s.get Obj.I3C_ABANDONED) 1) ∧
      (∃ t, exec .enec s = .next t ∧ t.get Obj.I3C_IBI_ENABLED = 1 ∧ t.i3c = { x with hdr := false } ∧ onlyParts [.reg, .i3c] s t) ∧
      (∃ t, exec .disec s = .next t ∧ t.get Obj.I3C_IBI_ENABLED = 0 ∧ t.ev = s.ev ∧ onlyParts [.reg, .i3c] s t) ∧
      (∃ t, exec .rstdaa s = .next t ∧ t.get Obj.I3C_DYN_ADDR = 0 ∧ t.i3c.response = x.response ∧ onlyParts [.reg, .i3c] s t) ∧
      (∀ a, dynOk a = true → s.get Obj.I3C_DYN_ADDR = 0 →
        (∃ t, exec (.entdaa true a) s = .next t ∧ t.get Obj.I3C_DYN_ADDR = (a.toNat : Int) ∧ onlyParts [.reg, .i3c] s t) ∧
        (∀ st : BitVec 7, st.toNat = s.getN Obj.I3C_STATIC_ADDR → ∃ t, exec (.setdasa st a) s = .next t ∧
          t.get Obj.I3C_DYN_ADDR = (a.toNat : Int) ∧ onlyParts [.reg, .i3c] s t)) ∧
      (∀ a, dynOk a = true → s.get Obj.I3C_DYN_ADDR ≠ 0 → ∃ t, exec (.setnewda a) s = .next t ∧
        t.get Obj.I3C_DYN_ADDR = (a.toNat : Int) ∧ t.i3c.response = x.response ∧ onlyParts [.reg, .i3c] s t) ∧
      (∀ n, 9 ≤ n → n ≤ 265 → ∃ t, exec (.setmwl n) s = .next t ∧ t.i3c = { x with mwl := n, hdr := false } ∧
        onlyParts [.i3c] s t) ∧
      (∀ n b, 9 ≤ n → n ≤ 264 → ∃ t, exec (.setmrl n b) s = .next t ∧ t.i3c.mrl = n ∧
        (∀ k, b = some k → t.i3c.ibiPayload = min k 17) ∧ onlyParts [.i3c, .reg] s t ∧
        (∀ r w, x.response = some (r, w) → n < r.length → ∃ r', t.i3c.response = some (r', w) ∧
          responseStatus r' = Status.tooLarge.code)) ∧
      (∃ t, exec .getmwl s = .next t ∧ t.sent = ⟨.i3c, .ccc, 0, 0, beBytes 2 x.mwl, noHead⟩ :: s.sent ∧ onlyParts [.i3c, .sent] s t) ∧
      (∃ t, exec .getmrl s = .next t ∧ t.sent = ⟨.i3c, .ccc, 0, 0, beBytes 2 x.mrl ++ beBytes 1 x.ibiPayload, noHead⟩ :: s.sent ∧
        onlyParts [.i3c, .sent] s t) ∧
      (∃ t, exec .getpid s = .next t ∧ t.sent = ⟨.i3c, .ccc, 0, 0, beBytes 6 s.provisionalId, noHead⟩ :: s.sent ∧ onlyParts [.i3c, .sent] s t) ∧
      (∃ t, exec .getbcr s = .next t ∧ t.sent = ⟨.i3c, .ccc, 0, 0, [0x26], noHead⟩ :: s.sent ∧ onlyParts [.i3c, .sent] s t) ∧
      (∃ t, exec .getdcr s = .next t ∧ t.sent = ⟨.i3c, .ccc, 0, 0, [0x00], noHead⟩ :: s.sent ∧ onlyParts [.i3c, .sent] s t) ∧
      (∃ t, exec .getstatus s = .next t ∧ t.i3c = { x with protocolError := false, hdr := false } ∧ t.sent.length = s.sent.length + 1 ∧
        onlyParts [.i3c, .sent] s t) ∧
      (∃ t, exec .getmxds s = .next t ∧ t.sent = ⟨.i3c, .ccc, 0, 0, beBytes 2 (Config.freeValue s.freeCtr), noHead⟩ :: s.sent ∧
        onlyParts [.i3c, .sent, .freeCtr] s t) ∧
      (∃ t, exec .getcaps s = .next t ∧ t.sent = ⟨.i3c, .ccc, 0, 0, beBytes 4 (Config.freeValue s.freeCtr), noHead⟩ :: s.sent ∧
        onlyParts [.i3c, .sent, .freeCtr] s t) ∧
      (∃ t, exec .enthdr0 s = .next t ∧ t.i3c = { x with hdr := true } ∧ onlyParts [.i3c] s t) ∧
      (∃ t, exec .rstactNoReset s = .next t ∧ t.i3c = { x with hdr := false } ∧ onlyParts [.i3c] s t) ∧
      (x.later = [] → ∃ t, exec .rstactResetI3c s = .next t ∧ t.get Obj.I3C_DYN_ADDR = 0 ∧ t.i3c.response = none ∧ t.i3c.latch = none ∧
        t.i3c.mwl = 265 ∧ t.i3c.mrl = 264 ∧ t.ev = { s.ev with ibiQueue := [] } ∧ onlyParts [.reg, .i3c, .ev] s t)) ∧
    (∀ p : Fin 2, (s.gathered (p.val == 1)).records ≠ [] → reached s.now (s.gathered (p.val == 1)).since (ms 1) = true →
      ∃ t, exec (.eventDatagramFlush p) s = .next t ∧ (t.gathered (p.val == 1)).records = [] ∧
        (t.gathered (p.val == 1)).seq = (s.gathered (p.val == 1)).seq ∧
        t.outQueue (2 + p) = s.outQueue (2 + p) ++ [eventMessage (s.gathered (p.val == 1)).records] ∧ onlyParts [.ev, .pipe] s t)

/-- R255, R788, R790 to R793, R800, R807, R809: the trigger lines, the claims and the frames that are sent. -/
def Obligations.ClaimsFollowTheTriggerLines : Prop :=
  ∀ s : State, let x := s.pair
    (∀ (n : Fin 32) level, ∃ t, exec (.trigDriveClassChange n level) s = .next t ∧ t.driveClass n = driveClassOf level ∧
      (n.val ∈ s.trigOutputs → level = .contention → s.driveState ≠ .contention → x.role = .active → x.position ≠ 0 →
        t.pair.role = .shadow ∧ t.pair.driving = false ∧ t.safety.enA = false ∧ t.safety.enB = false)) ∧
    (∀ w, x.undrivenSince = some w → x.claim = .none → x.role = .shadow → s.pairBlocked = false →
      reached s.now w (us (s.getN Obj.DRIVE_LOSS_TIME)) = true → ∃ t, exec .takeover s = .next t ∧ t.pair.claim = .quiet w ∧
        t.pair.takeover = true ∧ t.get Obj.TAKEOVERS = satAdd 0xFFFFFFFF (s.get Obj.TAKEOVERS) 1 ∧ onlyParts (.pair :: reporting) s t) ∧
    (∀ w, x.undrivenSince = some w → x.claim = .none → s.running = true → x.role = .pairing → x.beat = none →
      s.driveState = .undriven → reached s.now s.reset_.releasedAt (ms (s.getN Obj.ALONE_WAIT)) = true →
      ∃ t, exec .aloneWaitExpiry s = .next t ∧ t.pair = { x with claim := .quiet w, takeover := false } ∧ onlyParts [.pair] s t) ∧
    (∀ w, x.claim = .quiet w → s.driveState = .undriven → reached s.now w s.claimQuiet = true →
      ∃ t, exec .claimQuietEnd s = .next t ∧ t.pair = { x with claim := .watching s.now, driving := true } ∧ onlyParts [.pair] s t) ∧
    (∀ w, x.claim = .watching w → reached s.now w (us 20) = true → ∃ t, exec .claimComplete s = .next t ∧ t.pair.role = .active ∧
      t.get Obj.PAIR_EPOCH = (((max (s.getN Obj.PAIR_EPOCH) (s.getN Obj.PARTNER_EPOCH) + 1) % 2 ^ 32 : Nat) : Int) ∧
      t.getN Obj.PAIR_ACTIVE_ID = s.deviceSerial) ∧
    (s.running = true → x.role ≠ .solo → reached s.now x.beatTxAt (us 10) = true → ∃ t, exec .heartbeatSend s = .next t ∧
      t.pair = { x with beatTxAt := s.now } ∧ onlyParts [.pair, .lanes] s t ∧
      (s.bondUp 1 = true → (t.bond 1).frames.length = (s.bond 1).frames.length + 1)) ∧
    (s.running = true → x.role = .active → reached s.now x.timeTxAt (ms 1) = true → ∃ t, exec .timeFrameSend s = .next t ∧
      t.pair = { x with timeTxAt := s.now } ∧ onlyParts [.pair, .lanes] s t ∧
      (s.bondUp 1 = true → (t.bond 1).frames.length = (s.bond 1).frames.length + 1)) ∧
    (s.beatLost = true → ∃ t, exec .heartbeatLost s = .next t ∧ t.pair.partnerSeen = false ∧ t.pair.mirrorSync = false ∧
      raisedCount t 0x143 = raisedCount s 0x143 + 1 ∧ onlyParts (.pair :: reporting) s t) ∧
    (∀ (out : Fin 32) (tap : Fin 64), s.running = true → s.startTdcOk out = true →
      let e := s.stampOf (256 + out) tap
      (x.role = .solo ∨ x.role = .active →
        (∀ y, s.takeOfEdge out e = some y → exec (.loopbackEdge out tap) s =
          .next ((((s.pendingDacs y.group).mapTake y (fun z => { z with start := some e })).groupSettings y.group e).startDecided y.group)) ∧
        (s.takeOfEdge out e = none → s.explained out e = true → exec (.loopbackEdge out tap) s = .next s) ∧
        (s.takeOfEdge out e = none → s.explained out e = false → ∃ t, exec (.loopbackEdge out tap) s = .next t ∧
          t.get Obj.UNSCHEDULED_EDGES = satAdd 0xFFFFFFFF (s.get Obj.UNSCHEDULED_EDGES) 1 ∧ onlyParts reporting s t)) ∧
      (x.role = .shadow → tabGet (fun _ => none) x.lastStart (s.groupOfOut out) = none →
        ∃ t, exec (.loopbackEdge out tap) s = .next t ∧
          tabGet (fun _ => none) t.pair.lastStart (s.groupOfOut out) = some e)) ∧
    (∀ g : Fin 4, x.role = .shadow → (waitedTooLong s.now ((s.waitingStarts g).map (·.2)) = true ∨
        waitedTooLong s.now ((s.waitingTakes g).map (·.2)) = true) → ∃ t, exec (.takeDivergence g) s = .next t ∧
      t.waitingStarts g = [] ∧ t.waitingTakes g = [] ∧ g.val ∈ t.pair.diverged ∧ t.pair.mirrorSync = false ∧
      t.get Obj.TAKE_DIVERGENCES = satAdd 0xFFFFFFFF (s.get Obj.TAKE_DIVERGENCES) 1)

/-- R834, R835, R849, R870 to R881: the commands of reset and of boot. -/
def Obligations.ResetsAndBootFollowTheirOrder : Prop :=
  ∀ s : State, let x := s.reset_
    (∃ t, exec .supplyPowerOn s = .next t ∧ t.reset_ = { x with powerGood := true } ∧ onlyParts [.reset] s t) ∧
    (∃ t, exec .wakeHigh s = .next t ∧ t.reset_ = { x with wake := true } ∧ onlyParts [.reset] s t) ∧
    (s.held = false →
      (∀ v : Fin 7, ∃ t, exec (.brownout v) s = .next t ∧ afterReset s t (brownoutCause v) v ∧ t.reset_.powerGood = false) ∧
      (∃ t, exec .resetPin s = .next t ∧ afterReset s t .pin 0 ∧ t.reset_.resetPin = false) ∧
      (∃ t, exec .standbyEntry s = .next t ∧ afterReset s t .standby 0 ∧ t.reset_.wake = false)) ∧
    (s.held = true →
      (∀ v : Fin 7, ∃ t, exec (.brownout v) s = .next t ∧ t.reset_.powerGood = false ∧ onlyParts [.reset] s t) ∧
      (∃ t, exec .resetPin s = .next t ∧ onlyParts [.reset] s t ∧ t.reset_ = { x with
        resetPin := false
        retained := if x.heldAt = s.now ∧ 2 < x.retained.cause.code then x.retained.after .pin 0 else x.retained }) ∧
      (∃ t, exec .standbyEntry s = .next t ∧ onlyParts [.reset] s t ∧ t.reset_ = { x with
        wake := false
        retained := if x.heldAt = s.now ∧ 3 < x.retained.cause.code then x.retained.after .standby 0 else x.retained }) ∧
      (∃ t, exec .ccWatchdogExpiry s = .next t ∧ onlyParts [.reset] s t ∧ t.reset_ = { x with
        retained := if x.heldAt = s.now ∧ 5 < x.retained.cause.code then x.retained.after .watchdog 0 else x.retained })) ∧
    (s.firmwareRuns = true → ∃ t, exec .ccWatchdogExpiry s = .next t ∧ afterReset s t .watchdog 0) ∧
    (s.firmwareRuns = false → s.held = false → exec .ccWatchdogExpiry s = .next s) ∧
    (∀ w, x.requestAt = some w → reached s.now w (ms 1) = true → ∃ t, exec .resetRequestDelayEnd s = .next t ∧
      afterReset s t .host 0) ∧
    (∀ levels : StrapLevels, s.held = true → x.powerGood = true → x.wake = true →
      ∃ t, exec (.resetRelease levels) s = .next t ∧ t.reset_.phase = .rom ∧ t.reset_.releasedAt = s.now ∧ t.reset_.sramWiped = false ∧
        t.reset_.straps = ⟨levels.sealEn, levels.sa1, levels.sa0, levels.pairS, levels.bootSel⟩ ∧
        t.pair.position = b2n levels.pairS ∧ t.reset_.retained.lifecycle = none ∧ t.reset_.retained.sealImage = none ∧
        t.otp.fuses = s.otp.fuses + (if x.retained.lifecycle.isSome then 1 else 0)) ∧
    (∀ levels : StrapLevels, x.powerGood = false ∨ x.wake = false → exec (.resetRelease levels) s = .next s) ∧
    (x.phase = .rom → (∃ t, exec .sramWipeDone s = .next t ∧ t.reset_ = { x with sramWiped := true } ∧ onlyParts [.reset] s t) ∧
      (x.sramWiped = true →
        (x.straps.bootSel = true ∨ s.bootChoice = 0 → ∃ t, exec .bootImageVerified s = .next t ∧ t.reset_.phase = .recovery ∧
          onlyParts (.reset :: reporting) s t) ∧
        (∀ n, x.straps.bootSel = false → s.bootChoice = n → n ≠ 0 → ∃ t, exec .bootImageVerified s = .next t ∧
          t.reset_.phase = .firmware ∧ t.mem.image = n ∧ t.getN Obj.BOOT_IMAGE = n ∧
          (s.safety.state = .init → s.safety.selfTestPassed = true → t.safety.state = .inhibited)))) ∧
    (x.phase = .firmware → ∃ t, exec .bootApplyStored s = .next t ∧ t.running = true ∧ t.otp = s.otp) ∧
    (x.phase ≠ .firmware → exec .bootApplyStored s = .next s)
end

