-- ==== Sys2Proof/Laws/Tab.lean ====
section
/-! SUPPORT. The laws of sparse tables: a read after a write, other keys stay, and the canonical form is kept. -/

namespace Sys2Proof.Machine

variable {α : Type}

theorem tabGet_filter_of_ne (d : Nat → α) (p : Nat × α → Bool) (t : Tab α) (k : Nat) (h : ∀ e ∈ t, e.1 = k → p e = true) :
    tabGet d (t.filter p) k = tabGet d t k := by
  induction t with
  | nil => rfl
  | cons e t ih =>
    have ih' := ih (fun x hx => h x (List.mem_cons_of_mem _ hx))
    by_cases hp : p e = true
    · simp only [List.filter_cons, hp, if_true, tabGet, ih']
    · have hk : e.1 ≠ k := fun c => hp (h e (List.mem_cons_self ..) c)
      simp only [List.filter_cons, hp, if_false, tabGet, hk, ih', Bool.false_eq_true]

theorem tabGet_absent (d : Nat → α) (t : Tab α) (k : Nat) (h : ∀ e ∈ t, e.1 ≠ k) : tabGet d t k = d k := by
  induction t with
  | nil => rfl
  | cons e t ih =>
    simp only [tabGet, h e (List.mem_cons_self ..), if_false, ih (fun x hx => h x (List.mem_cons_of_mem _ hx))]

theorem tabErase_absent (t : Tab α) (k : Nat) : ∀ e ∈ tabErase k t, e.1 ≠ k := by
  intro e he
  have := (List.mem_filter.mp he).2
  simpa using this

theorem tabGet_erase_same (d : Nat → α) (t : Tab α) (k : Nat) : tabGet d (tabErase k t) k = d k :=
  tabGet_absent d _ k (tabErase_absent t k)

theorem tabGet_erase_other (d : Nat → α) (t : Tab α) {k j : Nat} (h : j ≠ k) : tabGet d (tabErase k t) j = tabGet d t j :=
  tabGet_filter_of_ne d _ t j (fun e _ he => by simp [he, h])

theorem tabGet_insert_same (d : Nat → α) (t : Tab α) (k : Nat) (v : α) (h : ∀ e ∈ t, e.1 ≠ k) :
    tabGet d (tabInsert k v t) k = v := by
  induction t with
  | nil => simp [tabInsert, tabGet]
  | cons e t ih =>
    have he := h e (List.mem_cons_self ..)
    by_cases hk : k < e.1
    · simp [tabInsert, hk, tabGet]
    · simp [tabInsert, hk, tabGet, he, ih (fun x hx => h x (List.mem_cons_of_mem _ hx))]

theorem tabGet_insert_other (d : Nat → α) (t : Tab α) (k j : Nat) (v : α) (h : j ≠ k) :
    tabGet d (tabInsert k v t) j = tabGet d t j := by
  induction t with
  | nil => simp [tabInsert, tabGet, Ne.symm h]
  | cons e t ih =>
    by_cases hk : k < e.1
    · simp [tabInsert, hk, tabGet, Ne.symm h]
    · simp [tabInsert, hk, tabGet, ih]

/-- A read gives what was written last. -/
@[simp] theorem tabGet_put_same [DecidableEq α] (d : Nat → α) (t : Tab α) (k : Nat) (v : α) : tabGet d (tabPut d t k v) k = v := by
  unfold tabPut
  split
  · rw [tabGet_erase_same]; exact Eq.symm ‹_›
  · exact tabGet_insert_same d _ k v (tabErase_absent t k)

/-- A write leaves every other key as it was. -/
theorem tabGet_put_other [DecidableEq α] (d : Nat → α) (t : Tab α) {k j : Nat} (v : α) (h : j ≠ k) :
    tabGet d (tabPut d t k v) j = tabGet d t j := by
  unfold tabPut
  split
  · exact tabGet_erase_other d t h
  · rw [tabGet_insert_other d _ k j v h, tabGet_erase_other d t h]

/-- A read after a write, for every key. -/
theorem tabGet_put [DecidableEq α] (d : Nat → α) (t : Tab α) (k j : Nat) (v : α) :
    tabGet d (tabPut d t k v) j = if j = k then v else tabGet d t j := by
  split
  · subst j; exact tabGet_put_same d t k v
  · exact tabGet_put_other d t v ‹_›

theorem tabWf_iff [DecidableEq α] (d : Nat → α) (t : Tab α) :
    tabWf d t = true ↔ (t.map (·.1)).Pairwise (· < ·) ∧ ∀ e ∈ t, e.2 ≠ d e.1 := by
  simp [tabWf]

/-- Leaving entries out keeps the canonical form. -/
theorem tabWf_filter [DecidableEq α] (d : Nat → α) (p : Nat × α → Bool) (t : Tab α) (h : tabWf d t = true) :
    tabWf d (t.filter p) = true := by
  rw [tabWf_iff] at h ⊢
  refine ⟨h.1.sublist ((List.filter_sublist).map _), fun e he => h.2 e (List.mem_filter.mp he).1⟩

theorem tabInsert_mem (k : Nat) (v : α) (t : Tab α) (e : Nat × α) : e ∈ tabInsert k v t ↔ e = (k, v) ∨ e ∈ t := by
  induction t with
  | nil => simp [tabInsert]
  | cons x t ih =>
    by_cases hk : k < x.1
    · simp [tabInsert, hk]
    · simp only [tabInsert, hk, if_false, List.mem_cons, ih]; tauto

theorem tabInsert_sorted (k : Nat) (v : α) (t : Tab α) (h : (t.map (·.1)).Pairwise (· < ·)) (hk : ∀ e ∈ t, e.1 ≠ k) :
    ((tabInsert k v t).map (·.1)).Pairwise (· < ·) := by
  induction t with
  | nil => simp [tabInsert]
  | cons x t ih =>
    simp only [List.map_cons, List.pairwise_cons] at h
    by_cases hx : k < x.1
    · simp only [tabInsert, hx, if_true, List.map_cons, List.pairwise_cons]
      refine ⟨?_, h.1, h.2⟩
      intro a ha
      rcases List.mem_cons.mp ha with rfl | ha
      · exact hx
      · exact lt_trans hx (h.1 a ha)
    · have hne := hk x (List.mem_cons_self ..)
      simp only [tabInsert, hx, if_false, List.map_cons, List.pairwise_cons]
      refine ⟨?_, ih h.2 (fun e he => hk e (List.mem_cons_of_mem _ he))⟩
      intro a ha
      obtain ⟨e, he, rfl⟩ := List.mem_map.mp ha
      rcases (tabInsert_mem k v t e).mp he with rfl | he
      · simp only; omega
      · exact h.1 _ (List.mem_map_of_mem he)

/-- A write keeps the canonical form. -/
theorem tabWf_put [DecidableEq α] (d : Nat → α) (t : Tab α) (k : Nat) (v : α) (h : tabWf d t = true) :
    tabWf d (tabPut d t k v) = true := by
  unfold tabPut
  have he : tabWf d (tabErase k t) = true := tabWf_filter d _ t h
  split
  · exact he
  · rw [tabWf_iff] at he ⊢
    refine ⟨tabInsert_sorted k v _ he.1 (tabErase_absent t k), ?_⟩
    intro e hm
    rcases (tabInsert_mem k v _ e).mp hm with rfl | hm
    · assumption
    · exact he.2 e hm

/-- A run of writes keeps the canonical form. -/
theorem tabWf_foldl_put [DecidableEq α] (d : Nat → α) (l : List (Nat × α)) (t : Tab α) (h : tabWf d t = true) :
    tabWf d (l.foldl (fun t e => tabPut d t e.1 e.2) t) = true := by
  induction l generalizing t with
  | nil => exact h
  | cons e l ih => exact ih _ (tabWf_put d t e.1 e.2 h)

/-- An update keeps the canonical form. -/
theorem tabWf_upd [DecidableEq α] (d : Nat → α) (t : Tab α) (k : Nat) (f : α → α) (h : tabWf d t = true) :
    tabWf d (tabUpd d t k f) = true := tabWf_put d t k _ h

@[simp] theorem tabWf_nil [DecidableEq α] (d : Nat → α) : tabWf d ([] : Tab α) = true := by simp [tabWf]

end Sys2Proof.Machine
end

