-- ==== Sys2Proof/Laws/State.lean ====
section
/-! SUPPORT. What the updates of State leave as it was: one lemma a field for each basic update, one lemma an operation for
those that are built from them; and what each writes. -/

namespace Sys2Proof.Machine

open Sys2Proof

@[simp] theorem State.set_now (s : State) (k : Nat) (v : Int) : (s.set k v).now = s.now := rfl
@[simp] theorem State.set_freeCtr (s : State) (k : Nat) (v : Int) : (s.set k v).freeCtr = s.freeCtr := rfl
@[simp] theorem State.set_blk (s : State) (k : Nat) (v : Int) : (s.set k v).blk = s.blk := rfl
@[simp] theorem State.set_koa (s : State) (k : Nat) (v : Int) : (s.set k v).koa = s.koa := rfl
@[simp] theorem State.set_jobs (s : State) (k : Nat) (v : Int) : (s.set k v).jobs = s.jobs := rfl
@[simp] theorem State.set_crank (s : State) (k : Nat) (v : Int) : (s.set k v).crank = s.crank := rfl
@[simp] theorem State.set_seq (s : State) (k : Nat) (v : Int) : (s.set k v).seq = s.seq := rfl
@[simp] theorem State.set_emit (s : State) (k : Nat) (v : Int) : (s.set k v).emit = s.emit := rfl
@[simp] theorem State.set_safety (s : State) (k : Nat) (v : Int) : (s.set k v).safety = s.safety := rfl
@[simp] theorem State.set_rx (s : State) (k : Nat) (v : Int) : (s.set k v).rx = s.rx := rfl
@[simp] theorem State.set_hist (s : State) (k : Nat) (v : Int) : (s.set k v).hist = s.hist := rfl
@[simp] theorem State.set_eng (s : State) (k : Nat) (v : Int) : (s.set k v).eng = s.eng := rfl
@[simp] theorem State.set_pipe (s : State) (k : Nat) (v : Int) : (s.set k v).pipe = s.pipe := rfl
@[simp] theorem State.set_cal (s : State) (k : Nat) (v : Int) : (s.set k v).cal = s.cal := rfl
@[simp] theorem State.set_hk (s : State) (k : Nat) (v : Int) : (s.set k v).hk = s.hk := rfl
@[simp] theorem State.set_time (s : State) (k : Nat) (v : Int) : (s.set k v).time = s.time := rfl
@[simp] theorem State.set_net (s : State) (k : Nat) (v : Int) : (s.set k v).net = s.net := rfl
@[simp] theorem State.set_lanes (s : State) (k : Nat) (v : Int) : (s.set k v).lanes = s.lanes := rfl
@[simp] theorem State.set_ev (s : State) (k : Nat) (v : Int) : (s.set k v).ev = s.ev := rfl
@[simp] theorem State.set_i3c (s : State) (k : Nat) (v : Int) : (s.set k v).i3c = s.i3c := rfl
@[simp] theorem State.set_pair (s : State) (k : Nat) (v : Int) : (s.set k v).pair = s.pair := rfl
@[simp] theorem State.set_nvm (s : State) (k : Nat) (v : Int) : (s.set k v).nvm = s.nvm := rfl
@[simp] theorem State.set_otp (s : State) (k : Nat) (v : Int) : (s.set k v).otp = s.otp := rfl
@[simp] theorem State.set_mem (s : State) (k : Nat) (v : Int) : (s.set k v).mem = s.mem := rfl
@[simp] theorem State.set_reset (s : State) (k : Nat) (v : Int) : (s.set k v).reset_ = s.reset_ := rfl
@[simp] theorem State.set_sent (s : State) (k : Nat) (v : Int) : (s.set k v).sent = s.sent := rfl
@[simp] theorem State.set_pending (s : State) (k : Nat) (v : Int) : (s.set k v).pending = s.pending := rfl

@[simp] theorem State.setBlk_now (s : State) (k : Nat) (v : List Byte) : (s.setBlk k v).now = s.now := rfl
@[simp] theorem State.setBlk_freeCtr (s : State) (k : Nat) (v : List Byte) : (s.setBlk k v).freeCtr = s.freeCtr := rfl
@[simp] theorem State.setBlk_reg (s : State) (k : Nat) (v : List Byte) : (s.setBlk k v).reg = s.reg := rfl
@[simp] theorem State.setBlk_koa (s : State) (k : Nat) (v : List Byte) : (s.setBlk k v).koa = s.koa := rfl
@[simp] theorem State.setBlk_jobs (s : State) (k : Nat) (v : List Byte) : (s.setBlk k v).jobs = s.jobs := rfl
@[simp] theorem State.setBlk_crank (s : State) (k : Nat) (v : List Byte) : (s.setBlk k v).crank = s.crank := rfl
@[simp] theorem State.setBlk_seq (s : State) (k : Nat) (v : List Byte) : (s.setBlk k v).seq = s.seq := rfl
@[simp] theorem State.setBlk_emit (s : State) (k : Nat) (v : List Byte) : (s.setBlk k v).emit = s.emit := rfl
@[simp] theorem State.setBlk_safety (s : State) (k : Nat) (v : List Byte) : (s.setBlk k v).safety = s.safety := rfl
@[simp] theorem State.setBlk_rx (s : State) (k : Nat) (v : List Byte) : (s.setBlk k v).rx = s.rx := rfl
@[simp] theorem State.setBlk_hist (s : State) (k : Nat) (v : List Byte) : (s.setBlk k v).hist = s.hist := rfl
@[simp] theorem State.setBlk_eng (s : State) (k : Nat) (v : List Byte) : (s.setBlk k v).eng = s.eng := rfl
@[simp] theorem State.setBlk_pipe (s : State) (k : Nat) (v : List Byte) : (s.setBlk k v).pipe = s.pipe := rfl
@[simp] theorem State.setBlk_cal (s : State) (k : Nat) (v : List Byte) : (s.setBlk k v).cal = s.cal := rfl
@[simp] theorem State.setBlk_hk (s : State) (k : Nat) (v : List Byte) : (s.setBlk k v).hk = s.hk := rfl
@[simp] theorem State.setBlk_time (s : State) (k : Nat) (v : List Byte) : (s.setBlk k v).time = s.time := rfl
@[simp] theorem State.setBlk_net (s : State) (k : Nat) (v : List Byte) : (s.setBlk k v).net = s.net := rfl
@[simp] theorem State.setBlk_lanes (s : State) (k : Nat) (v : List Byte) : (s.setBlk k v).lanes = s.lanes := rfl
@[simp] theorem State.setBlk_ev (s : State) (k : Nat) (v : List Byte) : (s.setBlk k v).ev = s.ev := rfl
@[simp] theorem State.setBlk_i3c (s : State) (k : Nat) (v : List Byte) : (s.setBlk k v).i3c = s.i3c := rfl
@[simp] theorem State.setBlk_pair (s : State) (k : Nat) (v : List Byte) : (s.setBlk k v).pair = s.pair := rfl
@[simp] theorem State.setBlk_nvm (s : State) (k : Nat) (v : List Byte) : (s.setBlk k v).nvm = s.nvm := rfl
@[simp] theorem State.setBlk_otp (s : State) (k : Nat) (v : List Byte) : (s.setBlk k v).otp = s.otp := rfl
@[simp] theorem State.setBlk_mem (s : State) (k : Nat) (v : List Byte) : (s.setBlk k v).mem = s.mem := rfl
@[simp] theorem State.setBlk_reset (s : State) (k : Nat) (v : List Byte) : (s.setBlk k v).reset_ = s.reset_ := rfl
@[simp] theorem State.setBlk_sent (s : State) (k : Nat) (v : List Byte) : (s.setBlk k v).sent = s.sent := rfl
@[simp] theorem State.setBlk_pending (s : State) (k : Nat) (v : List Byte) : (s.setBlk k v).pending = s.pending := rfl

@[simp] theorem State.send_now (s : State) (m : Sent) : (s.send m).now = s.now := rfl
@[simp] theorem State.send_freeCtr (s : State) (m : Sent) : (s.send m).freeCtr = s.freeCtr := rfl
@[simp] theorem State.send_reg (s : State) (m : Sent) : (s.send m).reg = s.reg := rfl
@[simp] theorem State.send_blk (s : State) (m : Sent) : (s.send m).blk = s.blk := rfl
@[simp] theorem State.send_koa (s : State) (m : Sent) : (s.send m).koa = s.koa := rfl
@[simp] theorem State.send_jobs (s : State) (m : Sent) : (s.send m).jobs = s.jobs := rfl
@[simp] theorem State.send_crank (s : State) (m : Sent) : (s.send m).crank = s.crank := rfl
@[simp] theorem State.send_seq (s : State) (m : Sent) : (s.send m).seq = s.seq := rfl
@[simp] theorem State.send_emit (s : State) (m : Sent) : (s.send m).emit = s.emit := rfl
@[simp] theorem State.send_safety (s : State) (m : Sent) : (s.send m).safety = s.safety := rfl
@[simp] theorem State.send_rx (s : State) (m : Sent) : (s.send m).rx = s.rx := rfl
@[simp] theorem State.send_hist (s : State) (m : Sent) : (s.send m).hist = s.hist := rfl
@[simp] theorem State.send_eng (s : State) (m : Sent) : (s.send m).eng = s.eng := rfl
@[simp] theorem State.send_pipe (s : State) (m : Sent) : (s.send m).pipe = s.pipe := rfl
@[simp] theorem State.send_cal (s : State) (m : Sent) : (s.send m).cal = s.cal := rfl
@[simp] theorem State.send_hk (s : State) (m : Sent) : (s.send m).hk = s.hk := rfl
@[simp] theorem State.send_time (s : State) (m : Sent) : (s.send m).time = s.time := rfl
@[simp] theorem State.send_net (s : State) (m : Sent) : (s.send m).net = s.net := rfl
@[simp] theorem State.send_lanes (s : State) (m : Sent) : (s.send m).lanes = s.lanes := rfl
@[simp] theorem State.send_ev (s : State) (m : Sent) : (s.send m).ev = s.ev := rfl
@[simp] theorem State.send_i3c (s : State) (m : Sent) : (s.send m).i3c = s.i3c := rfl
@[simp] theorem State.send_pair (s : State) (m : Sent) : (s.send m).pair = s.pair := rfl
@[simp] theorem State.send_nvm (s : State) (m : Sent) : (s.send m).nvm = s.nvm := rfl
@[simp] theorem State.send_otp (s : State) (m : Sent) : (s.send m).otp = s.otp := rfl
@[simp] theorem State.send_mem (s : State) (m : Sent) : (s.send m).mem = s.mem := rfl
@[simp] theorem State.send_reset (s : State) (m : Sent) : (s.send m).reset_ = s.reset_ := rfl
@[simp] theorem State.send_pending (s : State) (m : Sent) : (s.send m).pending = s.pending := rfl

@[simp] theorem State.setJob_now (s : State) (n : Nat) (j : Job) : (s.setJob n j).now = s.now := rfl
@[simp] theorem State.setJob_freeCtr (s : State) (n : Nat) (j : Job) : (s.setJob n j).freeCtr = s.freeCtr := rfl
@[simp] theorem State.setJob_reg (s : State) (n : Nat) (j : Job) : (s.setJob n j).reg = s.reg := rfl
@[simp] theorem State.setJob_blk (s : State) (n : Nat) (j : Job) : (s.setJob n j).blk = s.blk := rfl
@[simp] theorem State.setJob_koa (s : State) (n : Nat) (j : Job) : (s.setJob n j).koa = s.koa := rfl
@[simp] theorem State.setJob_crank (s : State) (n : Nat) (j : Job) : (s.setJob n j).crank = s.crank := rfl
@[simp] theorem State.setJob_seq (s : State) (n : Nat) (j : Job) : (s.setJob n j).seq = s.seq := rfl
@[simp] theorem State.setJob_emit (s : State) (n : Nat) (j : Job) : (s.setJob n j).emit = s.emit := rfl
@[simp] theorem State.setJob_safety (s : State) (n : Nat) (j : Job) : (s.setJob n j).safety = s.safety := rfl
@[simp] theorem State.setJob_rx (s : State) (n : Nat) (j : Job) : (s.setJob n j).rx = s.rx := rfl
@[simp] theorem State.setJob_hist (s : State) (n : Nat) (j : Job) : (s.setJob n j).hist = s.hist := rfl
@[simp] theorem State.setJob_eng (s : State) (n : Nat) (j : Job) : (s.setJob n j).eng = s.eng := rfl
@[simp] theorem State.setJob_pipe (s : State) (n : Nat) (j : Job) : (s.setJob n j).pipe = s.pipe := rfl
@[simp] theorem State.setJob_cal (s : State) (n : Nat) (j : Job) : (s.setJob n j).cal = s.cal := rfl
@[simp] theorem State.setJob_hk (s : State) (n : Nat) (j : Job) : (s.setJob n j).hk = s.hk := rfl
@[simp] theorem State.setJob_time (s : State) (n : Nat) (j : Job) : (s.setJob n j).time = s.time := rfl
@[simp] theorem State.setJob_net (s : State) (n : Nat) (j : Job) : (s.setJob n j).net = s.net := rfl
@[simp] theorem State.setJob_lanes (s : State) (n : Nat) (j : Job) : (s.setJob n j).lanes = s.lanes := rfl
@[simp] theorem State.setJob_ev (s : State) (n : Nat) (j : Job) : (s.setJob n j).ev = s.ev := rfl
@[simp] theorem State.setJob_i3c (s : State) (n : Nat) (j : Job) : (s.setJob n j).i3c = s.i3c := rfl
@[simp] theorem State.setJob_pair (s : State) (n : Nat) (j : Job) : (s.setJob n j).pair = s.pair := rfl
@[simp] theorem State.setJob_nvm (s : State) (n : Nat) (j : Job) : (s.setJob n j).nvm = s.nvm := rfl
@[simp] theorem State.setJob_otp (s : State) (n : Nat) (j : Job) : (s.setJob n j).otp = s.otp := rfl
@[simp] theorem State.setJob_mem (s : State) (n : Nat) (j : Job) : (s.setJob n j).mem = s.mem := rfl
@[simp] theorem State.setJob_reset (s : State) (n : Nat) (j : Job) : (s.setJob n j).reset_ = s.reset_ := rfl
@[simp] theorem State.setJob_sent (s : State) (n : Nat) (j : Job) : (s.setJob n j).sent = s.sent := rfl
@[simp] theorem State.setJob_pending (s : State) (n : Nat) (j : Job) : (s.setJob n j).pending = s.pending := rfl

@[simp] theorem State.setEngine_now (s : State) (n : Nat) (e : Engine) : (s.setEngine n e).now = s.now := rfl
@[simp] theorem State.setEngine_freeCtr (s : State) (n : Nat) (e : Engine) : (s.setEngine n e).freeCtr = s.freeCtr := rfl
@[simp] theorem State.setEngine_reg (s : State) (n : Nat) (e : Engine) : (s.setEngine n e).reg = s.reg := rfl
@[simp] theorem State.setEngine_blk (s : State) (n : Nat) (e : Engine) : (s.setEngine n e).blk = s.blk := rfl
@[simp] theorem State.setEngine_koa (s : State) (n : Nat) (e : Engine) : (s.setEngine n e).koa = s.koa := rfl
@[simp] theorem State.setEngine_jobs (s : State) (n : Nat) (e : Engine) : (s.setEngine n e).jobs = s.jobs := rfl
@[simp] theorem State.setEngine_crank (s : State) (n : Nat) (e : Engine) : (s.setEngine n e).crank = s.crank := rfl
@[simp] theorem State.setEngine_seq (s : State) (n : Nat) (e : Engine) : (s.setEngine n e).seq = s.seq := rfl
@[simp] theorem State.setEngine_emit (s : State) (n : Nat) (e : Engine) : (s.setEngine n e).emit = s.emit := rfl
@[simp] theorem State.setEngine_safety (s : State) (n : Nat) (e : Engine) : (s.setEngine n e).safety = s.safety := rfl
@[simp] theorem State.setEngine_rx (s : State) (n : Nat) (e : Engine) : (s.setEngine n e).rx = s.rx := rfl
@[simp] theorem State.setEngine_hist (s : State) (n : Nat) (e : Engine) : (s.setEngine n e).hist = s.hist := rfl
@[simp] theorem State.setEngine_pipe (s : State) (n : Nat) (e : Engine) : (s.setEngine n e).pipe = s.pipe := rfl
@[simp] theorem State.setEngine_cal (s : State) (n : Nat) (e : Engine) : (s.setEngine n e).cal = s.cal := rfl
@[simp] theorem State.setEngine_hk (s : State) (n : Nat) (e : Engine) : (s.setEngine n e).hk = s.hk := rfl
@[simp] theorem State.setEngine_time (s : State) (n : Nat) (e : Engine) : (s.setEngine n e).time = s.time := rfl
@[simp] theorem State.setEngine_net (s : State) (n : Nat) (e : Engine) : (s.setEngine n e).net = s.net := rfl
@[simp] theorem State.setEngine_lanes (s : State) (n : Nat) (e : Engine) : (s.setEngine n e).lanes = s.lanes := rfl
@[simp] theorem State.setEngine_ev (s : State) (n : Nat) (e : Engine) : (s.setEngine n e).ev = s.ev := rfl
@[simp] theorem State.setEngine_i3c (s : State) (n : Nat) (e : Engine) : (s.setEngine n e).i3c = s.i3c := rfl
@[simp] theorem State.setEngine_pair (s : State) (n : Nat) (e : Engine) : (s.setEngine n e).pair = s.pair := rfl
@[simp] theorem State.setEngine_nvm (s : State) (n : Nat) (e : Engine) : (s.setEngine n e).nvm = s.nvm := rfl
@[simp] theorem State.setEngine_otp (s : State) (n : Nat) (e : Engine) : (s.setEngine n e).otp = s.otp := rfl
@[simp] theorem State.setEngine_mem (s : State) (n : Nat) (e : Engine) : (s.setEngine n e).mem = s.mem := rfl
@[simp] theorem State.setEngine_reset (s : State) (n : Nat) (e : Engine) : (s.setEngine n e).reset_ = s.reset_ := rfl
@[simp] theorem State.setEngine_sent (s : State) (n : Nat) (e : Engine) : (s.setEngine n e).sent = s.sent := rfl
@[simp] theorem State.setEngine_pending (s : State) (n : Nat) (e : Engine) : (s.setEngine n e).pending = s.pending := rfl

@[simp] theorem State.setEvIn_now (s : State) (n : Nat) (e : EvInput) : (s.setEvIn n e).now = s.now := rfl
@[simp] theorem State.setEvIn_freeCtr (s : State) (n : Nat) (e : EvInput) : (s.setEvIn n e).freeCtr = s.freeCtr := rfl
@[simp] theorem State.setEvIn_reg (s : State) (n : Nat) (e : EvInput) : (s.setEvIn n e).reg = s.reg := rfl
@[simp] theorem State.setEvIn_blk (s : State) (n : Nat) (e : EvInput) : (s.setEvIn n e).blk = s.blk := rfl
@[simp] theorem State.setEvIn_koa (s : State) (n : Nat) (e : EvInput) : (s.setEvIn n e).koa = s.koa := rfl
@[simp] theorem State.setEvIn_jobs (s : State) (n : Nat) (e : EvInput) : (s.setEvIn n e).jobs = s.jobs := rfl
@[simp] theorem State.setEvIn_seq (s : State) (n : Nat) (e : EvInput) : (s.setEvIn n e).seq = s.seq := rfl
@[simp] theorem State.setEvIn_emit (s : State) (n : Nat) (e : EvInput) : (s.setEvIn n e).emit = s.emit := rfl
@[simp] theorem State.setEvIn_safety (s : State) (n : Nat) (e : EvInput) : (s.setEvIn n e).safety = s.safety := rfl
@[simp] theorem State.setEvIn_rx (s : State) (n : Nat) (e : EvInput) : (s.setEvIn n e).rx = s.rx := rfl
@[simp] theorem State.setEvIn_hist (s : State) (n : Nat) (e : EvInput) : (s.setEvIn n e).hist = s.hist := rfl
@[simp] theorem State.setEvIn_eng (s : State) (n : Nat) (e : EvInput) : (s.setEvIn n e).eng = s.eng := rfl
@[simp] theorem State.setEvIn_pipe (s : State) (n : Nat) (e : EvInput) : (s.setEvIn n e).pipe = s.pipe := rfl
@[simp] theorem State.setEvIn_cal (s : State) (n : Nat) (e : EvInput) : (s.setEvIn n e).cal = s.cal := rfl
@[simp] theorem State.setEvIn_hk (s : State) (n : Nat) (e : EvInput) : (s.setEvIn n e).hk = s.hk := rfl
@[simp] theorem State.setEvIn_time (s : State) (n : Nat) (e : EvInput) : (s.setEvIn n e).time = s.time := rfl
@[simp] theorem State.setEvIn_net (s : State) (n : Nat) (e : EvInput) : (s.setEvIn n e).net = s.net := rfl
@[simp] theorem State.setEvIn_lanes (s : State) (n : Nat) (e : EvInput) : (s.setEvIn n e).lanes = s.lanes := rfl
@[simp] theorem State.setEvIn_ev (s : State) (n : Nat) (e : EvInput) : (s.setEvIn n e).ev = s.ev := rfl
@[simp] theorem State.setEvIn_i3c (s : State) (n : Nat) (e : EvInput) : (s.setEvIn n e).i3c = s.i3c := rfl
@[simp] theorem State.setEvIn_pair (s : State) (n : Nat) (e : EvInput) : (s.setEvIn n e).pair = s.pair := rfl
@[simp] theorem State.setEvIn_nvm (s : State) (n : Nat) (e : EvInput) : (s.setEvIn n e).nvm = s.nvm := rfl
@[simp] theorem State.setEvIn_otp (s : State) (n : Nat) (e : EvInput) : (s.setEvIn n e).otp = s.otp := rfl
@[simp] theorem State.setEvIn_mem (s : State) (n : Nat) (e : EvInput) : (s.setEvIn n e).mem = s.mem := rfl
@[simp] theorem State.setEvIn_reset (s : State) (n : Nat) (e : EvInput) : (s.setEvIn n e).reset_ = s.reset_ := rfl
@[simp] theorem State.setEvIn_sent (s : State) (n : Nat) (e : EvInput) : (s.setEvIn n e).sent = s.sent := rfl
@[simp] theorem State.setEvIn_pending (s : State) (n : Nat) (e : EvInput) : (s.setEvIn n e).pending = s.pending := rfl

@[simp] theorem State.setRxChan_now (s : State) (n : Nat) (x : RxChan) : (s.setRxChan n x).now = s.now := rfl
@[simp] theorem State.setRxChan_freeCtr (s : State) (n : Nat) (x : RxChan) : (s.setRxChan n x).freeCtr = s.freeCtr := rfl
@[simp] theorem State.setRxChan_reg (s : State) (n : Nat) (x : RxChan) : (s.setRxChan n x).reg = s.reg := rfl
@[simp] theorem State.setRxChan_blk (s : State) (n : Nat) (x : RxChan) : (s.setRxChan n x).blk = s.blk := rfl
@[simp] theorem State.setRxChan_koa (s : State) (n : Nat) (x : RxChan) : (s.setRxChan n x).koa = s.koa := rfl
@[simp] theorem State.setRxChan_jobs (s : State) (n : Nat) (x : RxChan) : (s.setRxChan n x).jobs = s.jobs := rfl
@[simp] theorem State.setRxChan_crank (s : State) (n : Nat) (x : RxChan) : (s.setRxChan n x).crank = s.crank := rfl
@[simp] theorem State.setRxChan_seq (s : State) (n : Nat) (x : RxChan) : (s.setRxChan n x).seq = s.seq := rfl
@[simp] theorem State.setRxChan_emit (s : State) (n : Nat) (x : RxChan) : (s.setRxChan n x).emit = s.emit := rfl
@[simp] theorem State.setRxChan_safety (s : State) (n : Nat) (x : RxChan) : (s.setRxChan n x).safety = s.safety := rfl
@[simp] theorem State.setRxChan_hist (s : State) (n : Nat) (x : RxChan) : (s.setRxChan n x).hist = s.hist := rfl
@[simp] theorem State.setRxChan_eng (s : State) (n : Nat) (x : RxChan) : (s.setRxChan n x).eng = s.eng := rfl
@[simp] theorem State.setRxChan_pipe (s : State) (n : Nat) (x : RxChan) : (s.setRxChan n x).pipe = s.pipe := rfl
@[simp] theorem State.setRxChan_cal (s : State) (n : Nat) (x : RxChan) : (s.setRxChan n x).cal = s.cal := rfl
@[simp] theorem State.setRxChan_hk (s : State) (n : Nat) (x : RxChan) : (s.setRxChan n x).hk = s.hk := rfl
@[simp] theorem State.setRxChan_time (s : State) (n : Nat) (x : RxChan) : (s.setRxChan n x).time = s.time := rfl
@[simp] theorem State.setRxChan_net (s : State) (n : Nat) (x : RxChan) : (s.setRxChan n x).net = s.net := rfl
@[simp] theorem State.setRxChan_lanes (s : State) (n : Nat) (x : RxChan) : (s.setRxChan n x).lanes = s.lanes := rfl
@[simp] theorem State.setRxChan_ev (s : State) (n : Nat) (x : RxChan) : (s.setRxChan n x).ev = s.ev := rfl
@[simp] theorem State.setRxChan_i3c (s : State) (n : Nat) (x : RxChan) : (s.setRxChan n x).i3c = s.i3c := rfl
@[simp] theorem State.setRxChan_pair (s : State) (n : Nat) (x : RxChan) : (s.setRxChan n x).pair = s.pair := rfl
@[simp] theorem State.setRxChan_nvm (s : State) (n : Nat) (x : RxChan) : (s.setRxChan n x).nvm = s.nvm := rfl
@[simp] theorem State.setRxChan_otp (s : State) (n : Nat) (x : RxChan) : (s.setRxChan n x).otp = s.otp := rfl
@[simp] theorem State.setRxChan_mem (s : State) (n : Nat) (x : RxChan) : (s.setRxChan n x).mem = s.mem := rfl
@[simp] theorem State.setRxChan_reset (s : State) (n : Nat) (x : RxChan) : (s.setRxChan n x).reset_ = s.reset_ := rfl
@[simp] theorem State.setRxChan_sent (s : State) (n : Nat) (x : RxChan) : (s.setRxChan n x).sent = s.sent := rfl
@[simp] theorem State.setRxChan_pending (s : State) (n : Nat) (x : RxChan) : (s.setRxChan n x).pending = s.pending := rfl

@[simp] theorem State.setReel_now (s : State) (c b : Nat) (r : Reel) : (s.setReel c b r).now = s.now := rfl
@[simp] theorem State.setReel_freeCtr (s : State) (c b : Nat) (r : Reel) : (s.setReel c b r).freeCtr = s.freeCtr := rfl
@[simp] theorem State.setReel_reg (s : State) (c b : Nat) (r : Reel) : (s.setReel c b r).reg = s.reg := rfl
@[simp] theorem State.setReel_blk (s : State) (c b : Nat) (r : Reel) : (s.setReel c b r).blk = s.blk := rfl
@[simp] theorem State.setReel_koa (s : State) (c b : Nat) (r : Reel) : (s.setReel c b r).koa = s.koa := rfl
@[simp] theorem State.setReel_jobs (s : State) (c b : Nat) (r : Reel) : (s.setReel c b r).jobs = s.jobs := rfl
@[simp] theorem State.setReel_crank (s : State) (c b : Nat) (r : Reel) : (s.setReel c b r).crank = s.crank := rfl
@[simp] theorem State.setReel_seq (s : State) (c b : Nat) (r : Reel) : (s.setReel c b r).seq = s.seq := rfl
@[simp] theorem State.setReel_emit (s : State) (c b : Nat) (r : Reel) : (s.setReel c b r).emit = s.emit := rfl
@[simp] theorem State.setReel_safety (s : State) (c b : Nat) (r : Reel) : (s.setReel c b r).safety = s.safety := rfl
@[simp] theorem State.setReel_rx (s : State) (c b : Nat) (r : Reel) : (s.setReel c b r).rx = s.rx := rfl
@[simp] theorem State.setReel_eng (s : State) (c b : Nat) (r : Reel) : (s.setReel c b r).eng = s.eng := rfl
@[simp] theorem State.setReel_pipe (s : State) (c b : Nat) (r : Reel) : (s.setReel c b r).pipe = s.pipe := rfl
@[simp] theorem State.setReel_cal (s : State) (c b : Nat) (r : Reel) : (s.setReel c b r).cal = s.cal := rfl
@[simp] theorem State.setReel_hk (s : State) (c b : Nat) (r : Reel) : (s.setReel c b r).hk = s.hk := rfl
@[simp] theorem State.setReel_time (s : State) (c b : Nat) (r : Reel) : (s.setReel c b r).time = s.time := rfl
@[simp] theorem State.setReel_net (s : State) (c b : Nat) (r : Reel) : (s.setReel c b r).net = s.net := rfl
@[simp] theorem State.setReel_lanes (s : State) (c b : Nat) (r : Reel) : (s.setReel c b r).lanes = s.lanes := rfl
@[simp] theorem State.setReel_ev (s : State) (c b : Nat) (r : Reel) : (s.setReel c b r).ev = s.ev := rfl
@[simp] theorem State.setReel_i3c (s : State) (c b : Nat) (r : Reel) : (s.setReel c b r).i3c = s.i3c := rfl
@[simp] theorem State.setReel_pair (s : State) (c b : Nat) (r : Reel) : (s.setReel c b r).pair = s.pair := rfl
@[simp] theorem State.setReel_nvm (s : State) (c b : Nat) (r : Reel) : (s.setReel c b r).nvm = s.nvm := rfl
@[simp] theorem State.setReel_otp (s : State) (c b : Nat) (r : Reel) : (s.setReel c b r).otp = s.otp := rfl
@[simp] theorem State.setReel_mem (s : State) (c b : Nat) (r : Reel) : (s.setReel c b r).mem = s.mem := rfl
@[simp] theorem State.setReel_reset (s : State) (c b : Nat) (r : Reel) : (s.setReel c b r).reset_ = s.reset_ := rfl
@[simp] theorem State.setReel_sent (s : State) (c b : Nat) (r : Reel) : (s.setReel c b r).sent = s.sent := rfl
@[simp] theorem State.setReel_pending (s : State) (c b : Nat) (r : Reel) : (s.setReel c b r).pending = s.pending := rfl

@[simp] theorem State.setBank_now (s : State) (b : Nat) (q : List Addition) : (s.setBank b q).now = s.now := rfl
@[simp] theorem State.setBank_freeCtr (s : State) (b : Nat) (q : List Addition) : (s.setBank b q).freeCtr = s.freeCtr := rfl
@[simp] theorem State.setBank_reg (s : State) (b : Nat) (q : List Addition) : (s.setBank b q).reg = s.reg := rfl
@[simp] theorem State.setBank_blk (s : State) (b : Nat) (q : List Addition) : (s.setBank b q).blk = s.blk := rfl
@[simp] theorem State.setBank_koa (s : State) (b : Nat) (q : List Addition) : (s.setBank b q).koa = s.koa := rfl
@[simp] theorem State.setBank_jobs (s : State) (b : Nat) (q : List Addition) : (s.setBank b q).jobs = s.jobs := rfl
@[simp] theorem State.setBank_crank (s : State) (b : Nat) (q : List Addition) : (s.setBank b q).crank = s.crank := rfl
@[simp] theorem State.setBank_seq (s : State) (b : Nat) (q : List Addition) : (s.setBank b q).seq = s.seq := rfl
@[simp] theorem State.setBank_emit (s : State) (b : Nat) (q : List Addition) : (s.setBank b q).emit = s.emit := rfl
@[simp] theorem State.setBank_safety (s : State) (b : Nat) (q : List Addition) : (s.setBank b q).safety = s.safety := rfl
@[simp] theorem State.setBank_rx (s : State) (b : Nat) (q : List Addition) : (s.setBank b q).rx = s.rx := rfl
@[simp] theorem State.setBank_eng (s : State) (b : Nat) (q : List Addition) : (s.setBank b q).eng = s.eng := rfl
@[simp] theorem State.setBank_pipe (s : State) (b : Nat) (q : List Addition) : (s.setBank b q).pipe = s.pipe := rfl
@[simp] theorem State.setBank_cal (s : State) (b : Nat) (q : List Addition) : (s.setBank b q).cal = s.cal := rfl
@[simp] theorem State.setBank_hk (s : State) (b : Nat) (q : List Addition) : (s.setBank b q).hk = s.hk := rfl
@[simp] theorem State.setBank_time (s : State) (b : Nat) (q : List Addition) : (s.setBank b q).time = s.time := rfl
@[simp] theorem State.setBank_net (s : State) (b : Nat) (q : List Addition) : (s.setBank b q).net = s.net := rfl
@[simp] theorem State.setBank_lanes (s : State) (b : Nat) (q : List Addition) : (s.setBank b q).lanes = s.lanes := rfl
@[simp] theorem State.setBank_ev (s : State) (b : Nat) (q : List Addition) : (s.setBank b q).ev = s.ev := rfl
@[simp] theorem State.setBank_i3c (s : State) (b : Nat) (q : List Addition) : (s.setBank b q).i3c = s.i3c := rfl
@[simp] theorem State.setBank_pair (s : State) (b : Nat) (q : List Addition) : (s.setBank b q).pair = s.pair := rfl
@[simp] theorem State.setBank_nvm (s : State) (b : Nat) (q : List Addition) : (s.setBank b q).nvm = s.nvm := rfl
@[simp] theorem State.setBank_otp (s : State) (b : Nat) (q : List Addition) : (s.setBank b q).otp = s.otp := rfl
@[simp] theorem State.setBank_mem (s : State) (b : Nat) (q : List Addition) : (s.setBank b q).mem = s.mem := rfl
@[simp] theorem State.setBank_reset (s : State) (b : Nat) (q : List Addition) : (s.setBank b q).reset_ = s.reset_ := rfl
@[simp] theorem State.setBank_sent (s : State) (b : Nat) (q : List Addition) : (s.setBank b q).sent = s.sent := rfl
@[simp] theorem State.setBank_pending (s : State) (b : Nat) (q : List Addition) : (s.setBank b q).pending = s.pending := rfl

@[simp] theorem State.hkPut_now (s : State) (r : HkRun) : (s.hkPut r).now = s.now := rfl
@[simp] theorem State.hkPut_freeCtr (s : State) (r : HkRun) : (s.hkPut r).freeCtr = s.freeCtr := rfl
@[simp] theorem State.hkPut_reg (s : State) (r : HkRun) : (s.hkPut r).reg = s.reg := rfl
@[simp] theorem State.hkPut_blk (s : State) (r : HkRun) : (s.hkPut r).blk = s.blk := rfl
@[simp] theorem State.hkPut_koa (s : State) (r : HkRun) : (s.hkPut r).koa = s.koa := rfl
@[simp] theorem State.hkPut_jobs (s : State) (r : HkRun) : (s.hkPut r).jobs = s.jobs := rfl
@[simp] theorem State.hkPut_crank (s : State) (r : HkRun) : (s.hkPut r).crank = s.crank := rfl
@[simp] theorem State.hkPut_seq (s : State) (r : HkRun) : (s.hkPut r).seq = s.seq := rfl
@[simp] theorem State.hkPut_emit (s : State) (r : HkRun) : (s.hkPut r).emit = s.emit := rfl
@[simp] theorem State.hkPut_safety (s : State) (r : HkRun) : (s.hkPut r).safety = s.safety := rfl
@[simp] theorem State.hkPut_rx (s : State) (r : HkRun) : (s.hkPut r).rx = s.rx := rfl
@[simp] theorem State.hkPut_hist (s : State) (r : HkRun) : (s.hkPut r).hist = s.hist := rfl
@[simp] theorem State.hkPut_eng (s : State) (r : HkRun) : (s.hkPut r).eng = s.eng := rfl
@[simp] theorem State.hkPut_pipe (s : State) (r : HkRun) : (s.hkPut r).pipe = s.pipe := rfl
@[simp] theorem State.hkPut_cal (s : State) (r : HkRun) : (s.hkPut r).cal = s.cal := rfl
@[simp] theorem State.hkPut_time (s : State) (r : HkRun) : (s.hkPut r).time = s.time := rfl
@[simp] theorem State.hkPut_net (s : State) (r : HkRun) : (s.hkPut r).net = s.net := rfl
@[simp] theorem State.hkPut_lanes (s : State) (r : HkRun) : (s.hkPut r).lanes = s.lanes := rfl
@[simp] theorem State.hkPut_ev (s : State) (r : HkRun) : (s.hkPut r).ev = s.ev := rfl
@[simp] theorem State.hkPut_i3c (s : State) (r : HkRun) : (s.hkPut r).i3c = s.i3c := rfl
@[simp] theorem State.hkPut_pair (s : State) (r : HkRun) : (s.hkPut r).pair = s.pair := rfl
@[simp] theorem State.hkPut_nvm (s : State) (r : HkRun) : (s.hkPut r).nvm = s.nvm := rfl
@[simp] theorem State.hkPut_otp (s : State) (r : HkRun) : (s.hkPut r).otp = s.otp := rfl
@[simp] theorem State.hkPut_mem (s : State) (r : HkRun) : (s.hkPut r).mem = s.mem := rfl
@[simp] theorem State.hkPut_reset (s : State) (r : HkRun) : (s.hkPut r).reset_ = s.reset_ := rfl
@[simp] theorem State.hkPut_sent (s : State) (r : HkRun) : (s.hkPut r).sent = s.sent := rfl
@[simp] theorem State.hkPut_pending (s : State) (r : HkRun) : (s.hkPut r).pending = s.pending := rfl

@[simp] theorem State.setZone_now (s : State) (n : Nat) (z : ZoneDiag) : (s.setZone n z).now = s.now := rfl
@[simp] theorem State.setZone_freeCtr (s : State) (n : Nat) (z : ZoneDiag) : (s.setZone n z).freeCtr = s.freeCtr := rfl
@[simp] theorem State.setZone_reg (s : State) (n : Nat) (z : ZoneDiag) : (s.setZone n z).reg = s.reg := rfl
@[simp] theorem State.setZone_blk (s : State) (n : Nat) (z : ZoneDiag) : (s.setZone n z).blk = s.blk := rfl
@[simp] theorem State.setZone_koa (s : State) (n : Nat) (z : ZoneDiag) : (s.setZone n z).koa = s.koa := rfl
@[simp] theorem State.setZone_jobs (s : State) (n : Nat) (z : ZoneDiag) : (s.setZone n z).jobs = s.jobs := rfl
@[simp] theorem State.setZone_crank (s : State) (n : Nat) (z : ZoneDiag) : (s.setZone n z).crank = s.crank := rfl
@[simp] theorem State.setZone_seq (s : State) (n : Nat) (z : ZoneDiag) : (s.setZone n z).seq = s.seq := rfl
@[simp] theorem State.setZone_safety (s : State) (n : Nat) (z : ZoneDiag) : (s.setZone n z).safety = s.safety := rfl
@[simp] theorem State.setZone_rx (s : State) (n : Nat) (z : ZoneDiag) : (s.setZone n z).rx = s.rx := rfl
@[simp] theorem State.setZone_hist (s : State) (n : Nat) (z : ZoneDiag) : (s.setZone n z).hist = s.hist := rfl
@[simp] theorem State.setZone_eng (s : State) (n : Nat) (z : ZoneDiag) : (s.setZone n z).eng = s.eng := rfl
@[simp] theorem State.setZone_pipe (s : State) (n : Nat) (z : ZoneDiag) : (s.setZone n z).pipe = s.pipe := rfl
@[simp] theorem State.setZone_cal (s : State) (n : Nat) (z : ZoneDiag) : (s.setZone n z).cal = s.cal := rfl
@[simp] theorem State.setZone_hk (s : State) (n : Nat) (z : ZoneDiag) : (s.setZone n z).hk = s.hk := rfl
@[simp] theorem State.setZone_time (s : State) (n : Nat) (z : ZoneDiag) : (s.setZone n z).time = s.time := rfl
@[simp] theorem State.setZone_net (s : State) (n : Nat) (z : ZoneDiag) : (s.setZone n z).net = s.net := rfl
@[simp] theorem State.setZone_lanes (s : State) (n : Nat) (z : ZoneDiag) : (s.setZone n z).lanes = s.lanes := rfl
@[simp] theorem State.setZone_ev (s : State) (n : Nat) (z : ZoneDiag) : (s.setZone n z).ev = s.ev := rfl
@[simp] theorem State.setZone_i3c (s : State) (n : Nat) (z : ZoneDiag) : (s.setZone n z).i3c = s.i3c := rfl
@[simp] theorem State.setZone_pair (s : State) (n : Nat) (z : ZoneDiag) : (s.setZone n z).pair = s.pair := rfl
@[simp] theorem State.setZone_nvm (s : State) (n : Nat) (z : ZoneDiag) : (s.setZone n z).nvm = s.nvm := rfl
@[simp] theorem State.setZone_otp (s : State) (n : Nat) (z : ZoneDiag) : (s.setZone n z).otp = s.otp := rfl
@[simp] theorem State.setZone_mem (s : State) (n : Nat) (z : ZoneDiag) : (s.setZone n z).mem = s.mem := rfl
@[simp] theorem State.setZone_reset (s : State) (n : Nat) (z : ZoneDiag) : (s.setZone n z).reset_ = s.reset_ := rfl
@[simp] theorem State.setZone_sent (s : State) (n : Nat) (z : ZoneDiag) : (s.setZone n z).sent = s.sent := rfl
@[simp] theorem State.setZone_pending (s : State) (n : Nat) (z : ZoneDiag) : (s.setZone n z).pending = s.pending := rfl

@[simp] theorem State.setColumn_now (s : State) (n : Nat) (c : Column) : (s.setColumn n c).now = s.now := rfl
@[simp] theorem State.setColumn_freeCtr (s : State) (n : Nat) (c : Column) : (s.setColumn n c).freeCtr = s.freeCtr := rfl
@[simp] theorem State.setColumn_reg (s : State) (n : Nat) (c : Column) : (s.setColumn n c).reg = s.reg := rfl
@[simp] theorem State.setColumn_blk (s : State) (n : Nat) (c : Column) : (s.setColumn n c).blk = s.blk := rfl
@[simp] theorem State.setColumn_koa (s : State) (n : Nat) (c : Column) : (s.setColumn n c).koa = s.koa := rfl
@[simp] theorem State.setColumn_jobs (s : State) (n : Nat) (c : Column) : (s.setColumn n c).jobs = s.jobs := rfl
@[simp] theorem State.setColumn_crank (s : State) (n : Nat) (c : Column) : (s.setColumn n c).crank = s.crank := rfl
@[simp] theorem State.setColumn_seq (s : State) (n : Nat) (c : Column) : (s.setColumn n c).seq = s.seq := rfl
@[simp] theorem State.setColumn_safety (s : State) (n : Nat) (c : Column) : (s.setColumn n c).safety = s.safety := rfl
@[simp] theorem State.setColumn_rx (s : State) (n : Nat) (c : Column) : (s.setColumn n c).rx = s.rx := rfl
@[simp] theorem State.setColumn_hist (s : State) (n : Nat) (c : Column) : (s.setColumn n c).hist = s.hist := rfl
@[simp] theorem State.setColumn_eng (s : State) (n : Nat) (c : Column) : (s.setColumn n c).eng = s.eng := rfl
@[simp] theorem State.setColumn_pipe (s : State) (n : Nat) (c : Column) : (s.setColumn n c).pipe = s.pipe := rfl
@[simp] theorem State.setColumn_cal (s : State) (n : Nat) (c : Column) : (s.setColumn n c).cal = s.cal := rfl
@[simp] theorem State.setColumn_hk (s : State) (n : Nat) (c : Column) : (s.setColumn n c).hk = s.hk := rfl
@[simp] theorem State.setColumn_time (s : State) (n : Nat) (c : Column) : (s.setColumn n c).time = s.time := rfl
@[simp] theorem State.setColumn_net (s : State) (n : Nat) (c : Column) : (s.setColumn n c).net = s.net := rfl
@[simp] theorem State.setColumn_lanes (s : State) (n : Nat) (c : Column) : (s.setColumn n c).lanes = s.lanes := rfl
@[simp] theorem State.setColumn_ev (s : State) (n : Nat) (c : Column) : (s.setColumn n c).ev = s.ev := rfl
@[simp] theorem State.setColumn_i3c (s : State) (n : Nat) (c : Column) : (s.setColumn n c).i3c = s.i3c := rfl
@[simp] theorem State.setColumn_pair (s : State) (n : Nat) (c : Column) : (s.setColumn n c).pair = s.pair := rfl
@[simp] theorem State.setColumn_nvm (s : State) (n : Nat) (c : Column) : (s.setColumn n c).nvm = s.nvm := rfl
@[simp] theorem State.setColumn_otp (s : State) (n : Nat) (c : Column) : (s.setColumn n c).otp = s.otp := rfl
@[simp] theorem State.setColumn_mem (s : State) (n : Nat) (c : Column) : (s.setColumn n c).mem = s.mem := rfl
@[simp] theorem State.setColumn_reset (s : State) (n : Nat) (c : Column) : (s.setColumn n c).reset_ = s.reset_ := rfl
@[simp] theorem State.setColumn_sent (s : State) (n : Nat) (c : Column) : (s.setColumn n c).sent = s.sent := rfl
@[simp] theorem State.setColumn_pending (s : State) (n : Nat) (c : Column) : (s.setColumn n c).pending = s.pending := rfl

@[simp] theorem State.setLane_now (s : State) (n : Nat) (x : Lane) : (s.setLane n x).now = s.now := rfl
@[simp] theorem State.setLane_freeCtr (s : State) (n : Nat) (x : Lane) : (s.setLane n x).freeCtr = s.freeCtr := rfl
@[simp] theorem State.setLane_reg (s : State) (n : Nat) (x : Lane) : (s.setLane n x).reg = s.reg := rfl
@[simp] theorem State.setLane_blk (s : State) (n : Nat) (x : Lane) : (s.setLane n x).blk = s.blk := rfl
@[simp] theorem State.setLane_koa (s : State) (n : Nat) (x : Lane) : (s.setLane n x).koa = s.koa := rfl
@[simp] theorem State.setLane_jobs (s : State) (n : Nat) (x : Lane) : (s.setLane n x).jobs = s.jobs := rfl
@[simp] theorem State.setLane_crank (s : State) (n : Nat) (x : Lane) : (s.setLane n x).crank = s.crank := rfl
@[simp] theorem State.setLane_seq (s : State) (n : Nat) (x : Lane) : (s.setLane n x).seq = s.seq := rfl
@[simp] theorem State.setLane_emit (s : State) (n : Nat) (x : Lane) : (s.setLane n x).emit = s.emit := rfl
@[simp] theorem State.setLane_safety (s : State) (n : Nat) (x : Lane) : (s.setLane n x).safety = s.safety := rfl
@[simp] theorem State.setLane_rx (s : State) (n : Nat) (x : Lane) : (s.setLane n x).rx = s.rx := rfl
@[simp] theorem State.setLane_hist (s : State) (n : Nat) (x : Lane) : (s.setLane n x).hist = s.hist := rfl
@[simp] theorem State.setLane_eng (s : State) (n : Nat) (x : Lane) : (s.setLane n x).eng = s.eng := rfl
@[simp] theorem State.setLane_pipe (s : State) (n : Nat) (x : Lane) : (s.setLane n x).pipe = s.pipe := rfl
@[simp] theorem State.setLane_cal (s : State) (n : Nat) (x : Lane) : (s.setLane n x).cal = s.cal := rfl
@[simp] theorem State.setLane_hk (s : State) (n : Nat) (x : Lane) : (s.setLane n x).hk = s.hk := rfl
@[simp] theorem State.setLane_time (s : State) (n : Nat) (x : Lane) : (s.setLane n x).time = s.time := rfl
@[simp] theorem State.setLane_net (s : State) (n : Nat) (x : Lane) : (s.setLane n x).net = s.net := rfl
@[simp] theorem State.setLane_ev (s : State) (n : Nat) (x : Lane) : (s.setLane n x).ev = s.ev := rfl
@[simp] theorem State.setLane_i3c (s : State) (n : Nat) (x : Lane) : (s.setLane n x).i3c = s.i3c := rfl
@[simp] theorem State.setLane_pair (s : State) (n : Nat) (x : Lane) : (s.setLane n x).pair = s.pair := rfl
@[simp] theorem State.setLane_nvm (s : State) (n : Nat) (x : Lane) : (s.setLane n x).nvm = s.nvm := rfl
@[simp] theorem State.setLane_otp (s : State) (n : Nat) (x : Lane) : (s.setLane n x).otp = s.otp := rfl
@[simp] theorem State.setLane_mem (s : State) (n : Nat) (x : Lane) : (s.setLane n x).mem = s.mem := rfl
@[simp] theorem State.setLane_reset (s : State) (n : Nat) (x : Lane) : (s.setLane n x).reset_ = s.reset_ := rfl
@[simp] theorem State.setLane_sent (s : State) (n : Nat) (x : Lane) : (s.setLane n x).sent = s.sent := rfl
@[simp] theorem State.setLane_pending (s : State) (n : Nat) (x : Lane) : (s.setLane n x).pending = s.pending := rfl

@[simp] theorem State.dequeue_now (s : State) (l : List Instr) : (s.dequeue l).now = s.now := rfl
@[simp] theorem State.dequeue_freeCtr (s : State) (l : List Instr) : (s.dequeue l).freeCtr = s.freeCtr := rfl
@[simp] theorem State.dequeue_reg (s : State) (l : List Instr) : (s.dequeue l).reg = s.reg := rfl
@[simp] theorem State.dequeue_blk (s : State) (l : List Instr) : (s.dequeue l).blk = s.blk := rfl
@[simp] theorem State.dequeue_koa (s : State) (l : List Instr) : (s.dequeue l).koa = s.koa := rfl
@[simp] theorem State.dequeue_jobs (s : State) (l : List Instr) : (s.dequeue l).jobs = s.jobs := rfl
@[simp] theorem State.dequeue_crank (s : State) (l : List Instr) : (s.dequeue l).crank = s.crank := rfl
@[simp] theorem State.dequeue_seq (s : State) (l : List Instr) : (s.dequeue l).seq = s.seq := rfl
@[simp] theorem State.dequeue_emit (s : State) (l : List Instr) : (s.dequeue l).emit = s.emit := rfl
@[simp] theorem State.dequeue_safety (s : State) (l : List Instr) : (s.dequeue l).safety = s.safety := rfl
@[simp] theorem State.dequeue_rx (s : State) (l : List Instr) : (s.dequeue l).rx = s.rx := rfl
@[simp] theorem State.dequeue_hist (s : State) (l : List Instr) : (s.dequeue l).hist = s.hist := rfl
@[simp] theorem State.dequeue_eng (s : State) (l : List Instr) : (s.dequeue l).eng = s.eng := rfl
@[simp] theorem State.dequeue_pipe (s : State) (l : List Instr) : (s.dequeue l).pipe = s.pipe := rfl
@[simp] theorem State.dequeue_cal (s : State) (l : List Instr) : (s.dequeue l).cal = s.cal := rfl
@[simp] theorem State.dequeue_hk (s : State) (l : List Instr) : (s.dequeue l).hk = s.hk := rfl
@[simp] theorem State.dequeue_time (s : State) (l : List Instr) : (s.dequeue l).time = s.time := rfl
@[simp] theorem State.dequeue_net (s : State) (l : List Instr) : (s.dequeue l).net = s.net := rfl
@[simp] theorem State.dequeue_lanes (s : State) (l : List Instr) : (s.dequeue l).lanes = s.lanes := rfl
@[simp] theorem State.dequeue_ev (s : State) (l : List Instr) : (s.dequeue l).ev = s.ev := rfl
@[simp] theorem State.dequeue_i3c (s : State) (l : List Instr) : (s.dequeue l).i3c = s.i3c := rfl
@[simp] theorem State.dequeue_pair (s : State) (l : List Instr) : (s.dequeue l).pair = s.pair := rfl
@[simp] theorem State.dequeue_nvm (s : State) (l : List Instr) : (s.dequeue l).nvm = s.nvm := rfl
@[simp] theorem State.dequeue_otp (s : State) (l : List Instr) : (s.dequeue l).otp = s.otp := rfl
@[simp] theorem State.dequeue_mem (s : State) (l : List Instr) : (s.dequeue l).mem = s.mem := rfl
@[simp] theorem State.dequeue_reset (s : State) (l : List Instr) : (s.dequeue l).reset_ = s.reset_ := rfl
@[simp] theorem State.dequeue_sent (s : State) (l : List Instr) : (s.dequeue l).sent = s.sent := rfl

@[simp] theorem State.enqueueFront_now (s : State) (c : Instr) : (s.enqueueFront c).now = s.now := rfl
@[simp] theorem State.enqueueFront_freeCtr (s : State) (c : Instr) : (s.enqueueFront c).freeCtr = s.freeCtr := rfl
@[simp] theorem State.enqueueFront_reg (s : State) (c : Instr) : (s.enqueueFront c).reg = s.reg := rfl
@[simp] theorem State.enqueueFront_blk (s : State) (c : Instr) : (s.enqueueFront c).blk = s.blk := rfl
@[simp] theorem State.enqueueFront_koa (s : State) (c : Instr) : (s.enqueueFront c).koa = s.koa := rfl
@[simp] theorem State.enqueueFront_jobs (s : State) (c : Instr) : (s.enqueueFront c).jobs = s.jobs := rfl
@[simp] theorem State.enqueueFront_crank (s : State) (c : Instr) : (s.enqueueFront c).crank = s.crank := rfl
@[simp] theorem State.enqueueFront_seq (s : State) (c : Instr) : (s.enqueueFront c).seq = s.seq := rfl
@[simp] theorem State.enqueueFront_emit (s : State) (c : Instr) : (s.enqueueFront c).emit = s.emit := rfl
@[simp] theorem State.enqueueFront_safety (s : State) (c : Instr) : (s.enqueueFront c).safety = s.safety := rfl
@[simp] theorem State.enqueueFront_rx (s : State) (c : Instr) : (s.enqueueFront c).rx = s.rx := rfl
@[simp] theorem State.enqueueFront_hist (s : State) (c : Instr) : (s.enqueueFront c).hist = s.hist := rfl
@[simp] theorem State.enqueueFront_eng (s : State) (c : Instr) : (s.enqueueFront c).eng = s.eng := rfl
@[simp] theorem State.enqueueFront_pipe (s : State) (c : Instr) : (s.enqueueFront c).pipe = s.pipe := rfl
@[simp] theorem State.enqueueFront_cal (s : State) (c : Instr) : (s.enqueueFront c).cal = s.cal := rfl
@[simp] theorem State.enqueueFront_hk (s : State) (c : Instr) : (s.enqueueFront c).hk = s.hk := rfl
@[simp] theorem State.enqueueFront_time (s : State) (c : Instr) : (s.enqueueFront c).time = s.time := rfl
@[simp] theorem State.enqueueFront_net (s : State) (c : Instr) : (s.enqueueFront c).net = s.net := rfl
@[simp] theorem State.enqueueFront_lanes (s : State) (c : Instr) : (s.enqueueFront c).lanes = s.lanes := rfl
@[simp] theorem State.enqueueFront_ev (s : State) (c : Instr) : (s.enqueueFront c).ev = s.ev := rfl
@[simp] theorem State.enqueueFront_i3c (s : State) (c : Instr) : (s.enqueueFront c).i3c = s.i3c := rfl
@[simp] theorem State.enqueueFront_pair (s : State) (c : Instr) : (s.enqueueFront c).pair = s.pair := rfl
@[simp] theorem State.enqueueFront_nvm (s : State) (c : Instr) : (s.enqueueFront c).nvm = s.nvm := rfl
@[simp] theorem State.enqueueFront_otp (s : State) (c : Instr) : (s.enqueueFront c).otp = s.otp := rfl
@[simp] theorem State.enqueueFront_mem (s : State) (c : Instr) : (s.enqueueFront c).mem = s.mem := rfl
@[simp] theorem State.enqueueFront_reset (s : State) (c : Instr) : (s.enqueueFront c).reset_ = s.reset_ := rfl
@[simp] theorem State.enqueueFront_sent (s : State) (c : Instr) : (s.enqueueFront c).sent = s.sent := rfl

@[simp] theorem State.setAxis_now (s : State) (n : Nat) (x : Axis) : (s.setAxis n x).now = s.now := by unfold State.setAxis; split <;> rfl
@[simp] theorem State.setAxis_freeCtr (s : State) (n : Nat) (x : Axis) : (s.setAxis n x).freeCtr = s.freeCtr := by unfold State.setAxis; split <;> rfl
@[simp] theorem State.setAxis_reg (s : State) (n : Nat) (x : Axis) : (s.setAxis n x).reg = s.reg := by unfold State.setAxis; split <;> rfl
@[simp] theorem State.setAxis_blk (s : State) (n : Nat) (x : Axis) : (s.setAxis n x).blk = s.blk := by unfold State.setAxis; split <;> rfl
@[simp] theorem State.setAxis_koa (s : State) (n : Nat) (x : Axis) : (s.setAxis n x).koa = s.koa := by unfold State.setAxis; split <;> rfl
@[simp] theorem State.setAxis_jobs (s : State) (n : Nat) (x : Axis) : (s.setAxis n x).jobs = s.jobs := by unfold State.setAxis; split <;> rfl
@[simp] theorem State.setAxis_seq (s : State) (n : Nat) (x : Axis) : (s.setAxis n x).seq = s.seq := by unfold State.setAxis; split <;> rfl
@[simp] theorem State.setAxis_emit (s : State) (n : Nat) (x : Axis) : (s.setAxis n x).emit = s.emit := by unfold State.setAxis; split <;> rfl
@[simp] theorem State.setAxis_safety (s : State) (n : Nat) (x : Axis) : (s.setAxis n x).safety = s.safety := by unfold State.setAxis; split <;> rfl
@[simp] theorem State.setAxis_rx (s : State) (n : Nat) (x : Axis) : (s.setAxis n x).rx = s.rx := by unfold State.setAxis; split <;> rfl
@[simp] theorem State.setAxis_hist (s : State) (n : Nat) (x : Axis) : (s.setAxis n x).hist = s.hist := by unfold State.setAxis; split <;> rfl
@[simp] theorem State.setAxis_eng (s : State) (n : Nat) (x : Axis) : (s.setAxis n x).eng = s.eng := by unfold State.setAxis; split <;> rfl
@[simp] theorem State.setAxis_pipe (s : State) (n : Nat) (x : Axis) : (s.setAxis n x).pipe = s.pipe := by unfold State.setAxis; split <;> rfl
@[simp] theorem State.setAxis_cal (s : State) (n : Nat) (x : Axis) : (s.setAxis n x).cal = s.cal := by unfold State.setAxis; split <;> rfl
@[simp] theorem State.setAxis_hk (s : State) (n : Nat) (x : Axis) : (s.setAxis n x).hk = s.hk := by unfold State.setAxis; split <;> rfl
@[simp] theorem State.setAxis_time (s : State) (n : Nat) (x : Axis) : (s.setAxis n x).time = s.time := by unfold State.setAxis; split <;> rfl
@[simp] theorem State.setAxis_net (s : State) (n : Nat) (x : Axis) : (s.setAxis n x).net = s.net := by unfold State.setAxis; split <;> rfl
@[simp] theorem State.setAxis_lanes (s : State) (n : Nat) (x : Axis) : (s.setAxis n x).lanes = s.lanes := by unfold State.setAxis; split <;> rfl
@[simp] theorem State.setAxis_ev (s : State) (n : Nat) (x : Axis) : (s.setAxis n x).ev = s.ev := by unfold State.setAxis; split <;> rfl
@[simp] theorem State.setAxis_i3c (s : State) (n : Nat) (x : Axis) : (s.setAxis n x).i3c = s.i3c := by unfold State.setAxis; split <;> rfl
@[simp] theorem State.setAxis_pair (s : State) (n : Nat) (x : Axis) : (s.setAxis n x).pair = s.pair := by unfold State.setAxis; split <;> rfl
@[simp] theorem State.setAxis_nvm (s : State) (n : Nat) (x : Axis) : (s.setAxis n x).nvm = s.nvm := by unfold State.setAxis; split <;> rfl
@[simp] theorem State.setAxis_otp (s : State) (n : Nat) (x : Axis) : (s.setAxis n x).otp = s.otp := by unfold State.setAxis; split <;> rfl
@[simp] theorem State.setAxis_mem (s : State) (n : Nat) (x : Axis) : (s.setAxis n x).mem = s.mem := by unfold State.setAxis; split <;> rfl
@[simp] theorem State.setAxis_reset (s : State) (n : Nat) (x : Axis) : (s.setAxis n x).reset_ = s.reset_ := by unfold State.setAxis; split <;> rfl
@[simp] theorem State.setAxis_sent (s : State) (n : Nat) (x : Axis) : (s.setAxis n x).sent = s.sent := by unfold State.setAxis; split <;> rfl
@[simp] theorem State.setAxis_pending (s : State) (n : Nat) (x : Axis) : (s.setAxis n x).pending = s.pending := by unfold State.setAxis; split <;> rfl

@[simp] theorem State.setBond_now (s : State) (n : Nat) (x : Bond) : (s.setBond n x).now = s.now := by unfold State.setBond; split <;> rfl
@[simp] theorem State.setBond_freeCtr (s : State) (n : Nat) (x : Bond) : (s.setBond n x).freeCtr = s.freeCtr := by unfold State.setBond; split <;> rfl
@[simp] theorem State.setBond_reg (s : State) (n : Nat) (x : Bond) : (s.setBond n x).reg = s.reg := by unfold State.setBond; split <;> rfl
@[simp] theorem State.setBond_blk (s : State) (n : Nat) (x : Bond) : (s.setBond n x).blk = s.blk := by unfold State.setBond; split <;> rfl
@[simp] theorem State.setBond_koa (s : State) (n : Nat) (x : Bond) : (s.setBond n x).koa = s.koa := by unfold State.setBond; split <;> rfl
@[simp] theorem State.setBond_jobs (s : State) (n : Nat) (x : Bond) : (s.setBond n x).jobs = s.jobs := by unfold State.setBond; split <;> rfl
@[simp] theorem State.setBond_crank (s : State) (n : Nat) (x : Bond) : (s.setBond n x).crank = s.crank := by unfold State.setBond; split <;> rfl
@[simp] theorem State.setBond_seq (s : State) (n : Nat) (x : Bond) : (s.setBond n x).seq = s.seq := by unfold State.setBond; split <;> rfl
@[simp] theorem State.setBond_emit (s : State) (n : Nat) (x : Bond) : (s.setBond n x).emit = s.emit := by unfold State.setBond; split <;> rfl
@[simp] theorem State.setBond_safety (s : State) (n : Nat) (x : Bond) : (s.setBond n x).safety = s.safety := by unfold State.setBond; split <;> rfl
@[simp] theorem State.setBond_rx (s : State) (n : Nat) (x : Bond) : (s.setBond n x).rx = s.rx := by unfold State.setBond; split <;> rfl
@[simp] theorem State.setBond_hist (s : State) (n : Nat) (x : Bond) : (s.setBond n x).hist = s.hist := by unfold State.setBond; split <;> rfl
@[simp] theorem State.setBond_eng (s : State) (n : Nat) (x : Bond) : (s.setBond n x).eng = s.eng := by unfold State.setBond; split <;> rfl
@[simp] theorem State.setBond_pipe (s : State) (n : Nat) (x : Bond) : (s.setBond n x).pipe = s.pipe := by unfold State.setBond; split <;> rfl
@[simp] theorem State.setBond_cal (s : State) (n : Nat) (x : Bond) : (s.setBond n x).cal = s.cal := by unfold State.setBond; split <;> rfl
@[simp] theorem State.setBond_hk (s : State) (n : Nat) (x : Bond) : (s.setBond n x).hk = s.hk := by unfold State.setBond; split <;> rfl
@[simp] theorem State.setBond_time (s : State) (n : Nat) (x : Bond) : (s.setBond n x).time = s.time := by unfold State.setBond; split <;> rfl
@[simp] theorem State.setBond_net (s : State) (n : Nat) (x : Bond) : (s.setBond n x).net = s.net := by unfold State.setBond; split <;> rfl
@[simp] theorem State.setBond_ev (s : State) (n : Nat) (x : Bond) : (s.setBond n x).ev = s.ev := by unfold State.setBond; split <;> rfl
@[simp] theorem State.setBond_i3c (s : State) (n : Nat) (x : Bond) : (s.setBond n x).i3c = s.i3c := by unfold State.setBond; split <;> rfl
@[simp] theorem State.setBond_pair (s : State) (n : Nat) (x : Bond) : (s.setBond n x).pair = s.pair := by unfold State.setBond; split <;> rfl
@[simp] theorem State.setBond_nvm (s : State) (n : Nat) (x : Bond) : (s.setBond n x).nvm = s.nvm := by unfold State.setBond; split <;> rfl
@[simp] theorem State.setBond_otp (s : State) (n : Nat) (x : Bond) : (s.setBond n x).otp = s.otp := by unfold State.setBond; split <;> rfl
@[simp] theorem State.setBond_mem (s : State) (n : Nat) (x : Bond) : (s.setBond n x).mem = s.mem := by unfold State.setBond; split <;> rfl
@[simp] theorem State.setBond_reset (s : State) (n : Nat) (x : Bond) : (s.setBond n x).reset_ = s.reset_ := by unfold State.setBond; split <;> rfl
@[simp] theorem State.setBond_sent (s : State) (n : Nat) (x : Bond) : (s.setBond n x).sent = s.sent := by unfold State.setBond; split <;> rfl
@[simp] theorem State.setBond_pending (s : State) (n : Nat) (x : Bond) : (s.setBond n x).pending = s.pending := by unfold State.setBond; split <;> rfl

@[simp] theorem State.setPtp_now (s : State) (n : Nat) (x : GptpPort) : (s.setPtp n x).now = s.now := by unfold State.setPtp; split <;> rfl
@[simp] theorem State.setPtp_freeCtr (s : State) (n : Nat) (x : GptpPort) : (s.setPtp n x).freeCtr = s.freeCtr := by unfold State.setPtp; split <;> rfl
@[simp] theorem State.setPtp_reg (s : State) (n : Nat) (x : GptpPort) : (s.setPtp n x).reg = s.reg := by unfold State.setPtp; split <;> rfl
@[simp] theorem State.setPtp_blk (s : State) (n : Nat) (x : GptpPort) : (s.setPtp n x).blk = s.blk := by unfold State.setPtp; split <;> rfl
@[simp] theorem State.setPtp_koa (s : State) (n : Nat) (x : GptpPort) : (s.setPtp n x).koa = s.koa := by unfold State.setPtp; split <;> rfl
@[simp] theorem State.setPtp_jobs (s : State) (n : Nat) (x : GptpPort) : (s.setPtp n x).jobs = s.jobs := by unfold State.setPtp; split <;> rfl
@[simp] theorem State.setPtp_crank (s : State) (n : Nat) (x : GptpPort) : (s.setPtp n x).crank = s.crank := by unfold State.setPtp; split <;> rfl
@[simp] theorem State.setPtp_seq (s : State) (n : Nat) (x : GptpPort) : (s.setPtp n x).seq = s.seq := by unfold State.setPtp; split <;> rfl
@[simp] theorem State.setPtp_emit (s : State) (n : Nat) (x : GptpPort) : (s.setPtp n x).emit = s.emit := by unfold State.setPtp; split <;> rfl
@[simp] theorem State.setPtp_safety (s : State) (n : Nat) (x : GptpPort) : (s.setPtp n x).safety = s.safety := by unfold State.setPtp; split <;> rfl
@[simp] theorem State.setPtp_rx (s : State) (n : Nat) (x : GptpPort) : (s.setPtp n x).rx = s.rx := by unfold State.setPtp; split <;> rfl
@[simp] theorem State.setPtp_hist (s : State) (n : Nat) (x : GptpPort) : (s.setPtp n x).hist = s.hist := by unfold State.setPtp; split <;> rfl
@[simp] theorem State.setPtp_eng (s : State) (n : Nat) (x : GptpPort) : (s.setPtp n x).eng = s.eng := by unfold State.setPtp; split <;> rfl
@[simp] theorem State.setPtp_pipe (s : State) (n : Nat) (x : GptpPort) : (s.setPtp n x).pipe = s.pipe := by unfold State.setPtp; split <;> rfl
@[simp] theorem State.setPtp_cal (s : State) (n : Nat) (x : GptpPort) : (s.setPtp n x).cal = s.cal := by unfold State.setPtp; split <;> rfl
@[simp] theorem State.setPtp_hk (s : State) (n : Nat) (x : GptpPort) : (s.setPtp n x).hk = s.hk := by unfold State.setPtp; split <;> rfl
@[simp] theorem State.setPtp_net (s : State) (n : Nat) (x : GptpPort) : (s.setPtp n x).net = s.net := by unfold State.setPtp; split <;> rfl
@[simp] theorem State.setPtp_lanes (s : State) (n : Nat) (x : GptpPort) : (s.setPtp n x).lanes = s.lanes := by unfold State.setPtp; split <;> rfl
@[simp] theorem State.setPtp_ev (s : State) (n : Nat) (x : GptpPort) : (s.setPtp n x).ev = s.ev := by unfold State.setPtp; split <;> rfl
@[simp] theorem State.setPtp_i3c (s : State) (n : Nat) (x : GptpPort) : (s.setPtp n x).i3c = s.i3c := by unfold State.setPtp; split <;> rfl
@[simp] theorem State.setPtp_pair (s : State) (n : Nat) (x : GptpPort) : (s.setPtp n x).pair = s.pair := by unfold State.setPtp; split <;> rfl
@[simp] theorem State.setPtp_nvm (s : State) (n : Nat) (x : GptpPort) : (s.setPtp n x).nvm = s.nvm := by unfold State.setPtp; split <;> rfl
@[simp] theorem State.setPtp_otp (s : State) (n : Nat) (x : GptpPort) : (s.setPtp n x).otp = s.otp := by unfold State.setPtp; split <;> rfl
@[simp] theorem State.setPtp_mem (s : State) (n : Nat) (x : GptpPort) : (s.setPtp n x).mem = s.mem := by unfold State.setPtp; split <;> rfl
@[simp] theorem State.setPtp_reset (s : State) (n : Nat) (x : GptpPort) : (s.setPtp n x).reset_ = s.reset_ := by unfold State.setPtp; split <;> rfl
@[simp] theorem State.setPtp_sent (s : State) (n : Nat) (x : GptpPort) : (s.setPtp n x).sent = s.sent := by unfold State.setPtp; split <;> rfl
@[simp] theorem State.setPtp_pending (s : State) (n : Nat) (x : GptpPort) : (s.setPtp n x).pending = s.pending := by unfold State.setPtp; split <;> rfl

@[simp] theorem State.setGathered_now (s : State) (n : Bool) (x : EventGather) : (s.setGathered n x).now = s.now := by unfold State.setGathered; split <;> rfl
@[simp] theorem State.setGathered_freeCtr (s : State) (n : Bool) (x : EventGather) : (s.setGathered n x).freeCtr = s.freeCtr := by unfold State.setGathered; split <;> rfl
@[simp] theorem State.setGathered_reg (s : State) (n : Bool) (x : EventGather) : (s.setGathered n x).reg = s.reg := by unfold State.setGathered; split <;> rfl
@[simp] theorem State.setGathered_blk (s : State) (n : Bool) (x : EventGather) : (s.setGathered n x).blk = s.blk := by unfold State.setGathered; split <;> rfl
@[simp] theorem State.setGathered_koa (s : State) (n : Bool) (x : EventGather) : (s.setGathered n x).koa = s.koa := by unfold State.setGathered; split <;> rfl
@[simp] theorem State.setGathered_jobs (s : State) (n : Bool) (x : EventGather) : (s.setGathered n x).jobs = s.jobs := by unfold State.setGathered; split <;> rfl
@[simp] theorem State.setGathered_crank (s : State) (n : Bool) (x : EventGather) : (s.setGathered n x).crank = s.crank := by unfold State.setGathered; split <;> rfl
@[simp] theorem State.setGathered_seq (s : State) (n : Bool) (x : EventGather) : (s.setGathered n x).seq = s.seq := by unfold State.setGathered; split <;> rfl
@[simp] theorem State.setGathered_emit (s : State) (n : Bool) (x : EventGather) : (s.setGathered n x).emit = s.emit := by unfold State.setGathered; split <;> rfl
@[simp] theorem State.setGathered_safety (s : State) (n : Bool) (x : EventGather) : (s.setGathered n x).safety = s.safety := by unfold State.setGathered; split <;> rfl
@[simp] theorem State.setGathered_rx (s : State) (n : Bool) (x : EventGather) : (s.setGathered n x).rx = s.rx := by unfold State.setGathered; split <;> rfl
@[simp] theorem State.setGathered_hist (s : State) (n : Bool) (x : EventGather) : (s.setGathered n x).hist = s.hist := by unfold State.setGathered; split <;> rfl
@[simp] theorem State.setGathered_eng (s : State) (n : Bool) (x : EventGather) : (s.setGathered n x).eng = s.eng := by unfold State.setGathered; split <;> rfl
@[simp] theorem State.setGathered_pipe (s : State) (n : Bool) (x : EventGather) : (s.setGathered n x).pipe = s.pipe := by unfold State.setGathered; split <;> rfl
@[simp] theorem State.setGathered_cal (s : State) (n : Bool) (x : EventGather) : (s.setGathered n x).cal = s.cal := by unfold State.setGathered; split <;> rfl
@[simp] theorem State.setGathered_hk (s : State) (n : Bool) (x : EventGather) : (s.setGathered n x).hk = s.hk := by unfold State.setGathered; split <;> rfl
@[simp] theorem State.setGathered_time (s : State) (n : Bool) (x : EventGather) : (s.setGathered n x).time = s.time := by unfold State.setGathered; split <;> rfl
@[simp] theorem State.setGathered_net (s : State) (n : Bool) (x : EventGather) : (s.setGathered n x).net = s.net := by unfold State.setGathered; split <;> rfl
@[simp] theorem State.setGathered_lanes (s : State) (n : Bool) (x : EventGather) : (s.setGathered n x).lanes = s.lanes := by unfold State.setGathered; split <;> rfl
@[simp] theorem State.setGathered_i3c (s : State) (n : Bool) (x : EventGather) : (s.setGathered n x).i3c = s.i3c := by unfold State.setGathered; split <;> rfl
@[simp] theorem State.setGathered_pair (s : State) (n : Bool) (x : EventGather) : (s.setGathered n x).pair = s.pair := by unfold State.setGathered; split <;> rfl
@[simp] theorem State.setGathered_nvm (s : State) (n : Bool) (x : EventGather) : (s.setGathered n x).nvm = s.nvm := by unfold State.setGathered; split <;> rfl
@[simp] theorem State.setGathered_otp (s : State) (n : Bool) (x : EventGather) : (s.setGathered n x).otp = s.otp := by unfold State.setGathered; split <;> rfl
@[simp] theorem State.setGathered_mem (s : State) (n : Bool) (x : EventGather) : (s.setGathered n x).mem = s.mem := by unfold State.setGathered; split <;> rfl
@[simp] theorem State.setGathered_reset (s : State) (n : Bool) (x : EventGather) : (s.setGathered n x).reset_ = s.reset_ := by unfold State.setGathered; split <;> rfl
@[simp] theorem State.setGathered_sent (s : State) (n : Bool) (x : EventGather) : (s.setGathered n x).sent = s.sent := by unfold State.setGathered; split <;> rfl
@[simp] theorem State.setGathered_pending (s : State) (n : Bool) (x : EventGather) : (s.setGathered n x).pending = s.pending := by unfold State.setGathered; split <;> rfl

/-- What `addSat` leaves as it was. -/
@[simp] theorem State.addSat_frame (s : State) (k n : Nat) :
    (s.addSat k n).now = s.now ∧
    (s.addSat k n).freeCtr = s.freeCtr ∧
    (s.addSat k n).blk = s.blk ∧
    (s.addSat k n).koa = s.koa ∧
    (s.addSat k n).jobs = s.jobs ∧
    (s.addSat k n).crank = s.crank ∧
    (s.addSat k n).seq = s.seq ∧
    (s.addSat k n).emit = s.emit ∧
    (s.addSat k n).safety = s.safety ∧
    (s.addSat k n).rx = s.rx ∧
    (s.addSat k n).hist = s.hist ∧
    (s.addSat k n).eng = s.eng ∧
    (s.addSat k n).pipe = s.pipe ∧
    (s.addSat k n).cal = s.cal ∧
    (s.addSat k n).hk = s.hk ∧
    (s.addSat k n).time = s.time ∧
    (s.addSat k n).net = s.net ∧
    (s.addSat k n).lanes = s.lanes ∧
    (s.addSat k n).ev = s.ev ∧
    (s.addSat k n).i3c = s.i3c ∧
    (s.addSat k n).pair = s.pair ∧
    (s.addSat k n).nvm = s.nvm ∧
    (s.addSat k n).otp = s.otp ∧
    (s.addSat k n).mem = s.mem ∧
    (s.addSat k n).reset_ = s.reset_ ∧
    (s.addSat k n).sent = s.sent ∧
    (s.addSat k n).pending = s.pending := by
  simp [State.addSat]

/-- What `count` leaves as it was. -/
@[simp] theorem State.count_frame (s : State) (k : Nat) :
    (s.count k).now = s.now ∧
    (s.count k).freeCtr = s.freeCtr ∧
    (s.count k).blk = s.blk ∧
    (s.count k).koa = s.koa ∧
    (s.count k).jobs = s.jobs ∧
    (s.count k).crank = s.crank ∧
    (s.count k).seq = s.seq ∧
    (s.count k).emit = s.emit ∧
    (s.count k).safety = s.safety ∧
    (s.count k).rx = s.rx ∧
    (s.count k).hist = s.hist ∧
    (s.count k).eng = s.eng ∧
    (s.count k).pipe = s.pipe ∧
    (s.count k).cal = s.cal ∧
    (s.count k).hk = s.hk ∧
    (s.count k).time = s.time ∧
    (s.count k).net = s.net ∧
    (s.count k).lanes = s.lanes ∧
    (s.count k).ev = s.ev ∧
    (s.count k).i3c = s.i3c ∧
    (s.count k).pair = s.pair ∧
    (s.count k).nvm = s.nvm ∧
    (s.count k).otp = s.otp ∧
    (s.count k).mem = s.mem ∧
    (s.count k).reset_ = s.reset_ ∧
    (s.count k).sent = s.sent ∧
    (s.count k).pending = s.pending := by
  simp [State.count]

/-- What `countWrap` leaves as it was. -/
@[simp] theorem State.countWrap_frame (s : State) (k n : Nat) :
    (s.countWrap k n).now = s.now ∧
    (s.countWrap k n).freeCtr = s.freeCtr ∧
    (s.countWrap k n).blk = s.blk ∧
    (s.countWrap k n).koa = s.koa ∧
    (s.countWrap k n).jobs = s.jobs ∧
    (s.countWrap k n).crank = s.crank ∧
    (s.countWrap k n).seq = s.seq ∧
    (s.countWrap k n).emit = s.emit ∧
    (s.countWrap k n).safety = s.safety ∧
    (s.countWrap k n).rx = s.rx ∧
    (s.countWrap k n).hist = s.hist ∧
    (s.countWrap k n).eng = s.eng ∧
    (s.countWrap k n).pipe = s.pipe ∧
    (s.countWrap k n).cal = s.cal ∧
    (s.countWrap k n).hk = s.hk ∧
    (s.countWrap k n).time = s.time ∧
    (s.countWrap k n).net = s.net ∧
    (s.countWrap k n).lanes = s.lanes ∧
    (s.countWrap k n).ev = s.ev ∧
    (s.countWrap k n).i3c = s.i3c ∧
    (s.countWrap k n).pair = s.pair ∧
    (s.countWrap k n).nvm = s.nvm ∧
    (s.countWrap k n).otp = s.otp ∧
    (s.countWrap k n).mem = s.mem ∧
    (s.countWrap k n).reset_ = s.reset_ ∧
    (s.countWrap k n).sent = s.sent ∧
    (s.countWrap k n).pending = s.pending := by
  simp [State.countWrap]

/-- What `modEngine` leaves as it was. -/
@[simp] theorem State.modEngine_frame (s : State) (n : Nat) (f : Engine → Engine) :
    (s.modEngine n f).now = s.now ∧
    (s.modEngine n f).freeCtr = s.freeCtr ∧
    (s.modEngine n f).reg = s.reg ∧
    (s.modEngine n f).blk = s.blk ∧
    (s.modEngine n f).koa = s.koa ∧
    (s.modEngine n f).jobs = s.jobs ∧
    (s.modEngine n f).crank = s.crank ∧
    (s.modEngine n f).seq = s.seq ∧
    (s.modEngine n f).emit = s.emit ∧
    (s.modEngine n f).safety = s.safety ∧
    (s.modEngine n f).rx = s.rx ∧
    (s.modEngine n f).hist = s.hist ∧
    (s.modEngine n f).pipe = s.pipe ∧
    (s.modEngine n f).cal = s.cal ∧
    (s.modEngine n f).hk = s.hk ∧
    (s.modEngine n f).time = s.time ∧
    (s.modEngine n f).net = s.net ∧
    (s.modEngine n f).lanes = s.lanes ∧
    (s.modEngine n f).ev = s.ev ∧
    (s.modEngine n f).i3c = s.i3c ∧
    (s.modEngine n f).pair = s.pair ∧
    (s.modEngine n f).nvm = s.nvm ∧
    (s.modEngine n f).otp = s.otp ∧
    (s.modEngine n f).mem = s.mem ∧
    (s.modEngine n f).reset_ = s.reset_ ∧
    (s.modEngine n f).sent = s.sent ∧
    (s.modEngine n f).pending = s.pending := by
  simp [State.modEngine]

/-- What `limiterStart` leaves as it was. -/
@[simp] theorem State.limiterStart_frame (s : State) (k : Nat) :
    (s.limiterStart k).now = s.now ∧
    (s.limiterStart k).freeCtr = s.freeCtr ∧
    (s.limiterStart k).reg = s.reg ∧
    (s.limiterStart k).blk = s.blk ∧
    (s.limiterStart k).koa = s.koa ∧
    (s.limiterStart k).jobs = s.jobs ∧
    (s.limiterStart k).crank = s.crank ∧
    (s.limiterStart k).seq = s.seq ∧
    (s.limiterStart k).emit = s.emit ∧
    (s.limiterStart k).safety = s.safety ∧
    (s.limiterStart k).rx = s.rx ∧
    (s.limiterStart k).hist = s.hist ∧
    (s.limiterStart k).eng = s.eng ∧
    (s.limiterStart k).pipe = s.pipe ∧
    (s.limiterStart k).cal = s.cal ∧
    (s.limiterStart k).hk = s.hk ∧
    (s.limiterStart k).time = s.time ∧
    (s.limiterStart k).net = s.net ∧
    (s.limiterStart k).lanes = s.lanes ∧
    (s.limiterStart k).i3c = s.i3c ∧
    (s.limiterStart k).pair = s.pair ∧
    (s.limiterStart k).nvm = s.nvm ∧
    (s.limiterStart k).otp = s.otp ∧
    (s.limiterStart k).mem = s.mem ∧
    (s.limiterStart k).reset_ = s.reset_ ∧
    (s.limiterStart k).sent = s.sent ∧
    (s.limiterStart k).pending = s.pending := by
  simp [State.limiterStart]

/-- What `ibiAdd` leaves as it was. -/
@[simp] theorem State.ibiAdd_frame (s : State) (r : List Byte) :
    (s.ibiAdd r).now = s.now ∧
    (s.ibiAdd r).freeCtr = s.freeCtr ∧
    (s.ibiAdd r).blk = s.blk ∧
    (s.ibiAdd r).koa = s.koa ∧
    (s.ibiAdd r).jobs = s.jobs ∧
    (s.ibiAdd r).crank = s.crank ∧
    (s.ibiAdd r).seq = s.seq ∧
    (s.ibiAdd r).emit = s.emit ∧
    (s.ibiAdd r).safety = s.safety ∧
    (s.ibiAdd r).rx = s.rx ∧
    (s.ibiAdd r).hist = s.hist ∧
    (s.ibiAdd r).eng = s.eng ∧
    (s.ibiAdd r).pipe = s.pipe ∧
    (s.ibiAdd r).cal = s.cal ∧
    (s.ibiAdd r).hk = s.hk ∧
    (s.ibiAdd r).time = s.time ∧
    (s.ibiAdd r).net = s.net ∧
    (s.ibiAdd r).lanes = s.lanes ∧
    (s.ibiAdd r).pair = s.pair ∧
    (s.ibiAdd r).nvm = s.nvm ∧
    (s.ibiAdd r).otp = s.otp ∧
    (s.ibiAdd r).mem = s.mem ∧
    (s.ibiAdd r).reset_ = s.reset_ ∧
    (s.ibiAdd r).sent = s.sent ∧
    (s.ibiAdd r).pending = s.pending := by
  unfold State.ibiAdd; split <;> simp

/-- What `raise` leaves as it was. -/
@[simp] theorem State.raise_frame (s : State) (e p : Nat) :
    (s.raise e p).now = s.now ∧
    (s.raise e p).freeCtr = s.freeCtr ∧
    (s.raise e p).reg = s.reg ∧
    (s.raise e p).blk = s.blk ∧
    (s.raise e p).koa = s.koa ∧
    (s.raise e p).jobs = s.jobs ∧
    (s.raise e p).crank = s.crank ∧
    (s.raise e p).seq = s.seq ∧
    (s.raise e p).emit = s.emit ∧
    (s.raise e p).safety = s.safety ∧
    (s.raise e p).rx = s.rx ∧
    (s.raise e p).hist = s.hist ∧
    (s.raise e p).eng = s.eng ∧
    (s.raise e p).pipe = s.pipe ∧
    (s.raise e p).cal = s.cal ∧
    (s.raise e p).hk = s.hk ∧
    (s.raise e p).time = s.time ∧
    (s.raise e p).net = s.net ∧
    (s.raise e p).lanes = s.lanes ∧
    (s.raise e p).i3c = s.i3c ∧
    (s.raise e p).pair = s.pair ∧
    (s.raise e p).nvm = s.nvm ∧
    (s.raise e p).otp = s.otp ∧
    (s.raise e p).mem = s.mem ∧
    (s.raise e p).reset_ = s.reset_ ∧
    (s.raise e p).sent = s.sent ∧
    (s.raise e p).pending = s.pending := by
  simp [State.raise]

/-- What `transmit` leaves as it was. -/
@[simp] theorem State.transmit_frame (s : State) (p : Nat) (m : Sent) :
    (s.transmit p m).now = s.now ∧
    (s.transmit p m).freeCtr = s.freeCtr ∧
    (s.transmit p m).reg = s.reg ∧
    (s.transmit p m).blk = s.blk ∧
    (s.transmit p m).koa = s.koa ∧
    (s.transmit p m).jobs = s.jobs ∧
    (s.transmit p m).crank = s.crank ∧
    (s.transmit p m).seq = s.seq ∧
    (s.transmit p m).emit = s.emit ∧
    (s.transmit p m).safety = s.safety ∧
    (s.transmit p m).rx = s.rx ∧
    (s.transmit p m).hist = s.hist ∧
    (s.transmit p m).eng = s.eng ∧
    (s.transmit p m).pipe = s.pipe ∧
    (s.transmit p m).cal = s.cal ∧
    (s.transmit p m).hk = s.hk ∧
    (s.transmit p m).time = s.time ∧
    (s.transmit p m).lanes = s.lanes ∧
    (s.transmit p m).ev = s.ev ∧
    (s.transmit p m).i3c = s.i3c ∧
    (s.transmit p m).pair = s.pair ∧
    (s.transmit p m).nvm = s.nvm ∧
    (s.transmit p m).otp = s.otp ∧
    (s.transmit p m).mem = s.mem ∧
    (s.transmit p m).reset_ = s.reset_ ∧
    (s.transmit p m).sent = s.sent ∧
    (s.transmit p m).pending = s.pending := by
  simp [State.transmit]

/-- What `sendResolve` leaves as it was. -/
@[simp] theorem State.sendResolve_frame (s : State) (p h : Nat) :
    (s.sendResolve p h).now = s.now ∧
    (s.sendResolve p h).freeCtr = s.freeCtr ∧
    (s.sendResolve p h).reg = s.reg ∧
    (s.sendResolve p h).blk = s.blk ∧
    (s.sendResolve p h).koa = s.koa ∧
    (s.sendResolve p h).jobs = s.jobs ∧
    (s.sendResolve p h).crank = s.crank ∧
    (s.sendResolve p h).seq = s.seq ∧
    (s.sendResolve p h).emit = s.emit ∧
    (s.sendResolve p h).safety = s.safety ∧
    (s.sendResolve p h).rx = s.rx ∧
    (s.sendResolve p h).hist = s.hist ∧
    (s.sendResolve p h).eng = s.eng ∧
    (s.sendResolve p h).pipe = s.pipe ∧
    (s.sendResolve p h).cal = s.cal ∧
    (s.sendResolve p h).hk = s.hk ∧
    (s.sendResolve p h).time = s.time ∧
    (s.sendResolve p h).lanes = s.lanes ∧
    (s.sendResolve p h).ev = s.ev ∧
    (s.sendResolve p h).i3c = s.i3c ∧
    (s.sendResolve p h).pair = s.pair ∧
    (s.sendResolve p h).nvm = s.nvm ∧
    (s.sendResolve p h).otp = s.otp ∧
    (s.sendResolve p h).mem = s.mem ∧
    (s.sendResolve p h).reset_ = s.reset_ ∧
    (s.sendResolve p h).sent = s.sent ∧
    (s.sendResolve p h).pending = s.pending := by
  unfold State.sendResolve; split <;> simp

/-- What `unresolved` leaves as it was. -/
@[simp] theorem State.unresolved_frame (s : State) (p h : Nat) :
    (s.unresolved p h).now = s.now ∧
    (s.unresolved p h).freeCtr = s.freeCtr ∧
    (s.unresolved p h).blk = s.blk ∧
    (s.unresolved p h).koa = s.koa ∧
    (s.unresolved p h).jobs = s.jobs ∧
    (s.unresolved p h).crank = s.crank ∧
    (s.unresolved p h).seq = s.seq ∧
    (s.unresolved p h).emit = s.emit ∧
    (s.unresolved p h).safety = s.safety ∧
    (s.unresolved p h).rx = s.rx ∧
    (s.unresolved p h).hist = s.hist ∧
    (s.unresolved p h).eng = s.eng ∧
    (s.unresolved p h).pipe = s.pipe ∧
    (s.unresolved p h).cal = s.cal ∧
    (s.unresolved p h).hk = s.hk ∧
    (s.unresolved p h).time = s.time ∧
    (s.unresolved p h).lanes = s.lanes ∧
    (s.unresolved p h).i3c = s.i3c ∧
    (s.unresolved p h).pair = s.pair ∧
    (s.unresolved p h).nvm = s.nvm ∧
    (s.unresolved p h).otp = s.otp ∧
    (s.unresolved p h).mem = s.mem ∧
    (s.unresolved p h).reset_ = s.reset_ ∧
    (s.unresolved p h).sent = s.sent ∧
    (s.unresolved p h).pending = s.pending := by
  unfold State.unresolved; dsimp only; split <;> simp

/-- What `sendUdp` leaves as it was. -/
@[simp] theorem State.sendUdp_frame (s : State) (p d o : Nat) (k : SentKind) (x : List Byte) :
    (s.sendUdp p d o k x).now = s.now ∧
    (s.sendUdp p d o k x).freeCtr = s.freeCtr ∧
    (s.sendUdp p d o k x).blk = s.blk ∧
    (s.sendUdp p d o k x).koa = s.koa ∧
    (s.sendUdp p d o k x).jobs = s.jobs ∧
    (s.sendUdp p d o k x).crank = s.crank ∧
    (s.sendUdp p d o k x).seq = s.seq ∧
    (s.sendUdp p d o k x).emit = s.emit ∧
    (s.sendUdp p d o k x).safety = s.safety ∧
    (s.sendUdp p d o k x).rx = s.rx ∧
    (s.sendUdp p d o k x).hist = s.hist ∧
    (s.sendUdp p d o k x).eng = s.eng ∧
    (s.sendUdp p d o k x).pipe = s.pipe ∧
    (s.sendUdp p d o k x).cal = s.cal ∧
    (s.sendUdp p d o k x).hk = s.hk ∧
    (s.sendUdp p d o k x).time = s.time ∧
    (s.sendUdp p d o k x).lanes = s.lanes ∧
    (s.sendUdp p d o k x).i3c = s.i3c ∧
    (s.sendUdp p d o k x).pair = s.pair ∧
    (s.sendUdp p d o k x).nvm = s.nvm ∧
    (s.sendUdp p d o k x).otp = s.otp ∧
    (s.sendUdp p d o k x).mem = s.mem ∧
    (s.sendUdp p d o k x).reset_ = s.reset_ ∧
    (s.sendUdp p d o k x).sent = s.sent ∧
    (s.sendUdp p d o k x).pending = s.pending := by
  unfold State.sendUdp State.sendUdpFrom; split <;> (try split) <;> simp

/-- What `setOutQueue` leaves as it was. -/
@[simp] theorem State.setOutQueue_frame (s : State) (d : Nat) (q : List OutMessage) :
    (s.setOutQueue d q).now = s.now ∧
    (s.setOutQueue d q).freeCtr = s.freeCtr ∧
    (s.setOutQueue d q).reg = s.reg ∧
    (s.setOutQueue d q).blk = s.blk ∧
    (s.setOutQueue d q).koa = s.koa ∧
    (s.setOutQueue d q).jobs = s.jobs ∧
    (s.setOutQueue d q).crank = s.crank ∧
    (s.setOutQueue d q).seq = s.seq ∧
    (s.setOutQueue d q).emit = s.emit ∧
    (s.setOutQueue d q).safety = s.safety ∧
    (s.setOutQueue d q).rx = s.rx ∧
    (s.setOutQueue d q).hist = s.hist ∧
    (s.setOutQueue d q).eng = s.eng ∧
    (s.setOutQueue d q).cal = s.cal ∧
    (s.setOutQueue d q).hk = s.hk ∧
    (s.setOutQueue d q).time = s.time ∧
    (s.setOutQueue d q).net = s.net ∧
    (s.setOutQueue d q).lanes = s.lanes ∧
    (s.setOutQueue d q).ev = s.ev ∧
    (s.setOutQueue d q).i3c = s.i3c ∧
    (s.setOutQueue d q).pair = s.pair ∧
    (s.setOutQueue d q).nvm = s.nvm ∧
    (s.setOutQueue d q).otp = s.otp ∧
    (s.setOutQueue d q).mem = s.mem ∧
    (s.setOutQueue d q).reset_ = s.reset_ ∧
    (s.setOutQueue d q).sent = s.sent ∧
    (s.setOutQueue d q).pending = s.pending := by
  unfold State.setOutQueue; split <;> (try split) <;> simp

/-- What `flushEvents` leaves as it was. -/
@[simp] theorem State.flushEvents_frame (s : State) (b : Bool) :
    (s.flushEvents b).now = s.now ∧
    (s.flushEvents b).freeCtr = s.freeCtr ∧
    (s.flushEvents b).reg = s.reg ∧
    (s.flushEvents b).blk = s.blk ∧
    (s.flushEvents b).koa = s.koa ∧
    (s.flushEvents b).jobs = s.jobs ∧
    (s.flushEvents b).crank = s.crank ∧
    (s.flushEvents b).seq = s.seq ∧
    (s.flushEvents b).emit = s.emit ∧
    (s.flushEvents b).safety = s.safety ∧
    (s.flushEvents b).rx = s.rx ∧
    (s.flushEvents b).hist = s.hist ∧
    (s.flushEvents b).eng = s.eng ∧
    (s.flushEvents b).cal = s.cal ∧
    (s.flushEvents b).hk = s.hk ∧
    (s.flushEvents b).time = s.time ∧
    (s.flushEvents b).net = s.net ∧
    (s.flushEvents b).lanes = s.lanes ∧
    (s.flushEvents b).i3c = s.i3c ∧
    (s.flushEvents b).pair = s.pair ∧
    (s.flushEvents b).nvm = s.nvm ∧
    (s.flushEvents b).otp = s.otp ∧
    (s.flushEvents b).mem = s.mem ∧
    (s.flushEvents b).reset_ = s.reset_ ∧
    (s.flushEvents b).sent = s.sent ∧
    (s.flushEvents b).pending = s.pending := by
  unfold State.flushEvents; dsimp only; split <;> simp

/-- What `gather` leaves as it was. -/
@[simp] theorem State.gather_frame (s : State) (b : Bool) (r : List Byte) :
    (s.gather b r).now = s.now ∧
    (s.gather b r).freeCtr = s.freeCtr ∧
    (s.gather b r).reg = s.reg ∧
    (s.gather b r).blk = s.blk ∧
    (s.gather b r).koa = s.koa ∧
    (s.gather b r).jobs = s.jobs ∧
    (s.gather b r).crank = s.crank ∧
    (s.gather b r).seq = s.seq ∧
    (s.gather b r).emit = s.emit ∧
    (s.gather b r).safety = s.safety ∧
    (s.gather b r).rx = s.rx ∧
    (s.gather b r).hist = s.hist ∧
    (s.gather b r).eng = s.eng ∧
    (s.gather b r).cal = s.cal ∧
    (s.gather b r).hk = s.hk ∧
    (s.gather b r).time = s.time ∧
    (s.gather b r).net = s.net ∧
    (s.gather b r).lanes = s.lanes ∧
    (s.gather b r).i3c = s.i3c ∧
    (s.gather b r).pair = s.pair ∧
    (s.gather b r).nvm = s.nvm ∧
    (s.gather b r).otp = s.otp ∧
    (s.gather b r).mem = s.mem ∧
    (s.gather b r).reset_ = s.reset_ ∧
    (s.gather b r).sent = s.sent ∧
    (s.gather b r).pending = s.pending := by
  unfold State.gather; dsimp only; split <;> simp

/-- What `gatherRoutes` leaves as it was. -/
@[simp] theorem State.gatherRoutes_frame (s : State) (e : Nat) (r : List Byte) :
    (s.gatherRoutes e r).now = s.now ∧
    (s.gatherRoutes e r).freeCtr = s.freeCtr ∧
    (s.gatherRoutes e r).reg = s.reg ∧
    (s.gatherRoutes e r).blk = s.blk ∧
    (s.gatherRoutes e r).koa = s.koa ∧
    (s.gatherRoutes e r).jobs = s.jobs ∧
    (s.gatherRoutes e r).crank = s.crank ∧
    (s.gatherRoutes e r).seq = s.seq ∧
    (s.gatherRoutes e r).emit = s.emit ∧
    (s.gatherRoutes e r).safety = s.safety ∧
    (s.gatherRoutes e r).rx = s.rx ∧
    (s.gatherRoutes e r).hist = s.hist ∧
    (s.gatherRoutes e r).eng = s.eng ∧
    (s.gatherRoutes e r).cal = s.cal ∧
    (s.gatherRoutes e r).hk = s.hk ∧
    (s.gatherRoutes e r).time = s.time ∧
    (s.gatherRoutes e r).net = s.net ∧
    (s.gatherRoutes e r).lanes = s.lanes ∧
    (s.gatherRoutes e r).i3c = s.i3c ∧
    (s.gatherRoutes e r).pair = s.pair ∧
    (s.gatherRoutes e r).nvm = s.nvm ∧
    (s.gatherRoutes e r).otp = s.otp ∧
    (s.gatherRoutes e r).mem = s.mem ∧
    (s.gatherRoutes e r).reset_ = s.reset_ ∧
    (s.gatherRoutes e r).sent = s.sent ∧
    (s.gatherRoutes e r).pending = s.pending := by
  unfold State.gatherRoutes; split <;> (try dsimp only) <;> (repeat' split) <;> simp

/-- What `traceAdd` leaves as it was. -/
@[simp] theorem State.traceAdd_frame (s : State) (c o : Nat) (x : List Byte) :
    (s.traceAdd c o x).2.now = s.now ∧
    (s.traceAdd c o x).2.freeCtr = s.freeCtr ∧
    (s.traceAdd c o x).2.blk = s.blk ∧
    (s.traceAdd c o x).2.koa = s.koa ∧
    (s.traceAdd c o x).2.jobs = s.jobs ∧
    (s.traceAdd c o x).2.crank = s.crank ∧
    (s.traceAdd c o x).2.seq = s.seq ∧
    (s.traceAdd c o x).2.emit = s.emit ∧
    (s.traceAdd c o x).2.safety = s.safety ∧
    (s.traceAdd c o x).2.rx = s.rx ∧
    (s.traceAdd c o x).2.hist = s.hist ∧
    (s.traceAdd c o x).2.eng = s.eng ∧
    (s.traceAdd c o x).2.pipe = s.pipe ∧
    (s.traceAdd c o x).2.cal = s.cal ∧
    (s.traceAdd c o x).2.hk = s.hk ∧
    (s.traceAdd c o x).2.time = s.time ∧
    (s.traceAdd c o x).2.net = s.net ∧
    (s.traceAdd c o x).2.lanes = s.lanes ∧
    (s.traceAdd c o x).2.ev = s.ev ∧
    (s.traceAdd c o x).2.i3c = s.i3c ∧
    (s.traceAdd c o x).2.pair = s.pair ∧
    (s.traceAdd c o x).2.nvm = s.nvm ∧
    (s.traceAdd c o x).2.otp = s.otp ∧
    (s.traceAdd c o x).2.reset_ = s.reset_ ∧
    (s.traceAdd c o x).2.sent = s.sent ∧
    (s.traceAdd c o x).2.pending = s.pending := by
  unfold State.traceAdd; split <;> (try split) <;> simp

/-- What `traceSend` leaves as it was. -/
@[simp] theorem State.traceSend_frame (s : State) (c o : Nat) (x : List Byte) :
    (s.traceSend c o x).now = s.now ∧
    (s.traceSend c o x).freeCtr = s.freeCtr ∧
    (s.traceSend c o x).koa = s.koa ∧
    (s.traceSend c o x).jobs = s.jobs ∧
    (s.traceSend c o x).crank = s.crank ∧
    (s.traceSend c o x).seq = s.seq ∧
    (s.traceSend c o x).emit = s.emit ∧
    (s.traceSend c o x).safety = s.safety ∧
    (s.traceSend c o x).rx = s.rx ∧
    (s.traceSend c o x).hist = s.hist ∧
    (s.traceSend c o x).eng = s.eng ∧
    (s.traceSend c o x).pipe = s.pipe ∧
    (s.traceSend c o x).cal = s.cal ∧
    (s.traceSend c o x).hk = s.hk ∧
    (s.traceSend c o x).time = s.time ∧
    (s.traceSend c o x).net = s.net ∧
    (s.traceSend c o x).sent = s.sent ∧
    (s.traceSend c o x).lanes = s.lanes ∧
    (s.traceSend c o x).pair = s.pair ∧
    (s.traceSend c o x).nvm = s.nvm ∧
    (s.traceSend c o x).otp = s.otp ∧
    (s.traceSend c o x).reset_ = s.reset_ ∧
    (s.traceSend c o x).pending = s.pending := by
  unfold State.traceSend; dsimp only; split <;> simp

/-- What `noteEvent` leaves as it was. -/
@[simp] theorem State.noteEvent_frame (s : State) (r : RaisedEvent) :
    (s.noteEvent r).now = s.now ∧
    (s.noteEvent r).freeCtr = s.freeCtr ∧
    (s.noteEvent r).koa = s.koa ∧
    (s.noteEvent r).jobs = s.jobs ∧
    (s.noteEvent r).crank = s.crank ∧
    (s.noteEvent r).seq = s.seq ∧
    (s.noteEvent r).emit = s.emit ∧
    (s.noteEvent r).safety = s.safety ∧
    (s.noteEvent r).rx = s.rx ∧
    (s.noteEvent r).hist = s.hist ∧
    (s.noteEvent r).eng = s.eng ∧
    (s.noteEvent r).pipe = s.pipe ∧
    (s.noteEvent r).cal = s.cal ∧
    (s.noteEvent r).hk = s.hk ∧
    (s.noteEvent r).time = s.time ∧
    (s.noteEvent r).net = s.net ∧
    (s.noteEvent r).lanes = s.lanes ∧
    (s.noteEvent r).i3c = s.i3c ∧
    (s.noteEvent r).pair = s.pair ∧
    (s.noteEvent r).nvm = s.nvm ∧
    (s.noteEvent r).otp = s.otp ∧
    (s.noteEvent r).mem = s.mem ∧
    (s.noteEvent r).reset_ = s.reset_ ∧
    (s.noteEvent r).sent = s.sent ∧
    (s.noteEvent r).pending = s.pending ∧
    (s.noteEvent r).ev = s.ev := by
  simp [State.noteEvent]

/-- What `setPending` leaves as it was. -/
@[simp] theorem State.setPending_frame (s : State) (e : Nat) :
    (s.setPending e).now = s.now ∧
    (s.setPending e).freeCtr = s.freeCtr ∧
    (s.setPending e).reg = s.reg ∧
    (s.setPending e).blk = s.blk ∧
    (s.setPending e).koa = s.koa ∧
    (s.setPending e).jobs = s.jobs ∧
    (s.setPending e).crank = s.crank ∧
    (s.setPending e).seq = s.seq ∧
    (s.setPending e).emit = s.emit ∧
    (s.setPending e).safety = s.safety ∧
    (s.setPending e).rx = s.rx ∧
    (s.setPending e).hist = s.hist ∧
    (s.setPending e).eng = s.eng ∧
    (s.setPending e).pipe = s.pipe ∧
    (s.setPending e).cal = s.cal ∧
    (s.setPending e).hk = s.hk ∧
    (s.setPending e).time = s.time ∧
    (s.setPending e).net = s.net ∧
    (s.setPending e).lanes = s.lanes ∧
    (s.setPending e).i3c = s.i3c ∧
    (s.setPending e).pair = s.pair ∧
    (s.setPending e).nvm = s.nvm ∧
    (s.setPending e).otp = s.otp ∧
    (s.setPending e).mem = s.mem ∧
    (s.setPending e).reset_ = s.reset_ ∧
    (s.setPending e).sent = s.sent ∧
    (s.setPending e).pending = s.pending := by
  simp [State.setPending]

/-- What `routeEvent` leaves as it was. -/
@[simp] theorem State.routeEvent_frame (s : State) (r : RaisedEvent) :
    (s.routeEvent r).now = s.now ∧
    (s.routeEvent r).freeCtr = s.freeCtr ∧
    (s.routeEvent r).koa = s.koa ∧
    (s.routeEvent r).jobs = s.jobs ∧
    (s.routeEvent r).crank = s.crank ∧
    (s.routeEvent r).seq = s.seq ∧
    (s.routeEvent r).emit = s.emit ∧
    (s.routeEvent r).safety = s.safety ∧
    (s.routeEvent r).rx = s.rx ∧
    (s.routeEvent r).hist = s.hist ∧
    (s.routeEvent r).eng = s.eng ∧
    (s.routeEvent r).cal = s.cal ∧
    (s.routeEvent r).hk = s.hk ∧
    (s.routeEvent r).time = s.time ∧
    (s.routeEvent r).net = s.net ∧
    (s.routeEvent r).sent = s.sent ∧
    (s.routeEvent r).lanes = s.lanes ∧
    (s.routeEvent r).pair = s.pair ∧
    (s.routeEvent r).nvm = s.nvm ∧
    (s.routeEvent r).otp = s.otp ∧
    (s.routeEvent r).reset_ = s.reset_ ∧
    (s.routeEvent r).pending = s.pending := by
  unfold State.routeEvent; dsimp only; split <;> split <;> simp

/-- What `handleEvent` leaves as it was. -/
@[simp] theorem State.handleEvent_frame (s : State) (r : RaisedEvent) :
    (s.handleEvent r).now = s.now ∧
    (s.handleEvent r).freeCtr = s.freeCtr ∧
    (s.handleEvent r).koa = s.koa ∧
    (s.handleEvent r).jobs = s.jobs ∧
    (s.handleEvent r).crank = s.crank ∧
    (s.handleEvent r).seq = s.seq ∧
    (s.handleEvent r).emit = s.emit ∧
    (s.handleEvent r).safety = s.safety ∧
    (s.handleEvent r).rx = s.rx ∧
    (s.handleEvent r).hist = s.hist ∧
    (s.handleEvent r).eng = s.eng ∧
    (s.handleEvent r).cal = s.cal ∧
    (s.handleEvent r).hk = s.hk ∧
    (s.handleEvent r).time = s.time ∧
    (s.handleEvent r).net = s.net ∧
    (s.handleEvent r).sent = s.sent ∧
    (s.handleEvent r).lanes = s.lanes ∧
    (s.handleEvent r).pair = s.pair ∧
    (s.handleEvent r).nvm = s.nvm ∧
    (s.handleEvent r).otp = s.otp ∧
    (s.handleEvent r).reset_ = s.reset_ ∧
    (s.handleEvent r).pending = s.pending := by
  unfold State.handleEvent; dsimp only; split <;> simp

/-- What `raiseLimited` leaves as it was. -/
@[simp] theorem State.raiseLimited_frame (s : State) (e o p : Nat) :
    (s.raiseLimited e o p).now = s.now ∧
    (s.raiseLimited e o p).freeCtr = s.freeCtr ∧
    (s.raiseLimited e o p).koa = s.koa ∧
    (s.raiseLimited e o p).jobs = s.jobs ∧
    (s.raiseLimited e o p).crank = s.crank ∧
    (s.raiseLimited e o p).seq = s.seq ∧
    (s.raiseLimited e o p).emit = s.emit ∧
    (s.raiseLimited e o p).safety = s.safety ∧
    (s.raiseLimited e o p).rx = s.rx ∧
    (s.raiseLimited e o p).hist = s.hist ∧
    (s.raiseLimited e o p).eng = s.eng ∧
    (s.raiseLimited e o p).pipe = s.pipe ∧
    (s.raiseLimited e o p).cal = s.cal ∧
    (s.raiseLimited e o p).hk = s.hk ∧
    (s.raiseLimited e o p).time = s.time ∧
    (s.raiseLimited e o p).lanes = s.lanes ∧
    (s.raiseLimited e o p).pair = s.pair ∧
    (s.raiseLimited e o p).nvm = s.nvm ∧
    (s.raiseLimited e o p).otp = s.otp ∧
    (s.raiseLimited e o p).reset_ = s.reset_ ∧
    (s.raiseLimited e o p).pending = s.pending := by
  unfold State.raiseLimited; split <;> simp

/-- What `sendCan` leaves as it was. -/
@[simp] theorem State.sendCan_frame (s : State) (i : Nat) (k : SentKind) (x : List Byte) :
    (s.sendCan i k x).now = s.now ∧
    (s.sendCan i k x).freeCtr = s.freeCtr ∧
    (s.sendCan i k x).reg = s.reg ∧
    (s.sendCan i k x).blk = s.blk ∧
    (s.sendCan i k x).koa = s.koa ∧
    (s.sendCan i k x).jobs = s.jobs ∧
    (s.sendCan i k x).crank = s.crank ∧
    (s.sendCan i k x).seq = s.seq ∧
    (s.sendCan i k x).emit = s.emit ∧
    (s.sendCan i k x).safety = s.safety ∧
    (s.sendCan i k x).rx = s.rx ∧
    (s.sendCan i k x).hist = s.hist ∧
    (s.sendCan i k x).eng = s.eng ∧
    (s.sendCan i k x).pipe = s.pipe ∧
    (s.sendCan i k x).cal = s.cal ∧
    (s.sendCan i k x).hk = s.hk ∧
    (s.sendCan i k x).time = s.time ∧
    (s.sendCan i k x).lanes = s.lanes ∧
    (s.sendCan i k x).ev = s.ev ∧
    (s.sendCan i k x).i3c = s.i3c ∧
    (s.sendCan i k x).pair = s.pair ∧
    (s.sendCan i k x).nvm = s.nvm ∧
    (s.sendCan i k x).otp = s.otp ∧
    (s.sendCan i k x).mem = s.mem ∧
    (s.sendCan i k x).reset_ = s.reset_ ∧
    (s.sendCan i k x).pending = s.pending := by
  unfold State.sendCan; split <;> (try split) <;> simp

/-! ### What the updates write -/

@[simp] theorem State.get_set_same (s : State) (k : Nat) (v : Int) : (s.set k v).get k = v := by simp [State.get, State.set]

theorem State.get_set_other (s : State) {k j : Nat} (v : Int) (h : j ≠ k) : (s.set k v).get j = s.get j := by
  simp [State.get, State.set, tabGet_put_other _ _ v h]

theorem State.get_set (s : State) (k j : Nat) (v : Int) : (s.set k v).get j = if j = k then v else s.get j := by
  simp [State.get, State.set, tabGet_put]

@[simp] theorem State.getBlk_setBlk_same (s : State) (k : Nat) (v : List Byte) : (s.setBlk k v).getBlk k = v := by
  simp [State.getBlk, State.setBlk]

theorem State.getBlk_setBlk_other (s : State) {k j : Nat} (v : List Byte) (h : j ≠ k) :
    (s.setBlk k v).getBlk j = s.getBlk j := by simp [State.getBlk, State.setBlk, tabGet_put_other _ _ v h]

@[simp] theorem State.getBlk_set (s : State) (k j : Nat) (v : Int) : (s.set k v).getBlk j = s.getBlk j := rfl

@[simp] theorem State.get_setBlk (s : State) (k j : Nat) (v : List Byte) : (s.setBlk k v).get j = s.get j := rfl

theorem State.get_addSat (s : State) (k n j : Nat) :
    (s.addSat k n).get j = if j = k then satAdd 0xFFFFFFFF (s.get k) n else s.get j := by
  simp [State.addSat, State.get_set]

theorem State.get_count (s : State) (k j : Nat) :
    (s.count k).get j = if j = k then satAdd 0xFFFFFFFF (s.get k) 1 else s.get j := by
  simp [State.count, State.get_addSat]

/-- A read of the store depends on the store alone. -/
theorem State.get_congr {s t : State} (h : t.reg = s.reg) (k : Nat) : t.get k = s.get k := by simp [State.get, h]

theorem State.getBlk_congr {s t : State} (h : t.blk = s.blk) (k : Nat) : t.getBlk k = s.getBlk k := by simp [State.getBlk, h]

@[simp] theorem State.engine_setEngine_same (s : State) (n : Nat) (e : Engine) : (s.setEngine n e).engine n = e := by
  simp [State.engine, State.setEngine]

theorem State.engine_setEngine_other (s : State) {n m : Nat} (e : Engine) (h : m ≠ n) :
    (s.setEngine n e).engine m = s.engine m := by simp [State.engine, State.setEngine, tabGet_put_other _ _ e h]

@[simp] theorem State.engine_modEngine_same (s : State) (n : Nat) (f : Engine → Engine) :
    (s.modEngine n f).engine n = f (s.engine n) := by simp [State.modEngine]

@[simp] theorem State.job_setJob_same (s : State) (n : Nat) (j : Job) : (s.setJob n j).job n = j := by
  simp [State.job, State.setJob]

theorem State.job_setJob_other (s : State) {n m : Nat} (j : Job) (h : m ≠ n) : (s.setJob n j).job m = s.job m := by
  simp [State.job, State.setJob, tabGet_put_other _ _ j h]

@[simp] theorem State.rxChan_set_same (s : State) (n : Nat) (x : RxChan) : (s.setRxChan n x).rxChan n = x := by
  simp [State.rxChan, State.setRxChan]

theorem State.rxChan_set_other (s : State) {n m : Nat} (x : RxChan) (h : m ≠ n) : (s.setRxChan n x).rxChan m = s.rxChan m := by
  simp [State.rxChan, State.setRxChan, tabGet_put_other _ _ x h]

@[simp] theorem State.evIn_set_same (s : State) (n : Nat) (x : EvInput) : (s.setEvIn n x).evIn n = x := by
  simp [State.evIn, State.setEvIn]

@[simp] theorem State.lane_set_same (s : State) (n : Nat) (x : Lane) : (s.setLane n x).lane n = x := by
  simp [State.lane, State.setLane]

@[simp] theorem State.zone_set_same (s : State) (n : Nat) (x : ZoneDiag) : (s.setZone n x).zone n = x := by
  simp [State.zone, State.setZone]

end Sys2Proof.Machine
end

