-- ==== Sys2Proof/Laws/Events.lean ====
section
/-! SUPPORT. What reporting an event does to the scalar objects: raising changes none; handling adds one to its own counter, and besides
it only the counters of what is sent and dropped change. -/

namespace Sys2Proof.Machine

open Sys2Proof Sys2Proof.Safety

/-- The objects that the routes of a record count in. -/
def sendKeys : List Nat :=
  [Obj.IBI_DROPS, Obj.TRACE_DROPS]

theorem State.get_count_other (s : State) {k j : Nat} (h : j ≠ k) : (s.count k).get j = s.get j := by
  simp [State.get_count, h]

@[simp] theorem State.get_count_same (s : State) (k : Nat) : (s.count k).get k = satAdd 0xFFFFFFFF (s.get k) 1 := by
  simp [State.get_count]

@[simp] theorem State.get_send (s : State) (m : Sent) (k : Nat) : (s.send m).get k = s.get k := rfl

@[simp] theorem State.get_setGathered (s : State) (b : Bool) (g : EventGather) (k : Nat) : (s.setGathered b g).get k = s.get k :=
  State.get_congr (by simp) k

@[simp] theorem State.get_limiterStart (s : State) (l k : Nat) : (s.limiterStart l).get k = s.get k := rfl

theorem State.get_ibiAdd (s : State) (r : List Byte) {k : Nat} (h : k ≠ Obj.IBI_DROPS) : (s.ibiAdd r).get k = s.get k := by
  unfold State.ibiAdd
  split
  · rfl
  · exact State.get_count_other s h

@[simp] theorem State.get_raise (s : State) (e p k : Nat) : (s.raise e p).get k = s.get k := rfl

@[simp] theorem State.get_flushEvents (s : State) (b : Bool) (k : Nat) : (s.flushEvents b).get k = s.get k :=
  State.get_congr (by simp) k

@[simp] theorem State.get_gather (s : State) (b : Bool) (r : List Byte) (k : Nat) : (s.gather b r).get k = s.get k :=
  State.get_congr (by simp) k

@[simp] theorem State.get_gatherRoutes (s : State) (e : Nat) (r : List Byte) (k : Nat) : (s.gatherRoutes e r).get k = s.get k :=
  State.get_congr (by simp) k

theorem State.get_traceAdd (s : State) (c o : Nat) (x : List Byte) {k : Nat} (h : k ≠ Obj.TRACE_DROPS) :
    (s.traceAdd c o x).2.get k = s.get k := by
  unfold State.traceAdd
  split
  · split
    · rfl
    · exact State.get_count_other s h
  · rfl

/-- Sending a trace record counts at most in the objects of sendKeys. -/
theorem State.get_traceSend (s : State) (c o : Nat) (x : List Byte) {k : Nat} (h : k ∉ sendKeys) :
    (s.traceSend c o x).get k = s.get k := by
  have ht : k ≠ Obj.TRACE_DROPS := by rintro rfl; exact h (by simp [sendKeys])
  unfold State.traceSend
  dsimp only
  split <;> simp [State.get_traceAdd _ _ _ _ ht]

/-- Sending a record to its routes counts at most in the objects of sendKeys. -/
theorem State.get_routeEvent (s : State) (r : RaisedEvent) {k : Nat} (h : k ∉ sendKeys) : (s.routeEvent r).get k = s.get k := by
  have hi : k ≠ Obj.IBI_DROPS := by rintro rfl; exact h (by simp [sendKeys])
  unfold State.routeEvent
  dsimp only
  split <;> split <;> simp [State.get_traceSend _ _ _ _ h, State.get_ibiAdd _ _ hi]

@[simp] theorem State.get_noteEvent (s : State) (r : RaisedEvent) (k : Nat) :
    (s.noteEvent r).get k = (s.count (eventCountKey r.event)).get k := State.get_congr rfl k

@[simp] theorem State.get_setPending (s : State) (e k : Nat) : (s.setPending e).get k = s.get k := rfl

/-- The handling of event e, outside the objects of sendKeys, is one more in the event's counter. -/
theorem State.get_handleEvent (s : State) (r : RaisedEvent) {k : Nat} (h : k ∉ sendKeys) :
    (s.handleEvent r).get k = (s.count (eventCountKey r.event)).get k := by
  unfold State.handleEvent
  dsimp only
  split
  · rw [State.get_routeEvent _ _ h]; simp
  · simp

/-- The counter of an event is none of the objects that sending counts in. -/
theorem eventCountKey_not_sent {e : Nat} (h : e < 512) : eventCountKey e ∉ sendKeys := by
  simp only [sendKeys, List.mem_cons, List.not_mem_nil, or_false, not_or, eventCountKey, Obj.EVENT_COUNT, Obj.EVENT_COUNT_HI,
    Obj.IBI_DROPS, Obj.TRACE_DROPS]
  split <;> omega

/-- The handling of an event counts it once. -/
theorem State.handleEvent_counts (s : State) (r : RaisedEvent) (h : r.event < 512) :
    (s.handleEvent r).get (eventCountKey r.event) = satAdd 0xFFFFFFFF (s.get (eventCountKey r.event)) 1 := by
  rw [State.get_handleEvent _ _ (eventCountKey_not_sent h), State.get_count_same]

/-- The counters of two events differ. -/
theorem eventCountKey_inj {e f : Nat} (h : e < 512) (hf : f < 512) (hn : e ≠ f) : eventCountKey e ≠ eventCountKey f := by
  simp only [eventCountKey, Obj.EVENT_COUNT, Obj.EVENT_COUNT_HI]
  split <;> split <;> omega

/-- The handling of another event leaves the counter of an event. -/
theorem State.handleEvent_counts_other (s : State) (r : RaisedEvent) {f : Nat} (he : r.event < 512) (h : f < 512) (hn : f ≠ r.event) :
    (s.handleEvent r).get (eventCountKey f) = s.get (eventCountKey f) := by
  rw [State.get_handleEvent _ _ (eventCountKey_not_sent h), State.get_count_other _ (eventCountKey_inj h he hn)]

/-- The event's own counter is an object of reports. -/
theorem reportKey_eventCountKey {e : Nat} (h : e < 512) : reportKey (eventCountKey e) = true := by
  simp only [reportKey, eventCountKey, Obj.EVENT_COUNT, Obj.EVENT_COUNT_HI, Bool.or_eq_true, beq_iff_eq]
  split <;> omega

/-- What sending counts in are objects of reports. -/
theorem reportKey_of_sendKeys {k : Nat} (h : k ∈ sendKeys) : reportKey k = true := by
  simp only [sendKeys, List.mem_cons, List.not_mem_nil, or_false] at h
  rcases h with rfl | rfl | rfl | rfl | rfl | rfl <;> decide

/-- The handling of an event leaves every object but those that reports count in. -/
theorem State.handleEvent_onlyKeys (s : State) (r : RaisedEvent) (h : r.event < 512) : onlyKeys reportKey s (s.handleEvent r) := by
  intro k hk
  have h1 : k ∉ sendKeys := fun hm => by simp [reportKey_of_sendKeys hm] at hk
  have h2 : k ≠ eventCountKey r.event := by rintro rfl; simp [reportKey_eventCountKey h] at hk
  rw [State.get_handleEvent _ _ h1, State.get_count_other _ h2]

@[simp] theorem State.get_raiseLimited (s : State) (e o p k : Nat) : (s.raiseLimited e o p).get k = s.get k := by
  unfold State.raiseLimited
  split <;> rfl

/-- A raise changes the event matrix only. -/
theorem State.raise_onlyParts (s : State) (e p : Nat) : onlyParts [.ev] s (s.raise e p) := by
  intro q hq
  cases q <;> simp_all [Part.same]

/-- The handling of an event changes no part but those of its routes. -/
theorem State.handleEvent_onlyParts (s : State) (r : RaisedEvent) : onlyParts handling s (s.handleEvent r) := by
  intro q hq
  cases q <;> simp_all [Part.same, handling]

/-- The parts that change add up along two updates. -/
theorem onlyParts_trans {ps qs : List Part} {s t u : State} (h : onlyParts ps s t) (g : onlyParts qs t u) :
    onlyParts (ps ++ qs) s u := by
  intro p hp
  simp only [List.mem_append, not_or] at hp
  have h1 := h p hp.1
  have h2 := g p hp.2
  cases p <;> simp_all [Part.same]

/-- A larger list of parts allows more. -/
theorem onlyParts_mono {ps qs : List Part} {s t : State} (h : onlyParts ps s t) (hq : ∀ p ∈ ps, p ∈ qs) : onlyParts qs s t :=
  fun p hp => h p (fun hm => hp (hq p hm))

/-- A state agrees with itself. -/
theorem onlyParts_refl (ps : List Part) (s : State) : onlyParts ps s s := by
  intro p _
  cases p <;> rfl

end Sys2Proof.Machine
end

