-- ==== Sys2Proof/Tests/Slice0.lean ====
section
/-! SUPPORT. The model's own tests: ill-formed commands that the checks refuse, the manual's worked examples, and for every
statement that has hypotheses a state and operands that meet them, one for each of its clauses. -/


namespace Sys2Proof.Tests


open Sys2Proof Sys2Proof.Machine Sys2Proof.Safety

set_option Elab.async false

/-- A device that runs, long after reset. -/
def on : State := { State.reset with now := 10 ^ 16, reset_ := { State.reset.reset_ with phase := .running } }

/-- The same with some registers set. -/
def onReg (l : List (Nat × Int)) : State := l.foldl (fun s e => s.set e.1 e.2) on

/-- A released device in its boot ROM. -/
def romState : State := { on with reset_ := { on.reset_ with phase := .rom } }

/-- The same with a dynamic address on I3C. -/
def i3c9 : State := onReg [(Obj.I3C_DYN_ADDR, 9)]

/-- The dictionary's row of an object. -/
def descAt (k : Nat) : ObjDesc := (dictFind (k / 256) (k % 256)).getD ⟨0, 0, 0, .u8, .ro, false, 0, 0, 0, [], [], ""⟩

/-- A take of group 0 that fired long ago. -/
def take0 : Take := on.takeRecord ⟨0, 0, 0, false, 0, 0, 0, 0⟩ 0 0 0

/-- A running sequencer whose only cue, at position 0, is crossed: the axis stands at 0 in LOCKED. -/
def crossing : State :=
  { (onReg [(Obj.AXIS_MODE, 1)]).setAxis 0 { on.axis 0 with st := .locked, core := { (on.axis 0).core with n := 1, vDen := 1 } } with
    seq := { on.seq with state := .running, active := [⟨0, 0, 0, false, 0, 0, 0, 0⟩], lookAt := some 0 } }

/-- A running sequencer in a turnaround, with zone 0 due for a diagnostic pulse and the next cue far away. -/
def diagTurn : State :=
  let s := onReg [(Obj.AXIS_MODE, 1), (Obj.FACETS, 16), (Obj.TURN_SPAN, 2 ^ 32 - 1), (Obj.DIAG_PER_TURN, 1)]
  { (s.setAxis 0 { on.axis 0 with st := .locked, core := { (on.axis 0).core with n := 1, vNum := 1, vDen := 1, tSum := 10 ^ 30 } }) with
    blk := tabPut blkDflt on.blk Obj.ACC_LIMITS (List.replicate 16 (fill 8 0 ++ fill 32 0xFF)).flatten
    seq := { on.seq with state := .running, active := [⟨0, 0, 0, false, 0, 0, 0, 0⟩], lookAt := some 0, turnAt := some 5 }
    safety := { on.safety with state := .armed }
    emit := { on.emit with zones := [(0, { ZoneDiag.init with due := true })] } }

/-- A safety island whose conditions for ARMING all hold. -/
def armable : State :=
  { onReg [(Obj.SEAL_STATE, 1), (Obj.SCAN_REQUIRED, 0)] with
    safety := { on.safety with
      state := .inhibited, holdDone := true, auditMet := true, req := { SafePair.init with on := true }
      ilk := { SafePair.init with on := true } } }

/-- The first take of a reel set. -/
def first0 : FirstTake := ⟨0, 0, 0, 0, 0, 0, 0, 0, 0, 0, false, false⟩

/-- An open reel set of group 0 with the default gear table. -/
def set0 : ReelSet := ⟨1, 0, 0, 1, 1, true, false, false, false, false, false, false, first0, false, [], [], [], 0, 0, gearDefault, 0, 0, 0, 0⟩

/-- A TDC run of channel 0, and a repeat with even taps and phases. -/
def run0 : CalRun := ⟨1, 0, 0, 0, List.replicate 18 0, false, [], false, [], [], []⟩
def flat0 : CalMeasure := ⟨List.replicate 64 16384, List.replicate 8 131072, [], [], 0⟩

/-- A descriptor of channel 0. -/
def desc0 : Descriptor := ⟨0, 0, 0, 1, 0, 0, 0, 0, 0, first0, 0, 0, 0, [], [], [], false, gearDefault, [], 0, 0⟩

/-- A hit of channel 0 in set 1. -/
def hit0 : Hit := ⟨0, 0, 1, 0, 0, 0, 1000, 5, false, false, false, false⟩

/-- Words that the clearing, not yet begun, has not come to. -/
theorem notYetClear (s : State) (g : List Byte) (a : Addition) (hn : (s.reel a.ch a.buf).notClear = true)
    (h : (binOf g a.time).isSome = true ∧ s.now < (s.reel a.ch a.buf).clearAt) : s.wordsClear g [a] = false := by
  obtain ⟨p, hp⟩ := Option.isSome_iff_exists.1 h.1
  have hc : ¬ (s.reel a.ch a.buf).clearAt + Config.wordClear (s.reel a.ch a.buf).clearAt a.ch a.buf (p.1 / 2) ≤ s.now :=
    Nat.not_le.2 (Nat.lt_of_lt_of_le h.2 (Nat.le_add_right _ _))
  simp [State.wordsClear, hn, hp, hc]

/-- A spoke of group 0. -/
def spoke0 : Spoke := ⟨1, 0, 0, 0, first0, [], none, none, false, false, false, false, ⟨[], [], 0, false, 0, 0, 0, 1, 1⟩⟩

/-- A device whose two Ethernet links are up with PTP on both. -/
def ptpUp : State :=
  onReg [(Obj.GPTP_PORTS, 3), (Obj.GPTP_DOMAIN, 0), (Obj.PORT_ENABLE, 1), (Obj.PORT_ENABLE + 1, 1), (Obj.LINK_STATE, 1), (Obj.LINK_STATE + 1, 1),
    (Obj.LANE_MODE + 4, 1), (Obj.LANE_MODE + 5, 1)]

/-- A sorted list of something is not empty. -/
theorem sortBy_cons {α : Type} (le : α → α → Bool) {l : List α} {a : α} (h : a ∈ l) : ∃ x xs, sortBy le l = x :: xs := by
  cases l with
  | nil => cases h
  | cons b bs =>
    show ∃ x xs, insertBy le b (sortBy le bs) = x :: xs
    cases sortBy le bs with
    | nil => exact ⟨_, _, rfl⟩
    | cons c cs =>
      unfold insertBy
      split <;> exact ⟨_, _, rfl⟩

/-- A unit that is due can be chosen. -/
theorem choices_cons (s : State) (h : natBit (s.getN (calKey 0)) (dueBit 1) && !s.unitHeld 0 && !s.failedLately 0) :
    ∃ x xs, s.onlineChoices = x :: xs :=
  sortBy_cons _ (a := (0, 1)) (List.mem_filter.2 ⟨List.mem_flatMap.2 ⟨0, List.mem_range.2 (by decide), by simp⟩, h⟩)

/-- What succeeded has a value. -/
theorem ok_exists {α : Type} {x : Except Nat α} (h : x.toBool = true) : ∃ a, x = .ok a := by
  cases x with
  | error e => cases h
  | ok a => exact ⟨a, rfl⟩

/-- A Farlu frame with its check sums (R720). -/
def farlu (t : Nat) (p : List Byte) : LaneFrame :=
  let h := beBytes 1 t ++ [0, 0, 0] ++ beBytes 3 p.length
  let bytes := padBlocks (h ++ [crc8 h] ++ p ++ beBytes 4 (crc32 p))
  ⟨fillBlock :: dataBlocks bytes.1.length bytes.1 ++ [fillBlock, endBlock false bytes.2]⟩

/-- A running SOLO device with a take of zone 31 whose pulse is expected now. -/
def edgeState : State :=
  { onReg [(Obj.TDC_LOCK + 16, 1), (Obj.TDC_LOCK + 17, 1)] with
    pair := { on.pair with role := .solo }
    seq := { on.seq with takes := [{ take0 with issued := true, start := none, zone := 31, trig := 64 * (10 ^ 16 + 1) }] } }

/-- A public key, and a header whose SHA-256 is the x coordinate of that key's sum with the base point, so that the signature
(e, e) verifies. -/
def fwKeyBytes : List Byte :=
  beBytes 32 0xa5cbfb80bc171d8a68d35d97ddf6d8ab12ec326bbc88a11e5a24cd3975911e3e ++
    beBytes 32 0xd7c31482cb8f2894a0cc7b84caf9da89f666d2ac01dad7d52c2f8d8c30cdb8e2

/-- A device in its boot ROM whose image B is bootable. -/
def bootState : State :=
  let e := beBytes 32 0x18ed2e87c4ce106ff12923cc6fac245256484243737c24ca40fe868bcd698943
  { on with
    reset_ := { on.reset_ with phase := .rom, sramWiped := true, straps := { on.reset_.straps with bootSel := false } }
    otp := { on.otp with keys := [(0, ⟨some (sha256 fwKeyBytes), false⟩)], minSvn := 1 }
    nvm := { on.nvm with imageB := ⟨some 0, [0x4B, 0x5A, 0x46, 0x57, 0, 1, 0, 0, 0, 0, 0, 0] ++ fwKeyBytes ++ e ++ e⟩ } }

/-- A device with a working reference that is not sealed and with high limits. -/
def unsealed : State :=
  { onReg [(Obj.SEAL_STATE, 1)] with blk := tabPut blkDflt on.blk Obj.ACC_LIMITS (List.replicate 16 (fill 40 0xFF)).flatten }

/-- The same whose two audit engines have both finished on equal copies, with the sealed set intact. -/
def auditing : State :=
  { unsealed with safety := { on.safety with ae0Busy := true, ae1Busy := true, sealRef := unsealed.sealImageCrc } }

/-- The image of the sealed set does not rest on the safety island. -/
theorem sealImageCrc_safety (s : State) (x : SafetyIsland) : State.sealImageCrc { s with safety := x } = s.sealImageCrc := rfl

theorem auditing_intact : auditing.sealIntact = true := by
  have h : auditing.get Obj.SEAL_STATE = 1 := by decide +kernel
  unfold State.sealIntact
  rw [h, if_neg (by decide)]
  exact beq_iff_eq.2 (sealImageCrc_safety unsealed _)


/-! ### Well-formedness: each check refuses an ill-formed term -/

/-- A request header that fits. -/
def hdr0 : KoaHdr := ⟨0, 0, 0, 0, 0, 0⟩

/-- The requester on I3C. -/
def req0 : Requester := ⟨.i3c, 0, 0⟩

theorem test_wf_header :
    (Instr.koaRead req0 hdr0 []).wf = true ∧
    [{ hdr0 with ver := 8 }, { hdr0 with tag := 256 }, { hdr0 with index := 65536 }, { hdr0 with sub := 256 }, { hdr0 with flags := 256 },
      { hdr0 with len := 65536 }].all (fun h => !(Instr.koaRead req0 h []).wf) = true := by decide

theorem test_wf_scalars :
    (Instr.storeAll req0 256 0).wf = false ∧ (Instr.storeAll req0 0 (2 ^ 64)).wf = false ∧
    (Instr.segmentExpired req0 (2 ^ 24)).wf = false ∧ (Instr.jobRetentionExpiry 0).wf = false ∧ (Instr.jobRetentionExpiry 17).wf = false ∧
    (Instr.gearTableWrite req0 0 4 []).wf = false ∧ (Instr.liveWindowRead 65536).wf = false := by decide

theorem test_wf_measures :
    (Instr.calRepeatDone 0 ⟨[], List.replicate 8 0, [], [], 0⟩).wf = false ∧
    (Instr.calRepeatDone 0 ⟨List.replicate 64 0, [], [], [], 0⟩).wf = false ∧
    (Instr.calRepeatDone 0 ⟨List.replicate 64 0, 1 :: List.replicate 7 0, [], [], 0⟩).wf = false ∧
    (Instr.calRepeatDone 0 ⟨(2 ^ 20 + 1) :: List.replicate 63 0, (2 ^ 20 + 1) :: List.replicate 7 0, [], [], 0⟩).wf = false ∧
    (Instr.calRepeatDone 0 ⟨List.replicate 64 0, List.replicate 8 0, List.replicate 8 0, [], 0⟩).wf = false ∧
    (Instr.calRepeatDone 0 ⟨List.replicate 64 0, List.replicate 8 0, [], [2 ^ 14 + 1], 0⟩).wf = false ∧
    (Instr.captureComplete ⟨[1024], [], [], [], false⟩).wf = false ∧ (Instr.chainFrameShiftDone [2 ^ 32]).wf = false := by decide

theorem test_wf_messages :
    (Instr.gptpSyncReceive 0 ⟨256, 0, 0, false, 0, 0, 0⟩).wf = false ∧ (Instr.gptpFollowUpReceive 0 ⟨0, 2 ^ 64, 0, 0, 0⟩).wf = false ∧
    (Instr.gptpPdelayReqReceive 0 ⟨2, 0, 0, 1, 65536, 0, 0⟩).wf = false ∧ (Instr.gptpPdelayReqReceive 0 ⟨16, 0, 0, 1, 0, 0, 0⟩).wf = false ∧
    (Instr.gptpPdelayReqReceive 0 ⟨2, 0, 0, 65536, 0, 0, 0⟩).wf = false ∧ (Instr.gptpPdelayRespReceive 0 ⟨256, 0, .oneStep, 0, 0⟩).wf = false ∧
    (Instr.gptpAnnounceReceive 0 ⟨0, 0, ⟨0, 0, 0, 0, 0, 2 ^ 64, 0⟩⟩).wf = false ∧
    (Instr.gptpSignalingReceive 0 ⟨0, 128, 0, 0⟩).wf = false := by decide

theorem test_wf_frames :
    (Instr.ethFrameReceive 0 ⟨64, true, 2 ^ 48, [], .other⟩).wf = false ∧ (Instr.ethFrameReceive 0 ⟨64, true, 0, [4096], .other⟩).wf = false ∧
    (Instr.ethFrameReceive 0 ⟨64, true, 0, [], .ip ⟨0, 0, false, true, .udp 65536 0 []⟩⟩).wf = false ∧
    (Instr.canFrameReceive ⟨.classic, true, 2048, 0, 0, []⟩).wf = false ∧
    (Instr.canFrameReceive ⟨.classic, true, 0, 0, 0, List.replicate 9 0⟩).wf = false ∧
    (Instr.laneBlockReceive 0 ⟨1#2, [], 0⟩).wf = false ∧ (Instr.laneBlockReceive 0 ⟨1#2, List.replicate 9 0, 0⟩).wf = false ∧
    (Instr.alignReceive 0 ⟨256, 0, []⟩).wf = false ∧ (Instr.statusReceive 0 ⟨0, 256, 0, 0⟩).wf = false ∧
    (Instr.klpFrameReceive 0 ⟨[⟨1#2, []⟩]⟩).wf = false ∧
    (Instr.ddrScrubRead 0 (.corrected 256) .other false).wf = false := by decide

/-! ### Words -/

/-- No row of the table gives bits. -/
theorem test_no_word_spells_a_command : decodeTableWord 32 0 = none ∧ State.reset.withFetchWord 32 0 = State.reset := ⟨rfl, rfl⟩


/-! ### Worked examples of the manual -/

/-- R132's example: four edges, one 250 ps late, in 1/1,024 ns and tu. -/
def lateGate : List GateEdge := [⟨0, 0⟩, ⟨3200000, 262144⟩, ⟨6400256, 524288⟩, ⟨9600000, 786432⟩]

/-- Its numerator is 4,096,032,768 ns tu, here times the 4 edges and 1,024 units a ns; its denominator is 48,828,906 ns² and a part. -/
theorem test_gate_slope_example :
    (gateSlope lateGate).1 = 4 * 1024 * 4096032768 ∧ (gateSlope lateGate).2 / (4 * 1024 * 1024) = 48828906 := by decide +kernel

/-- The 100 ms gate of R166's example, to 1 mHz. -/
theorem test_frequency_example :
    ((({ EvInput.init with edges := 2401, first := 0, latest := 1024 * 99979167 } : EvInput).frequency + 500000) / 1000000) = 24005 := by
  decide +kernel

/-- R215's example: u = 0xB36A under the mask of codes 0 to 11 and DITHER_MAX 100 ns. -/
theorem test_hop_example :
    (let s := onReg [(Obj.HOP_MASK + 1, 0xFFF), (Obj.DITHER_MAX + 1, 100)]
     s.selectCode ⟨0, 0, 1, true, 0, 0, 0, 0⟩ 0xB36A = 10 ∧ s.dither 1 0xB36A = 70) := by decide +kernel

/-- R368's example, with the channel's table and with the ideal one. -/
theorem test_hit_example :
    hitD (1024 * 5974 - 581) (1024 * 5000 - 347) 12 = 62333 ∧ hitD (1024 * 5974 - 600) (1024 * 5000 - 328) 12 = 62331 := by
  decide +kernel

/-- R407's example: words 973 and 974 of channel 37. -/
theorem test_bank_example : bankOf 37 1947 = 6 ∧ bankOf 37 1948 = 7 := by decide +kernel

/-- The centroid example: bins and residuals of its hits, the edge of the bin among them. -/
theorem test_bin_example :
    [62331, 62336, 62338, 62340].map (binOf gearDefault) = [some (1947, 27), some (1947, 32), some (1948, 2), some (1948, 4)] := by
  decide +kernel

/-- R434's example. -/
theorem test_background_example :
    (let st := { set0 with windows := List.replicate 16 2048, trackHalf := 128, skyGate := 100 }
     let c : Candidate := ⟨0, 0, 0, 0, 20, 0, 0⟩
     let r := { Reel.clear_ with slots := [some c, some c, some c, some c], hits := 120, sky := 2 }
     bgOf st r = 123 ∧ sunOf st r = 125) := by decide +kernel

/-- R439's example with cosθ = −1, which Q1.15 holds exactly: 25 m/s, 51.2 ms and 358.4 ms. -/
theorem test_shift_example :
    (let s := { onReg [(Obj.EGO_SPEED, 2500)] with blk := tabPut blkDflt on.blk Obj.MREV_COS [0x80, 0x00] }
     let now : FirstTake := { first0 with ns := 400000000 }
     let e (ns : Nat) : MrevEntry := ⟨0, 0, 0, { first0 with ns := ns }, [], [], false⟩
     s.mrevShift { desc0 with first := now } (e (400000000 - 51200000)) = 547 ∧
       s.mrevShift { desc0 with first := now } (e (400000000 - 358400000)) = 3826) := by decide +kernel

/-- The circular buffers of R472's example, first with CL0 32, then with 20. -/
def ring (cl p0 p4 : Nat) : Engine :=
  { Engine.init with
    cb := tabPut (fun _ => 0) [] 0 0x100, cl := tabPut (fun _ => 0) [] 0 cl, pmode := 0x11
    issue := 100, p := [(0, { PipeReg.zero with base := p0 }), (4, { PipeReg.zero with base := p4 })] }

theorem test_ring_example :
    (ring 32 0x11E 0x118).postModify 0 2 = 0x100 ∧ (ring 20 0x100 0x118).postModify 4 2 = 0x106 ∧
      (ring 20 0x100 0x118).postModify 0 (-2) = 0x112 := by decide +kernel

/-- R476's example: the 513th addition of 0x7FFF × 0x7FFF clamps. -/
theorem test_clamp_example :
    accValue true (512 * 1073676289) = 549722259968 ∧ accValue true (513 * 1073676289) = 0x7FFFFFFFFF := by decide +kernel

/-- R540's example. -/
theorem test_range_example :
    (let s := { onReg [(Obj.ROFF + 37, 1600)] with cal := { on.cal with walk := [(37, List.replicate 16 64)] } }
     let c : Candidate := ⟨0, 0, 0, 8, 8, 8 * 266, 0⟩
     s.exactRange { desc0 with ch := 37 } ⟨c, 8, 0, 498679 / 8, 0⟩ = 583011) := by decide +kernel

/-- R555's example: identity EXTRINSICS with T = (1.5, 0, 1.8) m, EL −2°, p_A 90°. -/
def exampleView : SpokeSettings :=
  ⟨beBytes 4 0x40000000 ++ fill 12 0 ++ beBytes 4 0x40000000 ++ fill 12 0 ++ beBytes 4 0x40000000 ++ beBytes 4 1500000 ++ fill 4 0 ++
    beBytes 4 1800000, fill 4 0 ++ beBytes 4 (2 ^ 32 - 23860929), 0, false, 0, 0, 0, 1, 1⟩

theorem test_vehicle_example :
    (let s := onReg [(Obj.AXIS_MODE, 1)]
     let u := s.direction exampleView ⟨0, 0, { first0 with posA := 0x40000000 }⟩
     [0, 1, 2].map (fun i => divRound (vehicleNum exampleView 583011 u i) vehicleDen) = [1500, 145664, -3287]) := by decide +kernel

/-- R597's example: 20 taps of 694,272 hits in all, then one of 32,768. -/
theorem test_tap_table_example :
    (tdcTable (694272 :: List.replicate 19 0 ++ 32768 :: List.replicate 42 31000 ++ [2097152 - 694272 - 32768 - 42 * 31000])).getD 20 0 =
      347 := by decide +kernel

/-- R602's example: ROFF 112.25 LSB; WALK at tot 256 3.833, at 1,024 0, at 128 4.5 LSB, in 1/16 LSB. -/
theorem test_walk_example :
    (let p (step : Nat) (tot e : Rat) : CalTally := ⟨112, step, 2, 2, 2 * e, 2 * tot⟩
     let ps := [p 0 192 (467 / 4), p 1 384 (459 / 4), p 2 960 (449 / 4)]
     sixteenths (-65536) 65535 (sweepRoff 0 ps) = 1796 ∧
       [2, 8, 1].map (fun k => sixteenths (-32768) 32767 ((sweepWalk 0 ps).getD k 0)) = [61, 0, 72]) := by decide +kernel

/-- R599: of comparators high below a setting of 5 mV and of −63 mV the search finds those settings; one always high is unbracketed. -/
theorem test_threshold_search :
    searchOffset [16384, 0, 0, 0, 16384, 0, 16384] = 5 ∧ searchOffset [0, 0, 0, 0, 0, 0, 16384] = -63 ∧
    unbracketed (searchOffset (List.replicate 7 16384)) = true ∧ unbracketed (searchOffset (List.replicate 7 0)) = true := by decide +kernel

/-- R611: a bank that holds an image with its commit record is valid with that SEQ; one byte changed, or only erased, it is not. -/
theorem test_bank_valid :
    (let d : List Byte := [1, 2, 3]
     let head : List Byte := beBytes 4 7 ++ beBytes 4 3 ++ beBytes 4 (crc32 d) ++ List.replicate 16 0
     let c := head ++ beBytes 4 (crc32 head)
     (CalBank.mk d c).seq? = some 7 ∧ (CalBank.mk [1, 2, 4] c).seq? = none ∧ CalBank.erased.seq? = none ∧
       CalBank.erased.empty = true ∧ (CalBank.mk d []).ignored = true) := by decide +kernel

/-- R640's example. -/
theorem test_platinum_example : cvdTemp 1328033 1000000 = some 85000 := by decide +kernel

/-- R669's example: an hour at 0x00FFFFCA. -/
theorem test_ageing_example : learnedAgeing (0x00FFFFCA * hour) hour = 3219 := by decide +kernel

/-- A speed message of 25.00 m/s with the CRC-8 of R263 (log entry 66). -/
theorem test_speed_example :
    ({ on with time := { on.time with egoCounter := some 0x1B } } : State).egoValid [0x09, 0xC4, 0x2A, 0x55] = true := by decide +kernel

/-- FIPS 180-4's message "abc" (log entry 60). -/
theorem test_sha256_abc :
    sha256 [0x61, 0x62, 0x63] = beBytes 32 0xBA7816BF8F01CFEA414140DE5DAE2223B00361A396177A9CB410FF61F20015AD := by decide +kernel


/-! ### Hypotheses that something meets -/

theorem wit_StepRunsTheFrontCommand :
    ∃ (c : Instr) (rest : List Instr) (s : State), s.pending = c :: rest :=
  ⟨.eventRead, [], (on.enqueueFront .eventRead), rfl⟩

theorem wit_EmptyQueueIsOneCycle :
    (∃ (s : State), s.pending = [] ∧ s.net.held = [] ∧ s.reset_.phase ≠ .held) ∧
    (∃ (s : State), s.pending = [] ∧ s.net.held = [] ∧ s.reset_.phase = .held) ∧
    (∃ (s : State) (p : Fin 2) (f : EgressFrame), s.pending = [] ∧ s.net.held = [] ∧ s.portUp p = true ∧ s.wireIdle p = true ∧
      f ∈ s.waitingFrames p) ∧
    (∃ (s : State) (p : Fin 2) (f : EgressFrame), s.pending = [] ∧ s.net.held = [] ∧ s.portUp p = true ∧ s.wireIdle p = false ∧
      f ∈ s.waitingFrames p) :=
  ⟨⟨on, by decide +kernel⟩, ⟨State.reset, by decide +kernel⟩, ⟨ptpUp.sendPtp 1 [0x10], 1, ⟨1, 0, ⟨.e1, .gptp, 0x0180C200000E, 0, [0x10], noHead⟩⟩,
    by decide +kernel⟩, ⟨{ ptpUp.sendPtp 1 [0x10] with now := 0, net := { (ptpUp.sendPtp 1 [0x10]).net with wire := [(1, 5)] } }, 1,
    ⟨1, 0, ⟨.e1, .gptp, 0x0180C200000E, 0, [0x10], noHead⟩⟩, by decide +kernel⟩⟩

/-- R680: of what waits for a port the gPTP event message begins first, and then the SAFE_STATUS message before the KOA response. -/
theorem test_egress_priority :
    let f : SentKind → Sent := fun k => ⟨.e1, k, 0, 0, [], noHead⟩
    let s := ((ptpUp.transmit 1 (f .koaResponse)).transmit 1 (f .safeStatus)).sendPtp 1 [0x10]
    (s.nextFrame 1).map (·.msg.kind) = some .gptp ∧ ((s.servePort 1).nextFrame 1).map (·.msg.kind) = some .safeStatus := by decide +kernel

/-- A UDP checksum by hand: an empty datagram from 10.0.0.1, port 1, to 10.0.0.2, port 2. The sum of the words does not carry. -/
theorem test_udp_checksum : udpChecksum 0xFFFF0A000001 0xFFFF0A000002 1 2 [] = 0xFFFF - (0x0A00 + 1 + 0x0A00 + 2 + 17 + 8 + 1 + 2 + 8) := by
  decide +kernel

theorem wit_CommandsKeepQueueAndClock :
    ∃ (c : Instr) (s : State) (t : State), exec c s = Host.Outcome.next t :=
  ⟨.supplyPowerOn, on, _, rfl⟩

theorem wit_StepKeepsTheStoreCanonical :
    ∃ (s : State) (t : State), storeWf s = true ∧ step s = Host.Outcome.next t :=
  ⟨State.reset, _, ⟨by decide +kernel, rfl⟩⟩

theorem wit_RaisedEventIsCountedAndRouted :
    (∃ (e : Nat), e < 384) ∧
    (∃ (s : State) (e : Nat), e < 384 ∧ s.eventEnabled e = true) ∧
    (∃ (s : State) (e : Nat), e < 384 ∧ s.eventEnabled e = false) := by
  refine ⟨?_, ?_, ?_⟩
  · exact ⟨0x061, by decide +kernel⟩
  · exact ⟨{ on with blk := tabPut blkDflt on.blk Obj.EVENT_MASK (fill 48 0xFF) }, 0, by decide +kernel⟩
  · exact ⟨{ on with blk := tabPut blkDflt on.blk Obj.EVENT_MASK (fill 48 0) }, 383, by decide +kernel⟩

theorem wit_ReportingChangesOnlyReports :
    ∃ (e : Nat) (r : RaisedEvent), e < 384 ∧ r.event < 384 :=
  ⟨383, ⟨0, 0, false, 0, 0⟩, by decide +kernel⟩

theorem wit_DiscardedPdusAreOnlyCounted :
    ∃ (s : State) (req : Requester) (pdu : List Byte), s.bearerOpen req.bearer = true ∧ (pdu.length < 8 ∨ natBit (beAt pdu 0 1) 7 = true) :=
  ⟨i3c9, i3cReq, [0x81, 0, 0, 0, 0, 0, 0, 0], by decide +kernel⟩

theorem wit_FirstStatusInOrder :
    (∃ (l : List Status), (∀ (x : Status), x ∈ l → x ∈ [Status.badVersion, Status.malformed, Status.badOpcode, Status.noObject, Status.noSubindex, Status.notBlock, Status.readOnly, Status.sealed, Status.lifecycle, Status.length, Status.tooLarge, Status.key, Status.outOfRange, Status.mismatch, Status.inUse, Status.sequence, Status.expired, Status.noResource, Status.state, Status.busy]) ∧
      l ≠ []) ∧
    (∃ (l : List Status) (x : Status), (∀ (x : Status), x ∈ l → x ∈ [Status.badVersion, Status.malformed, Status.badOpcode, Status.noObject, Status.noSubindex, Status.notBlock, Status.readOnly, Status.sealed, Status.lifecycle, Status.length, Status.tooLarge, Status.key, Status.outOfRange, Status.mismatch, Status.inUse, Status.sequence, Status.expired, Status.noResource, Status.state, Status.busy]) ∧
      l ≠ [] ∧ x ∈ l) := by
  refine ⟨?_, ?_⟩
  · exact ⟨[.state, .length], by decide +kernel⟩
  · exact ⟨[.state, .length], .length, by decide +kernel⟩

theorem wit_RequestsAreReadFromTheirBytes :
    ∃ (op : Nat) (h : KoaHdr) (payload : List Byte), op < 16 ∧ goodHeader h payload :=
  ⟨15, ⟨1, 255, 65535, 255, 1, 2⟩, [1, 2], by unfold goodHeader; decide +kernel⟩

theorem wit_KoaOperationsAreExecuted :
    (∃ (s : State) (req : Requester) (h : KoaHdr) (p : List Byte) (d : ObjDesc), goodHeader h p ∧ takes s req (pduOf 1 h p) ∧ p = [] ∧
      s.objectAt h.index h.sub = some d ∧ (d.isBlk = true → d.access ≠ .wo → d.lo.toNat ≤ s.maxPayload req.bearer) ∧
      (s.readForm d (h.index * 256 + h.sub)).length ≤ s.maxPayload req.bearer) ∧
    (∃ (s : State) (req : Requester) (h : KoaHdr) (p : List Byte) (d : ObjDesc), goodHeader h p ∧ takes s req (pduOf 2 h p) ∧
      s.objectAt h.index h.sub = some d ∧ s.writeStatus (s.maxPayload req.bearer) d (h.index * 256 + h.sub) p = Status.ok) ∧
    (∃ (s : State) (req : Requester) (h : KoaHdr) (p : List Byte), goodHeader h p ∧ takes s req (pduOf 3 h p)) ∧
    (∃ (s : State) (req : Requester) (h : KoaHdr) (p : List Byte), goodHeader h p ∧ takes s req (pduOf 4 h p)) ∧
    (∃ (s : State) (req : Requester) (h : KoaHdr) (p : List Byte) (d : ObjDesc), goodHeader h p ∧ takes s req (pduOf 5 h p) ∧
      s.objectAt h.index h.sub = some d) ∧
    (∃ (s : State) (req : Requester) (h : KoaHdr) (p : List Byte) (d : ObjDesc), goodHeader h p ∧ takes s req (pduOf 6 h p) ∧
      s.objectAt h.index h.sub = some d) ∧
    (∃ (s : State) (req : Requester) (h : KoaHdr) (p : List Byte) (d : ObjDesc), goodHeader h p ∧ takes s req (pduOf 7 h p) ∧
      s.objectAt h.index h.sub = some d) ∧
    (∃ (s : State) (req : Requester) (h : KoaHdr) (p : List Byte) (d : ObjDesc), goodHeader h p ∧ takes s req (pduOf 8 h p) ∧ p = [] ∧
      s.objectAt h.index h.sub = some d) ∧
    (∃ (s : State) (req : Requester) (h : KoaHdr) (p : List Byte), goodHeader h p ∧ takes s req (pduOf 9 h p) ∧ p = []) ∧
    (∃ (s : State) (req : Requester) (h : KoaHdr) (p : List Byte) (op : Fin 16), goodHeader h p ∧ (op.val = 0 ∨ 10 ≤ op.val) ∧
      takes s req (pduOf (op.val) h p)) := by
  refine ⟨?_, ?_, ?_, ?_, ?_, ?_, ?_, ?_, ?_, ?_⟩
  · exact ⟨i3c9, i3cReq, ⟨1, 5, Obj.EGO_SOURCE / 256, Obj.EGO_SOURCE % 256, 0, 0⟩, [], (descAt Obj.EGO_SOURCE), by unfold takes goodHeader; decide +kernel⟩
  · exact ⟨i3c9, i3cReq, ⟨1, 5, Obj.EGO_SOURCE / 256, Obj.EGO_SOURCE % 256, 0, 1⟩, [2], (descAt Obj.EGO_SOURCE), by unfold takes goodHeader; decide +kernel⟩
  · exact ⟨i3c9, i3cReq, ⟨1, 5, Obj.EGO_SOURCE / 256, Obj.EGO_SOURCE % 256, 0, 1⟩, [1], by unfold takes goodHeader; decide +kernel⟩
  · exact ⟨i3c9, i3cReq, ⟨1, 5, Obj.EGO_SOURCE / 256, Obj.EGO_SOURCE % 256, 0, 2⟩, [1, 2], by unfold takes goodHeader; decide +kernel⟩
  · exact ⟨i3c9, i3cReq, ⟨1, 5, Obj.LIVE_MAP / 256, Obj.LIVE_MAP % 256, 0, 6⟩, [0, 0, 0, 0, 0, 4], (descAt Obj.LIVE_MAP), by unfold takes goodHeader; decide +kernel⟩
  · exact ⟨i3c9, i3cReq, ⟨1, 5, Obj.LIVE_MAP / 256, Obj.LIVE_MAP % 256, 1, 4⟩, [0, 0, 0, 0], (descAt Obj.LIVE_MAP), by unfold takes goodHeader; decide +kernel⟩
  · exact ⟨i3c9, i3cReq, ⟨1, 5, Obj.EGO_SOURCE / 256, Obj.EGO_SOURCE % 256, 0, 2⟩, [0, 2], (descAt Obj.EGO_SOURCE), by unfold takes goodHeader; decide +kernel⟩
  · exact ⟨i3c9, i3cReq, ⟨1, 5, Obj.EGO_SOURCE / 256, Obj.EGO_SOURCE % 256, 0, 0⟩, [], (descAt Obj.EGO_SOURCE), by unfold takes goodHeader; decide +kernel⟩
  · exact ⟨i3c9, i3cReq, ⟨1, 5, 0 / 256, 0 % 256, 0, 0⟩, [], by unfold takes goodHeader; decide +kernel⟩
  · exact ⟨i3c9, i3cReq, ⟨1, 5, 0 / 256, 0 % 256, 0, 0⟩, [], 15, by unfold takes goodHeader; decide +kernel⟩

theorem wit_RangesAndSegmentsKeepTheirRules :
    (∃ (s : State) (max : Nat) (index : Nat) (sub : Nat) (p : List Byte) (n : Nat), 0 < n ∧ n ≤ 256 ∧ p = beBytes 1 n ∧
      ((s.rangeObjects index sub n).all fun o => o.isSome && !variable_ o) = true ∧
      (List.map (fun o => (o.map fun x => x.readSize).getD 0) (s.rangeObjects index sub n)).sum ≤ max) ∧
    (∃ (s : State) (req : Requester) (max : Nat) (k : Nat) (p : List Byte) (d : ObjDesc), s.segStatus req max d k false p = Status.ok) ∧
    (∃ (s : State) (max : Nat) (index : Nat) (sub : Nat) (p : List Byte) (n : Nat), 0 < n ∧ n ≤ 256 ∧ p ≠ [] ∧ beAt p 0 1 = n % 256 ∧
      ((s.rangeObjects index sub n).all fun o => o.isSome && !variable_ o) = true ∧
      List.flatMap s.accessChecks (List.filterMap id (s.rangeObjects index sub n)) = [] ∧
      p.length = (List.map (fun e => e.elemSize.getD 0) (List.filterMap id (s.rangeObjects index sub n))).sum + 1 ∧ p.length ≤ max ∧
      (s.rangeStatuses (rangeValues (index * 256 + sub) (List.filterMap id (s.rangeObjects index sub n)) (List.drop 1 p))).flatten = [] ∧
      (List.filter (fun v => (s.jobOf v.snd.fst (beNat v.snd.snd)).isSome) (rangeValues (index * 256 + sub) (List.filterMap id (s.rangeObjects index sub n)) (List.drop 1 p))).length ≤ (List.filter (fun m => (s.job m).state == JobState.free) jobSlots).length) ∧
    (∃ (s : State) (req : Requester) (max : Nat) (k : Nat) (p : List Byte) (d : ObjDesc), d.ty = ObjType.block ∧ p.length = 6 ∧ 4 ≤ max ∧
      beAt p 0 4 = 0 ∧ s.hasExpired req k = false ∧ (s.snapshot req k = none → s.koa.snapshots.length < 8 ∧ s.ddrHas ddrSessions = true)) ∧
    (∃ (s : State) (k : Nat) (p : List Byte) (d : ObjDesc), d.isBlk = false ∧ p.length = 2 * typeSize d.ty ∧ s.accessChecks d = [] ∧
      s.inSession k = false ∧ s.shadowed d k = false ∧ s.valueChecks d k (List.drop (typeSize d.ty) p) = [] ∧
      s.liveValue d k = decodeValue d.ty (List.take (typeSize d.ty) p)) ∧
    (∃ (s : State) (k : Nat) (p : List Byte) (d : ObjDesc), d.isBlk = false ∧ p.length = 2 * typeSize d.ty ∧ s.accessChecks d = [] ∧
      s.inSession k = false ∧ s.shadowed d k = false ∧ s.valueChecks d k (List.drop (typeSize d.ty) p) = [] ∧
      s.liveValue d k ≠ decodeValue d.ty (List.take (typeSize d.ty) p)) := by
  refine ⟨?_, ?_, ?_, ?_, ?_, ?_⟩
  · exact ⟨i3c9, 256, 0x2A50, 0, [1], 1, by decide +kernel⟩
  · exact ⟨{ on with mem := { on.mem with regions := 256 } }, i3cReq, 256, Obj.LIVE_MAP, [0, 0, 0, 0], (descAt Obj.LIVE_MAP), by decide +kernel⟩
  · exact ⟨i3c9, 256, 0x2A50, 0, [1, 0], 1, by decide +kernel⟩
  · exact ⟨{ on with mem := { on.mem with regions := 256 } }, i3cReq, 256, Obj.LIVE_MAP, [0, 0, 0, 0, 1, 0], (descAt Obj.LIVE_MAP), by decide +kernel⟩
  · exact ⟨on, Obj.EGO_SOURCE, [0, 2], (descAt Obj.EGO_SOURCE), by decide +kernel⟩
  · exact ⟨on, Obj.EGO_SOURCE, [1, 2], (descAt Obj.EGO_SOURCE), by decide +kernel⟩

theorem wit_WriteCommandsApplyTheirValue :
    ∃ (s : State) (c : Instr) (req : Requester) (tag : Nat) (k : Nat) (bs : List Byte) (d : ObjDesc), writeRow s c = some (req, tag, k, bs) ∧
      tag < 256 ∧ k < 2 ^ 24 ∧ s.objectAt (k / 256) (k % 256) = some d ∧ bs.length ≤ s.maxPayload req.bearer ∧
      takes s req (requestPdu 2 tag k 0 bs) ∧ s.writeStatus (s.maxPayload req.bearer) d k bs = Status.ok :=
  ⟨i3c9, .timeSourceWrite i3cReq 5 1, i3cReq, 5, Obj.TIME_SOURCE, [1], (descAt Obj.TIME_SOURCE), by unfold takes; decide +kernel⟩

theorem wit_LongWritesRunOneSession :
    (∃ (s : State) (c : Instr) (req : Requester) (tag : Nat) (k : Nat) (bs : List Byte) (d : ObjDesc), writeRow s c = some (req, tag, k, bs) ∧
      tag < 256 ∧ k < 2 ^ 24 ∧ s.maxPayload req.bearer < bs.length ∧ s.objectAt (k / 256) (k % 256) = some d ∧
      takes s req (requestPdu 6 tag k 1 (beBytes 4 0 ++ bs))) ∧
    (∃ (k : Nat), axisConfigKey k = false) ∧
    (∃ (k : Nat), threshKey k = false) ∧
    (∃ (k : Nat), (k / 256 == Obj.RX_ENABLE / 256) = false) ∧
    (∃ (k : Nat), mrevWriteKey k = false) ∧
    (∃ (k : Nat), extrinsicsKey k = false) ∧
    (∃ (k : Nat), gptpKey k = false) ∧
    (∃ (k : Nat), portKey k = false) ∧
    (∃ (k : Nat), canKey k = false) ∧
    (∃ (k : Nat), bondKey k = false) ∧
    (∃ (k : Nat), maskKey k = false) := by
  refine ⟨?_, ?_, ?_, ?_, ?_, ?_, ?_, ?_, ?_, ?_, ?_⟩
  · exact ⟨i3c9, .liveMapWrite i3cReq 5 (fill 260 0), i3cReq, 5, Obj.LIVE_MAP, (fill 260 0), (descAt Obj.LIVE_MAP), by unfold takes; decide +kernel⟩
  · exact ⟨0, by decide +kernel⟩
  · exact ⟨0, by decide +kernel⟩
  · exact ⟨0, by decide +kernel⟩
  · exact ⟨0, by decide +kernel⟩
  · exact ⟨0, by decide +kernel⟩
  · exact ⟨0, by decide +kernel⟩
  · exact ⟨0, by decide +kernel⟩
  · exact ⟨0, by decide +kernel⟩
  · exact ⟨0, by decide +kernel⟩
  · exact ⟨0, by decide +kernel⟩

theorem wit_RefusedWritesChangeNoObject :
    (∃ (s : State) (max : Nat) (d : ObjDesc) (k : Nat) (bs : List Byte), s.writeStatus max d k bs ≠ Status.ok) ∧
    (∃ (s : State) (max : Nat) (d : ObjDesc) (k : Nat) (bs : List Byte) (j : Nat), s.writeStatus max d k bs ≠ Status.ok ∧
      j / 256 ≠ Obj.EVENT_LAST / 256 ∧ j / 256 ≠ Obj.EVENT_LAST_HI / 256) := by
  refine ⟨?_, ?_⟩
  · exact ⟨on, 256, (descAt Obj.EGO_SOURCE), Obj.EGO_SOURCE, [3], by decide +kernel⟩
  · exact ⟨on, 256, (descAt Obj.EGO_SOURCE), Obj.EGO_SOURCE, [], Obj.EGO_SOURCE, by decide +kernel⟩

theorem wit_RepeatedAndCrowdedRequestsAreNotExecuted :
    (∃ (s : State) (req : Requester) (h : KoaHdr) (p : List Byte) (r : List Byte), goodHeader h p ∧ req.bearer ≠ Bearer.i3c ∧
      s.bearerOpen req.bearer = true ∧ s.bearerEnabled req.bearer = true ∧ s.waitingOn req.bearer < req.bearer.limit ∧
      s.cached req (pduOf 2 h p) = some r) ∧
    (∃ (s : State) (req : Requester) (h : KoaHdr) (p : List Byte), goodHeader h p ∧ req.bearer ≠ Bearer.i3c ∧ s.bearerOpen req.bearer = true ∧
      s.bearerEnabled req.bearer = true ∧ req.bearer.limit ≤ s.waitingOn req.bearer) := by
  refine ⟨?_, ?_⟩
  · exact ⟨{ (onReg [(Obj.PORT_ENABLE, 1), (Obj.LANE_MODE + 4, 1), (Obj.LINK_STATE, 1), (Obj.KOA_BEARER_ENABLE, 15)]) with koa := { on.koa with cache := [⟨⟨.e0, 9, 9⟩, pduOf 2 ⟨1, 5, 16, 0, 0, 0⟩ [], [7], 10 ^ 16⟩] } }, ⟨.e0, 9, 9⟩, ⟨1, 5, 16, 0, 0, 0⟩, [], [7], by unfold goodHeader; decide +kernel⟩
  · exact ⟨{ (onReg [(Obj.PORT_ENABLE, 1), (Obj.LANE_MODE + 4, 1), (Obj.LINK_STATE, 1), (Obj.KOA_BEARER_ENABLE, 15)]) with koa := { on.koa with outstanding := List.replicate 16 (.e0, 10 ^ 16 + 1) } }, ⟨.e0, 9, 9⟩, ⟨1, 5, 16, 0, 0, 0⟩, [], by unfold goodHeader; decide +kernel⟩

theorem wit_SegmentsAndResponsesTimeOut :
    (∃ (s : State) (x : WriteSession), x ∈ s.koa.sessions ∧ s.now ≥ x.last + ms 100) ∧
    (∃ (s : State) (x : Snapshot), x ∈ s.koa.snapshots ∧ s.now ≥ x.last + ms 100) ∧
    (∃ (s : State) (r : List Byte) (t0 : Time), s.i3c.response = some (r, t0) ∧ s.i3c.later = [] ∧ s.now ≥ t0 + ms 10) := by
  refine ⟨?_, ?_, ?_⟩
  · exact ⟨{ on with koa := { on.koa with sessions := [⟨i3cReq, 7, [], 10 ^ 16 - ms 100⟩] } }, ⟨i3cReq, 7, [], 10 ^ 16 - ms 100⟩, by decide +kernel⟩
  · exact ⟨{ on with koa := { on.koa with snapshots := [⟨i3cReq, 7, [], 10 ^ 16 - ms 100⟩] } }, ⟨i3cReq, 7, [], 10 ^ 16 - ms 100⟩, by decide +kernel⟩
  · exact ⟨{ on with i3c := { on.i3c with response := some ([1], 10 ^ 16 - ms 10), later := [] } }, [1], 10 ^ 16 - ms 10, by decide +kernel⟩

theorem wit_FinishedJobsFreeTheirSlot :
    (∃ (s : State) (n : Nat), 1 ≤ n ∧ n ≤ 16 ∧ (s.job n).finished = true ∧ (s.job n).finishedAt + sec 10 ≤ s.now) ∧
    (∃ (s : State) (n : Nat) (v : Nat), 1 ≤ n ∧ n ≤ 16 ∧ (s.job n).finished = true ∧ s.handleNames v = true ∧ handleSlot v = n) ∧
    (∃ (s : State) (n : Nat) (v : Nat) (m : Nat), 1 ≤ n ∧ n ≤ 16 ∧ (s.job n).finished = true ∧ s.handleNames v = true ∧ handleSlot v = n ∧
      m ≠ n) ∧
    (∃ (s : State) (n : Nat) (v : Nat), 1 ≤ n ∧ n ≤ 16 ∧ (s.job n).finished = true ∧
      (s.handleNames v = false ∨ (s.job (handleSlot v)).finished = false)) := by
  refine ⟨?_, ?_, ?_, ?_⟩
  · exact ⟨(on.setJob 16 { Job.free with state := .done, seq := 3, finishedAt := 10 ^ 16 - sec 10 }), 16, by decide +kernel⟩
  · exact ⟨(on.setJob 16 { Job.free with state := .done, seq := 3, finishedAt := 10 ^ 16 - sec 10 }), 16, 16 * 256 + 3, by decide +kernel⟩
  · exact ⟨(on.setJob 16 { Job.free with state := .done, seq := 3, finishedAt := 10 ^ 16 - sec 10 }), 16, 16 * 256 + 3, 15, by decide +kernel⟩
  · exact ⟨(on.setJob 16 { Job.free with state := .done, seq := 3, finishedAt := 10 ^ 16 - sec 10 }), 16, 16 * 256 + 4, by decide +kernel⟩

theorem wit_JobStepRunsTheNextJobOnce :
    (∃ (s : State) (n : Nat), List.find? (fun m => s.canStep m) s.jobs.round = some n) ∧
    (∃ (s : State), (∀ (m : Nat), m ∈ s.jobs.round → s.canStep m = false)) := by
  refine ⟨?_, ?_⟩
  · exact ⟨{ (on.setJob 1 { Job.free with state := .running, kind := .nvmVerify }) with jobs := { (on.setJob 1 { Job.free with state := .running, kind := .nvmVerify }).jobs with round := [1] } }, 1, by decide +kernel⟩
  · exact ⟨{ (on.setJob 1 { Job.free with state := .waiting }) with jobs := { (on.setJob 1 { Job.free with state := .waiting }).jobs with round := [1] } }, by decide +kernel⟩

theorem wit_MemoriesAuditsAndClocksKeepTheirRules :
    (∃ (s : State) (n : Nat) (r : LogRecord), s.nvm.busy = NvmBusy.program n r) ∧
    (∃ (s : State) (x : Nat), s.nvm.busy = NvmBusy.erase x) ∧
    (∃ (s : State), s.nvm.busy = NvmBusy.idle ∧ s.nvm.erasedAhead = 0) ∧
    (∃ (s : State), s.powered = true ∧ s.reset_.sramWiped = true) ∧
    (∃ (s : State) (m : Fin 6), s.powered = true ∧ s.reset_.sramWiped = true ∧ m.val = 0) ∧
    (∃ (s : State) (m : Fin 6), s.powered = true ∧ s.reset_.sramWiped = true ∧ m.val = 1) ∧
    (∃ (s : State) (m : Fin 6) (owner : Bool), s.powered = true ∧ s.reset_.sramWiped = true ∧ m.val = 2 ∧ owner = true) ∧
    (∃ (s : State) (m : Fin 6), s.powered = true ∧ s.reset_.sramWiped = true ∧ m.val = 3) ∧
    (∃ (s : State) (m : Fin 6) (addr : Nat), s.powered = true ∧ s.reset_.sramWiped = true ∧ m.val = 4 ∧ addr < 16384 ∧ addr < s.seq.active.length) ∧
    (∃ (s : State), s.ddrReady = true) ∧
    (∃ (s : State) (o : Requester) (k : Nat), s.ddrReady = true ∧ (s.koa.sessions.any fun z => z.owner == o && z.key == k) = true) ∧
    (∃ (s : State) (org : Fin 5), (s.reset_.phase = BootPhase.firmware ∨ s.running = true) ∧ s.get Obj.DDR_STATE = 0 ∧
      (if s.ddrConfig = 0 then org.val else s.ddrConfig) = 0) ∧
    (∃ (s : State), (s.reset_.phase = BootPhase.firmware ∨ s.running = true) ∧ s.get Obj.DDR_STATE = 0) ∧
    (∃ (s : State) (org : Fin 5), (s.reset_.phase = BootPhase.firmware ∨ s.running = true) ∧ s.get Obj.DDR_STATE = 0 ∧
      (if s.ddrConfig = 0 then org.val else s.ddrConfig) ≠ 0) ∧
    (∃ (s : State) (n : Nat), s.wipeSlot = some n ∧ (s.job n).doneCount + 1 < (s.job n).total) ∧
    (∃ (s : State) (n : Nat), s.wipeSlot = some n ∧ (s.job n).total ≤ (s.job n).doneCount + 1) ∧
    (∃ (s : State) (temps : List Int), s.mem.ddrTrained = true ∧ (temps.any fun v => decide (85 < v)) ≠ s.mem.refreshHalved) ∧
    (∃ (s : State), s.powered = true ∧ reached s.now s.mem.hourAt hour = true) ∧
    (∃ (s : State), s.running = true ∧ s.traceOn 25 = true ∧ s.getN Obj.TRACE_CTRL % 256 ≠ 0 ∧
      reached s.now s.mem.snapAt (ms (s.getN Obj.TRACE_CTRL % 256)) = true) ∧
    (∃ s : State, let a : SafetyIsland := { s.safety with ae0 := s.auditCopy s.safety.ae0, ae1 := s.auditCopy s.safety.ae1, auditLog := [], ae0Busy := false, ae1Busy := false, ae0W0 := s.auditW0 s.safety.ae0W0, ae1W0 := s.auditW0 s.safety.ae1W0 }; let u : State := { s with safety := a }; s.safety.ae0Busy = true ∧
      s.safety.ae1Busy = true ∧ s.safety.aeStopped = false ∧ u.auditEqual = true ∧ u.copyAtLimit a.ae0 = false ∧ u.copyAtLimit a.ae1 = false ∧
      s.sealIntact = true) ∧
    (∃ s : State, let a : SafetyIsland := { s.safety with ae0 := s.auditCopy s.safety.ae0, ae1 := s.auditCopy s.safety.ae1, auditLog := [], ae0Busy := false, ae1Busy := false, ae0W0 := s.auditW0 s.safety.ae0W0, ae1W0 := s.auditW0 s.safety.ae1W0 }; let u : State := { s with safety := a }; s.safety.ae0Busy = true ∧
      s.safety.ae1Busy = true ∧ s.safety.aeStopped = false ∧ u.auditEqual = false) ∧
    (∃ (s : State) (c : Fin 4), s.held = false ∧ s.reset_.clockFaults.contains c.val = false ∧ c ≠ 3) ∧
    (∃ (s : State), s.held = false ∧ s.reset_.clockFaults.contains 3 = false) ∧
    (∃ (s : State) (c : Fin 4), s.reset_.clockFaults.contains c.val = true) ∧
    (∃ (s : State) (w : Time), s.reset_.spokeClockAt = some w ∧ reached s.now w (ms 1) = true) := by
  refine ⟨?_, ?_, ?_, ?_, ?_, ?_, ?_, ?_, ?_, ?_, ?_, ?_, ?_, ?_, ?_, ?_, ?_, ?_, ?_, ?_, ?_, ?_, ?_, ?_, ?_⟩
  · exact ⟨{ on with nvm := { on.nvm with busy := .program 1 ⟨1, .data, 5, 0, .scalar 1, 0, true⟩ } }, 1, ⟨1, .data, 5, 0, .scalar 1, 0, true⟩, by decide +kernel⟩
  · exact ⟨{ on with nvm := { on.nvm with busy := .erase 3 } }, 3, by decide +kernel⟩
  · exact ⟨{ on with nvm := { on.nvm with busy := .idle, erasedAhead := 0 } }, by decide +kernel⟩
  · exact ⟨{ on with reset_ := { on.reset_ with sramWiped := true } }, by decide +kernel⟩
  · exact ⟨{ on with reset_ := { on.reset_ with sramWiped := true } }, 0, by decide +kernel⟩
  · exact ⟨{ on with reset_ := { on.reset_ with sramWiped := true } }, 1, by decide +kernel⟩
  · exact ⟨{ on with reset_ := { on.reset_ with sramWiped := true } }, 2, true, by decide +kernel⟩
  · exact ⟨{ on with reset_ := { on.reset_ with sramWiped := true } }, 3, by decide +kernel⟩
  · exact ⟨{ { on with reset_ := { on.reset_ with sramWiped := true } } with seq := { on.seq with active := [⟨0, 0, 0, false, 0, 0, 0, 0⟩] } }, 4, 0, by decide +kernel⟩
  · exact ⟨(onReg [(Obj.DDR_STATE, 2)]), by decide +kernel⟩
  · exact ⟨{ (onReg [(Obj.DDR_STATE, 2)]) with koa := { on.koa with sessions := [⟨⟨.i3c, 0, 0⟩, 5, [], 0⟩] } }, ⟨.i3c, 0, 0⟩, 5, by decide +kernel⟩
  · exact ⟨(onReg [(Obj.DDR_STATE, 0)]), 0, by decide +kernel⟩
  · exact ⟨(onReg [(Obj.DDR_STATE, 0)]), by decide +kernel⟩
  · exact ⟨(onReg [(Obj.DDR_STATE, 0)]), 4, by decide +kernel⟩
  · exact ⟨(on.setJob 16 { Job.free with kind := .ddrWipe, state := .running, total := 2 }), 16, by decide +kernel⟩
  · exact ⟨(on.setJob 16 { Job.free with kind := .ddrWipe, state := .running, total := 1 }), 16, by decide +kernel⟩
  · exact ⟨{ on with mem := { on.mem with ddrTrained := true, refreshHalved := false } }, [86], by decide +kernel⟩
  · exact ⟨on, by decide +kernel⟩
  · exact ⟨onReg [(Obj.TRACE_CTRL, 2 ^ 31 + 2 ^ 25 + 1)], by decide +kernel⟩
  · exact ⟨auditing, by decide +kernel, by decide +kernel, by decide +kernel, by decide +kernel, by decide +kernel, by decide +kernel, auditing_intact⟩
  · exact ⟨{ on with safety := { on.safety with ae0Busy := true, ae1Busy := true, snapshot := [(0, 1)] } }, by decide +kernel⟩
  · exact ⟨on, 2, by decide +kernel⟩
  · exact ⟨on, by decide +kernel⟩
  · exact ⟨{ on with reset_ := { on.reset_ with clockFaults := [2] } }, 2, by decide +kernel⟩
  · exact ⟨{ on with reset_ := { on.reset_ with spokeClockAt := some 7 } }, 7, by decide +kernel⟩

theorem wit_FinishedJobsReportOnce :
    (∃ (n : Nat) (st : JobState), 1 ≤ n ∧ n ≤ 16 ∧ (st = JobState.done ∨ st = JobState.failed ∨ st = JobState.aborted)) ∧
    (∃ (n : Nat) (st : JobState), 1 ≤ n ∧ n ≤ 16 ∧ (st = JobState.done ∨ st = JobState.failed ∨ st = JobState.aborted) ∧ st = JobState.done) := by
  refine ⟨?_, ?_⟩
  · exact ⟨16, .failed, by decide +kernel⟩
  · exact ⟨1, .done, by decide +kernel⟩

theorem wit_EventInputsAreFiltered :
    (∃ (s : State), s.reset_.phase = BootPhase.held) ∧
    (∃ (s : State) (i : Fin 16) (lv : Bool), s.running = false ∧ s.reset_.phase ≠ BootPhase.held ∧
      (lv != s.getB (Obj.EV_INVERT + i.val)) ≠ (s.evIn i.val).filt ∧ (s.evIn i.val).pend = none) ∧
    (∃ (s : State) (i : Fin 16) (lv : Bool), s.running = false ∧ s.reset_.phase ≠ BootPhase.held ∧
      (lv != s.getB (Obj.EV_INVERT + i.val)) = (s.evIn i.val).filt) ∧
    (∃ (s : State) (i : Fin 16) (lv : Bool), s.running = true ∧ (lv != s.getB (Obj.EV_INVERT + i.val)) ≠ (s.evIn i.val).filt ∧
      (s.evIn i.val).pend = none) ∧
    (∃ (s : State) (i : Fin 16) (lv : Bool), s.running = true ∧ (lv != s.getB (Obj.EV_INVERT + i.val)) = (s.evIn i.val).filt) ∧
    (∃ (s : State) (i : Fin 16) (level : Bool) (at_ : Nat) (filter : Nat), (s.evIn i.val).pend = some (level, at_, filter) ∧
      at_ + 64 * filter ≤ 64 * s.now + 63 ∧ s.running = true) ∧
    (∃ (s : State) (i : Fin 16) (level : Bool) (at_ : Nat) (filter : Nat), (s.evIn i.val).pend = some (level, at_, filter) ∧
      at_ + 64 * filter ≤ 64 * s.now + 63 ∧ s.running = false) ∧
    (∃ (s : State), s.inGap 0 = false) ∧
    (∃ (s : State), s.inGap 8 = false) := by
  refine ⟨?_, ?_, ?_, ?_, ?_, ?_, ?_, ?_, ?_⟩
  · exact ⟨State.reset, by decide +kernel⟩
  · exact ⟨romState, 15, true, by decide +kernel⟩
  · exact ⟨romState, 0, false, by decide +kernel⟩
  · exact ⟨on, 15, true, by decide +kernel⟩
  · exact ⟨on, 0, false, by decide +kernel⟩
  · exact ⟨(on.setEvIn 3 { EvInput.init with pend := some (true, 64 * 10 ^ 16 + 63 - 64 * 5, 5) }), 3, true, 64 * 10 ^ 16 + 63 - 64 * 5, 5, by decide +kernel⟩
  · exact ⟨(romState.setEvIn 15 { EvInput.init with filt := true, pend := some (false, 64 * 5, 0) }), 15, false, 64 * 5, 0, by decide +kernel⟩
  · exact ⟨on, by decide +kernel⟩
  · exact ⟨{ on with crank := { on.crank with gap0 := some (10 ^ 17) } }, by decide +kernel⟩

theorem wit_CloseEdgesAreDropped :
    ∃ (s : State) (i : Fin 16) (stamp : Nat) (t0 : Nat), (s.evIn i.val).last = some t0 ∧ stamp < t0 + 4 * 1024 :=
  ⟨(on.setEvIn 15 { EvInput.init with last := some 1000 }), 15, 5095, 1000, by decide +kernel⟩

theorem wit_FrequencyGateGivesItsResult :
    ∃ (s : State) (i : Fin 16), s.running = true ∧ (s.evIn i.val).gateAt + ms (s.evIn i.val).gateMs ≤ s.now :=
  ⟨(on.setEvIn 15 { EvInput.init with gateAt := 10 ^ 16 - ms 100, gateMs := 100 }), 15, by decide +kernel⟩

theorem wit_LostEdgesFreewheelThenStall :
    (∃ (s : State) (a : Fin 2), s.lossDue a.val = true) ∧
    (∃ (s : State) (a : Fin 2), (s.axis a.val).st = AxisSt.freewheel ∧ (s.axis a.val).fwAt + us (s.getN Obj.FREEWHEEL_LIMIT) ≤ s.now) := by
  refine ⟨?_, ?_⟩
  · exact ⟨((onReg [(Obj.AXIS_MODE + 1, 1), (Obj.ENC_LINES + 1, 1024)]).setAxis 1 ({ on.axis 1 with st := .locked, core := { (on.axis 1).core with fitted := true, vNum := 1, vDen := 1 } })), 1, by decide +kernel⟩
  · exact ⟨(on.setAxis 0 { on.axis 0 with st := .freewheel, fwAt := 0 }), 0, by decide +kernel⟩

theorem wit_RevolutionFollowsThePosition :
    (∃ (s : State) (a : Fin 2), (s.axis a.val).turn < s.published a.val / revTu) ∧
    (∃ (s : State) (a : Fin 2), s.published a.val / revTu < (s.axis a.val).turn) ∧
    (∃ (s : State) (a : Fin 2), s.published a.val / revTu = (s.axis a.val).turn) ∧
    (∃ (s : State) (a : Fin 2), s.axisMode a.val ≠ 2) := by
  refine ⟨?_, ?_, ?_, ?_⟩
  · exact ⟨(on.setAxis 1 { on.axis 1 with turn := -1 }), 1, by decide +kernel⟩
  · exact ⟨(on.setAxis 0 { on.axis 0 with turn := 1 }), 0, by decide +kernel⟩
  · exact ⟨on, 0, by decide +kernel⟩
  · exact ⟨on, 1, by decide +kernel⟩

theorem wit_FacetsAndBoundariesAreDelivered :
    (∃ (s : State) (f : Fin 16) (p : Int), f.val < s.getN Obj.FACETS ∧ s.facetCrossed f.val = some p ∧ s.nextFacet f.val ≤ s.facetPos) ∧
    (∃ (s : State) (f : Fin 16) (p : Int), f.val < s.getN Obj.FACETS ∧ s.facetCrossed f.val = some p) ∧
    (∃ (s : State), s.boundaryDue = true) ∧
    (∃ (s : State), s.stepPending = true ∧ s.noPass = true) := by
  refine ⟨?_, ?_, ?_, ?_⟩
  · exact ⟨((onReg [(Obj.FACETS, 16), (Obj.AXIS_MODE, 1)]).setAxis 0 { on.axis 0 with core := { (on.axis 0).core with n := 1, vNum := 1, vDen := 1, pSum := 2 ^ 33, tSum := 0 } }), 15, (((onReg [(Obj.FACETS, 16), (Obj.AXIS_MODE, 1)]).setAxis 0 { on.axis 0 with core := { (on.axis 0).core with n := 1, vNum := 1, vDen := 1, pSum := 2 ^ 33, tSum := 0 } }).nextFacet 15), by decide +kernel⟩
  · exact ⟨((onReg [(Obj.FACETS, 16), (Obj.AXIS_MODE, 1)]).setAxis 0 { on.axis 0 with core := { (on.axis 0).core with n := 1, vNum := 1, vDen := 1, pSum := 2 ^ 33, tSum := 0 } }), 15, (((onReg [(Obj.FACETS, 16), (Obj.AXIS_MODE, 1)]).setAxis 0 { on.axis 0 with core := { (on.axis 0).core with n := 1, vNum := 1, vDen := 1, pSum := 2 ^ 33, tSum := 0 } }).nextFacet 15), by decide +kernel⟩
  · exact ⟨((onReg [(Obj.AXIS_MODE, 3)]).setAxis 0 { on.axis 0 with vTurn := -1 }), by decide +kernel⟩
  · exact ⟨{ on with time := { on.time with step := .gptp } }, by decide +kernel⟩

theorem wit_CueSwapExchangesTheBanks :
    (∃ (s : State), s.seq.pending = false) ∧
    (∃ (s : State), s.seq.pending = true ∧ s.swapNow = false ∧ s.lookAhead s.cueAxis < s.swapZero) ∧
    (∃ (s : State), s.seq.pending = true ∧ (s.swapNow = true ∨ s.swapZero ≤ s.lookAhead s.cueAxis)) ∧
    (∃ (s : State) (c : Time), s.seq.copying = some c) := by
  refine ⟨?_, ?_, ?_, ?_⟩
  · exact ⟨on, by decide +kernel⟩
  · exact ⟨{ ((onReg [(Obj.AXIS_MODE, 1)]).setAxis 0 { on.axis 0 with st := .locked }) with seq := { on.seq with state := .running, pending := true, commitAt := 5 } }, by decide +kernel⟩
  · exact ⟨{ ((onReg [(Obj.AXIS_MODE, 1)]).setAxis 0 { on.axis 0 with st := .locked }) with seq := { on.seq with state := .running, pending := true, commitAt := -1 } }, by decide +kernel⟩
  · exact ⟨{ on with seq := { on.seq with copying := some 5 } }, 5, by decide +kernel⟩

theorem wit_CrossedCuesAreExaminedInOrder :
    (∃ (s : State) (c : Cue) (p : Int), s.crossed = some (c, p) ∧ 4 ≤ s.examinedNow) ∧
    (∃ (s : State) (c : Cue) (p : Int), s.crossed = some (c, p) ∧ s.examinedNow < 4 ∧ s.seq.void_.contains s.seq.next = true) ∧
    (∃ (s : State) (c : Cue) (p : Int), s.crossed = some (c, p) ∧ (s.examinedNow < 4 ∧ s.seq.void_.contains s.seq.next = false) ∧
      16384 ≤ s.inFlight) ∧
    (∃ (s : State) (c : Cue) (p : Int), s.crossed = some (c, p) ∧ (s.examinedNow < 4 ∧ s.seq.void_.contains s.seq.next = false) ∧
      s.inFlight < 16384 ∧ 64 ≤ s.recentDecisions.length) ∧
    (∃ (s : State) (c : Cue) (p : Int), s.crossed = some (c, p) ∧ (s.examinedNow < 4 ∧ s.seq.void_.contains s.seq.next = false) ∧
      s.inFlight < 16384 ∧ s.recentDecisions.length < 64 ∧
      (¬¬↑(64 * s.getN (Obj.CUE_SLACK + c.lg.toNat)) < ↑(s.earliest c.lg.toNat) - s.crossingAt p)) ∧
    (∃ (s : State) (c : Cue) (p : Int), s.crossed = some (c, p) ∧ (s.examinedNow < 4 ∧ s.seq.void_.contains s.seq.next = false) ∧
      s.inFlight < 16384 ∧ s.recentDecisions.length < 64 ∧
      (¬↑(64 * s.getN (Obj.CUE_SLACK + c.lg.toNat)) < ↑(s.earliest c.lg.toNat) - s.crossingAt p)) := by
  refine ⟨?_, ?_, ?_, ?_, ?_, ?_⟩
  · exact ⟨{ crossing with seq := { crossing.seq with examAt := 10 ^ 16, examined := 4 } }, ⟨0, 0, 0, false, 0, 0, 0, 0⟩, 0, by decide +kernel⟩
  · exact ⟨{ crossing with seq := { crossing.seq with void_ := [0] } }, ⟨0, 0, 0, false, 0, 0, 0, 0⟩, 0, by decide +kernel⟩
  · exact ⟨{ crossing with seq := { crossing.seq with takes := List.replicate 16384 take0 } }, ⟨0, 0, 0, false, 0, 0, 0, 0⟩, 0, ⟨by decide +kernel, by decide +kernel, Nat.le_of_eq (List.length_replicate ..).symm⟩⟩
  · exact ⟨{ crossing with seq := { crossing.seq with decisions := List.replicate 64 (10 ^ 16) } }, ⟨0, 0, 0, false, 0, 0, 0, 0⟩, 0, by decide +kernel⟩
  · exact ⟨({ crossing with seq := { crossing.seq with ready := [(0, 10 ^ 20)] } }).set Obj.CUE_SLACK 0, ⟨0, 0, 0, false, 0, 0, 0, 0⟩, 0, by decide +kernel⟩
  · exact ⟨((crossing.set Obj.CUE_SLACK 100).setAxis 0 { crossing.axis 0 with core := { (crossing.axis 0).core with vNum := 1, tSum := 1024 * 10 ^ 16 } }), ⟨0, 0, 0, false, 0, 0, 0, 0⟩, 0, by decide +kernel⟩

theorem wit_DiagnosticPulsesServeDueZones :
    (∃ (s : State), s.diagPlace = false) ∧
    (∃ (s : State), s.dueZones = []) ∧
    (∃ (s : State) (z : Nat) (rest : List Nat), s.diagPlace = true ∧ s.dueZones = z :: rest) ∧
    (∃ (s : State) (z : Nat) (rest : List Nat), s.diagPlace = true ∧ s.dueZones = z :: rest ∧ s.zoneDisabled z = false ∧ s.budgetOk z = false) ∧
    (∃ (s : State) (z : Nat) (rest : List Nat), s.diagPlace = true ∧ s.dueZones = z :: rest ∧ s.zoneDisabled z = false ∧ s.budgetOk z = true) ∧
    (∃ (s : State) (w : Time), s.seq.turnAt = some w ∧ s.inTurnaround = true) ∧
    (∃ (s : State) (w : Time), s.seq.turnAt = some w ∧ s.inTurnaround = false ∧ s.isShadow = false ∧ s.get Obj.DIAG_DEFERRED ≤ 4294967295) := by
  refine ⟨?_, ?_, ?_, ?_, ?_, ?_, ?_⟩
  · exact ⟨on, by decide +kernel⟩
  · exact ⟨on, by decide +kernel⟩
  · exact ⟨diagTurn, 0, [], by decide +kernel⟩
  · exact ⟨{ diagTurn with safety := { diagTurn.safety with sums := [(sumKey 0 0 0 0, 10 ^ 20)], buckets := [0, 0, 0, 0] } }, 0, [], by decide +kernel⟩
  · exact ⟨diagTurn, 0, [], by decide +kernel⟩
  · exact ⟨diagTurn, 5, by decide +kernel⟩
  · exact ⟨{ onReg [(Obj.TURN_SPAN, 0)] with seq := { on.seq with turnAt := some 5 } }, 5, by decide +kernel⟩

theorem wit_FiringsFollowTheGate :
    (∃ (s : State), (s.firstFiring fun t => t.drives && !t.issued && decide (t.trig < s.cycleEnd)) = none) ∧
    (∃ (s : State) (k : Take), (s.firstFiring fun t => t.drives && !t.issued && decide (t.trig < s.cycleEnd)) = some k ∧ s.gateOpen = true ∧
      s.isShadow = false) ∧
    (∃ (s : State) (k : Take), (s.firstFiring fun t => t.drives && !t.issued && decide (t.trig < s.cycleEnd)) = some k ∧
      (s.gateOpen = false ∨ s.isShadow = true)) ∧
    (∃ (s : State), (s.firstFiring fun t => !t.diag && t.issued && t.drives && t.start.isNone && decide (t.trig + 128 < s.cycleEnd)) = none) ∧
    (∃ (s : State) (k : Take), (s.firstFiring fun t => !t.diag && t.issued && t.drives && t.start.isNone && decide (t.trig + 128 < s.cycleEnd)) = some k) ∧
    (∃ (s : State), (s.firstFiring fun t => !t.diag && !t.closed && (t.start.isSome || !t.drives) && decide (t.windowEnd < s.cycleEnd)) = none) ∧
    (∃ (s : State) (k : Take), (s.firstFiring fun t => !t.diag && !t.closed && (t.start.isSome || !t.drives) && decide (t.windowEnd < s.cycleEnd)) = some k) := by
  refine ⟨?_, ?_, ?_, ?_, ?_, ?_, ?_⟩
  · exact ⟨on, by decide +kernel⟩
  · exact ⟨{ on with safety := { on.safety with state := .armed, latch := false }, seq := { on.seq with takes := [take0] } }, take0, by decide +kernel⟩
  · exact ⟨{ on with seq := { on.seq with takes := [take0] } }, take0, by decide +kernel⟩
  · exact ⟨on, by decide +kernel⟩
  · exact ⟨{ on with seq := { on.seq with takes := [{ take0 with issued := true }] } }, { take0 with issued := true }, by decide +kernel⟩
  · exact ⟨on, by decide +kernel⟩
  · exact ⟨{ on with seq := { on.seq with takes := [{ take0 with held := true }] } }, { take0 with held := true }, by decide +kernel⟩

theorem wit_LineScanAndColumnsKeepTheirIntervals :
    (∃ (s : State) (m : MatrixInterval) (rest : List MatrixInterval), s.emit.matrixNow = none ∧ s.emit.matrix = m :: rest ∧
      m.start < s.cycleEnd) ∧
    (∃ (s : State) (m : MatrixInterval), s.emit.matrixNow = some m ∧ m.stop < s.cycleEnd) ∧
    (∃ (s : State) (c : Fin 32) (e : Int), (s.column c.val).endAt = some e ∧ e < s.cycleEnd) ∧
    (∃ (s : State) (c : Fin 32) (e : Int), (s.column c.val).endAt = some e ∧ s.cycleEnd ≤ e) ∧
    (∃ (s : State), s.pinsReleased = true) ∧
    (∃ (s : State) (p : TrigPulse) (t : Int), s.pinsReleased = false ∧ p ∈ s.emit.pulses ∧ p.rise ≤ t ∧ t < p.fall) ∧
    (∃ (s : State) (i : Nat) (t : Int), s.pinsReleased = false ∧ (∀ (p : TrigPulse), p ∈ s.emit.pulses → p.out = i → t < p.rise ∨ p.fall ≤ t)) ∧
    (∃ (s : State), s.pinsReleased = false ∧ s.emit.rowHigh = none) ∧
    (∃ (s : State) (m : MatrixInterval), s.pinsReleased = false ∧ s.emit.rowHigh = some m) ∧
    (∃ (s : State) (m : MatrixInterval) (r : Nat), s.pinsReleased = false ∧ s.emit.rowHigh = some m ∧ r ≠ m.row) ∧
    (∃ (s : State), s.pinsReleased = false ∧ s.gateOpen = false) ∧
    (∃ (s : State) (m : MatrixInterval), s.pinsReleased = false ∧ s.gateOpen = true ∧ s.emit.matrixNow = some m) ∧
    (∃ (s : State) (c : Nat) (e : Int), s.pinsReleased = false ∧ s.gateOpen = true ∧ s.emit.matrixNow = none ∧ s.energySource = 0 ∧
      (s.column c).endAt = some e) := by
  refine ⟨?_, ?_, ?_, ?_, ?_, ?_, ?_, ?_, ?_, ?_, ?_, ?_, ?_⟩
  · exact ⟨{ on with emit := { on.emit with matrixNow := none, matrix := [⟨0, 0, 64 * 10 ^ 16 + 63, 64 * 10 ^ 16 + 63⟩] } }, ⟨0, 0, 64 * 10 ^ 16 + 63, 64 * 10 ^ 16 + 63⟩, [], by decide +kernel⟩
  · exact ⟨{ on with emit := { on.emit with matrixNow := some ⟨0, 0, 64 * 10 ^ 16 + 63, 64 * 10 ^ 16 + 63⟩ } }, ⟨0, 0, 64 * 10 ^ 16 + 63, 64 * 10 ^ 16 + 63⟩, by decide +kernel⟩
  · exact ⟨(on.setColumn 31 ⟨1, 0, 0, none, some (64 * 10 ^ 16 + 63)⟩), 31, 64 * 10 ^ 16 + 63, by decide +kernel⟩
  · exact ⟨(on.setColumn 31 ⟨1, 0, 0, none, some (64 * 10 ^ 16 + 64)⟩), 31, 64 * 10 ^ 16 + 64, by decide +kernel⟩
  · exact ⟨State.reset, by decide +kernel⟩
  · exact ⟨{ on with emit := { on.emit with pulses := [⟨31, 5, 9⟩] }, pair := { on.pair with role := .solo } }, ⟨31, 5, 9⟩, 8, by decide +kernel⟩
  · exact ⟨{ on with emit := { on.emit with pulses := [⟨31, 5, 9⟩] }, pair := { on.pair with role := .solo } }, 31, 9, by decide +kernel⟩
  · exact ⟨{ on with pair := { on.pair with role := .solo } }, by decide +kernel⟩
  · exact ⟨{ on with emit := { on.emit with rowHigh := some ⟨0, 0, 64 * 10 ^ 16 + 63, 64 * 10 ^ 16 + 63⟩ }, pair := { on.pair with role := .solo } }, ⟨0, 0, 64 * 10 ^ 16 + 63, 64 * 10 ^ 16 + 63⟩, by decide +kernel⟩
  · exact ⟨{ on with emit := { on.emit with rowHigh := some ⟨0, 0, 64 * 10 ^ 16 + 63, 64 * 10 ^ 16 + 63⟩ }, pair := { on.pair with role := .solo } }, ⟨0, 0, 64 * 10 ^ 16 + 63, 64 * 10 ^ 16 + 63⟩, 31, by decide +kernel⟩
  · exact ⟨{ on with pair := { on.pair with role := .solo } }, by decide +kernel⟩
  · exact ⟨{ on with emit := { on.emit with matrixNow := some ⟨0, 0, 64 * 10 ^ 16 + 63, 64 * 10 ^ 16 + 63⟩ }, pair := { on.pair with role := .solo }, safety := { on.safety with state := .armed, latch := false } }, ⟨0, 0, 64 * 10 ^ 16 + 63, 64 * 10 ^ 16 + 63⟩, by decide +kernel⟩
  · exact ⟨{ (on.setColumn 31 ⟨1, 0, 0, none, some 5⟩) with pair := { on.pair with role := .solo }, safety := { on.safety with state := .armed, latch := false } }, 31, 5, by decide +kernel⟩

theorem wit_ChainFramesLatchAndReadBack :
    (∃ (s : State) (f : ChainFrame) (got : List Nat), s.emit.frame = some f ∧ f.shifted = false ∧ reached s.now f.startAt f.time = true ∧
      badWordsOf s.emit.previous got = 0) ∧
    (∃ (s : State) (f : ChainFrame), s.emit.frame = some f ∧ f.shifted = true) ∧
    (∃ (s : State) (f : ChainFrame), s.emit.frame = some f ∧ f.shifted = true ∧ f.latAt = none ∧ reached s.now f.startAt (f.time + 10) = true ∧
      s.latchBlocked = false ∧ s.gateOpen = true) ∧
    (∃ (s : State) (f : ChainFrame) (w : Time), s.emit.frame = some f ∧ f.latAt = some w ∧ reached s.now w 20 = true) ∧
    (∃ (s : State) (f : ChainFrame), s.emit.frame = some f ∧ (s.latchBlocked = true ∨ s.gateOpen = false)) := by
  refine ⟨?_, ?_, ?_, ?_, ?_⟩
  · exact ⟨{ on with emit := { on.emit with frame := some ⟨[], 10 ^ 16, 40, false, none⟩ } }, ⟨[], 10 ^ 16, 40, false, none⟩, [], by decide +kernel⟩
  · exact ⟨{ on with emit := { on.emit with frame := some ⟨[], 0, 40, true, none⟩ } }, ⟨[], 0, 40, true, none⟩, by decide +kernel⟩
  · exact ⟨{ on with safety := { on.safety with state := .armed, latch := false }, emit := { on.emit with frame := some ⟨[], 10 ^ 16 - 10, 40, true, none⟩ } }, ⟨[], 10 ^ 16 - 10, 40, true, none⟩, by decide +kernel⟩
  · exact ⟨{ on with emit := { on.emit with frame := some ⟨[], 0, 40, true, some (10 ^ 16 - 20)⟩ } }, ⟨[], 0, 40, true, some (10 ^ 16 - 20)⟩, 10 ^ 16 - 20, by decide +kernel⟩
  · exact ⟨{ on with emit := { on.emit with frame := some ⟨[], 0, 40, true, none⟩ } }, ⟨[], 0, 40, true, none⟩, by decide +kernel⟩

theorem wit_CapturesFeedLoopAndVerdicts :
    (∃ (s : State), (s.firstFiring fun t => t.captured && !t.captureDone && decide (t.capEnd < s.cycleEnd)) = none) ∧
    (∃ (s : State) (k : Take), (s.firstFiring fun t => t.captured && !t.captureDone && decide (t.capEnd < s.cycleEnd)) = some k ∧
      k.blocked = true) ∧
    (∃ (s : State) (k : Take), (s.firstFiring fun t => t.captured && !t.captureDone && decide (t.capEnd < s.cycleEnd)) = some k ∧
      k.blocked = false ∧ s.gainSettling k = true) ∧
    (∃ (s : State) (c : CaptureSamples) (k : Take), (s.firstFiring fun t => t.captured && !t.captureDone && decide (t.capEnd < s.cycleEnd)) = some k ∧
      k.blocked = false ∧ s.gainSettling k = false ∧ c.ovr = true) ∧
    (∃ (s : State) (c : CaptureSamples) (k : Take), (s.firstFiring fun t => t.captured && !t.captureDone && decide (t.capEnd < s.cycleEnd)) = some k ∧
      k.blocked = false ∧ s.gainSettling k = false ∧ c.ovr = false ∧ s.mpdCaptured = true) ∧
    (∃ (s : State), s.seq.state = SeqState.running ∧ s.isShadow = false ∧ reached s.now s.emit.diagAt (ms (s.getN Obj.DIAG_INTERVAL)) = true) ∧
    (∃ (s : State), s.seq.state ≠ SeqState.running) := by
  refine ⟨?_, ?_, ?_, ?_, ?_, ?_, ?_⟩
  · exact ⟨on, by decide +kernel⟩
  · exact ⟨{ on with seq := { on.seq with takes := [{ take0 with captured := true, blocked := true }] } }, { take0 with captured := true, blocked := true }, by decide +kernel⟩
  · exact ⟨{ { on with seq := { on.seq with takes := [{ take0 with captured := true, capOpen := 64 + 511 }] } } with hk := { on.hk with gainAt := [(0, some 1)] } }, { take0 with captured := true, capOpen := 64 + 511 }, by decide +kernel⟩
  · exact ⟨{ on with seq := { on.seq with takes := [{ take0 with captured := true }] } }, ⟨[], [], [], [], true⟩, { take0 with captured := true }, by decide +kernel⟩
  · exact ⟨{ on with seq := { on.seq with takes := [{ take0 with captured := true }] } }, ⟨[], [], [], [], false⟩, { take0 with captured := true }, by decide +kernel⟩
  · exact ⟨{ on with seq := { on.seq with state := .running } }, by decide +kernel⟩
  · exact ⟨on, by decide +kernel⟩

theorem wit_TripsLockTheEmitterOut :
    (∃ (s : State) (b : Nat), natBit (s.getN Obj.LOCKOUT_CAUSE) b = true) ∧
    (∃ (s : State), s.getN Obj.LOCKOUT_FIRST = 255) := by
  refine ⟨?_, ?_⟩
  · exact ⟨onReg [(Obj.LOCKOUT_CAUSE, 2 ^ 31)], 31, by decide +kernel⟩
  · exact ⟨onReg [(Obj.LOCKOUT_FIRST, 255)], by decide +kernel⟩

theorem wit_DetectorsTripWithTheirCause :
    (∃ (s : State), s.safety.state = SafetyState.init ∧ s.reset_.phase ≠ BootPhase.held) ∧
    (∃ (s : State), s.gateOpen = false ∧ s.reset_.phase ≠ BootPhase.held ∧ s.isShadow = false) ∧
    (∃ (s : State), s.gateOpen = true) ∧
    (∃ (s : State), s.reset_.phase ≠ BootPhase.held) ∧
    (∃ (s : State), s.reset_.phase ≠ BootPhase.held ∧ s.getB Obj.SCAN_REQUIRED = true ∧ s.safety.scanTrip = none ∧
      reached s.now s.safety.scanEdge (us (s.getN Obj.SCAN_EDGE_TIMEOUT)) = true) ∧
    (∃ (s : State) (out : Fin 2), s.readbackDue out.val = true) ∧
    (∃ (s : State) (pair : Fin 2), s.discrepancyDue pair.val = true) ∧
    (∃ (s : State) (d : Time), s.safety.cmdDiffer = some d ∧ reached s.now d (ms (s.getN Obj.DISCREPANCY_TIME)) = true ∧
      s.safety.cmdJudged = false) ∧
    (∃ (s : State), s.held = false) := by
  refine ⟨?_, ?_, ?_, ?_, ?_, ?_, ?_, ?_, ?_⟩
  · exact ⟨on, by decide +kernel⟩
  · exact ⟨on, by decide +kernel⟩
  · exact ⟨{ on with safety := { on.safety with state := .armed, latch := false } }, by decide +kernel⟩
  · exact ⟨on, by decide +kernel⟩
  · exact ⟨onReg [(Obj.SCAN_REQUIRED, 1)], by decide +kernel⟩
  · exact ⟨{ on with safety := { on.safety with fbDiffB := some 0 } }, 1, by decide +kernel⟩
  · exact ⟨(on.setInputPair 1 { SafePair.init with differSince := some 0 }), 1, by decide +kernel⟩
  · exact ⟨{ on with safety := { on.safety with cmdDiffer := some 5 } }, 5, by decide +kernel⟩
  · exact ⟨on, by decide +kernel⟩

theorem wit_ArmingRunsBothOffPulseTests :
    (∃ (s : State), s.safety.state = SafetyState.inhibited ∧ s.armingConditions = true) ∧
    (∃ (s : State), (s.safety.state ≠ SafetyState.inhibited ∨ s.armingConditions = false)) ∧
    (∃ (s : State), s.offTestDue 0 = true) ∧
    (∃ (s : State), s.offTestDue 1 = true) ∧
    (∃ (s : State) (o : OffTest), s.safety.offTest = some o ∧ o.roseAt = none ∧
      reached s.now o.startAt (us (s.getN Obj.OFFTEST_PULSE)) = true) ∧
    (∃ (s : State) (o : OffTest) (r : Time), s.safety.offTest = some o ∧ o.roseAt = some r ∧ reached s.now r s.fbDelay = true ∧ o.good = true ∧
      o.fbRose = true) ∧
    (∃ (s : State) (o : OffTest) (r : Time), s.safety.offTest = some o ∧ o.roseAt = some r ∧ reached s.now r s.fbDelay = true ∧
      (o.good = false ∨ o.fbRose = false)) ∧
    (∃ (s : State) (o : OffTest), s.safety.offTest = some o ∧ o.roseAt = none ∧ reached s.now o.startAt s.fbDelay = true ∧
      (o.good = false ∨ o.fbFell = false)) := by
  refine ⟨?_, ?_, ?_, ?_, ?_, ?_, ?_, ?_⟩
  · exact ⟨armable, by decide +kernel⟩
  · exact ⟨on, by decide +kernel⟩
  · exact ⟨{ on with safety := { on.safety with state := .arming } }, by decide +kernel⟩
  · exact ⟨{ on with safety := { on.safety with state := .armed } }, by decide +kernel⟩
  · exact ⟨{ on with safety := { on.safety with offTest := some ⟨1, 0, none, false, false, false⟩ } }, ⟨1, 0, none, false, false, false⟩, by decide +kernel⟩
  · exact ⟨{ on with safety := { on.safety with fbB := true, offTest := some ⟨1, 0, some 5, true, true, true⟩ } }, ⟨1, 0, some 5, true, true, true⟩, 5, by decide +kernel⟩
  · exact ⟨{ on with safety := { on.safety with fbB := true, offTest := some ⟨1, 0, some 5, false, true, true⟩ } }, ⟨1, 0, some 5, false, true, true⟩, 5, by decide +kernel⟩
  · exact ⟨{ on with safety := { on.safety with fbA := true, offTest := some ⟨0, 0, none, true, false, false⟩ } }, ⟨0, 0, none, true, false, false⟩, by decide +kernel⟩

theorem wit_LostConditionsStopTheEmitter :
    (∃ (s : State), (s.safety.state = SafetyState.arming ∨ s.safety.state = SafetyState.armed)) ∧
    (∃ (s : State), (¬(s.safety.state = SafetyState.arming ∨ s.safety.state = SafetyState.armed))) ∧
    (∃ (s : State) (ch : Fin 4) (lv : Bool), (s.safety.state = SafetyState.arming ∨ s.safety.state = SafetyState.armed) ∧
      s.reset_.phase ≠ BootPhase.held ∧ 2 ≤ ch.val ∧ s.discrepancyDue 1 = false ∧ s.channelOn (ch.val) lv = false) ∧
    (∃ (s : State) (ch : Fin 4) (lv : Bool), (s.safety.state = SafetyState.arming ∨ s.safety.state = SafetyState.armed) ∧
      s.reset_.phase ≠ BootPhase.held ∧ ch.val < 2 ∧ s.getN Obj.EMIT_REQ_SOURCE = 0 ∧ s.discrepancyDue 0 = false ∧
      s.channelOn (ch.val) lv = false) ∧
    (∃ (s : State) (b : Fin 2) (d : List Byte), (s.safety.state = SafetyState.arming ∨ s.safety.state = SafetyState.armed) ∧
      s.reset_.phase ≠ BootPhase.held ∧ s.safeCmdValid (b.val) d = true ∧ s.judgeCommands = s ∧ beAt d 4 1 = 0 ∧
      s.getN Obj.EMIT_REQ_SOURCE = 0 ∧ s.getN Obj.SAFE_CMD_REQUIRED ≠ 0) ∧
    (∃ (s : State) (b : Fin 2) (d : List Byte), s.reset_.phase ≠ BootPhase.held ∧ s.safeCmdValid (b.val) d = false) ∧
    (∃ (s : State) (b : Fin 2), (s.safety.state = SafetyState.arming ∨ s.safety.state = SafetyState.armed) ∧
      (s.safeBearer b.val).permit.isSome = true ∧ (s.safeBearer b.val).aged = false ∧
      reached s.now (s.safeBearer b.val).validAt (ms (s.getN Obj.SAFE_CMD_TIMEOUT)) = true ∧ s.getN Obj.EMIT_REQ_SOURCE = 0 ∧
      s.getN Obj.SAFE_CMD_REQUIRED ≠ 0) := by
  refine ⟨?_, ?_, ?_, ?_, ?_, ?_, ?_⟩
  · exact ⟨{ on with safety := { on.safety with state := .arming } }, by decide +kernel⟩
  · exact ⟨on, by decide +kernel⟩
  · exact ⟨{ on with safety := { on.safety with state := .arming } }, 2, false, by decide +kernel⟩
  · exact ⟨{ on with safety := { on.safety with state := .arming } }, 0, false, by decide +kernel⟩
  · exact ⟨{ { on with safety := { on.safety with state := .arming } } with reg := tabPut objDflt on.reg Obj.SAFE_CMD_REQUIRED 1 }, 1, (let b := beBytes 2 ((on.getN Obj.SAFE_DATA_ID + 1) % 65536) ++ [2, 1, 0, 0, 0, 0, 0, 0, 0, 0]; b ++ beBytes 4 (crc32 b)), by decide +kernel⟩
  · exact ⟨on, 0, [], by decide +kernel⟩
  · exact ⟨{ on with reg := tabPut objDflt on.reg Obj.SAFE_CMD_REQUIRED 1, safety := { on.safety with state := .armed, copyE0 := ⟨some true, some 1, 0, false⟩ } }, 1, by decide +kernel⟩

theorem wit_SafetyBookkeepingCompletes :
    (∃ (s : State), s.safety.state = SafetyState.init ∧ (s.reset_.phase = BootPhase.firmware ∨ s.reset_.phase = BootPhase.running) ∧
      s.selfTestInTime = true) ∧
    (∃ (s : State), s.reset_.phase ≠ BootPhase.held ∧ reached s.now s.reset_.releasedAt (ms (s.getN Obj.REARM_HOLD)) = true) ∧
    (∃ (s : State) (o : Fin 2) (lv : Bool), s.fb o.val ≠ lv) ∧
    (∃ (s : State), s.running = true ∧ s.isShadow = false ∧ s.safety.statusDue = true) ∧
    (∃ (s : State) (w : Fin 4), s.reset_.phase ≠ BootPhase.held ∧ s.safety.buckets.length = 4 ∧ s.bucket w.val < s.now / bucketSpan w.val) ∧
    (∃ (s : State), s.reset_.phase ≠ BootPhase.held ∧ s.reset_.sramWiped = true ∧ reached s.now s.safety.auditAt (ms 1) = true ∧
      s.auditWaits 32 = true ∧ s.auditWaits 33 = true ∧ s.safety.ae0Busy = false ∧ s.safety.ae1Busy = false ∧ s.safety.aeStopped = false) ∧
    (∃ (s : State), s.reset_.phase ≠ BootPhase.held ∧ s.reset_.sramWiped = true ∧ reached s.now s.safety.auditAt (ms 1) = true ∧
      (s.auditWaits 32 = false ∨ s.auditWaits 33 = false ∨ s.safety.ae0Busy = true ∨ s.safety.ae1Busy = true ∨ s.safety.aeStopped = true)) := by
  refine ⟨?_, ?_, ?_, ?_, ?_, ?_, ?_⟩
  · exact ⟨{ on with reset_ := { on.reset_ with releasedAt := 10 ^ 16 - ms 5 } }, by decide +kernel⟩
  · exact ⟨on, by decide +kernel⟩
  · exact ⟨on, 1, true, by decide +kernel⟩
  · exact ⟨{ on with safety := { on.safety with statusDue := true } }, by decide +kernel⟩
  · exact ⟨{ on with safety := { on.safety with buckets := [0, 0, 0, 0] } }, 3, by decide +kernel⟩
  · exact ⟨{ ((on.setEngine 32 { Engine.init with waiting := true }).setEngine 33 { Engine.init with waiting := true }) with reset_ := { on.reset_ with sramWiped := true } }, by decide +kernel⟩
  · exact ⟨{ on with reset_ := { on.reset_ with sramWiped := true }, safety := { on.safety with ae1Busy := true } }, by decide +kernel⟩

theorem wit_PairFramesAreFollowed :
    (∃ (s : State) (p : List Byte) (c : Instr), s.running = true ∧
      (¬(c, p.length) ∈ [(Instr.heartbeatReceive p, 40), (Instr.takeFrameReceive p, 24), (Instr.spokeSumReceive p, 32), (Instr.cueFrameReceive p, 4 + 8 * beAt p 0 2), (Instr.timeFrameReceive p, 20), (Instr.accountFrameReceive p, 65536), (Instr.epochFrameReceive p, 16), (Instr.yieldFrameReceive p, 12), (Instr.resyncReqReceive p, 8)]) ∧
      c ∈ [Instr.heartbeatReceive p, Instr.takeFrameReceive p, Instr.spokeSumReceive p, Instr.cueFrameReceive p, Instr.timeFrameReceive p, Instr.accountFrameReceive p, Instr.epochFrameReceive p, Instr.yieldFrameReceive p, Instr.resyncReqReceive p]) ∧
    (∃ (s : State) (p : List Byte), s.running = true ∧ s.pair.role ≠ PairRole.solo ∧ p.length = 40) ∧
    (∃ (s : State) (p : List Byte), s.running = true ∧ p.length = 12) ∧
    (∃ (s : State) (p : List Byte), s.running = true ∧ s.pair.role = PairRole.active ∧ p.length = 8) ∧
    (∃ (s : State) (p : List Byte), s.running = true ∧ s.pair.role = PairRole.shadow ∧ p.length = 24) ∧
    (∃ (s : State) (p : List Byte), s.running = true ∧ s.pair.role = PairRole.shadow ∧ p.length = 32 ∧
      List.find? (fun y => y.pairs (parseSum s.now p)) s.pair.ownSums = none) ∧
    (∃ (s : State) (p : List Byte) (y : SpokeSum), s.running = true ∧ s.pair.role = PairRole.shadow ∧ p.length = 32 ∧
      List.find? (fun y => y.pairs (parseSum s.now p)) s.pair.ownSums = some y) ∧
    (∃ (s : State) (p : List Byte), s.running = true ∧ s.pair.role = PairRole.shadow ∧ 8 ≤ p.length ∧ p.length ≤ 65544 ∧
      (if beAt p 4 4 = 0 then [] else s.partialOf (beAt p 0 3)).length ≠ beAt p 4 4) ∧
    (∃ (s : State) (p : List Byte), s.running = true ∧ s.pair.role = PairRole.shadow ∧ 8 ≤ p.length ∧ p.length ≤ 65544 ∧
      (if beAt p 4 4 = 0 then [] else s.partialOf (beAt p 0 3)).length = beAt p 4 4 ∧ natBit (beAt p 3 1) 0 = false) ∧
    (∃ (s : State) (p : List Byte), s.running = true ∧ s.pair.role = PairRole.shadow ∧ 8 ≤ p.length ∧ p.length ≤ 65544 ∧
      (if beAt p 4 4 = 0 then [] else s.partialOf (beAt p 0 3)).length = beAt p 4 4 ∧ natBit (beAt p 3 1) 0 = true) ∧
    (∃ (s : State) (p : List Byte), s.running = true ∧ s.pair.role = PairRole.shadow ∧ p.length = 4 + 8 * beAt p 0 2) ∧
    (∃ (s : State) (p : List Byte), s.running = true ∧ s.pair.role = PairRole.shadow ∧ p.length = 20 ∧ s.pair.mirrorSync = true) ∧
    (∃ (s : State) (p : List Byte), s.running = true ∧ s.pair.role = PairRole.shadow ∧ p.length = 65536) ∧
    (∃ (s : State) (p : List Byte), s.running = true ∧ s.pair.role = PairRole.shadow ∧ p.length = 16 ∧ s.pair.exchange = false ∧
      s.getN Obj.PAIR_EPOCH < beAt p 0 4) ∧
    (∃ (s : State) (p : List Byte), s.running = true ∧ s.pair.role ≠ PairRole.solo ∧ p.length = 16 ∧ s.pair.exchange = true ∧
      s.getN Obj.PAIR_EPOCH = beAt p 0 4 ∧ s.getN Obj.PAIR_ACTIVE_ID ≠ beAt p 4 8) := by
  refine ⟨?_, ?_, ?_, ?_, ?_, ?_, ?_, ?_, ?_, ?_, ?_, ?_, ?_, ?_, ?_⟩
  · exact ⟨on, [], Instr.heartbeatReceive [], by decide +kernel⟩
  · exact ⟨{ on with pair := { on.pair with role := .shadow } }, List.replicate 40 0, by decide +kernel⟩
  · exact ⟨on, List.replicate 12 0, by decide +kernel⟩
  · exact ⟨{ on with pair := { on.pair with role := .active } }, List.replicate 8 0, by decide +kernel⟩
  · exact ⟨{ on with pair := { on.pair with role := .shadow } }, List.replicate 24 0, by decide +kernel⟩
  · exact ⟨{ on with pair := { on.pair with role := .shadow } }, List.replicate 32 0, by decide +kernel⟩
  · exact ⟨{ on with pair := { on.pair with role := .shadow, ownSums := [⟨0, 0, 0, 0, 0, 0, 0, 0⟩] } }, List.replicate 32 0, ⟨0, 0, 0, 0, 0, 0, 0, 0⟩, by decide +kernel⟩
  · exact ⟨{ on with pair := { on.pair with role := .shadow } }, [0, 0, 0, 1, 0, 0, 0, 4], by decide +kernel⟩
  · exact ⟨{ on with pair := { on.pair with role := .shadow } }, [0, 0, 0, 0, 0, 0, 0, 0], by decide +kernel⟩
  · exact ⟨{ on with pair := { on.pair with role := .shadow } }, [0, 0, 0, 1, 0, 0, 0, 0], by decide +kernel⟩
  · exact ⟨{ on with pair := { on.pair with role := .shadow } }, [0, 1] ++ List.replicate 10 0, by decide +kernel⟩
  · exact ⟨{ on with pair := { on.pair with role := .shadow, mirrorSync := true } }, (List.replicate 20 0), by decide +kernel⟩
  · exact ⟨{ on with pair := { on.pair with role := .shadow } }, List.replicate 65536 0, ⟨by decide +kernel, by decide +kernel, by simp only [List.length_replicate]⟩⟩
  · exact ⟨{ { on with pair := { on.pair with role := .shadow, exchange := false } } with reg := tabPut objDflt on.reg Obj.PAIR_EPOCH 0 }, [0, 0, 0, 1] ++ List.replicate 12 0, by decide +kernel⟩
  · exact ⟨{ { on with pair := { on.pair with role := .pairing, exchange := true } } with reg := tabPut objDflt (tabPut objDflt on.reg Obj.PAIR_EPOCH 0) Obj.PAIR_ACTIVE_ID 1 }, List.replicate 16 0, by decide +kernel⟩

theorem wit_SupplyEnablesNeedArming :
    ∃ (s : State) (t : State), supplyInv s = true ∧ step s = Host.Outcome.next t :=
  ⟨State.reset, _, ⟨by decide +kernel, rfl⟩⟩

theorem wit_EdgesBecomePulsesOnce :
    (∃ (s : State) (c : Fin 256), (s.running = false ∨ s.rxEnabled c.val = false ∨ (s.rxChan c.val).lo = true)) ∧
    (∃ (s : State) (c : Fin 256) (tap : Fin 64), (s.running = true ∧ s.rxEnabled c.val = true ∧ (s.rxChan c.val).lo = false ∧
      s.inCalSpan c.val (s.nowTaps + tap.val) = false) ∧ (s.rxChan c.val).blind (s.stampOf c.val tap.val) = true) ∧
    (∃ (s : State) (c : Fin 256) (tap : Fin 64), (s.running = true ∧ s.rxEnabled c.val = true ∧ (s.rxChan c.val).lo = false ∧
      s.inCalSpan c.val (s.nowTaps + tap.val) = false) ∧ (s.rxChan c.val).blind (s.stampOf c.val tap.val) = false ∧
      s.startPending c.val (s.stampOf c.val tap.val) = true) ∧
    (∃ (s : State) (c : Fin 256) (tap : Fin 64), (s.running = true ∧ s.rxEnabled c.val = true ∧ (s.rxChan c.val).lo = false ∧
      s.inCalSpan c.val (s.nowTaps + tap.val) = false) ∧ (s.rxChan c.val).blind (s.stampOf c.val tap.val) = false ∧
      s.startPending c.val (s.stampOf c.val tap.val) = false ∧ s.takeOf (c.val) (s.stampOf c.val tap.val) = none) ∧
    (∃ (s : State), s.reset_.phase ≠ BootPhase.held) ∧
    (∃ (s : State) (c : Fin 256), (s.rxChan c.val).lo = false) ∧
    (∃ (s : State) (c : Fin 256), (s.rxChan c.val).lo = true ∧ (s.rxChan c.val).cur = none) ∧
    (∃ (s : State) (c : Fin 256) (p : RxPulse), (s.rxChan c.val).lo = true ∧ (s.rxChan c.val).cur = some p) ∧
    (∃ (s : State) (c : Fin 256) (p : RxPulse), (s.rxChan c.val).cur = some p ∧ p.lead + 16 * 65535 ≤ 1024 * (↑s.now + 1)) ∧
    (∃ (s : State) (c : Fin 256) (e : Int), (s.rxChan c.val).dead = some e ∧ e ≤ 1024 * (↑s.now + 1)) := by
  refine ⟨?_, ?_, ?_, ?_, ?_, ?_, ?_, ?_, ?_, ?_⟩
  · exact ⟨(on.setRxChan 255 { RxChan.init with lo := true }), 255, by decide +kernel⟩
  · exact ⟨((onReg [(Obj.RX_ENABLE + 255, 1)]).setRxChan 255 { RxChan.init with waitLow := true }), 255, 63, by decide +kernel⟩
  · exact ⟨{ onReg [(Obj.RX_ENABLE, 1)] with seq := { on.seq with takes := [take0] } }, 0, 0, by decide +kernel⟩
  · exact ⟨(onReg [(Obj.RX_ENABLE + 255, 1), (Obj.PRESTART_SPAN, 0)]), 255, 63, by decide +kernel⟩
  · exact ⟨romState, by decide +kernel⟩
  · exact ⟨on, 255, by decide +kernel⟩
  · exact ⟨(on.setRxChan 255 { RxChan.init with lo := true }), 255, by decide +kernel⟩
  · exact ⟨(on.setRxChan 255 { RxChan.init with lo := true, cur := some ⟨0, none, false, false, false, false, .undecided⟩ }), 255, ⟨0, none, false, false, false, false, .undecided⟩, by decide +kernel⟩
  · exact ⟨(on.setRxChan 255 { RxChan.init with lo := true, cur := some ⟨0, none, false, false, false, false, .undecided⟩ }), 255, ⟨0, none, false, false, false, false, .undecided⟩, by decide +kernel⟩
  · exact ⟨(on.setRxChan 255 { RxChan.init with dead := some (1024 * (10 ^ 16 + 1)) }), 255, 1024 * (10 ^ 16 + 1), by decide +kernel⟩

theorem wit_HitsReachTheirBins :
    (∃ (s : State) (c : Fin 256), (s.rxChan c.val).buf = []) ∧
    (∃ (s : State) (c : Fin 256) (h : Hit) (rest : List Hit), (s.rxChan c.val).buf = h :: rest ∧ h.bad = true) ∧
    (∃ (s : State) (c : Fin 256) (h : Hit) (rest : List Hit), (s.rxChan c.val).buf = h :: rest ∧ h.bad = false ∧ s.take? h.seq h.epoch = none) ∧
    (∃ (s : State) (c : Fin 256) (h : Hit) (rest : List Hit) (k : Take) (st : ReelSet) (b : Nat), (s.rxChan c.val).buf = h :: rest ∧
      h.bad = false ∧ s.take? h.seq h.epoch = some k ∧ k.lost = false ∧ s.set? k.set_ = some st ∧ s.reelOf (c.val) k.set_ = some b ∧
      s.wordsClear st.gear (hitAdditions h b st.id s.now k.pulses) = false) ∧
    (∃ (s : State) (c : Fin 256) (h : Hit) (rest : List Hit) (k : Take) (st : ReelSet) (b : Nat), (s.rxChan c.val).buf = h :: rest ∧
      h.bad = false ∧ s.take? h.seq h.epoch = some k ∧ k.lost = false ∧ s.set? k.set_ = some st ∧ s.reelOf (c.val) k.set_ = some b ∧
      s.bankRoom st.gear (hitAdditions h b st.id s.now k.pulses) = false) ∧
    (∃ (s : State) (c : Fin 256) (h : Hit) (rest : List Hit) (k : Take) (st : ReelSet) (b : Nat), (s.rxChan c.val).buf = h :: rest ∧
      h.bad = false ∧ s.take? h.seq h.epoch = some k ∧ k.lost = false ∧ s.set? k.set_ = some st ∧ s.reelOf (c.val) k.set_ = some b ∧
      h.ch = c.val ∧ s.wordsClear st.gear (hitAdditions h b st.id s.now k.pulses) = true ∧
      s.bankRoom st.gear (hitAdditions h b st.id s.now k.pulses) = true) ∧
    (∃ (s : State) (b : Fin 64), s.bank b.val = []) ∧
    (∃ (s : State) (b : Fin 64) (a : Addition) (q : List Addition), s.bank b.val = a :: q ∧ (s.now ≤ a.at_ ∨ s.now < tabGet (fun _ => 0) s.hist.bankFree b.val)) ∧
    (∃ (s : State) (b : Fin 64) (a : Addition) (q : List Addition), s.bank b.val = a :: q ∧ s.bankServes b.val a = true ∧ s.set? a.set_ = none) ∧
    (∃ (s : State) (b : Fin 64) (a : Addition) (q : List Addition) (st : ReelSet) (j : Nat) (rho : Nat), s.bank b.val = a :: q ∧ s.bankServes b.val a = true ∧
      s.set? a.set_ = some st ∧ binOf st.gear a.time = some (j, rho) ∧ s.hist.badWords.contains (a.ch, a.buf, j / 2) = false) ∧
    (∃ (s : State) (c : Fin 256) (b : Fin 2), (s.reel c.val b.val).state = BufState.clearing) ∧
    (∃ (s : State) (c : Fin 256) (b : Fin 2), (s.reel c.val b.val).state ≠ BufState.clearing) := by
  refine ⟨?_, ?_, ?_, ?_, ?_, ?_, ?_, ?_, ?_, ?_, ?_, ?_⟩
  · exact ⟨on, 255, by decide +kernel⟩
  · exact ⟨(on.setRxChan 0 { RxChan.init with buf := [{ hit0 with bad := true }] }), 0, { hit0 with bad := true }, [], by decide +kernel⟩
  · exact ⟨(on.setRxChan 0 { RxChan.init with buf := [hit0] }), 0, hit0, [], by decide +kernel⟩
  · exact ⟨{ (on.setRxChan 0 { RxChan.init with buf := [hit0] }) with seq := { on.seq with takes := [{ take0 with set_ := 1, pulses := [0] }] }, hist := { on.hist with sets := [set0], reels := [(reelKey 0 0, { Reel.clear_ with state := .accumulating, set_ := 1, notClear := true, clearAt := 10 ^ 16 + 1 })] } }, 0, hit0, [], { take0 with set_ := 1, pulses := [0] }, set0, 0, by decide +kernel, by decide +kernel, by decide +kernel, by decide +kernel, by decide +kernel, by decide +kernel, notYetClear _ _ _ rfl (by decide +kernel)⟩
  · exact ⟨{ (on.setRxChan 0 { RxChan.init with buf := [hit0] }) with seq := { on.seq with takes := [{ take0 with set_ := 1, pulses := [0] }] }, hist := { on.hist with sets := [set0], reels := [(reelKey 0 0, { Reel.clear_ with state := .accumulating, set_ := 1 })], banks := (List.range 64).map (fun b => (b, List.replicate 32 ⟨0, 0, 1, 0, true, 0, false, false, 0, 0⟩)) } }, 0, hit0, [], { take0 with set_ := 1, pulses := [0] }, set0, 0, by decide +kernel⟩
  · exact ⟨{ (on.setRxChan 0 { RxChan.init with buf := [hit0] }) with seq := { on.seq with takes := [{ take0 with set_ := 1, pulses := [0] }] }, hist := { on.hist with sets := [set0], reels := [(reelKey 0 0, { Reel.clear_ with state := .accumulating, set_ := 1 })] } }, 0, hit0, [], { take0 with set_ := 1, pulses := [0] }, set0, 0, by decide +kernel⟩
  · exact ⟨on, 63, by decide +kernel⟩
  · exact ⟨{ on with hist := { on.hist with banks := [(63, [⟨0, 0, 1, 1000, true, 0, false, false, 0, 0⟩])], bankFree := [(63, 10 ^ 16 + 1)] } }, 63, ⟨0, 0, 1, 1000, true, 0, false, false, 0, 0⟩, [], by decide +kernel⟩
  · exact ⟨{ on with hist := { on.hist with banks := [(63, [⟨0, 0, 1, 1000, true, 0, false, false, 0, 0⟩])] } }, 63, ⟨0, 0, 1, 1000, true, 0, false, false, 0, 0⟩, [], by decide +kernel⟩
  · exact ⟨{ on with hist := { on.hist with sets := [set0], banks := [(63, [⟨0, 0, 1, 1000, true, 0, false, false, 0, 0⟩])] } }, 63, ⟨0, 0, 1, 1000, true, 0, false, false, 0, 0⟩, [], set0, ((binOf set0.gear 1000).getD (0, 0)).1, ((binOf set0.gear 1000).getD (0, 0)).2, by decide +kernel⟩
  · exact ⟨(on.setReel 255 1 { Reel.clear_ with state := .clearing }), 255, 1, by decide +kernel⟩
  · exact ⟨on, 255, 1, by decide +kernel⟩

theorem wit_ReceiverFaultsAreHeldPerBlock :
    (∃ (s : State) (b : Fin 16), s.running = true ∧ s.getB (Obj.RXREF_OK + b.val) = true) ∧
    (∃ (s : State), s.running = true) ∧
    (∃ (s : State) (d : Fin 18), s.running = true ∧ s.getB (Obj.TDC_LOCK + d.val) = true) ∧
    (∃ (s : State) (d : Fin 18), s.running = true ∧ s.getB (Obj.TDC_LOCK + d.val) = false) ∧
    (∃ (s : State) (c : Fin 256) (w : Time), (s.rxChan c.val).highSince = some w ∧ (s.rxChan c.val).lo = true ∧
      (s.rxChan c.val).stuck = false ∧ s.rxEnabled c.val = true ∧ reached s.now w (us (s.getN Obj.RX_STUCK_TIME)) = true) ∧
    (∃ (s : State) (c : Fin 256) (w : Time), (s.rxChan c.val).lowSince = some w ∧ (s.rxChan c.val).stuck = true ∧
      reached s.now w (us 1) = true) ∧
    (∃ (s : State), s.running = true ∧ reached s.now s.rx.bgIntervalAt (ms 10) = true) := by
  refine ⟨?_, ?_, ?_, ?_, ?_, ?_, ?_⟩
  · exact ⟨(onReg [(Obj.RXREF_OK + 15, 1)]), 15, by decide +kernel⟩
  · exact ⟨on, by decide +kernel⟩
  · exact ⟨(onReg [(Obj.TDC_LOCK + 17, 1)]), 17, by decide +kernel⟩
  · exact ⟨(onReg [(Obj.TDC_LOCK + 17, 0)]), 17, by decide +kernel⟩
  · exact ⟨((onReg [(Obj.RX_ENABLE + 255, 1)]).setRxChan 255 { RxChan.init with lo := true, highSince := some 1 }), 255, 1, by decide +kernel⟩
  · exact ⟨(on.setRxChan 255 { RxChan.init with stuck := true, lowSince := some 1 }), 255, 1, by decide +kernel⟩
  · exact ⟨on, by decide +kernel⟩

theorem wit_ReelsSpokesAndStreamsFlow :
    (∃ (s : State) (st : ReelSet), List.find? (fun r => r.closed && !r.completing && !r.completed && r.open_ == 0 && decide (r.lastEnd + 60 * 64 ≤ s.nowTaps)) s.hist.sets = some st) ∧
    (∃ (s : State) (d : Descriptor) (w : List Descriptor) (n : Nat), s.hist.descWait = d :: w ∧ s.someEngine = true ∧ s.bestEngine = some n) ∧
    (∃ (s : State) (d : Descriptor) (w : List Descriptor), s.hist.descWait = d :: w ∧ s.someEngine = true ∧ s.bestEngine = none) ∧
    (∃ (s : State) (d : Descriptor) (w : List Descriptor), s.hist.descWait = d :: w ∧ s.someEngine = false) ∧
    (∃ (s : State) (c : Fin 256) (b : Fin 2) (x : Nat × Nat × List Byte), List.find? (fun x => x.fst == c.val && x.snd.fst == b.val) s.hist.rawCopies = some x) ∧
    (∃ (s : State) (x : MrevDue) (rest : List MrevDue), s.hist.mrevDue = x :: rest ∧ s.egoOld = true) ∧
    (∃ (s : State) (x : MrevDue) (rest : List MrevDue), s.hist.mrevDue = x :: rest ∧ s.egoOld = false ∧
      reached s.now s.hist.sumsAt (ms 1) = false ∧ 100 ≤ s.hist.sumsBuilt) ∧
    (∃ (s : State) (x : MrevDue) (rest : List MrevDue), s.hist.mrevDue = x :: rest ∧ s.egoOld = false ∧
      reached s.now s.hist.sumsAt (ms 1) = false ∧ s.hist.sumsBuilt < 100) ∧
    (∃ (s : State), s.running = true ∧ s.egoOld = true ∧ s.hist.egoStale = false) ∧
    (∃ (x : Spoke), x.leaving = some true) ∧
    (∃ (s : State) (x : Spoke), x.leaving = some false ∧ s.holdPassed x = true) ∧
    (∃ (s : State) (d : Fin 3) (m : OutMessage), s.destUp (d.val + 1) = true ∧ s.ddrHas ddrQueues = true ∧
      nextMessage (s.sendable (d.val + 1)) = some m ∧ d.val ≠ 0) ∧
    (∃ (s : State) (d : Fin 3) (m : OutMessage), s.destUp (d.val + 1) = true ∧ s.ddrHas ddrQueues = true ∧
      nextMessage (s.sendable (d.val + 1)) = some m ∧ d.val = 0 ∧ m.stream < 4) ∧
    (∃ (f : TxFrame) (m : OutMessage), f.msg = some m) ∧
    (∃ (s : State), s.running = true ∧ s.get Obj.DAILIES_DEST ≠ 0 ∧ s.time.sec ≠ s.pipe.dailyAt) := by
  refine ⟨?_, ?_, ?_, ?_, ?_, ?_, ?_, ?_, ?_, ?_, ?_, ?_, ?_, ?_, ?_⟩
  · exact ⟨{ on with hist := { on.hist with sets := [{ set0 with closed := true, lastEnd := 64 * 10 ^ 16 - 60 * 64 }] } }, { set0 with closed := true, lastEnd := 64 * 10 ^ 16 - 60 * 64 }, by decide +kernel⟩
  · exact ⟨{ on with hist := { on.hist with descWait := [desc0] }, eng := { on.eng with units := [(0, { Engine.init with st := .running })] } }, desc0, [], 0, by decide +kernel⟩
  · exact ⟨{ on with hist := { on.hist with descWait := [desc0] }, eng := { on.eng with units := [(0, { Engine.init with st := .running, queue := List.replicate 8 desc0 })] } }, desc0, [], by decide +kernel⟩
  · exact ⟨{ on with hist := { on.hist with descWait := [desc0] } }, desc0, [], by decide +kernel⟩
  · exact ⟨{ on with hist := { on.hist with rawCopies := [(255, 1, [])] } }, 255, 1, (255, 1, []), by decide +kernel⟩
  · exact ⟨{ on with hist := { on.hist with mrevDue := [⟨desc0⟩] } }, ⟨desc0⟩, [], by decide +kernel⟩
  · exact ⟨{ on with time := { on.time with egoAt := some (10 ^ 16) }, hist := { on.hist with mrevDue := [⟨desc0⟩], sumsAt := 10 ^ 16, sumsBuilt := 100 } }, ⟨desc0⟩, [], by decide +kernel⟩
  · exact ⟨{ on with time := { on.time with egoAt := some (10 ^ 16) }, hist := { on.hist with mrevDue := [⟨desc0⟩], sumsAt := 10 ^ 16, sumsBuilt := 99 } }, ⟨desc0⟩, [], by decide +kernel⟩
  · exact ⟨{ on with hist := { on.hist with egoStale := false } }, by decide +kernel⟩
  · exact ⟨{ spoke0 with leaving := some true }, by decide +kernel⟩
  · exact ⟨on, { spoke0 with leaving := some false, quiet := some 0 }, by decide +kernel⟩
  · exact ⟨{ onReg [(Obj.PORT_ENABLE + 1, 1), (Obj.LANE_MODE + 5, 1), (Obj.LINK_STATE + 1, 1)] with mem := { on.mem with regions := 256 }, pipe := { on.pipe with queue1 := [⟨0, 3, 0, 0, [], [], 1024⟩] } }, 2, ⟨0, 3, 0, 0, [], [], 1024⟩, by decide +kernel⟩
  · exact ⟨{ onReg [(Obj.BOND_STATE, 2)] with mem := { on.mem with regions := 256 }, pipe := { on.pipe with queueK := [⟨0, 3, 0, 0, [], [], 1024⟩] } }, 0, ⟨0, 3, 0, 0, [], [], 1024⟩, by decide +kernel⟩
  · exact ⟨⟨.stream, [], 0, some ⟨0, 3, 0, 0, [], [], 1024⟩⟩, ⟨0, 3, 0, 0, [], [], 1024⟩, rfl⟩
  · exact ⟨{ onReg [(Obj.DAILIES_DEST, 1)] with time := { on.time with sec := 1 }, pipe := { on.pipe with dailyAt := 0 } }, by decide +kernel⟩

theorem wit_MultiplierAndAccumulatorsCompute :
    ∃ (s : State) (n : Fin 34) (w : BitVec 26) (m : State), issues s (n.val) (InstrClass.moving w.toNat) ∧
      (woken s n.val).moves (n.val) w.toNat = Except.ok m :=
  by
  obtain ⟨m, hm⟩ := ok_exists (x := (woken (on.setEngine 0 { Engine.init with st := .running }) 0).moves 0 (0x8000#26).toNat) (by decide +kernel)
  exact ⟨(on.setEngine 0 { Engine.init with st := .running }), 0, 0x8000#26, m, by unfold issues; decide +kernel, hm⟩

theorem wit_AluInstructionsReachTheirRegisters :
    (∃ (s : State) (n : Fin 34) (w : BitVec 26) (m : State), issues s (n.val) (InstrClass.moving w.toNat) ∧
      (woken s n.val).moves (n.val) w.toNat = Except.ok m) ∧
    (∃ (s : State) (n : Fin 34) (w : BitVec 26), issues s (n.val) InstrClass.plain ∧ field w.toNat 21 5 < 16 ∧ field w.toNat 16 5 < 16 ∧
      field w.toNat 11 5 < 16) ∧
    (∃ (s : State) (n : Fin 34) (w : BitVec 26) (v : Int), issues s (n.val) InstrClass.plain ∧
      ((woken s n.val).engine n.val).reg? (field w.toNat 21 5) = some v) ∧
    (∃ (s : State) (n : Fin 34) (w : BitVec 26) (v : Int), issues s (n.val) InstrClass.plain ∧
      ((woken s n.val).engine n.val).reg? (field w.toNat 21 5) = some v ∧ field w.toNat 21 5 < 24) ∧
    (∃ (s : State) (n : Fin 34) (w : BitVec 26) (v : Int), issues s (n.val) InstrClass.plain ∧
      ((woken s n.val).engine n.val).reg? (field w.toNat 21 5) = some v ∧ 24 ≤ field w.toNat 21 5) := by
  refine ⟨?_, ?_, ?_, ?_, ?_⟩
  · obtain ⟨m, hm⟩ := ok_exists (x := (woken (on.setEngine 0 { Engine.init with st := .running }) 0).moves 0 (0x8000#26).toNat) (by decide +kernel)
    exact ⟨(on.setEngine 0 { Engine.init with st := .running }), 0, 0x8000#26, m, by unfold issues; decide +kernel, hm⟩
  · exact ⟨(on.setEngine 31 { Engine.init with st := .running }), 31, 0x1EF7800#26, ⟨by unfold issues; decide +kernel, by decide +kernel⟩⟩
  · exact ⟨on, 33, 0x300000#26, 0, ⟨by unfold issues; decide +kernel, by decide +kernel⟩⟩
  · exact ⟨on, 33, 0x2E00000#26, 0, ⟨by unfold issues; decide +kernel, by decide +kernel⟩⟩
  · exact ⟨on, 33, 0x3000000#26, 0, ⟨by unfold issues; decide +kernel, by decide +kernel⟩⟩

theorem wit_AluResultsAreExact :
    (∃ (a : Nat) (b : Nat), a < 2 ^ 32 ∧ b < 2 ^ 32) ∧
    (∃ (a : Nat) (b : Nat) (k : Nat), a < 2 ^ 32 ∧ b < 2 ^ 32 ∧ k < 32 ∧ b % 64 = k) ∧
    (∃ (a : Nat) (b : Nat) (k : Nat), a < 2 ^ 32 ∧ b < 2 ^ 32 ∧ 0 < k ∧ k ≤ 32 ∧ b % 64 = 64 - k) ∧
    (∃ (a : Nat) (b : Nat), a < 2 ^ 32 ∧ b < 2 ^ 32 ∧ a ≠ 2 ^ 31) ∧
    (∃ (a : Nat) (b : Nat), a < 2 ^ 32 ∧ b < 2 ^ 32 ∧ a = 2 ^ 31) ∧
    (∃ (a : Nat) (b : Nat), a < 2 ^ 32 ∧ b < 2 ^ 32 ∧ a = 0) ∧
    (∃ (a : Nat) (b : Nat) (k : Nat), a < 2 ^ 32 ∧ b < 2 ^ 32 ∧ 2 ^ k ≤ a ∧ a < 2 ^ (k + 1)) := by
  refine ⟨?_, ?_, ?_, ?_, ?_, ?_, ?_⟩
  · exact ⟨4294967295, 4294967295, by decide +kernel⟩
  · exact ⟨4294967295, 31, 31, by decide +kernel⟩
  · exact ⟨4294967295, 32, 32, by decide +kernel⟩
  · exact ⟨0, 0, by decide +kernel⟩
  · exact ⟨2147483648, 0, by decide +kernel⟩
  · exact ⟨0, 0, by decide +kernel⟩
  · exact ⟨2147483648, 0, 31, by decide +kernel⟩

theorem wit_MemoryAndControlInstructionsComplete :
    (∃ (s : State) (n : Fin 34) (w : BitVec 26) (r : Nat × State), issues s (n.val) InstrClass.loading ∧ field w.toNat 21 5 < 26 ∧
      (woken s n.val).read16 (n.val) (((woken s n.val).engine n.val).access w.toNat).fst = Except.ok r) ∧
    (∃ (s : State) (n : Fin 34) (w : BitVec 26) (r : Nat × State), issues s (n.val) InstrClass.loading ∧ field w.toNat 21 5 < 26 ∧
      (woken s n.val).read32 (n.val) (((woken s n.val).engine n.val).access w.toNat).fst = Except.ok r) ∧
    (∃ (s : State) (n : Fin 34) (w : BitVec 26) (m : State) (v : Int), issues s (n.val) InstrClass.plain ∧
      ((woken s n.val).engine n.val).reg? (field w.toNat 21 5) = some v ∧
      (woken s n.val).write16 (n.val) (((woken s n.val).engine n.val).access w.toNat).fst (unsigned 16 v) = Except.ok m) ∧
    (∃ (s : State) (n : Fin 34) (w : BitVec 26) (m : State) (l : Nat × Bool), issues s (n.val) InstrClass.plain ∧
      ((woken s n.val).engine n.val).storeLong (field w.toNat 21 5) = some l ∧
      (woken s n.val).write32 (n.val) (((woken s n.val).engine n.val).access w.toNat).fst l.fst = Except.ok m) ∧
    (∃ (s : State) (n : Fin 34) (w : BitVec 26), issues s (n.val) InstrClass.plain ∧ field w.toNat 21 5 < 26) ∧
    (∃ (s : State) (n : Fin 34) (w : BitVec 26) (k : Nat), issues s (n.val) InstrClass.plain ∧
      (woken s n.val).control? (n.val) (field w.toNat 18 6) = some k) ∧
    (∃ (s : State) (n : Fin 34) (w : BitVec 26) (m : State), issues s (n.val) (InstrClass.control w.toNat) ∧
      (woken s n.val).setControl (n.val) (field w.toNat 18 6) (if field w.toNat 18 6 ∈ [0, 2, 3] then ((woken s n.val).engine n.val).dOp (field w.toNat 0 4) else ((woken s n.val).engine n.val).dDec (field w.toNat 0 4)) = Except.ok m) ∧
    (∃ (s : State) (n : Fin 34) (w : BitVec 26) (m : State), issues s (n.val) (InstrClass.control w.toNat) ∧
      (woken s n.val).setControl (n.val) (field w.toNat 18 6) (field w.toNat 0 16) = Except.ok m) ∧
    (∃ (s : State) (n : Fin 34), issues s (n.val) InstrClass.plain) ∧
    (∃ (s : State) (n : Fin 34), issues s (n.val) InstrClass.repeating) ∧
    (∃ (s : State) (n : Fin 34) (w : BitVec 26) (taken : Bool), issues s (n.val) InstrClass.branching ∧
      taken = ((woken s n.val).engine n.val).cond (field w.toNat 22 4) ∧ ((woken s n.val).engine n.val).slotsFit = true ∧
      (taken = true → ((woken s n.val).engine n.val).inBody (pcOf (field w.toNat 0 16)) = true)) ∧
    (∃ (s : State) (n : Fin 34) (w : BitVec 26) (taken : Bool), issues s (n.val) InstrClass.branching ∧
      ((woken s n.val).engine n.val).stack.length < 8 ∧ taken = ((woken s n.val).engine n.val).cond (field w.toNat 22 4) ∧
      ((woken s n.val).engine n.val).slotsFit = true ∧
      (taken = true → ((woken s n.val).engine n.val).inBody (pcOf (field w.toNat 0 16)) = true)) ∧
    (∃ (s : State) (n : Fin 34) (w : BitVec 26), issues s (n.val) InstrClass.branching ∧ ((woken s n.val).engine n.val).slotsFit = true ∧
      ((woken s n.val).engine n.val).inBody (pcOf (((woken s n.val).engine n.val).dDec (field w.toNat 0 4) % 65536)) = true) ∧
    (∃ (s : State) (n : Fin 34) (w : BitVec 26) (k : Nat) (rest : List Nat) (taken : Bool), issues s (n.val) InstrClass.branching ∧
      ((woken s n.val).engine n.val).stack = k :: rest ∧ taken = ((woken s n.val).engine n.val).cond (field w.toNat 22 4) ∧
      ((woken s n.val).engine n.val).slotsFit = true ∧ (taken = true → ((woken s n.val).engine n.val).inBody (pcOf k) = true)) ∧
    (∃ (s : State) (n : Fin 34), issues s (n.val) InstrClass.branching ∧ n.val < 32 ∧ ((woken s n.val).engine n.val).slotsFit = true) ∧
    (∃ (s : State) (n : Fin 34) (l1 : LoopBody) (ls : List LoopBody), issues s (n.val) InstrClass.branching ∧ n.val < 32 ∧
      ((woken s n.val).engine n.val).slotsFit = true ∧ ((woken s n.val).engine n.val).loops = l1 :: ls) ∧
    (∃ (s : State) (n : Fin 34) (w : BitVec 26), issues s (n.val) InstrClass.repeating ∧ n.val < 32 ∧ natBit w.toNat 24 = false ∧
      natBit w.toNat 25 = false ∧ field w.toNat 0 12 ≠ 0 ∧ ((woken s n.val).engine n.val).loops = []) := by
  refine ⟨?_, ?_, ?_, ?_, ?_, ?_, ?_, ?_, ?_, ?_, ?_, ?_, ?_, ?_, ?_, ?_, ?_⟩
  · obtain ⟨m, hm⟩ := ok_exists (x := (woken (on.setEngine 0 { Engine.init with st := .running }) 0).read16 0 (((woken (on.setEngine 0 { Engine.init with st := .running }) 0).engine 0).access 0).1) (by decide +kernel)
    exact ⟨(on.setEngine 0 { Engine.init with st := .running }), 0, 0, m, by unfold issues; decide +kernel, by decide +kernel, hm⟩
  · obtain ⟨m, hm⟩ := ok_exists (x := (woken (on.setEngine 0 { Engine.init with st := .running }) 0).read32 0 (((woken (on.setEngine 0 { Engine.init with st := .running }) 0).engine 0).access 0).1) (by decide +kernel)
    exact ⟨(on.setEngine 0 { Engine.init with st := .running }), 0, 0, m, by unfold issues; decide +kernel, by decide +kernel, hm⟩
  · obtain ⟨m, hm⟩ := ok_exists (x := (woken (on.setEngine 0 { Engine.init with st := .running }) 0).write16 0 (((woken (on.setEngine 0 { Engine.init with st := .running }) 0).engine 0).access 0).1 (unsigned 16 0)) (by decide +kernel)
    exact ⟨(on.setEngine 0 { Engine.init with st := .running }), 0, 0, m, 0, by unfold issues; decide +kernel, by decide +kernel, hm⟩
  · obtain ⟨m, hm⟩ := ok_exists (x := (woken (on.setEngine 0 { Engine.init with st := .running }) 0).write32 0 (((woken (on.setEngine 0 { Engine.init with st := .running }) 0).engine 0).access 0).1 0) (by decide +kernel)
    exact ⟨(on.setEngine 0 { Engine.init with st := .running }), 0, 0, m, (0, false), by unfold issues; decide +kernel, by decide +kernel, hm⟩
  · exact ⟨on, 33, 0x3200000#26, ⟨by unfold issues; decide +kernel, by decide +kernel⟩⟩
  · exact ⟨on, 33, 0x40000#26, 0, ⟨by unfold issues; decide +kernel, by decide +kernel⟩⟩
  · obtain ⟨m, hm⟩ := ok_exists (x := (woken (on.setEngine 0 { Engine.init with st := .running }) 0).setControl 0 (field (0x40000#26).toNat 18 6) (if field (0x40000#26).toNat 18 6 ∈ [0, 2, 3] then ((woken (on.setEngine 0 { Engine.init with st := .running }) 0).engine 0).dOp (field (0x40000#26).toNat 0 4) else ((woken (on.setEngine 0 { Engine.init with st := .running }) 0).engine 0).dDec (field (0x40000#26).toNat 0 4))) (by decide +kernel)
    exact ⟨(on.setEngine 0 { Engine.init with st := .running }), 0, 0x40000#26, m, by unfold issues; decide +kernel, hm⟩
  · obtain ⟨m, hm⟩ := ok_exists (x := (woken (on.setEngine 0 { Engine.init with st := .running }) 0).setControl 0 (field (0x4FFFF#26).toNat 18 6) (field (0x4FFFF#26).toNat 0 16)) (by decide +kernel)
    exact ⟨(on.setEngine 0 { Engine.init with st := .running }), 0, 0x4FFFF#26, m, by unfold issues; decide +kernel, hm⟩
  · exact ⟨on, 33, by unfold issues; decide +kernel⟩
  · exact ⟨on, 33, by unfold issues; decide +kernel⟩
  · exact ⟨on, 33, 5, true, ⟨by unfold issues; decide +kernel, by decide +kernel⟩⟩
  · exact ⟨on, 33, 5, true, ⟨by unfold issues; decide +kernel, by decide +kernel⟩⟩
  · exact ⟨on, 33, 5, ⟨by unfold issues; decide +kernel, by decide +kernel⟩⟩
  · exact ⟨(on.setEngine 0 { Engine.init with st := .running, stack := [7] }), 0, 5, 7, [], true, ⟨by unfold issues; decide +kernel, by decide +kernel⟩⟩
  · exact ⟨(on.setEngine 31 { Engine.init with st := .running }), 31, ⟨by unfold issues; decide +kernel, by decide +kernel⟩⟩
  · exact ⟨(on.setEngine 0 { Engine.init with st := .running, loops := [⟨0, 9, false, []⟩] }), 0, ⟨0, 9, false, [0]⟩, [], ⟨by unfold issues; decide +kernel, by decide +kernel⟩⟩
  · exact ⟨(on.setEngine 0 { Engine.init with st := .running }), 0, 1, ⟨by unfold issues; decide +kernel, by decide +kernel⟩⟩

theorem wit_EngineEventsFollowTheirRules :
    (∃ (s : State) (n : Fin 32) (i : Nat), (s.engine n.val).irqSource = some i ∧ (s.engine n.val).st = SeState.running ∧
      (s.engine n.val).ie = true ∧ (s.engine n.val).irqPlace = true) ∧
    (∃ (s : State) (n : Fin 32), (s.engine n.val).st = SeState.running ∧ (s.engine n.val).timerCmp ≤ s.engCycles n.val % 2 ^ 32 ∧
      (s.engine n.val).timerTurn ≠ some (s.engCycles n.val / 2 ^ 32)) ∧
    (∃ (s : State) (n : Fin 32) (b : Fin 2) (d : Descriptor), ((s.engine n.val).slot b.val).desc = some d ∧
      ((s.engine n.val).slot b.val).st = SlotState.filling ∧ (s.engine n.val).st ≠ SeState.off ∧ (s.engine n.val).st ≠ SeState.offline) ∧
    (∃ (s : State) (n : Fin 32) (b : Nat), (s.engine n.val).st = SeState.running ∧ (s.engine n.val).openSlot = none ∧
      (s.engine n.val).oldestReady s.now = some b) ∧
    (∃ (s : State) (n : Fin 32) (b : Nat) (v : BitVec 16), (s.engine n.val).st = SeState.running ∧ (s.engine n.val).openSlot = some b ∧
      v.toNat = slotBase b ∧ (s.engine n.val).dma0 = false) ∧
    (∃ (s : State) (n : Fin 32) (b : Nat) (i : Fin 8), (s.engine n.val).st = SeState.running ∧ (s.engine n.val).openSlot = some b ∧ i.val ≠ 7) ∧
    (∃ (s : State) (n : Fin 32), (s.engine n.val).st = SeState.running ∧ s.dmaOk n.val = true) ∧
    (∃ (s : State) (n : Fin 32), (s.engine n.val).st = SeState.running ∧ s.dmaOk n.val = false) ∧
    (∃ (s : State) (n : Fin 32) (src : Nat) (dst : Nat) (len : Nat), (s.engine n.val).st = SeState.running ∧
      (s.engine n.val).dmaRun = some (src, dst, len) ∧ (s.engine n.val).openSlot = none ∧ s.dmaWaits src = false ∧
      s.dmaBad n.val src dst len = false) ∧
    (∃ (s : State) (w : Fin 34), issues s (w.val) InstrClass.plain) ∧
    (∃ (s : State) (n : Fin 32) (b : Nat), (s.engine n.val).openSlot = some b ∧ (s.engine n.val).st = SeState.running ∧
      ((s.engine n.val).slot b).releaseDue = false ∧ ((s.engine n.val).slot b).expired = true) ∧
    (∃ (s : State) (n : Fin 32) (b : Nat), (s.engine n.val).openSlot = some b ∧ (s.engine n.val).st = SeState.running ∧
      ((s.engine n.val).slot b).releaseDue = false ∧ 4 * ((s.engine n.val).slot b).watchdog ≤ 5 * (s.now - ((s.engine n.val).slot b).since)) ∧
    (∃ (s : State) (n : Fin 32), (s.engine n.val).st = SeState.restarting ∧ s.spokeStopped = false) ∧
    (∃ (s : State) (n : Fin 32), (s.engine n.val).leaving = true ∧ (s.engine n.val).st = SeState.running ∧ (s.engine n.val).load = 0) ∧
    (∃ (s : State) (n : Fin 32), (s.engine n.val).openSlot = none) := by
  refine ⟨?_, ?_, ?_, ?_, ?_, ?_, ?_, ?_, ?_, ?_, ?_, ?_, ?_, ?_, ?_⟩
  · exact ⟨(on.setEngine 0 { Engine.init with st := .running, ie := true, imask := 7, ipend := 4 }), 0, 2, by decide +kernel⟩
  · exact ⟨(on.setEngine 0 { Engine.init with st := .running, timerCmp := 0 }), 0, by decide +kernel⟩
  · exact ⟨(on.setEngine 0 { Engine.init with st := .running, slotB := { Slot.init with st := .filling, desc := some desc0 } }), 0, 1, desc0, by decide +kernel⟩
  · exact ⟨(on.setEngine 0 { Engine.init with st := .running, slotB := { Slot.init with st := .ready, desc := some desc0 } }), 0, 1, by decide +kernel⟩
  · exact ⟨(on.setEngine 0 { Engine.init with st := .running, slotB := { Slot.init with st := .opened, desc := some desc0 } }), 0, 1, 0x3E00#16, by decide +kernel⟩
  · exact ⟨(on.setEngine 0 { Engine.init with st := .running, slotB := { Slot.init with st := .opened, desc := some desc0 } }), 0, 1, 6, by decide +kernel⟩
  · exact ⟨(on.setEngine 0 { Engine.init with st := .running, slotA := { Slot.init with st := .opened, desc := some desc0 }, dmaLen := 4 }), 0, by decide +kernel⟩
  · exact ⟨(on.setEngine 0 { Engine.init with st := .running, dmaSrc := 15 * 2 ^ 28, dmaLen := 4 }), 0, by decide +kernel⟩
  · exact ⟨{ (on.setEngine 0 { Engine.init with st := .running, dmaRun := some (0x20000000, 0, 4) }) with mem := { on.mem with regions := 14 } }, 0, 0x20000000, 0, 4, by decide +kernel⟩
  · exact ⟨on, 33, by unfold issues; decide +kernel⟩
  · exact ⟨(on.setEngine 0 { Engine.init with st := .running, slotB := { Slot.init with st := .opened, desc := some desc0, expired := true } }), 0, 1, by decide +kernel⟩
  · exact ⟨(on.setEngine 0 { Engine.init with st := .running, slotA := { Slot.init with st := .opened, desc := some desc0 } }), 0, 0, by decide +kernel⟩
  · exact ⟨(on.setEngine 31 { Engine.init with st := .restarting }), 31, by decide +kernel⟩
  · exact ⟨(on.setEngine 0 { Engine.init with st := .running, leaving := true }), 0, by decide +kernel⟩
  · exact ⟨on, 31, by decide +kernel⟩

theorem wit_CalibrationRunsToItsVerdict :
    (∃ (s : State) (u : Fin 304), u.val < 256 ∧ s.windowOpen (s.groupOf u.val) = true) ∧
    (∃ (s : State) (u : Fin 304), u.val < 256 ∧ s.windowOpen (s.groupOf u.val) = false ∧ s.seq.state ≠ .running) ∧
    (∃ (s : State) (u : Fin 305) (m : CalMeasure) (r : CalRun), List.find? (fun r => r.unit_ == u.val && !r.waits) s.cal.runs = some r ∧
      s.repeatFull r (r.measured m) = false) ∧
    (∃ (s : State) (u : Fin 305) (m : CalMeasure) (r : CalRun), List.find? (fun r => r.unit_ == u.val && !r.waits) s.cal.runs = some r ∧
      r.kind = 2 ∧ s.repeatFull r m = true ∧ r.unit_ < 256 ∧ thresholdCode r.done.isEmpty m ≠ 0) ∧
    (∃ (s : State) (u : Fin 305) (m : CalMeasure) (r : CalRun), List.find? (fun r => r.unit_ == u.val && !r.waits) s.cal.runs = some r ∧
      r.kind = 1 ∧ s.repeatFull r (r.measured m) = true ∧ tdcCode (r.measured m) ≠ 0) ∧
    (∃ (s : State) (u : Fin 305) (m : CalMeasure) (r : CalRun), List.find? (fun r => r.unit_ == u.val && !r.waits) s.cal.runs = some r ∧
      r.kind = 1 ∧ s.repeatFull r (r.measured m) = true ∧ tdcCode (r.measured m) = 0 ∧ r.done = []) ∧
    (∃ (s : State) (u : Fin 305) (m : CalMeasure) (r : CalRun) (a : CalRepeat) (rest : List CalRepeat), List.find? (fun r => r.unit_ == u.val && !r.waits) s.cal.runs = some r ∧
      r.kind = 1 ∧ s.repeatFull r (r.measured m) = true ∧ tdcCode (r.measured m) = 0 ∧ r.done = a :: rest ∧
      (tdcAgree a.result (r.measured m) = true ∧
      s.tempMoved u.val [a, { result := r.measured m, points := [], tempStart := r.temps, tempEnd := s.dieTemps }] = false)) ∧
    (∃ (s : State) (u : Fin 304) (r : CalRun), List.find? (fun r => r.unit_ == u.val && r.kind == 1) s.cal.runs = some r ∧
      reached s.now r.since (s.tdcTimeout u.val) = true) ∧
    (∃ (s : State) (u : Fin 304), s.running = true ∧ s.getB Obj.CAL_ONLINE = true ∧
      reached s.now (tabGet (fun _ => s.cal.loadedAt) s.cal.acceptedAt u.val) (sec (s.getN Obj.CAL_MAX_AGE)) = true) ∧
    (∃ (s : State) (x : Nat × Nat) (rest : List (Nat × Nat)), s.running = true ∧ s.getB Obj.CAL_ONLINE = true ∧
      (∀ (r : CalRun), r ∈ s.cal.runs → r.slot ≠ 0) ∧ s.onlineChoices = x :: rest) := by
  refine ⟨?_, ?_, ?_, ?_, ?_, ?_, ?_, ?_, ?_, ?_⟩
  · exact ⟨{ on with seq := { on.seq with takes := [{ take0 with start := some 0 }] } }, 0, by decide +kernel⟩
  · exact ⟨on, 0, by decide +kernel⟩
  · exact ⟨{ on with cal := { on.cal with runs := [run0] } }, 0, ⟨[], [], [], [], 0⟩, run0, by decide +kernel⟩
  · exact ⟨{ on with cal := { on.cal with runs := [{ run0 with kind := 2 }] } }, 0, ⟨[], [], List.replicate 7 0, List.replicate 7 0, 10⟩, { run0 with kind := 2 }, by decide +kernel⟩
  · exact ⟨{ on with cal := { on.cal with runs := [run0] } }, 0, ⟨List.replicate 64 16384, [2 ^ 20], [], [], 0⟩, run0, by decide +kernel⟩
  · exact ⟨{ on with cal := { on.cal with runs := [run0] } }, 0, flat0, run0, by decide +kernel⟩
  · exact ⟨{ on with cal := { on.cal with runs := [{ run0 with done := [⟨flat0, [], [], []⟩] }] } }, 0, flat0, { run0 with done := [⟨flat0, [], [], []⟩] }, ⟨flat0, [], [], []⟩, [], by decide +kernel⟩
  · exact ⟨{ on with cal := { on.cal with runs := [run0] } }, 0, run0, by decide +kernel⟩
  · exact ⟨onReg [(Obj.CAL_ONLINE, 1)], 303, by decide +kernel⟩
  · obtain ⟨x, rest, h⟩ := choices_cons (onReg [(Obj.CAL_ONLINE, 1), (Obj.CAL_STATUS, 32768)]) (by decide +kernel)
    exact ⟨_, x, rest, by decide +kernel, by decide +kernel, by decide +kernel, h⟩

theorem wit_HousekeepingMeasuresInStages :
    (∃ (s : State) (m : Nat), s.running = true ∧ s.hk.inject = some m ∧ s.hkFree (s.hkRun m true) = true) ∧
    (∃ (s : State) (m : Nat), s.running = true ∧ s.hk.inject = none ∧ s.hkNext = some m ∧ s.hkFree (s.hkRun m false) = true) ∧
    (∃ (s : State) (m : Fin 16) (r : HkRun), s.hkFind m.val = some r ∧ r.stage = HkStage.discharge ∧
      reached s.now r.since (us r.dischargeUs) = true) ∧
    (∃ (s : State) (m : Fin 16) (r : HkRun), s.hkFind m.val = some r ∧ r.stage = HkStage.settle ∧
      reached s.now r.since (us r.settleUs) = true) ∧
    (∃ (s : State) (m : Fin 16) (r : HkRun), s.hkFind m.val = some r ∧ r.stage = HkStage.wait ∧ r.mode = 2) ∧
    (∃ (s : State) (m : Fin 16) (r : HkRun), s.hkFind m.val = some r ∧ r.stage = HkStage.locked ∧ s.periodBoundary r = none ∧
      reached s.now r.since (ms 1000) = true) ∧
    (∃ (s : State) (m : Fin 16) (r : HkRun) (stop : Time), s.hkFind m.val = some r ∧ s.periodEnd r = some stop) ∧
    (∃ (s : State) (c : Fin 2) (sensor : Nat) (w : Time), s.die c.val = some (sensor, w) ∧ sensor < 18 ∧ reached s.now w (us 250) = true) ∧
    (∃ (s : State) (i : Fin 3), tabGet (fun _ => false) s.hk.gainDue i.val = true ∧ s.captureOpen i.val = false ∧ s.hk.trimAt = none) ∧
    (∃ (s : State), s.running = true ∧ s.trimDue = true ∧ s.seq.state ≠ SeqState.running ∧ s.hk.trimAt = none) ∧
    (∃ (s : State) (w : Time), s.hk.trimAt = some w ∧ reached s.now w (us 50) = true) := by
  refine ⟨?_, ?_, ?_, ?_, ?_, ?_, ?_, ?_, ?_, ?_, ?_⟩
  · exact ⟨{ on with hk := { on.hk with inject := some 15 } }, 15, by decide +kernel⟩
  · exact ⟨onReg [(Obj.HK_MEAS + 15, 2 ^ 31)], 15, by decide +kernel⟩
  · exact ⟨{ on with hk := { on.hk with runs := [{ (on.hkRun 15 false) with stage := .discharge, mode := 0, since := 0 }] } }, 15, { (on.hkRun 15 false) with stage := .discharge, mode := 0, since := 0 }, by decide +kernel⟩
  · exact ⟨{ on with hk := { on.hk with runs := [{ (on.hkRun 15 false) with stage := .settle, mode := 0, since := 0 }] } }, 15, { (on.hkRun 15 false) with stage := .settle, mode := 0, since := 0 }, by decide +kernel⟩
  · exact ⟨{ on with hk := { on.hk with runs := [{ (on.hkRun 15 false) with stage := .wait, mode := 2, since := 0 }] } }, 15, { (on.hkRun 15 false) with stage := .wait, mode := 2, since := 0 }, by decide +kernel⟩
  · exact ⟨{ on with hk := { on.hk with runs := [{ (on.hkRun 15 false) with stage := .locked, mode := 1, since := 0 }] } }, 15, { (on.hkRun 15 false) with stage := .locked, mode := 1, since := 0 }, by decide +kernel⟩
  · exact ⟨{ on with hk := { on.hk with runs := [{ (on.hkRun 15 false) with stage := .fixed 5, mode := 0, since := 0 }] } }, 15, { (on.hkRun 15 false) with stage := .fixed 5, mode := 0, since := 0 }, 5, by decide +kernel⟩
  · exact ⟨{ on with hk := { on.hk with die1 := some (17, 0) } }, 1, 17, 0, by decide +kernel⟩
  · exact ⟨{ on with hk := { on.hk with gainDue := [(2, true)] } }, 2, by decide +kernel⟩
  · exact ⟨{ onReg [(Obj.FC_MODE, 1)] with hk := { on.hk with trimTemp := 10000 } }, by decide +kernel⟩
  · exact ⟨{ on with hk := { on.hk with trimAt := some 0 } }, 0, by decide +kernel⟩

theorem wit_ClockFollowsItsSyncs :
    (∃ (s : State) (p : Fin 2) (m : GptpSync) (id : Nat), s.ptpTakes (p.val) m.domain = true ∧ s.asCapable p.val = true ∧
      s.syncIdentity (p.val) m.source = some id ∧ m.twoStep = true) ∧
    (∃ (s : State) (p : Fin 2) (m : GptpSync) (id : Nat), s.ptpTakes (p.val) m.domain = true ∧ s.asCapable p.val = true ∧
      s.syncIdentity (p.val) m.source = some id ∧ m.twoStep = false ∧ s.getN Obj.GPTP_PRIMARY < 2 ∧ s.follows p.val = true ∧
      s.getN Obj.CLOCK_STATE = 0 ∧ s.get Obj.TIME_SOURCE = 0) ∧
    (∃ (s : State) (p : Fin 2) (m : GptpFollowUp) (w : GptpSync) (id : Nat), (s.ptp p.val).waiting = some w ∧
      s.syncIdentity (p.val) m.source = some id ∧ s.ptpTakes (p.val) m.domain = true ∧ w.source = m.source ∧ w.seq = m.seq) ∧
    (∃ (s : State) (p : Fin 2) (m : GptpPdelayReq), s.pdelayTakes (p.val) m.domain = true ∧ s.syncDue p.val = false) ∧
    (∃ (s : State) (p : Fin 2) (m : GptpPdelayReq), s.pdelayTakes (p.val) m.domain = true ∧ s.syncDue p.val = true) ∧
    (∃ (s : State) (p : Fin 2) (m : GptpPdelayResp), s.pdelayTakes (p.val) m.domain = true ∧ m.seq = (s.ptp p.val).pdelaySeq ∧
      m.form = PdelayForm.oneStep) ∧
    (∃ (s : State) (p : Fin 2) (m : GptpPdelayResp) (r : Nat), s.pdelayTakes (p.val) m.domain = true ∧ m.seq = (s.ptp p.val).pdelaySeq ∧
      m.form = PdelayForm.twoStep r) ∧
    (∃ (s : State) (p : Fin 2), s.ptpOn p.val = true ∧ reached s.now (s.ptp p.val).pdelayTxAt (logSec (s.ptp p.val).logPdelay) = true) ∧
    (∃ (s : State) (p : Fin 2), s.ptpOn p.val = true ∧ s.isGrandmaster = true ∧ s.asCapable p.val = true ∧
      reached s.now (s.ptp p.val).syncTxAt (logSec (s.ptp p.val).logSync) = true) ∧
    (∃ (s : State) (p : Fin 2), s.ptpOn p.val = true ∧ s.isGrandmaster = true ∧ s.asCapable p.val = true ∧
      reached s.now (s.ptp p.val).announceTxAt (logSec (s.ptp p.val).logAnnounce) = true) ∧
    (∃ (s : State) (p : Fin 2) (m : GptpAnnounce), s.ptpTakes (p.val) m.domain = true ∧ s.asCapable p.val = true ∧
      s.getB Obj.GPTP_EXT_CONFIG = false ∧ m.source ≠ s.clockIdentity ∧ m.vector.steps < 255 ∧ (s.ptp p.val).betters m = true) ∧
    (∃ (s : State) (p : Fin 2) (m : GptpSignaling), s.ptpTakes (p.val) m.domain = true) ∧
    (∃ (s : State) (p : Fin 2), s.running = true ∧ s.portTimedOut p.val = true ∧ s.time.servoPort ≠ p.val) ∧
    (∃ (s : State) (p : Fin 2) (a : GptpAnnounce), (s.ptp p.val).announce = some a ∧
      reached s.now (s.ptp p.val).announceAt (3 * logSec (s.get Obj.LOG_ANNOUNCE_INTERVAL)) = true) ∧
    (∃ (s : State), s.get Obj.TIME_SOURCE = 1 ∧ s.steered = true ∧
      s.running = true ∧ reached s.now s.hostSince (ms (s.getN Obj.HOST_TIMEOUT)) = true) ∧
    (∃ (s : State), s.get Obj.TIME_SOURCE = 1 ∧ s.steered = false ∧ s.time.hostLate = false ∧ s.running = true ∧
      reached s.now s.hostSince (ms (s.getN Obj.HOST_TIMEOUT)) = true) ∧
    (∃ (s : State), s.getB Obj.XTAL_LEARN = true ∧ s.synced = true ∧ s.get Obj.TIME_SOURCE = 0 ∧ reached s.now s.time.hourAt hour = true) := by
  refine ⟨?_, ?_, ?_, ?_, ?_, ?_, ?_, ?_, ?_, ?_, ?_, ?_, ?_, ?_, ?_, ?_, ?_⟩
  · exact ⟨(ptpUp.setPtp 1 { GptpPort.init 0 with delayKnown := true, announce := some ⟨0, 5, ⟨1, 1, 1, 1, 1, 5, 0⟩⟩ }), 1, ⟨0, 5, 0, true, 0, 0, 0⟩, 5, by decide +kernel⟩
  · exact ⟨(([(Obj.GPTP_PRIMARY, (1 : Int))].foldl (fun s e => s.set e.1 e.2) ptpUp).setPtp 1 { GptpPort.init 0 with delayKnown := true, announce := some ⟨0, 5, ⟨1, 1, 1, 1, 1, 5, 0⟩⟩ }), 1, ⟨0, 5, 0, false, 0, 0, 0⟩, 5, by decide +kernel⟩
  · exact ⟨(ptpUp.setPtp 1 { GptpPort.init 0 with delayKnown := true, announce := some ⟨0, 5, ⟨1, 1, 1, 1, 1, 5, 0⟩⟩, waiting := some ⟨0, 5, 0, true, 0, 0, 0⟩ }), 1, ⟨0, 5, 0, 0, 0⟩, ⟨0, 5, 0, true, 0, 0, 0⟩, 5, by decide +kernel⟩
  · exact ⟨(ptpUp.setPtp 1 { GptpPort.init 0 with delayKnown := true }), 1, ⟨2, 0, 5, 1, 0, 0, 0⟩, by decide +kernel⟩
  · exact ⟨((ptpUp.set Obj.GPTP_PRIORITY1 1).setPtp 1 { GptpPort.init 0 with delayKnown := true }), 1, ⟨2, 0, 5, 1, 0, 0, 0⟩, by decide +kernel⟩
  · exact ⟨(ptpUp.setPtp 1 { GptpPort.init 0 with delayKnown := true }), 1, ⟨0, 0, .oneStep, 0, 0⟩, by decide +kernel⟩
  · exact ⟨(ptpUp.setPtp 1 { GptpPort.init 0 with delayKnown := true }), 1, ⟨0, 0, .twoStep 7, 0, 0⟩, 7, by decide +kernel⟩
  · exact ⟨(ptpUp.setPtp 1 { GptpPort.init 0 with delayKnown := true }), 1, by decide +kernel⟩
  · exact ⟨(([(Obj.GPTP_PRIORITY1, (1 : Int))].foldl (fun s e => s.set e.1 e.2) ptpUp).setPtp 1 { GptpPort.init 0 with delayKnown := true, syncSeq := 0 }), 1, by decide +kernel⟩
  · exact ⟨(([(Obj.GPTP_PRIORITY1, (1 : Int))].foldl (fun s e => s.set e.1 e.2) ptpUp).setPtp 1 { GptpPort.init 0 with delayKnown := true, syncSeq := 0 }), 1, by decide +kernel⟩
  · exact ⟨(ptpUp.setPtp 1 { GptpPort.init 0 with delayKnown := true }), 1, ⟨0, 5, ⟨1, 1, 1, 1, 1, 5, 0⟩⟩, by decide +kernel⟩
  · exact ⟨(ptpUp.setPtp 1 { GptpPort.init 0 with delayKnown := true }), 1, ⟨0, 0, 0, 0⟩, by decide +kernel⟩
  · exact ⟨(ptpUp.setPtp 1 { GptpPort.init 0 with delayKnown := true }), 1, by decide +kernel⟩
  · exact ⟨(ptpUp.setPtp 1 { GptpPort.init 0 with delayKnown := true, announce := some ⟨0, 5, ⟨1, 1, 1, 1, 1, 5, 0⟩⟩ }), 1, ⟨0, 5, ⟨1, 1, 1, 1, 1, 5, 0⟩⟩, by decide +kernel⟩
  · exact ⟨onReg [(Obj.TIME_SOURCE, 1), (Obj.CLOCK_STATE, 3)], by decide +kernel⟩
  · exact ⟨onReg [(Obj.TIME_SOURCE, 1)], by decide +kernel⟩
  · exact ⟨onReg [(Obj.XTAL_LEARN, 1), (Obj.CLOCK_STATE, 3)], by decide +kernel⟩

theorem wit_NetworksCountWhatTheyDiscard :
    (∃ (s : State) (p : Fin 2) (f : EthFrame), s.running = true ∧ s.portUp p.val = true ∧ f.fcsOk = false) ∧
    (∃ (s : State) (p : Fin 2) (f : EthFrame), s.running = true ∧ s.portUp p.val = true ∧ f.fcsOk = true ∧ f.body = EthBody.pause) ∧
    (∃ (s : State) (p : Fin 2) (f : EthFrame), s.running = true ∧ s.portUp p.val = true ∧ f.fcsOk = true ∧ f.body ≠ EthBody.pause ∧
      s.frameTaken (p.val) f = false) ∧
    (∃ (s : State) (p : Fin 2) (f : EthFrame), s.running = true ∧ s.portUp p.val = true ∧ f.fcsOk = true ∧ f.body = EthBody.other ∧
      s.frameTaken (p.val) f = true) ∧
    (∃ (s : State) (p : Fin 2) (f : EthFrame) (a : Nat) (k : Nat), s.running = true ∧ s.portUp p.val = true ∧ f.fcsOk = true ∧
      f.body = EthBody.arp true a k ∧ s.frameTaken (p.val) f = true ∧ k ≠ 0 ∧ k = s.ownV4 p.val) ∧
    (∃ (s : State) (p : Fin 2), (s.running = false ∨ s.portUp p.val = false)) ∧
    (∃ (s : State) (f : CanFrame), s.running = true ∧ s.canTakes f = true ∧ f.format = CanFormat.classic ∧ f.id ≠ s.getN Obj.EGO_CAN_ID) ∧
    (∃ (s : State) (f : CanFrame), s.running = true ∧ s.canTakes f = true ∧ f.format = CanFormat.classic ∧ f.id = s.getN Obj.EGO_CAN_ID ∧
      s.getN Obj.EGO_SOURCE = 1) ∧
    (∃ (s : State) (p : Fin 2) (d : List Byte), s.getN Obj.EGO_SOURCE = p.val + 1 ∧ d.length = 4 ∧ s.egoValid d = true) ∧
    (∃ (s : State) (p : Fin 2) (d : List Byte), s.getN Obj.EGO_SOURCE = p.val + 1 ∧ d.length = 4 ∧ s.egoValid d = false) ∧
    (∃ (s : State) (p : Fin 2), s.getN Obj.EGO_SOURCE ≠ p.val + 1) ∧
    (∃ (s : State) (p : Fin 2) (l : Fin 5), l.val ≠ 0 ∧ s.portOn p.val = true ∧ s.rateOk p.val l.val = true ∧
      s.getN (Obj.LINK_STATE + p.val) ≠ l.val) ∧
    (∃ (s : State) (p : Fin 2), s.getN (Obj.LINK_STATE + p.val) ≠ 0) ∧
    (∃ (s : State) (e : Fin 3), s.get Obj.CAN_MODE ≠ 0 ∧ s.getN Obj.CAN_STATE ≠ 0 ∧ s.get Obj.CAN_STATE ≠ 3 ∧ s.net.canOff = false ∧ s.getN Obj.CAN_STATE ≠ e.val + 1) ∧
    (∃ (s : State), s.getB Obj.CAN_AUTO_RECOVER = true ∧ s.get Obj.CAN_STATE = 3) ∧
    (∃ (s : State), s.getB Obj.CAN_AUTO_RECOVER = false) := by
  refine ⟨?_, ?_, ?_, ?_, ?_, ?_, ?_, ?_, ?_, ?_, ?_, ?_, ?_, ?_, ?_, ?_⟩
  · exact ⟨ptpUp, 1, ⟨64, false, 0xFFFFFFFFFFFF, [], .other⟩, by decide +kernel⟩
  · exact ⟨ptpUp, 1, ⟨64, true, 0xFFFFFFFFFFFF, [], .pause⟩, by decide +kernel⟩
  · exact ⟨ptpUp, 1, ⟨63, true, 0xFFFFFFFFFFFF, [], .other⟩, by decide +kernel⟩
  · exact ⟨ptpUp, 1, ⟨9022, true, 0xFFFFFFFFFFFF, [], .other⟩, by decide +kernel⟩
  · exact ⟨{ ptpUp with reg := tabPut objDflt ptpUp.reg (Obj.IPV4_ADDR + 1) 7 }, 1, ⟨64, true, 0xFFFFFFFFFFFF, [], .arp true 5 0xFFFF00000007⟩, 5, 0xFFFF00000007, by decide +kernel⟩
  · exact ⟨on, 1, by decide +kernel⟩
  · exact ⟨onReg [(Obj.CAN_STATE, 1), (Obj.CAN_MODE, 1), (Obj.EGO_CAN_ID, 5)], ⟨.classic, true, 6, 0, 0, []⟩, by decide +kernel⟩
  · exact ⟨onReg [(Obj.CAN_STATE, 1), (Obj.CAN_MODE, 1), (Obj.EGO_CAN_ID, 5), (Obj.EGO_SOURCE, 1)], ⟨.classic, true, 5, 0, 0, []⟩, by decide +kernel⟩
  · exact ⟨onReg [(Obj.EGO_SOURCE, 2)], 1, [0x27, 0x10, 0, crc8 [0x27, 0x10, 0]], by decide +kernel⟩
  · exact ⟨onReg [(Obj.EGO_SOURCE, 2)], 1, [0x27, 0x11, 0, crc8 [0x27, 0x11, 0]], by decide +kernel⟩
  · exact ⟨onReg [(Obj.EGO_SOURCE, 0)], 1, by decide +kernel⟩
  · exact ⟨onReg [(Obj.PORT_ENABLE, 1), (Obj.LANE_MODE + 4, 1), (Obj.LINK_SPEED, 0), (Obj.LINK_STATE, 0)], 0, 4, by decide +kernel⟩
  · exact ⟨ptpUp, 1, by decide +kernel⟩
  · exact ⟨onReg [(Obj.CAN_STATE, 1), (Obj.CAN_MODE, 1)], 1, by decide +kernel⟩
  · exact ⟨onReg [(Obj.CAN_AUTO_RECOVER, 1), (Obj.CAN_STATE, 3)], by decide +kernel⟩
  · exact ⟨onReg [(Obj.CAN_AUTO_RECOVER, 0)], by decide +kernel⟩

theorem wit_LanesLockAlignAndTrain :
    (∃ (s : State) (lane : Fin 8), (s.running = false ∨ s.lanePowered lane.val = false ∨ s.nearLoop lane.val = true)) ∧
    (∃ (s : State) (lane : Fin 8), s.running = true ∧ s.lanePowered lane.val = true ∧ s.nearLoop lane.val = false ∧
      s.prbsChecks lane.val = true) ∧
    (∃ (s : State) (lane : Fin 8) (block : LaneBlock) (b : Nat), s.running = true ∧ s.lanePowered lane.val = true ∧
      s.nearLoop lane.val = false ∧ s.prbsChecks lane.val = false ∧ laneBond lane.val = some b ∧ (s.lane lane.val).locked = false ∧ blockHeaderOk block = true) ∧
    (∃ (s : State) (lane : Fin 8) (block : LaneBlock) (b : Nat), s.running = true ∧ s.lanePowered lane.val = true ∧
      s.nearLoop lane.val = false ∧ s.prbsChecks lane.val = false ∧ laneBond lane.val = some b ∧ (s.lane lane.val).locked = false ∧ blockHeaderOk block = false) ∧
    (∃ (s : State) (lane : Fin 8) (block : LaneBlock) (b : Nat), s.running = true ∧ s.lanePowered lane.val = true ∧
      s.nearLoop lane.val = false ∧ s.prbsChecks lane.val = false ∧ laneBond lane.val = some b ∧ (s.lane lane.val).locked = true ∧ blockHeaderOk block = false ∧
      (List.filter id (List.take 64 (true :: (s.lane lane.val).window))).length < 16) ∧
    (∃ (s : State) (lane : Fin 8) (block : LaneBlock) (b : Nat), s.running = true ∧ s.lanePowered lane.val = true ∧
      s.nearLoop lane.val = false ∧ s.prbsChecks lane.val = false ∧ laneBond lane.val = some b ∧ (s.lane lane.val).locked = true ∧ blockHeaderOk block = false ∧
      16 ≤ (List.filter id (List.take 64 (true :: (s.lane lane.val).window))).length) ∧
    (∃ (s : State) (lane : Fin 8) (block : LaneBlock) (b : Nat), s.running = true ∧ s.lanePowered lane.val = true ∧
      s.nearLoop lane.val = false ∧ s.prbsChecks lane.val = false ∧ laneBond lane.val = some b ∧ (s.lane lane.val).locked = true ∧ block.header = 1#2 ∧
      s.laneMode lane.val = 1 ∧ (s.bond b).level < block.taken ∧ (List.filter id (List.take 64 (false :: (s.lane lane.val).window))).length < 16 ∧
      lane.val ∈ s.rxLanes b) ∧
    (∃ (s : State) (bond : Fin 2), 24 < (s.bond bond.val).level) ∧ (∃ (s : State) (bond : Fin 2), (s.bond bond.val).level < 8) ∧
    (∃ (s : State) (bond : Fin 2), (s.bond bond.val).level < 32) ∧
    (∃ (s : State) (lane : Fin 8), s.running = true ∧ s.lanePowered lane.val = true ∧ (s.lane lane.val).locked = false ∧
      64 ≤ (s.lane lane.val).valid) ∧
    (∃ (s : State) (lane : Fin 8) (b : Nat), laneBond lane.val = some b ∧ s.running = true ∧ (s.lane lane.val).locked = true) ∧
    (∃ (s : State) (lane : Fin 8) (col : StatusColumn) (b : Nat), laneBond lane.val = some b ∧ s.running = true ∧
      (s.lane lane.val).locked = true ∧ s.statusLater b col.seq = true) ∧
    (∃ (s : State) (lane : Fin 8) (col : StatusColumn) (b : Nat), laneBond lane.val = some b ∧ s.running = true ∧
      (s.lane lane.val).locked = true ∧ s.statusLater b col.seq = false) ∧
    (∃ (s : State) (bond : Fin 2), s.running = true ∧ (s.bond bond.val).peerStatus.isSome = true ∧ s.statusFresh bond.val = false) ∧
    (∃ (s : State) (bond : Fin 2), s.running = true ∧ s.enabledLanes bond.val ≠ [] ∧ s.alignDue bond.val = true) ∧
    (∃ (s : State) (bond : Fin 2), s.running = true ∧ s.enabledLanes bond.val ≠ [] ∧ reached s.now (s.bond bond.val).statusTxAt (us 8) = true) ∧
    (∃ (s : State) (bond : Fin 2) (frame : LaneFrame), s.running = true ∧ s.enabledLanes bond.val ≠ [] ∧ frameAborted frame = false ∧
      (bond.val = 0 ∨ frameGood frame = false)) ∧
    (∃ (s : State) (bond : Fin 2) (frame : LaneFrame), s.running = true ∧ s.enabledLanes bond.val ≠ [] ∧ frameAborted frame = false ∧
      bond.val = 1 ∧ frameGood frame = true ∧ frameType frame = 16) ∧
    (∃ (s : State) (bond : Fin 2) (frame : LaneFrame), s.running = true ∧ s.enabledLanes bond.val ≠ [] ∧ frameAborted frame = false ∧
      bond.val = 1 ∧ frameGood frame = true ∧ frameType frame = 17) ∧
    (∃ (s : State) (bond : Fin 2) (frame : LaneFrame), s.running = true ∧ s.enabledLanes bond.val ≠ [] ∧ frameAborted frame = false ∧
      bond.val = 1 ∧ frameGood frame = true ∧ frameType frame = 18) ∧
    (∃ (s : State) (bond : Fin 2) (frame : LaneFrame), s.running = true ∧ s.enabledLanes bond.val ≠ [] ∧ frameAborted frame = false ∧
      bond.val = 1 ∧ frameGood frame = true ∧ frameType frame = 19) ∧
    (∃ (s : State) (bond : Fin 2) (frame : LaneFrame), s.running = true ∧ s.enabledLanes bond.val ≠ [] ∧ frameAborted frame = false ∧
      bond.val = 1 ∧ frameGood frame = true ∧ frameType frame = 20) ∧
    (∃ (s : State) (bond : Fin 2) (frame : LaneFrame), s.running = true ∧ s.enabledLanes bond.val ≠ [] ∧ frameAborted frame = false ∧
      bond.val = 1 ∧ frameGood frame = true ∧ frameType frame = 21) ∧
    (∃ (s : State) (bond : Fin 2) (frame : LaneFrame), s.running = true ∧ s.enabledLanes bond.val ≠ [] ∧ frameAborted frame = false ∧
      bond.val = 1 ∧ frameGood frame = true ∧ frameType frame = 22) ∧
    (∃ (s : State) (bond : Fin 2) (frame : LaneFrame), s.running = true ∧ s.enabledLanes bond.val ≠ [] ∧ frameAborted frame = false ∧
      bond.val = 1 ∧ frameGood frame = true ∧ frameType frame = 23) ∧
    (∃ (s : State) (bond : Fin 2) (frame : LaneFrame), s.running = true ∧ s.enabledLanes bond.val ≠ [] ∧ frameAborted frame = false ∧
      bond.val = 1 ∧ frameGood frame = true ∧ frameType frame = 24) ∧
    (∃ (s : State) (bond : Fin 2) (frame : LaneFrame), s.running = true ∧ s.enabledLanes bond.val ≠ [] ∧ frameAborted frame = false ∧
      bond.val = 1 ∧ frameGood frame = true ∧ frameType frame = 25) ∧
    (∃ (w : Nat), 1 ≤ w) ∧
    (∃ (w : Nat) (p : List Byte) (c : List FrameBlock), 1 ≤ w ∧ c ∈ frameColumns w p) ∧
    (∃ (w : Nat) (t : Nat) (p : List Byte), 1 ≤ w ∧ typeValid t = true ∧ 1 ≤ p.length ∧ p.length ≤ 262144) ∧
    (∃ (s : State) (bond : Fin 2), (s.bond bond.val).frames = [] ∧ (s.bond bond.val).control = []) ∧
    (∃ (s : State) (bond : Fin 2), 1023 ≤ (s.bond bond.val).sinceFill) ∧ (∃ (s : State) (bond : Fin 2), (s.bond bond.val).sinceFill ≤ 1023) ∧
    (∃ (s : State) (lane : Fin 8), s.running = true ∧ s.lanePowered lane.val = true) ∧
    (∃ (s : State) (lane : Fin 8), s.prbsFound lane.val = true) ∧
    (∃ (s : State) (lane : Fin 8), s.prbsLost lane.val = true) := by
  refine ⟨?_, ?_, ?_, ?_, ?_, ?_, ?_, ?_, ?_, ?_, ?_, ?_, ?_, ?_, ?_, ?_, ?_, ?_, ?_, ?_, ?_, ?_, ?_, ?_, ?_, ?_, ?_, ?_, ?_, ?_, ?_, ?_, ?_, ?_, ?_, ?_, ?_⟩
  · exact ⟨State.reset, 7, by decide +kernel⟩
  · exact ⟨onReg [(Obj.LANE_MODE + 7, 2), (Obj.PRBS_CTRL + 7, 2)], 7, by decide +kernel⟩
  · exact ⟨(onReg [(Obj.LANE_MODE + 7, 1), (Obj.LANE_MODE + 6, 1)]), 7, ⟨1#2, List.replicate 8 0, 0⟩, 1, by decide +kernel⟩
  · exact ⟨(onReg [(Obj.LANE_MODE + 7, 1), (Obj.LANE_MODE + 6, 1)]), 7, ⟨3#2, List.replicate 8 0, 0⟩, 1, by decide +kernel⟩
  · exact ⟨((onReg [(Obj.LANE_MODE + 7, 1), (Obj.LANE_MODE + 6, 1)]).setLane 7 { Lane.init with locked := true }), 7, ⟨0#2, List.replicate 8 0, 0⟩, 1, by decide +kernel⟩
  · exact ⟨((onReg [(Obj.LANE_MODE + 7, 1), (Obj.LANE_MODE + 6, 1)]).setLane 7 { Lane.init with locked := true, window := List.replicate 15 true }), 7, ⟨0#2, List.replicate 8 0, 0⟩, 1, by decide +kernel⟩
  · exact ⟨((onReg [(Obj.LANE_MODE + 7, 1), (Obj.LANE_MODE + 6, 1)]).setLane 7 { Lane.init with locked := true }).setBond 1 { on.bond 1 with peerMap := 2 }, 7, ⟨1#2, List.replicate 8 0, 17⟩, 1, by decide +kernel⟩
  · exact ⟨on.setBond 1 { on.bond 1 with level := 25 }, 1, by decide +kernel⟩
  · exact ⟨on.setBond 1 { on.bond 1 with level := 7 }, 1, by decide +kernel⟩
  · exact ⟨on, 1, by decide +kernel⟩
  · exact ⟨((onReg [(Obj.LANE_MODE + 7, 1), (Obj.LANE_MODE + 6, 1)]).setLane 7 { Lane.init with valid := 64 }), 7, by decide +kernel⟩
  · exact ⟨((onReg [(Obj.LANE_MODE + 7, 1), (Obj.LANE_MODE + 6, 1)]).setLane 7 { Lane.init with locked := true }), 7, 1, by decide +kernel⟩
  · exact ⟨((onReg [(Obj.LANE_MODE + 7, 1), (Obj.LANE_MODE + 6, 1)]).setLane 7 { Lane.init with locked := true }), 7, ⟨0, 0, 0, 0⟩, 1, by decide +kernel⟩
  · exact ⟨(((onReg [(Obj.LANE_MODE + 7, 1), (Obj.LANE_MODE + 6, 1)]).setLane 7 { Lane.init with locked := true }).setBond 1 { ((onReg [(Obj.LANE_MODE + 7, 1), (Obj.LANE_MODE + 6, 1)]).setLane 7 { Lane.init with locked := true }).lanes.farlu with peerStatus := some (5, 10 ^ 16) }), 7, ⟨0, 0, 0, 5⟩, 1, by decide +kernel⟩
  · exact ⟨((onReg [(Obj.LANE_MODE + 7, 1), (Obj.LANE_MODE + 6, 1)]).setBond 1 { (onReg [(Obj.LANE_MODE + 7, 1), (Obj.LANE_MODE + 6, 1)]).lanes.farlu with peerStatus := some (5, 0) }), 1, by decide +kernel⟩
  · exact ⟨(onReg [(Obj.LANE_MODE + 7, 1), (Obj.LANE_MODE + 6, 1)]), 1, by decide +kernel⟩
  · exact ⟨(onReg [(Obj.LANE_MODE + 7, 1), (Obj.LANE_MODE + 6, 1)]), 1, by decide +kernel⟩
  · exact ⟨(onReg [(Obj.LANE_MODE + 7, 1), (Obj.LANE_MODE + 6, 1)]), 1, ⟨[]⟩, by decide +kernel⟩
  · exact ⟨(onReg [(Obj.LANE_MODE + 7, 1), (Obj.LANE_MODE + 6, 1)]), 1, (farlu 16 [0]), by decide +kernel⟩
  · exact ⟨(onReg [(Obj.LANE_MODE + 7, 1), (Obj.LANE_MODE + 6, 1)]), 1, (farlu 17 [0]), by decide +kernel⟩
  · exact ⟨(onReg [(Obj.LANE_MODE + 7, 1), (Obj.LANE_MODE + 6, 1)]), 1, (farlu 18 [0]), by decide +kernel⟩
  · exact ⟨(onReg [(Obj.LANE_MODE + 7, 1), (Obj.LANE_MODE + 6, 1)]), 1, (farlu 19 [0]), by decide +kernel⟩
  · exact ⟨(onReg [(Obj.LANE_MODE + 7, 1), (Obj.LANE_MODE + 6, 1)]), 1, (farlu 20 [0]), by decide +kernel⟩
  · exact ⟨(onReg [(Obj.LANE_MODE + 7, 1), (Obj.LANE_MODE + 6, 1)]), 1, (farlu 21 [0]), by decide +kernel⟩
  · exact ⟨(onReg [(Obj.LANE_MODE + 7, 1), (Obj.LANE_MODE + 6, 1)]), 1, (farlu 22 [0]), by decide +kernel⟩
  · exact ⟨(onReg [(Obj.LANE_MODE + 7, 1), (Obj.LANE_MODE + 6, 1)]), 1, (farlu 23 [0]), by decide +kernel⟩
  · exact ⟨(onReg [(Obj.LANE_MODE + 7, 1), (Obj.LANE_MODE + 6, 1)]), 1, (farlu 24 [0]), by decide +kernel⟩
  · exact ⟨(onReg [(Obj.LANE_MODE + 7, 1), (Obj.LANE_MODE + 6, 1)]), 1, (farlu 25 [0]), by decide +kernel⟩
  · exact ⟨1, by decide +kernel⟩
  · exact ⟨1, [], (frameColumns 1 []).headD [], by decide +kernel⟩
  · exact ⟨2, 0x19, [7], by decide +kernel⟩
  · exact ⟨on, 1, by decide +kernel⟩
  · exact ⟨on.setBond 1 { on.bond 1 with sinceFill := 1023 }, 1, by decide +kernel⟩
  · exact ⟨on, 1, by decide +kernel⟩
  · exact ⟨(onReg [(Obj.LANE_MODE + 7, 1), (Obj.LANE_MODE + 6, 1)]), 7, by decide +kernel⟩
  · exact ⟨(onReg [(Obj.LANE_MODE + 7, 2), (Obj.PRBS_CTRL + 7, 2)]).setLane 7 { Lane.init with prbsGood := 64 }, 7, by decide +kernel⟩
  · exact ⟨(onReg [(Obj.LANE_MODE + 7, 2), (Obj.PRBS_CTRL + 7, 2), (Obj.PRBS_LOCK + 7, 1)]).setLane 7 { Lane.init with prbsErrors := List.replicate 64 true }, 7, by decide +kernel⟩

theorem wit_I3cTransfersAndCccsAnswer :
    (∃ (s : State), s.i3cOn = false) ∧
    (∃ (s : State) (pdu : List Byte), s.i3cOn = true ∧ s.requestFits pdu = true ∧ takes (s.setSource ReadSource.koa) i3cReq pdu) ∧
    (∃ (s : State) (pdu : List Byte), s.i3cOn = true ∧ s.requestFits pdu = true ∧ s.i3c.response.isSome = true ∧
      s.bearerOpen Bearer.i3c = true ∧ pduDiscarded pdu = false) ∧
    (∃ (s : State) (pdu : List Byte), s.i3cOn = true ∧ s.requestFits pdu = false) ∧
    (∃ (s : State), s.i3cOn = true) ∧
    (∃ (s : State) (h : Fin 512), s.i3cOn = true ∧ s.i3c.source = ReadSource.live h.val ∧ 4 ≤ s.i3c.mrl ∧ h.val % 2 = 0) ∧
    (∃ (s : State) (h : Fin 512) (v : Nat), s.i3cOn = true ∧ s.i3c.source = ReadSource.live h.val ∧ 4 ≤ s.i3c.mrl ∧ h.val % 2 = 1 ∧
      s.i3c.latch = some (h.val / 2, v)) ∧
    (∃ (s : State) (h : Fin 512), s.i3cOn = true ∧ s.i3c.source = ReadSource.live h.val ∧ 4 ≤ s.i3c.mrl ∧ h.val % 2 = 1 ∧
      (∀ (v : Nat), s.i3c.latch ≠ some (h.val / 2, v))) ∧
    (∃ (s : State), s.i3cOn = true ∧ s.i3c.source = ReadSource.koa ∧ s.readyResponse = none) ∧
    (∃ (s : State) (n : Nat) (r : List Byte), s.i3cOn = true ∧ s.i3c.source = ReadSource.koa ∧ s.readyResponse = some r ∧
      (r.length ≤ n → s.i3c.later = [])) ∧
    (∃ (s : State), s.i3cOn = true ∧ s.i3c.source = ReadSource.events ∧ s.ev.ibiQueue ≠ []) ∧
    (∃ (s : State), s.i3cOn = true ∧ s.getB Obj.I3C_IBI_ENABLED = true ∧ s.i3c.ibiResponse = true ∧ s.readyResponse.isSome = true) ∧
    (∃ (s : State) (r : List Byte) (rest : List (List Byte)), s.i3cOn = true ∧ s.getB Obj.I3C_IBI_ENABLED = true ∧
      (s.i3c.ibiResponse && s.readyResponse.isSome) = false ∧ s.ev.ibiQueue = r :: rest ∧ 17 ≤ s.i3c.ibiPayload) ∧
    (∃ (s : State), s.i3cOn = true ∧ s.getB Obj.I3C_IBI_ENABLED = true) ∧
    (∃ (s : State), s.powered = true) ∧
    (∃ (s : State) (a : BitVec 7), s.powered = true ∧ dynOk a = true ∧ s.get Obj.I3C_DYN_ADDR = 0) ∧
    (∃ (s : State) (a : BitVec 7) (st : BitVec 7), s.powered = true ∧ dynOk a = true ∧ s.get Obj.I3C_DYN_ADDR = 0 ∧
      st.toNat = s.getN Obj.I3C_STATIC_ADDR) ∧
    (∃ (s : State) (a : BitVec 7), s.powered = true ∧ dynOk a = true ∧ s.get Obj.I3C_DYN_ADDR ≠ 0) ∧
    (∃ (s : State) (n : Nat), s.powered = true ∧ 9 ≤ n ∧ n ≤ 265) ∧
    (∃ (s : State) (n : Nat), s.powered = true ∧ 9 ≤ n ∧ n ≤ 264) ∧
    (∃ (s : State), s.powered = true ∧ s.i3c.later = []) ∧
    (∃ (s : State) (p : Fin 2), (s.gathered (p.val == 1)).records ≠ [] ∧ reached s.now (s.gathered (p.val == 1)).since (ms 1) = true) := by
  refine ⟨?_, ?_, ?_, ?_, ?_, ?_, ?_, ?_, ?_, ?_, ?_, ?_, ?_, ?_, ?_, ?_, ?_, ?_, ?_, ?_, ?_, ?_⟩
  · exact ⟨State.reset, by decide +kernel⟩
  · exact ⟨i3c9, [0, 0, 0, 0, 0x10, 0, 0, 0], ⟨by decide +kernel, by decide +kernel, by unfold takes; decide +kernel⟩⟩
  · exact ⟨{ i3c9 with i3c := { i3c9.i3c with response := some ([], 0) } }, [0, 0, 0, 0, 0x10, 0, 0, 0], by decide +kernel⟩
  · exact ⟨i3c9, [], by decide +kernel⟩
  · exact ⟨i3c9, by decide +kernel⟩
  · exact ⟨{ i3c9 with i3c := { i3c9.i3c with source := .live 510 } }, 510, by decide +kernel⟩
  · exact ⟨{ i3c9 with i3c := { i3c9.i3c with source := .live 511, latch := some (255, 7) } }, 511, 7, by decide +kernel⟩
  · exact ⟨{ i3c9 with i3c := { i3c9.i3c with source := .live 511, latch := none } }, 511, ⟨by decide +kernel, by decide +kernel, by decide +kernel, by decide +kernel, fun _ h => nomatch h⟩⟩
  · exact ⟨{ i3c9 with i3c := { i3c9.i3c with source := .koa } }, by decide +kernel⟩
  · exact ⟨{ i3c9 with i3c := { i3c9.i3c with source := .koa, response := some ([1], 10 ^ 16), later := [] } }, 1, [1], by decide +kernel⟩
  · exact ⟨{ i3c9 with i3c := { i3c9.i3c with source := .events }, ev := { i3c9.ev with ibiQueue := [[1]] } }, by decide +kernel⟩
  · exact ⟨{ (onReg [(Obj.I3C_DYN_ADDR, 9), (Obj.I3C_IBI_ENABLED, 1)]) with i3c := { i3c9.i3c with ibiResponse := true, response := some ([1], 0) } }, by decide +kernel⟩
  · exact ⟨{ (onReg [(Obj.I3C_DYN_ADDR, 9), (Obj.I3C_IBI_ENABLED, 1)]) with ev := { on.ev with ibiQueue := [[1]] } }, [1], [], by decide +kernel⟩
  · exact ⟨(onReg [(Obj.I3C_DYN_ADDR, 9), (Obj.I3C_IBI_ENABLED, 1)]), by decide +kernel⟩
  · exact ⟨on, by decide +kernel⟩
  · exact ⟨on, 0x7D#7, by decide +kernel⟩
  · exact ⟨on, 0x08#7, BitVec.ofNat 7 (on.getN Obj.I3C_STATIC_ADDR), by decide +kernel⟩
  · exact ⟨i3c9, 0x08#7, by decide +kernel⟩
  · exact ⟨on, 265, by decide +kernel⟩
  · exact ⟨on, 264, by decide +kernel⟩
  · exact ⟨{ on with i3c := { on.i3c with later := [] } }, by decide +kernel⟩
  · exact ⟨{ on with ev := { on.ev with gatherE1 := ⟨[[1]], 0, 0⟩ } }, 1, by decide +kernel⟩

theorem wit_ClaimsFollowTheTriggerLines :
    (∃ (s : State) (w : Time), s.pair.undrivenSince = some w ∧ s.pair.claim = Claim.none ∧ s.pair.role = PairRole.shadow ∧
      reached s.now w (us (s.getN Obj.DRIVE_LOSS_TIME)) = true) ∧
    (∃ (s : State) (w : Time), s.pair.undrivenSince = some w ∧ s.pair.claim = Claim.none ∧ s.running = true ∧ s.pair.role = PairRole.pairing ∧
      s.pair.beat = none ∧ s.driveState = DriveState.undriven ∧ reached s.now s.reset_.releasedAt (ms (s.getN Obj.ALONE_WAIT)) = true) ∧
    (∃ (s : State) (w : Time), s.pair.claim = Claim.quiet w ∧ s.driveState = DriveState.undriven ∧ reached s.now w s.claimQuiet = true) ∧
    (∃ (s : State) (w : Time), s.pair.claim = Claim.watching w ∧ reached s.now w (us 20) = true) ∧
    (∃ (s : State), s.running = true ∧ s.pair.role ≠ PairRole.solo ∧ reached s.now s.pair.beatTxAt (us 10) = true) ∧
    (∃ (s : State), s.running = true ∧ s.pair.role = PairRole.active ∧ reached s.now s.pair.timeTxAt (ms 1) = true) ∧
    (∃ (s : State), s.beatLost = true) ∧
    (∃ (s : State) (out : Fin 32) (tap : Fin 64) (y : Take), s.running = true ∧ s.startTdcOk out.val = true ∧
      (s.pair.role = PairRole.solo ∨ s.pair.role = PairRole.active) ∧ s.takeOfEdge (out.val) (s.stampOf (256 + out.val) tap.val) = some y) ∧
    (∃ (s : State) (out : Fin 32) (tap : Fin 64), s.running = true ∧ s.startTdcOk out.val = true ∧
      (s.pair.role = PairRole.solo ∨ s.pair.role = PairRole.active) ∧ s.takeOfEdge (out.val) (s.stampOf (256 + out.val) tap.val) = none ∧
      s.explained (out.val) (s.stampOf (256 + out.val) tap.val) = true) ∧
    (∃ (s : State) (out : Fin 32) (tap : Fin 64), s.running = true ∧ s.startTdcOk out.val = true ∧
      (s.pair.role = PairRole.solo ∨ s.pair.role = PairRole.active) ∧ s.takeOfEdge (out.val) (s.stampOf (256 + out.val) tap.val) = none ∧
      s.explained (out.val) (s.stampOf (256 + out.val) tap.val) = false) ∧
    (∃ (s : State) (out : Fin 32), s.running = true ∧ s.startTdcOk out.val = true ∧ s.pair.role = PairRole.shadow ∧
      tabGet (fun _ => none) s.pair.lastStart (s.groupOfOut out.val) = none) ∧
    (∃ (s : State) (g : Fin 4), s.pair.role = PairRole.shadow ∧
      (waitedTooLong s.now (List.map (fun x => x.snd) (s.waitingStarts g.val)) = true ∨ waitedTooLong s.now (List.map (fun x => x.snd) (s.waitingTakes g.val)) = true)) := by
  refine ⟨?_, ?_, ?_, ?_, ?_, ?_, ?_, ?_, ?_, ?_, ?_, ?_⟩
  · exact ⟨{ on with pair := { on.pair with undrivenSince := some 0, role := .shadow } }, 0, by decide +kernel⟩
  · exact ⟨{ on with pair := { on.pair with undrivenSince := some 0, role := .pairing, classes := [] } }, 0, by decide +kernel⟩
  · exact ⟨{ on with pair := { on.pair with claim := .quiet 0 } }, 0, by decide +kernel⟩
  · exact ⟨{ on with pair := { on.pair with claim := .watching 0 } }, 0, by decide +kernel⟩
  · exact ⟨{ on with pair := { on.pair with role := .shadow } }, by decide +kernel⟩
  · exact ⟨{ on with pair := { on.pair with role := .active } }, by decide +kernel⟩
  · exact ⟨{ on with pair := { on.pair with partnerSeen := true, beat := none } }, by decide +kernel⟩
  · obtain ⟨y, h⟩ := Option.isSome_iff_exists.1 (show (State.takeOfEdge edgeState 31 (edgeState.stampOf 287 0)).isSome = true by decide +kernel)
    exact ⟨edgeState, 31, 0, y, by decide +kernel, by decide +kernel, by decide +kernel, h⟩
  · exact ⟨{ (onReg [(Obj.TDC_LOCK + 16, 1), (Obj.TDC_LOCK + 17, 1)]) with pair := { on.pair with role := .active }, emit := { on.emit with pulses := [⟨31, 64 * (10 ^ 16 + 1), 64 * (10 ^ 16 + 1)⟩] } }, 31, 63, by decide +kernel⟩
  · exact ⟨{ (onReg [(Obj.TDC_LOCK + 16, 1), (Obj.TDC_LOCK + 17, 1)]) with pair := { on.pair with role := .active } }, 31, 63, by decide +kernel⟩
  · exact ⟨{ (onReg [(Obj.TDC_LOCK + 16, 1), (Obj.TDC_LOCK + 17, 1)]) with pair := { on.pair with role := .shadow } }, 31, by decide +kernel⟩
  · exact ⟨{ on with pair := { on.pair with role := .shadow, starts := [(3, [(0, 0)])] } }, 3, by decide +kernel⟩

theorem wit_ResetsAndBootFollowTheirOrder :
    (∃ (s : State), s.held = false) ∧
    (∃ (s : State), s.held = true) ∧
    (∃ (s : State), s.firmwareRuns = true) ∧
    (∃ (s : State), s.firmwareRuns = false ∧ s.held = false) ∧
    (∃ (s : State) (w : Time), s.reset_.requestAt = some w ∧ reached s.now w (ms 1) = true) ∧
    (∃ (s : State), s.held = true ∧ s.reset_.powerGood = true ∧ s.reset_.wake = true) ∧
    (∃ (s : State), (s.reset_.powerGood = false ∨ s.reset_.wake = false)) ∧
    (∃ (s : State), s.reset_.phase = BootPhase.rom) ∧
    (∃ (s : State), s.reset_.phase = BootPhase.rom ∧ s.reset_.sramWiped = true ∧ (s.reset_.straps.bootSel = true ∨ s.bootChoice = 0)) ∧
    (∃ (s : State) (n : Nat), s.reset_.phase = BootPhase.rom ∧ s.reset_.sramWiped = true ∧ s.reset_.straps.bootSel = false ∧ s.bootChoice = n ∧
      n ≠ 0) ∧
    (∃ (s : State), s.reset_.phase = BootPhase.firmware) ∧
    (∃ (s : State), s.reset_.phase ≠ BootPhase.firmware) := by
  refine ⟨?_, ?_, ?_, ?_, ?_, ?_, ?_, ?_, ?_, ?_, ?_, ?_⟩
  · exact ⟨on, by decide +kernel⟩
  · exact ⟨State.reset, by decide +kernel⟩
  · exact ⟨on, by decide +kernel⟩
  · exact ⟨romState, by decide +kernel⟩
  · exact ⟨{ on with reset_ := { on.reset_ with requestAt := some 0 } }, 0, by decide +kernel⟩
  · exact ⟨{ State.reset with reset_ := { State.reset.reset_ with powerGood := true, wake := true } }, by decide +kernel⟩
  · exact ⟨{ on with reset_ := { on.reset_ with powerGood := false } }, by decide +kernel⟩
  · exact ⟨{ on with reset_ := { on.reset_ with phase := .rom } }, by decide +kernel⟩
  · exact ⟨{ on with reset_ := { on.reset_ with phase := .rom, sramWiped := true } }, by decide +kernel⟩
  · exact ⟨bootState, 2, by decide +kernel⟩
  · exact ⟨{ on with reset_ := { on.reset_ with phase := .firmware } }, by decide +kernel⟩
  · exact ⟨on, by decide +kernel⟩

end Sys2Proof.Tests
end

/-! The object dictionary: the order of statuses (R65) and what a discarded PDU leaves (R66, R753). -/

namespace Sys2Proof.Machine

open Sys2Proof Sys2Proof.Safety

/-! ### The first of several statuses (R65) -/

/-- The statuses in the order of R65. -/
def statusOrder : List Status :=
  [.badVersion, .malformed, .badOpcode, .noObject, .noSubindex, .notBlock, .readOnly, .sealed, .lifecycle,
    .length, .tooLarge, .key, .outOfRange, .mismatch, .inUse, .sequence, .expired, .noResource, .state, .busy]

/-- The rank counts the places of R65 from 1; OK, which has no place, comes after all of them. -/
theorem idxOf_statusOrder_succ (x : Status) : statusOrder.idxOf x + 1 = x.rank := by
  cases x <;> rfl

theorem Status.rank_lt_rank_ok {x : Status} (h : x ∈ statusOrder) : x.rank < Status.rank .ok := by
  have hlt : statusOrder.idxOf x < 20 := List.idxOf_lt_length_iff.2 h
  rw [← idxOf_statusOrder_succ x]
  exact Nat.succ_lt_succ hlt

theorem firstStatus_concat (l : List Status) (x : Status) :
    firstStatus (l ++ [x]) = if x.rank < (firstStatus l).rank then x else firstStatus l :=
  List.foldl_concat ..

theorem firstStatus_eq_ok_or_mem (l : List Status) : firstStatus l = .ok ∨ firstStatus l ∈ l := by
  induction l using List.reverseRecOn with
  | nil => exact .inl rfl
  | append_singleton l x ih =>
    rw [firstStatus_concat]
    split
    · simp
    · exact ih.imp_right (List.mem_append_left _)

theorem rank_firstStatus_le (l : List Status) : ∀ x ∈ l, (firstStatus l).rank ≤ x.rank := by
  induction l using List.reverseRecOn with
  | nil => simp
  | append_singleton l y ih =>
    intro x hx
    rw [firstStatus_concat]
    rcases List.mem_append.1 hx with hl | hy
    · have := ih x hl
      split <;> omega
    · obtain rfl := List.mem_singleton.1 hy
      split <;> omega

theorem firstStatus_mem {l : List Status} (ho : ∀ x ∈ l, x ∈ statusOrder) (hl : l ≠ []) : firstStatus l ∈ l := by
  obtain ⟨x, hx⟩ := List.exists_mem_of_ne_nil l hl
  have hlt : (firstStatus l).rank < Status.rank .ok :=
    (rank_firstStatus_le l x hx).trans_lt (Status.rank_lt_rank_ok (ho x hx))
  exact (firstStatus_eq_ok_or_mem l).resolve_left fun h => by simp [h] at hlt

/-- Settles O10: the status that is answered has the least rank of the list, and the ranks are the places of R65. -/
theorem firstStatusInOrder : Obligations.FirstStatusInOrder := by
  refine ⟨rfl, fun l ho hl => ⟨firstStatus_mem ho hl, fun x hx => ?_⟩⟩
  change statusOrder.idxOf (firstStatus l) ≤ statusOrder.idxOf x
  have hrank := rank_firstStatus_le l x hx
  rw [← idxOf_statusOrder_succ, ← idxOf_statusOrder_succ] at hrank
  exact Nat.le_of_succ_le_succ hrank

/-! ### A discarded PDU (R66) -/

theorem pduDiscarded_iff (pdu : List Byte) :
    pduDiscarded pdu = true ↔ pdu.length < 8 ∨ natBit (beAt pdu 0 1) 7 = true := by
  simp [pduDiscarded]

/-- A discarded PDU is counted, after the read source it selects where it came with a KOA_REQUEST on I3C (R753). -/
theorem exec_koaPduDiscard {s : State} {req : Requester} {pdu : List Byte} (ho : s.bearerOpen req.bearer = true)
    (hd : pduDiscarded pdu = true) :
    exec (.koaPduDiscard req pdu) s = .next ((s.selectKoa req.bearer pdu).count Obj.KOA_DISCARDS) := by
  have harm : exec (.koaPduDiscard req pdu) s = execKoaPduDiscard req pdu s := rfl
  simp [harm, execKoaPduDiscard, State.koaPdu, State.koaServe, ho, hd]

theorem State.selectKoa_i3c_source {s : State} {pdu : List Byte} (h : 8 ≤ pdu.length) :
    (s.selectKoa .i3c pdu).i3c.source = .koa := by
  simp [State.selectKoa, State.setSource, h]

/-- The PDU of R66 that is not only counted: 8 bytes with RSP set, on I3C. It keeps the I3C part only where the KOA response
already is the read source. -/
theorem source_eq_koa_of_discard_onlyParts_reg {s t : State} {req : Requester} {pdu : List Byte}
    (hb : req.bearer = .i3c) (ho : s.bearerOpen req.bearer = true) (hd : pduDiscarded pdu = true) (hlen : 8 ≤ pdu.length)
    (he : exec (.koaPduDiscard req pdu) s = .next t) (hp : onlyParts [.reg] s t) : s.i3c.source = .koa := by
  rw [exec_koaPduDiscard ho hd, hb] at he
  obtain rfl := Host.Outcome.next.inj he
  have hsame : ((s.selectKoa .i3c pdu).count Obj.KOA_DISCARDS).i3c = s.i3c := hp .i3c (by decide)
  rw [← hsame]
  simp [State.selectKoa_i3c_source hlen]

/-- A device whose firmware runs and whose I3C target has address 9; its read source is still that of reset, the live window from
half 0 (R754). -/
def i3cAddressed : State :=
  { State.reset with reset_ := { State.reset.reset_ with phase := .running } }.set Obj.I3C_DYN_ADDR 9

/-- A READ with RSP set: 8 bytes, opcode 1. -/
def rspPdu : List Byte := [0x91, 0, 0x10, 0, 0, 0, 0, 0]

theorem bearerOpen_i3cAddressed : i3cAddressed.bearerOpen .i3c = true := by decide

theorem i3cAddressed_source : i3cAddressed.i3c.source = .live 0 := rfl

/-- Refutes O9: a PDU with RSP set that came with a KOA_REQUEST on I3C is counted, and besides the KOA response becomes the read
source (R753), here in place of the live window. -/
theorem not_discardedPdusAreOnlyCounted : ¬ Obligations.DiscardedPdusAreOnlyCounted := by
  intro h
  have hrsp : natBit (beAt rspPdu 0 1) 7 = true := by decide
  obtain ⟨t, hexec, hparts, -, -⟩ := h i3cAddressed i3cReq rspPdu bearerOpen_i3cAddressed (.inr hrsp)
  have hsource := source_eq_koa_of_discard_onlyParts_reg rfl bearerOpen_i3cAddressed ((pduDiscarded_iff _).2 (.inr hrsp))
    (by decide) hexec hparts
  rw [i3cAddressed_source] at hsource
  exact ReadSource.noConfusion hsource

end Sys2Proof.Machine

/-! The event inputs: an edge too close to the last one (R120) and the end of a frequency gate (R166 to R168). -/

namespace Sys2Proof.Machine

open Sys2Proof Sys2Proof.Safety

/-! ### An edge too close to the last one (R120) -/

/-- An event input depends on the table of inputs alone. -/
theorem State.evIn_congr {s t : State} (h : t.crank.ev = s.crank.ev) (i : Nat) : t.evIn i = s.evIn i := by
  simp [State.evIn, h]

@[simp] theorem State.setAxis_crank_ev (s : State) (a : Nat) (x : Axis) : (s.setAxis a x).crank.ev = s.crank.ev := by
  unfold State.setAxis
  split <;> rfl

/-- The scan monitor notes an edge in the safety island alone. -/
@[simp] theorem State.scanMonitorEdge_frame (s : State) (i : Nat) (lv : Bool) :
    (s.scanMonitorEdge i lv).reg = s.reg ∧ (s.scanMonitorEdge i lv).ev = s.ev ∧
    (s.scanMonitorEdge i lv).crank = s.crank := by
  unfold State.scanMonitorEdge
  split <;> simp

/-- The channels that follow a level silently are parts of the axes: the store, the event matrix and the inputs stay. -/
@[simp] theorem State.silentLevel_frame (s : State) (a i : Nat) (lv : Bool) :
    (s.silentLevel a i lv).reg = s.reg ∧ (s.silentLevel a i lv).ev = s.ev ∧
    (s.silentLevel a i lv).crank.ev = s.crank.ev := by
  unfold State.silentLevel
  split <;> dsimp only <;> split <;> simp

theorem EvInput.tooClose_of_lt {e : EvInput} {t0 stamp : Nat} (hlast : e.last = some t0) (hlt : stamp < t0 + 4 * 1024) :
    e.tooClose stamp = true := by
  simpa [EvInput.tooClose, hlast] using hlt

theorem State.deliverEdge_of_tooClose {s : State} {i stamp : Nat} {lv : Bool} (h : (s.evIn i).tooClose stamp = true) :
    s.deliverEdge i lv stamp =
      ((((s.scanMonitorEdge i lv).silentLevel 0 i lv).silentLevel 1 i lv).count (Obj.EV_DROPS + i)).raise 0x02B 0 := by
  simp [State.deliverEdge, h]

@[simp] theorem State.evIn_raise (s : State) (e p i : Nat) : (s.raise e p).evIn i = s.evIn i := rfl

theorem raisedCount_congr {s t : State} (h : t.ev = s.ev) (e : Nat) : raisedCount t e = raisedCount s e := by
  simp [raisedCount, h]

theorem raisedCount_raise_same (s : State) (e p : Nat) : raisedCount (s.raise e p) e = raisedCount s e + 1 := by
  simp [raisedCount, State.raise]

/-- Settles O24: besides EV_DROPS and the event, a dropped edge reaches only the scan monitor and the levels of the axes' channels. -/
theorem closeEdgesAreDropped : Obligations.CloseEdgesAreDropped := by
  intro s i lv stamp t0 hlast hlt
  rw [State.deliverEdge_of_tooClose (EvInput.tooClose_of_lt hlast hlt)]
  refine ⟨?_, ?_, State.evIn_congr (by simp) i⟩
  · rw [State.get_raise, State.get_count_same, State.get_congr (s := s) (by simp)]
  · rw [raisedCount_raise_same, raisedCount_congr (s := s) (by simp)]

/-! ### The end of a frequency gate (R166 to R168) -/

/-- The input starts its next gate, of a length in ms, where the present one ends. -/
def EvInput.nextGate (e : EvInput) (len : Nat) : EvInput :=
  { e with gateAt := e.gateAt + ms e.gateMs, gateMs := len, edges := 0, first := 0, latest := 0 }

/-- EV_FREQ of an input has taken the gate's result, and the next gate runs. -/
def State.nextGate (s : State) (i : Nat) : State :=
  (s.set (Obj.EV_FREQ + i) (s.evIn i).frequency).setEvIn i ((s.evIn i).nextGate (s.getN (Obj.EV_FREQ_GATE + i)))

theorem getN_EV_FREQ_GATE_set_EV_FREQ (s : State) (i : Fin 16) (v : Int) :
    (s.set (Obj.EV_FREQ + i) v).getN (Obj.EV_FREQ_GATE + i) = s.getN (Obj.EV_FREQ_GATE + i) := by
  have hne : Obj.EV_FREQ_GATE + i.val ≠ Obj.EV_FREQ + i.val := by simp
  rw [State.getN, State.get_set_other s v hne, State.getN]

/-- A gate whose length has passed ends, with event 0x02E where it had fewer than 2 rising edges. -/
theorem exec_evFreqGateEnd_of_due {s : State} {i : Fin 16} (hrun : s.running = true)
    (hdue : (s.evIn i).gateAt + ms (s.evIn i).gateMs ≤ s.now) :
    exec (.evFreqGateEnd i) s =
      .next (if (s.evIn i).edges < 2 then (s.nextGate i).raise 0x02E 0 else s.nextGate i) := by
  have harm : exec (.evFreqGateEnd i) s = execEvFreqGateEnd i s := rfl
  simp [harm, execEvFreqGateEnd, State.nextGate, EvInput.nextGate, reached, hrun, hdue, getN_EV_FREQ_GATE_set_EV_FREQ]

theorem State.get_nextGate_EV_FREQ (s : State) (i : Nat) :
    (s.nextGate i).get (Obj.EV_FREQ + i) = ((s.evIn i).frequency : Int) :=
  State.get_set_same s _ _

theorem EvInput.frequency_of_edges_lt_two {e : EvInput} (h : e.edges < 2) : e.frequency = 0 := by
  simp [EvInput.frequency, h]

theorem State.evIn_nextGate (s : State) (i : Nat) :
    (s.nextGate i).evIn i = (s.evIn i).nextGate (s.getN (Obj.EV_FREQ_GATE + i)) :=
  State.evIn_set_same _ i _

theorem State.nextGate_onlyParts (s : State) (i : Nat) : onlyParts [.crank, .reg] s (s.nextGate i) := by
  intro p hp
  cases p <;> simp_all [Part.same, State.nextGate]

/-- Settles O25: raising 0x02E adds nothing to the next gate but the event, so both cases of the edge count share the rest. -/
theorem frequencyGateGivesItsResult : Obligations.FrequencyGateGivesItsResult := by
  intro s i hrun hdue
  refine ⟨_, exec_evFreqGateEnd_of_due hrun hdue, ?_⟩
  have hev : (s.nextGate i).ev = s.ev := s.nextGate_onlyParts i .ev (by decide)
  split
  case isTrue hfew =>
    have hparts := onlyParts_trans (s.nextGate_onlyParts i) ((s.nextGate i).raise_onlyParts 0x02E 0)
    rw [State.get_raise, State.get_nextGate_EV_FREQ, State.evIn_raise, State.evIn_nextGate,
      raisedCount_raise_same, raisedCount_congr hev, EvInput.frequency_of_edges_lt_two hfew]
    exact ⟨rfl, fun _ => ⟨rfl, rfl⟩, fun hmany => absurd hfew (Nat.not_lt.2 hmany), rfl, rfl, rfl,
      onlyParts_mono hparts (by decide)⟩
  case isFalse hmany =>
    rw [State.get_nextGate_EV_FREQ, State.evIn_nextGate, raisedCount_congr hev]
    exact ⟨rfl, fun hfew => absurd hfew hmany, fun _ => rfl, rfl, rfl, rfl,
      onlyParts_mono (s.nextGate_onlyParts i) (by decide)⟩

end Sys2Proof.Machine

/-! ## What no command touches

Every operation of the model leaves the queue and the clock as they are and keeps the object store in its canonical form. `Keeps b s` says
so of a state `s` reached from `b`; each operation has one lemma, named after it, and an operation's proof follows its definition. -/

namespace Sys2Proof.Machine

open Sys2Proof Sys2Proof.Safety

set_option Elab.async false

/-- From b, a state has been reached without touching the queue or the clock and without spoiling the store's canonical form. -/
structure Keeps (b s : State) : Prop where
  now : s.now = b.now
  pending : s.pending = b.pending
  store : storeWf b = true → storeWf s = true

/-- A command answers a next state that keeps the queue, the clock and the canonical form. -/
def Completes (b : State) (o : Host.Outcome State Fault Refusal) : Prop := ∃ t, o = .next t ∧ Keeps b t

theorem Keeps.refl (s : State) : Keeps s s := ⟨rfl, rfl, id⟩

theorem Keeps.trans {a b s : State} (h : Keeps a b) (k : Keeps b s) : Keeps a s :=
  ⟨k.now.trans h.now, k.pending.trans h.pending, fun hw => k.store (h.store hw)⟩

theorem Keeps.of_eq {b s t : State} (h : Keeps b s) (hn : t.now = s.now := by rfl) (hp : t.pending = s.pending := by rfl)
    (hr : t.reg = s.reg := by rfl) (hb : t.blk = s.blk := by rfl) : Keeps b t :=
  ⟨hn.trans h.now, hp.trans h.pending, fun hw => by simpa [storeWf, hr, hb] using h.store hw⟩

/-- An update of the other parts of the state. -/
theorem Keeps.same {b s : State} (h : Keeps b s) {freeCtr koa jobs crank seq emit safety rx hist eng pipe cal hk time net lanes ev
    i3c pair nvm otp mem reset_ sent} : Keeps b ⟨s.now, freeCtr, s.reg, s.blk, koa, jobs, crank, seq, emit, safety, rx, hist, eng, pipe,
      cal, hk, time, net, lanes, ev, i3c, pair, nvm, otp, mem, reset_, sent, s.pending⟩ :=
  h.of_eq

theorem Keeps.ite {b s t : State} {c : Prop} [Decidable c] (hs : Keeps b s) (ht : Keeps b t) : Keeps b (if c then s else t) := by
  split
  · exact hs
  · exact ht

theorem Keeps.dite {b : State} {c : Prop} [Decidable c] {s : c → State} {t : ¬c → State} (hs : ∀ h, Keeps b (s h))
    (ht : ∀ h, Keeps b (t h)) : Keeps b (if h : c then s h else t h) := by
  split
  · exact hs _
  · exact ht _

theorem Keeps.cond {b s t : State} {c : Bool} (hs : Keeps b s) (ht : Keeps b t) : Keeps b (bif c then s else t) := by
  cases c
  · exact ht
  · exact hs

theorem Keeps.foldl {α : Type} {b s : State} (h : Keeps b s) {f : State → α → State} {l : List α}
    (hf : ∀ s x, Keeps b s → Keeps b (f s x)) : Keeps b (l.foldl f s) := by
  induction l generalizing s with
  | nil => exact h
  | cons x l ih => exact ih (hf s x h)

theorem Completes.next {b s : State} (h : Keeps b s) : Completes b (.next s) := ⟨s, rfl, h⟩

theorem Completes.ite {b : State} {o p : Host.Outcome State Fault Refusal} {c : Prop} [Decidable c] (ho : Completes b o)
    (hp : Completes b p) : Completes b (if c then o else p) := by
  split
  · exact ho
  · exact hp

theorem Completes.dite {b : State} {c : Prop} [Decidable c] {o : c → Host.Outcome State Fault Refusal}
    {p : ¬c → Host.Outcome State Fault Refusal} (ho : ∀ h, Completes b (o h)) (hp : ∀ h, Completes b (p h)) :
    Completes b (if h : c then o h else p h) := by
  split
  · exact ho _
  · exact hp _

theorem Completes.cond {b : State} {o p : Host.Outcome State Fault Refusal} {c : Bool} (ho : Completes b o) (hp : Completes b p) :
    Completes b (bif c then o else p) := by
  cases c
  · exact hp
  · exact ho

/-- An engine's access that succeeds keeps them. -/
def KeepsOk (b : State) (r : Except Nat State) : Prop := ∀ t, r = .ok t → Keeps b t

/-- An engine's read that succeeds keeps them. -/
def KeepsRead (b : State) (r : Except Nat (Nat × State)) : Prop := ∀ p, r = .ok p → Keeps b p.2

theorem KeepsOk.error {b : State} {c : Nat} : KeepsOk b (.error c) := fun _ h => nomatch h

theorem KeepsOk.ok {b s : State} (h : Keeps b s) : KeepsOk b (.ok s) := by
  rintro _ ⟨⟩
  exact h

theorem KeepsOk.ite {b : State} {r q : Except Nat State} {c : Prop} [Decidable c] (hr : KeepsOk b r) (hq : KeepsOk b q) :
    KeepsOk b (if c then r else q) := by
  split
  · exact hr
  · exact hq

theorem KeepsRead.error {b : State} {c : Nat} : KeepsRead b (.error c) := fun _ h => nomatch h

theorem KeepsRead.ok {b : State} {p : Nat × State} (h : Keeps b p.2) : KeepsRead b (.ok p) := by
  rintro _ ⟨⟩
  exact h

theorem KeepsRead.ite {b : State} {r q : Except Nat (Nat × State)} {c : Prop} [Decidable c] (hr : KeepsRead b r) (hq : KeepsRead b q) :
    KeepsRead b (if c then r else q) := by
  split
  · exact hr
  · exact hq

/-- Leaving entries out of the store keeps its canonical form. -/
theorem Keeps.filter {b s t : State} (h : Keeps b s) (p : Nat × Int → Bool) (p' : Nat × List Byte → Bool)
    (hn : t.now = s.now := by rfl) (hp : t.pending = s.pending := by rfl) (hr : t.reg = s.reg.filter p := by rfl)
    (hb : t.blk = s.blk.filter p' := by rfl) : Keeps b t :=
  ⟨hn.trans h.now, hp.trans h.pending, fun hw => by
    have := h.store hw
    simp only [storeWf, Bool.and_eq_true, hr, hb] at this ⊢
    exact ⟨tabWf_filter _ _ _ this.1, tabWf_filter _ _ _ this.2⟩⟩

theorem Keeps.set {b s : State} (h : Keeps b s) {k : Nat} {v : Int} : Keeps b (s.set k v) :=
  ⟨h.now, h.pending, fun hw => by
    have := h.store hw
    simp only [storeWf, Bool.and_eq_true] at this ⊢
    exact ⟨tabWf_put _ _ _ _ this.1, this.2⟩⟩

theorem Keeps.addSat {s₀ s : State} (hk : Keeps s₀ s) {k n : Nat} : Keeps s₀ (s.addSat k n) := by
  unfold State.addSat
  exact hk.set

theorem Keeps.count {s₀ s : State} (hk : Keeps s₀ s) {k : Nat} : Keeps s₀ (s.count k) := by
  unfold State.count
  exact hk.addSat

theorem Keeps.setSource {s₀ s : State} (hk : Keeps s₀ s) {x : ReadSource} : Keeps s₀ (s.setSource x) := by
  unfold State.setSource
  exact hk.same

theorem Keeps.selectKoa {s₀ s : State} (hk : Keeps s₀ s) {b : Bearer} {pdu : List Byte} : Keeps s₀ (s.selectKoa b pdu) := by
  unfold State.selectKoa
  exact .ite hk.setSource hk

theorem Keeps.raise {s₀ s : State} (hk : Keeps s₀ s) {e payload : Nat} : Keeps s₀ (s.raise e payload) := by
  unfold State.raise
  exact hk.same

theorem Keeps.countResponse {s₀ s : State} (hk : Keeps s₀ s) {r : List Byte} : Keeps s₀ (s.countResponse r) := by
  unfold State.countResponse
  exact .ite (Keeps.ite hk.count hk.count.count).raise (.ite hk.count hk.count.count)

theorem Keeps.i3cBusy {s₀ s : State} (hk : Keeps s₀ s) {pdu : List Byte} : Keeps s₀ (s.i3cBusy pdu) := by
  unfold State.i3cBusy
  exact (Keeps.ite hk.count hk).same.countResponse

theorem Keeps.resetFrom {b s old : State} (h : Keeps b s) {x : Time} : Keeps b (s.resetFrom old x) := by
  unfold State.resetFrom
  split
  · exact h.same
  · exact h

theorem Keeps.i3cServe {b s : State} (h : Keeps b s) {pdu : List Byte} {run : State → Answer}
    (hr : ∀ t, Keeps b t → Keeps b (run t).st) : Keeps b (s.i3cServe pdu run) := by
  unfold State.i3cServe
  exact .ite h.i3cBusy (hr _ h).resetFrom.countResponse.same

theorem Keeps.send {s₀ s : State} (hk : Keeps s₀ s) {m : Sent} : Keeps s₀ (s.send m) := by
  unfold State.send
  exact hk.same

theorem Keeps.sendCan {s₀ s : State} (hk : Keeps s₀ s) {id : Nat} {kind : SentKind} {data : List Byte} :
    Keeps s₀ (s.sendCan id kind data) := by
  unfold State.sendCan
  exact .ite hk (.ite hk.send hk.same)

theorem Keeps.transmit {s₀ s : State} (hk : Keeps s₀ s) {p : Nat} {m : Sent} : Keeps s₀ (s.transmit p m) := by
  unfold State.transmit
  exact hk.same

theorem Keeps.sendResolve {s₀ s : State} (hk : Keeps s₀ s) {p hop : Nat} : Keeps s₀ (s.sendResolve p hop) := by
  unfold State.sendResolve
  exact .ite hk.transmit hk

theorem Keeps.unresolved {s₀ s : State} (hk : Keeps s₀ s) {p hop : Nat} : Keeps s₀ (s.unresolved p hop) := by
  unfold State.unresolved
  exact .ite hk.count hk.count.same.sendResolve.raise

theorem Keeps.sendUdpFrom {s₀ s : State} (hk : Keeps s₀ s) {p src dscp dst dport : Nat} {kind : SentKind} {data : List Byte} :
    Keeps s₀ (s.sendUdpFrom p src dscp dst dport kind data) := by
  unfold State.sendUdpFrom
  exact .ite hk (.ite hk.transmit hk.unresolved)

theorem Keeps.sendUdp {s₀ s : State} (hk : Keeps s₀ s) {p dst dport : Nat} {kind : SentKind} {data : List Byte} :
    Keeps s₀ (s.sendUdp p dst dport kind data) := by
  unfold State.sendUdp
  exact hk.sendUdpFrom

theorem Keeps.sendResponse {s₀ s : State} (hk : Keeps s₀ s) {req : Requester} {r : List Byte} : Keeps s₀ (s.sendResponse req r) := by
  unfold State.sendResponse
  split
  exacts [hk.sendCan, hk.sendUdp, hk.sendUdp, hk]

theorem Keeps.cacheAdd {s₀ s : State} (hk : Keeps s₀ s) {e : CacheEntry} : Keeps s₀ (s.cacheAdd e) := by
  unfold State.cacheAdd
  exact hk.same

theorem Keeps.netRespond {s₀ s : State} (hk : Keeps s₀ s) {req : Requester} {pdu r : List Byte} : Keeps s₀ (s.netRespond req pdu r) := by
  unfold State.netRespond
  exact .ite hk.sendResponse.countResponse hk.sendResponse.countResponse.cacheAdd

theorem Keeps.holdRequest {s₀ s : State} (hk : Keeps s₀ s) {b : Bearer} {pdu : List Byte} : Keeps s₀ (s.holdRequest b pdu) := by
  unfold State.holdRequest
  exact hk.same

theorem Keeps.setBlk {b s : State} (h : Keeps b s) {k : Nat} {v : List Byte} : Keeps b (s.setBlk k v) :=
  ⟨h.now, h.pending, fun hw => by
    have := h.store hw
    simp only [storeWf, Bool.and_eq_true] at this ⊢
    exact ⟨this.1, tabWf_put _ _ _ _ this.2⟩⟩

theorem Keeps.setEngine {s₀ s : State} (hk : Keeps s₀ s) {n : Nat} {e : Engine} : Keeps s₀ (s.setEngine n e) := by
  unfold State.setEngine
  exact hk.same

theorem Keeps.keepParam {s₀ s : State} (hk : Keeps s₀ s) {k : Nat} : Keeps s₀ (s.keepParam k) := by
  unfold State.keepParam
  exact .ite (hk.foldl fun _ _ k => (.ite k k.setEngine)) hk

theorem Keeps.keepMask {s₀ s : State} (hk : Keeps s₀ s) {k : Nat} : Keeps s₀ (s.keepMask k) := by
  unfold State.keepMask
  exact .ite hk.same (.ite hk.same hk)

theorem Keeps.setAxis {s₀ s : State} (hk : Keeps s₀ s) {a : Nat} {x : Axis} : Keeps s₀ (s.setAxis a x) := by
  unfold State.setAxis
  exact .ite hk.same hk.same

theorem Keeps.crankBlkApply {s₀ s : State} (hk : Keeps s₀ s) {k : Nat} : Keeps s₀ (crankBlkApply s k) := by
  unfold Machine.crankBlkApply
  exact .ite hk.setAxis hk

theorem Keeps.emitBlkApply {s₀ s : State} (hk : Keeps s₀ s) {k : Nat} : Keeps s₀ (emitBlkApply s k) := by
  unfold Machine.emitBlkApply
  exact .ite hk.same hk

theorem Keeps.cueResult {s₀ s : State} (hk : Keeps s₀ s) {code : Nat} : Keeps s₀ (s.cueResult code) := by
  unfold State.cueResult
  exact .ite hk.set hk.set.raise

theorem Keeps.editWindow {s₀ s : State} (hk : Keeps s₀ s) {v : List Byte} : Keeps s₀ (s.editWindow v) := by
  unfold State.editWindow
  exact .ite hk.same hk.same

theorem Keeps.seqBlkApply {s₀ s : State} (hk : Keeps s₀ s) {k : Nat} {v : List Byte} : Keeps s₀ (seqBlkApply s k v) := by
  unfold Machine.seqBlkApply
  exact .ite hk.editWindow.cueResult (.ite hk.cueResult hk)

theorem Keeps.sealTouched {s₀ s : State} (hk : Keeps s₀ s) : Keeps s₀ (s.sealTouched) := by
  unfold State.sealTouched
  exact hk.same

theorem Keeps.safetyBlkApply {s₀ s : State} (hk : Keeps s₀ s) {k : Nat} : Keeps s₀ (safetyBlkApply s k) := by
  unfold Machine.safetyBlkApply
  exact .ite hk.sealTouched hk

theorem Keeps.emptyMrev {s₀ s : State} (hk : Keeps s₀ s) {g : Nat} : Keeps s₀ (s.emptyMrev g) := by
  unfold State.emptyMrev
  exact hk.same.count.raise

theorem Keeps.emptyAllMrev {s₀ s : State} (hk : Keeps s₀ s) : Keeps s₀ (s.emptyAllMrev) := by
  unfold State.emptyAllMrev
  exact (hk.foldl fun _ _ k => k.emptyMrev)

theorem Keeps.histBlkApply {s₀ s : State} (hk : Keeps s₀ s) {k : Nat} {v : List Byte} : Keeps s₀ (histBlkApply s k v) := by
  unfold Machine.histBlkApply
  exact .ite hk.same.set (.ite hk.emptyAllMrev hk)

theorem Keeps.pipeBlkApply {s₀ s : State} (hk : Keeps s₀ s) {k : Nat} : Keeps s₀ (pipeBlkApply s k) := by
  unfold Machine.pipeBlkApply
  exact .ite hk.same hk

theorem Keeps.setKeySlot {s₀ s : State} (hk : Keeps s₀ s) {n : Nat} {x : KeySlot} : Keeps s₀ (s.setKeySlot n x) := by
  unfold State.setKeySlot
  exact hk.same

theorem Keeps.setRecord {s₀ s : State} (hk : Keeps s₀ s) {kind : Nat} {r : CriticalRecord} : Keeps s₀ (s.setRecord kind r) := by
  unfold State.setRecord
  split
  exacts [hk.same, hk.same, hk.same]

theorem Keeps.updateRecord {s₀ s : State} (hk : Keeps s₀ s) {kind : Nat} {content : List Byte} :
    Keeps s₀ (s.updateRecord kind content) := by
  unfold State.updateRecord
  exact hk.setRecord

theorem Keeps.setIdentity {s₀ s : State} (hk : Keeps s₀ s) {v : List Byte} : Keeps s₀ (s.setIdentity v) := by
  unfold State.setIdentity
  exact hk.updateRecord

theorem Keeps.draw {s₀ s : State} (hk : Keeps s₀ s) : Keeps s₀ (s.draw).2 := by
  unfold State.draw
  exact hk.same

theorem Keeps.drawNonce {s₀ s : State} (hk : Keeps s₀ s) : Keeps s₀ (s.drawNonce) := by
  unfold State.drawNonce
  exact hk.draw.same

theorem Keeps.requestLifecycle {s₀ s : State} (hk : Keeps s₀ s) {v : List Byte} : Keeps s₀ (s.requestLifecycle v) := by
  unfold State.requestLifecycle
  exact hk.same.drawNonce.raise

theorem Keeps.memBlkApply {s₀ s : State} (hk : Keeps s₀ s) {k : Nat} {v : List Byte} : Keeps s₀ (memBlkApply s k v) := by
  unfold Machine.memBlkApply
  exact .ite hk.setKeySlot (.ite hk.setIdentity (.ite hk.requestLifecycle (.ite hk.same hk)))

theorem Keeps.maskPending {s₀ s : State} (hk : Keeps s₀ s) : Keeps s₀ (s.maskPending) := by
  unfold State.maskPending
  exact hk.same

theorem Keeps.ownBlkApply {s₀ s : State} (hk : Keeps s₀ s) {k : Nat} : Keeps s₀ (s.ownBlkApply k) := by
  unfold State.ownBlkApply
  exact .ite hk.maskPending (.ite hk.set (.ite hk.same hk))

theorem Keeps.blockBlkApply {s₀ s : State} (hk : Keeps s₀ s) {k : Nat} {bs : List Byte} : Keeps s₀ (s.blockBlkApply k bs) := by
  unfold State.blockBlkApply
  exact hk.crankBlkApply.seqBlkApply.emitBlkApply.safetyBlkApply.histBlkApply.pipeBlkApply.memBlkApply.ownBlkApply

theorem Keeps.applyBlock {s₀ s : State} (hk : Keeps s₀ s) {d : ObjDesc} {k : Nat} {bs : List Byte} : Keeps s₀ (s.applyBlock d k bs) := by
  unfold State.applyBlock
  exact (Keeps.ite hk hk.keepMask.keepParam.setBlk).blockBlkApply

theorem Keeps.setJob {s₀ s : State} (hk : Keeps s₀ s) {slot : Nat} {j : Job} : Keeps s₀ (s.setJob slot j) := by
  unfold State.setJob
  exact hk.same

theorem Keeps.resumeWaiting {s₀ s : State} (hk : Keeps s₀ s) : Keeps s₀ (s.resumeWaiting) := by
  unfold State.resumeWaiting
  exact (hk.foldl fun _ _ k => (.ite k k.setJob.same))

theorem Keeps.finishJob {s₀ s : State} (hk : Keeps s₀ s) {slot : Nat} {st : JobState} {result : Nat} :
    Keeps s₀ (s.finishJob slot st result) := by
  unfold State.finishJob
  exact hk.setJob.same.raise.resumeWaiting

theorem Keeps.setOutcome {s₀ s : State} (hk : Keeps s₀ s) {u kind code : Nat} : Keeps s₀ (s.setOutcome u kind code) := by
  unfold State.setOutcome
  exact hk.set

theorem Keeps.dropJobRuns {s₀ s : State} (hk : Keeps s₀ s) {slot code : Nat} : Keeps s₀ (s.dropJobRuns slot code) := by
  unfold State.dropJobRuns
  exact (hk.same.foldl fun _ _ k => k.setOutcome)

theorem Keeps.rejectBusy {s₀ s : State} (hk : Keeps s₀ s) {slot : Nat} : Keeps s₀ (s.rejectBusy slot) := by
  unfold State.rejectBusy
  exact (hk.foldl fun _ _ k => k.raise)

theorem Keeps.calEnd {s₀ s : State} (hk : Keeps s₀ s) {p : JobKind → Bool} : Keeps s₀ (s.calEnd p) := by
  unfold State.calEnd
  exact (hk.foldl fun _ _ k => (.ite k.rejectBusy.dropJobRuns.finishJob k))

theorem Keeps.cutPulses {s₀ s : State} (hk : Keeps s₀ s) : Keeps s₀ (s.cutPulses) := by
  unfold State.cutPulses
  exact hk.same

theorem Keeps.setSafetyState {s₀ s : State} (hk : Keeps s₀ s) {x : SafetyState} : Keeps s₀ (s.setSafetyState x) := by
  unfold State.setSafetyState
  refine .ite ?_ ?_
  · exact hk
  · extract_lets _ _ s1 s2
    have h2 : Keeps s₀ s2 := .ite hk.same.raise.raise hk.same.raise
    exact .ite h2.cutPulses.calEnd h2

theorem Keeps.renewRequest {s₀ s : State} (hk : Keeps s₀ s) : Keeps s₀ (s.renewRequest) := by
  unfold State.renewRequest
  exact .ite hk.same.raise hk.same

theorem Keeps.setEnB {s₀ s : State} (hk : Keeps s₀ s) {x : Bool} : Keeps s₀ (s.setEnB x) := by
  unfold State.setEnB
  exact .ite hk hk.same

theorem Keeps.setEnA {s₀ s : State} (hk : Keeps s₀ s) {x : Bool} : Keeps s₀ (s.setEnA x) := by
  unfold State.setEnA
  exact .ite hk hk.same

theorem Keeps.abandonOffTest {s₀ s : State} (hk : Keeps s₀ s) : Keeps s₀ (s.abandonOffTest) := by
  unfold State.abandonOffTest
  split
  exacts [hk, hk.same.count.raise]

theorem Keeps.darken {s₀ s : State} (hk : Keeps s₀ s) : Keeps s₀ (s.darken) := by
  unfold State.darken
  exact hk.abandonOffTest.setEnA.setEnB.renewRequest

theorem Keeps.stop {s₀ s : State} (hk : Keeps s₀ s) : Keeps s₀ (s.stop) := by
  unfold State.stop
  exact .ite hk.darken.setSafetyState hk

theorem Keeps.recheck {s₀ s : State} (hk : Keeps s₀ s) : Keeps s₀ (s.recheck) := by
  unfold State.recheck
  exact .ite hk hk.stop

theorem Keeps.startDiagGrid {s₀ s : State} (hk : Keeps s₀ s) : Keeps s₀ (s.startDiagGrid) := by
  unfold State.startDiagGrid
  exact hk.same

theorem Keeps.seqPoint {s₀ s : State} (hk : Keeps s₀ s) : Keeps s₀ (s.seqPoint) := by
  unfold State.seqPoint
  exact .ite hk.same.raise hk.same

theorem Keeps.setColumn {s₀ s : State} (hk : Keeps s₀ s) {c : Nat} {x : Column} : Keeps s₀ (s.setColumn c x) := by
  unfold State.setColumn
  exact hk.same

theorem Keeps.recharge {s₀ s : State} (hk : Keeps s₀ s) {c : Nat} {from_ : Int} {step : Nat} : Keeps s₀ (s.recharge c from_ step) := by
  unfold State.recharge
  exact .ite hk.setColumn hk

theorem Keeps.chargeColumns {s₀ s : State} (hk : Keeps s₀ s) : Keeps s₀ (s.chargeColumns) := by
  unfold State.chargeColumns
  exact (hk.foldl fun _ _ k => (.ite k.recharge k))

theorem Keeps.loadLfsrs {s₀ s : State} (hk : Keeps s₀ s) : Keeps s₀ (s.loadLfsrs) := by
  unfold State.loadLfsrs
  exact hk.same

theorem Keeps.closeEarly {s₀ s : State} (hk : Keeps s₀ s) {g : Nat} : Keeps s₀ (s.closeEarly g) := by
  unfold State.closeEarly
  exact .ite hk.same.count.raise hk

theorem Keeps.mapSet {s₀ s : State} (hk : Keeps s₀ s) {id : Nat} {f : ReelSet → ReelSet} : Keeps s₀ (s.mapSet id f) := by
  unfold State.mapSet
  exact hk.same

theorem Keeps.closeAfterWindow {s₀ s : State} (hk : Keeps s₀ s) {g : Nat} : Keeps s₀ (s.closeAfterWindow g) := by
  unfold State.closeAfterWindow
  split
  exacts [(.ite hk.closeEarly hk.mapSet), hk]

theorem Keeps.closeAllEarly {s₀ s : State} (hk : Keeps s₀ s) : Keeps s₀ (s.closeAllEarly) := by
  unfold State.closeAllEarly
  exact (hk.foldl fun _ _ k => k.closeAfterWindow)

theorem Keeps.setSeqState {s₀ s : State} (hk : Keeps s₀ s) {x : SeqState} : Keeps s₀ (s.setSeqState x) := by
  unfold State.setSeqState
  refine .ite ?_ ?_
  · exact hk
  · extract_lets _ _ s1 s2 s3 s4
    have h2 : Keeps s₀ s2 := .ite hk.same.raise.seqPoint.startDiagGrid hk.same.raise
    have h3 : Keeps s₀ s3 := .ite h2.loadLfsrs.chargeColumns h2
    have h4 : Keeps s₀ s4 := .ite h3.closeAllEarly h3
    exact .ite h4.calEnd h4

theorem Keeps.seqFollowAxis {s₀ s : State} (hk : Keeps s₀ s) : Keeps s₀ (s.seqFollowAxis) := by
  unfold State.seqFollowAxis
  exact .ite hk.setSeqState (.ite hk.setSeqState hk)

theorem Keeps.loseRevolution {s₀ s : State} (hk : Keeps s₀ s) : Keeps s₀ (s.loseRevolution) := by
  unfold State.loseRevolution
  exact .ite hk hk.same.emptyAllMrev

theorem Keeps.setAxisState {s₀ s : State} (hk : Keeps s₀ s) {a : Nat} {x : AxisSt} : Keeps s₀ (s.setAxisState a x) := by
  unfold State.setAxisState
  exact .ite hk (.ite (Keeps.ite hk.setAxis.raise.loseRevolution hk.setAxis.raise).seqFollowAxis hk.setAxis.raise)

theorem Keeps.restartAxis {s₀ s : State} (hk : Keeps s₀ s) {a : Nat} : Keeps s₀ (s.restartAxis a) := by
  unfold State.restartAxis
  extract_lets _ _ _ s1 _ _ s2
  split
  · exact hk.setAxis.setAxis.setAxisState
  · exact hk.setAxis.setAxis.setAxisState
  · exact hk.setAxis.setAxis.setAxisState

theorem Keeps.configApply {s₀ s : State} (hk : Keeps s₀ s) {k : Nat} : Keeps s₀ (s.configApply k) := by
  unfold State.configApply
  exact .ite hk.restartAxis (.ite hk.restartAxis hk)

theorem Keeps.latchGate {s₀ s : State} (hk : Keeps s₀ s) : Keeps s₀ (s.latchGate) := by
  unfold State.latchGate
  exact hk.same.cutPulses

theorem Keeps.recordCause {s₀ s : State} (hk : Keeps s₀ s) {bit : Nat} : Keeps s₀ (s.recordCause bit) := by
  unfold State.recordCause
  exact .cond (Keeps.cond hk.set.set hk.set).same (.cond hk.set.set hk.set)

theorem Keeps.setBond {s₀ s : State} (hk : Keeps s₀ s) {b : Nat} {x : Bond} : Keeps s₀ (s.setBond b x) := by
  unfold State.setBond
  exact .ite hk.same hk.same

theorem Keeps.sendFrame {s₀ s : State} (hk :
    Keeps s₀ s) {b type stream : Nat} {kind : SentKind} {payload : List Byte} {msg : Option OutMessage} :
    Keeps s₀ (s.sendFrame b type stream kind payload msg) := by
  unfold State.sendFrame
  exact hk.setBond

theorem Keeps.sendFarlu {s₀ s : State} (hk : Keeps s₀ s) {type : Nat} {payload : List Byte} : Keeps s₀ (s.sendFarlu type payload) := by
  unfold State.sendFarlu
  exact .ite hk.sendFrame hk

theorem Keeps.setMirrorSync {s₀ s : State} (hk : Keeps s₀ s) {x : Bool} : Keeps s₀ (s.setMirrorSync x) := by
  unfold State.setMirrorSync
  exact .ite hk hk.same.raise

theorem Keeps.requestResync {s₀ s : State} (hk : Keeps s₀ s) {reason : Nat} : Keeps s₀ (s.requestResync reason) := by
  unfold State.requestResync
  exact hk.same.setMirrorSync.sendFarlu

theorem Keeps.setRole {s₀ s : State} (hk : Keeps s₀ s) {x : PairRole} : Keeps s₀ (s.setRole x) := by
  unfold State.setRole
  exact .ite hk (.ite hk.same.raise.requestResync hk.same.raise)

theorem Keeps.releasePins {s₀ s : State} (hk : Keeps s₀ s) : Keeps s₀ (s.releasePins) := by
  unfold State.releasePins
  exact hk.same.setEnA.setEnB

theorem Keeps.yieldRole {s₀ s : State} (hk : Keeps s₀ s) {reason : Nat} : Keeps s₀ (s.yieldRole reason) := by
  unfold State.yieldRole
  exact hk.stop.closeAllEarly.sendFarlu.releasePins.setRole

theorem Keeps.enterLockout {s₀ s : State} (hk : Keeps s₀ s) {hard : Bool} : Keeps s₀ (s.enterLockout hard) := by
  unfold State.enterLockout
  exact .cond hk.darken.setSafetyState.yieldRole hk.darken.setSafetyState

theorem Keeps.trip {s₀ s : State} (hk : Keeps s₀ s) {c : Cause} : Keeps s₀ (s.trip c) := by
  unfold State.trip
  exact .cond hk.recordCause.latchGate.count.raise.enterLockout hk.recordCause.latchGate.count.raise.darken

theorem Keeps.axisRaise {s₀ s : State} (hk : Keeps s₀ s) {a e : Nat} : Keeps s₀ (s.axisRaise a e) := by
  unfold State.axisRaise
  exact hk.raise

theorem Keeps.axisCount {s₀ s : State} (hk : Keeps s₀ s) {a k : Nat} : Keeps s₀ (s.axisCount a k) := by
  unfold State.axisCount
  exact hk.count

theorem Keeps.enterStall {s₀ s : State} (hk : Keeps s₀ s) {a : Nat} : Keeps s₀ (s.enterStall a) := by
  unfold State.enterStall
  exact hk.setAxis.setAxisState.axisCount.axisRaise.trip

theorem Keeps.illegalTransition {s₀ s : State} (hk : Keeps s₀ s) {a : Nat} {e f : ChannelEdge} : Keeps s₀ (s.illegalTransition a e f) := by
  unfold State.illegalTransition
  exact .ite hk.setAxis.axisCount.axisRaise.setAxisState hk.setAxis.axisCount.axisRaise

theorem Keeps.freewheelEntry {s₀ s : State} (hk : Keeps s₀ s) {a : Nat} : Keeps s₀ (s.freewheelEntry a) := by
  unfold State.freewheelEntry
  exact hk.setAxis.axisCount.axisRaise.setAxisState

theorem Keeps.dueFirst {s₀ s : State} (hk : Keeps s₀ s) {a : Nat} {stamp d : Int} : Keeps s₀ (s.dueFirst a stamp d) := by
  unfold State.dueFirst
  exact .ite (.ite hk.freewheelEntry.axisRaise hk.freewheelEntry) (.ite hk.axisRaise (.ite hk.enterStall hk))

theorem Keeps.setCore {s₀ s : State} (hk : Keeps s₀ s) {a : Nat} {c : AxisCore} : Keeps s₀ (s.setCore a c) := by
  unfold State.setCore
  exact hk.setAxis

theorem Keeps.turnCheck {s₀ s : State} (hk : Keeps s₀ s) {a : Nat} {d : Int} : Keeps s₀ (s.turnCheck a d) := by
  unfold State.turnCheck
  exact .ite hk.setCore hk

theorem Keeps.resumeEdge {s₀ s : State} (hk : Keeps s₀ s) {a : Nat} {stamp : Int} : Keeps s₀ (s.resumeEdge a stamp) := by
  unfold State.resumeEdge
  exact .ite (.ite hk.setAxis.axisRaise.setAxisState hk) hk

theorem Keeps.useFit {s₀ s : State} (hk : Keeps s₀ s) {a : Nat} {c : AxisCore} : Keeps s₀ (s.useFit a c) := by
  unfold State.useFit
  exact .ite (.ite hk.setCore.axisRaise.freewheelEntry hk.setCore.axisRaise) hk.setCore

theorem Keeps.outlierEdge {s₀ s : State} (hk : Keeps s₀ s) {a : Nat} {g : GateEdge} : Keeps s₀ (s.outlierEdge a g) := by
  unfold State.outlierEdge
  exact .ite hk.axisCount.axisRaise.axisCount.axisRaise.useFit hk.axisCount.axisRaise.setCore

theorem Keeps.gateEdge {s₀ s : State} (hk : Keeps s₀ s) {a : Nat} {g : GateEdge} : Keeps s₀ (s.gateEdge a g) := by
  unfold State.gateEdge
  exact .ite hk.outlierEdge hk.useFit

theorem Keeps.edgeByState {s₀ s : State} (hk : Keeps s₀ s) {a : Nat} {stamp : Int} : Keeps s₀ (s.edgeByState a stamp) := by
  unfold State.edgeByState
  extract_lets _
  split
  exacts [hk, hk.resumeEdge, (.ite hk.setCore hk), hk.gateEdge]

theorem Keeps.spuriousIndex {s₀ s : State} (hk : Keeps s₀ s) {a : Nat} : Keeps s₀ (s.spuriousIndex a) := by
  unfold State.spuriousIndex
  exact hk.axisCount.axisRaise

theorem Keeps.reportSlip {s₀ s : State} (hk : Keeps s₀ s) {a : Nat} {k : Int} : Keeps s₀ (s.reportSlip a k) := by
  unfold State.reportSlip
  extract_lets s1 _
  have h1 : Keeps s₀ s1 := .ite hk hk.axisCount.raise
  split
  exacts [h1.setAxisState, h1.setAxisState, h1]

theorem Keeps.laterIndex {s₀ s : State} (hk : Keeps s₀ s) {a : Nat} {n m p : Int} : Keeps s₀ (s.laterIndex a n m p) := by
  unfold State.laterIndex
  exact .ite hk.setCore.spuriousIndex hk.setCore.reportSlip

theorem Keeps.lostIndex {s₀ s : State} (hk : Keeps s₀ s) {a : Nat} {stamp : Int} : Keeps s₀ (s.lostIndex a stamp) := by
  unfold State.lostIndex
  exact hk.laterIndex

theorem Keeps.firstIndex {s₀ s : State} (hk : Keeps s₀ s) {a : Nat} {n : Int} : Keeps s₀ (s.firstIndex a n) := by
  unfold State.firstIndex
  exact hk.setAxis.setAxis

theorem Keeps.stallIndex {s₀ s : State} (hk : Keeps s₀ s) {a : Nat} {n : Int} : Keeps s₀ (s.stallIndex a n) := by
  unfold State.stallIndex
  exact hk.setCore.firstIndex.setAxisState

theorem Keeps.qualifyIndex {s₀ s : State} (hk : Keeps s₀ s) {a : Nat} {n stamp : Int} : Keeps s₀ (s.qualifyIndex a n stamp) := by
  unfold State.qualifyIndex
  extract_lets _
  split
  exacts [hk, (.ite hk.stallIndex hk.setCore), hk.laterIndex, (.ite hk.laterIndex hk.firstIndex)]

theorem Keeps.indexAtEdge {s₀ s : State} (hk : Keeps s₀ s) {a : Nat} {stamp : Int} : Keeps s₀ (s.indexAtEdge a stamp) := by
  unfold State.indexAtEdge
  extract_lets _
  split
  exacts [(.ite hk (.ite hk.lostIndex hk.qualifyIndex)), hk]

theorem Keeps.reversalCheck {s₀ s : State} (hk : Keeps s₀ s) {a : Nat} : Keeps s₀ (s.reversalCheck a) := by
  unfold State.reversalCheck
  exact .ite hk.axisRaise.enterStall hk

theorem Keeps.missedIndex {s₀ s : State} (hk : Keeps s₀ s) {a : Nat} : Keeps s₀ (s.missedIndex a) := by
  unfold State.missedIndex
  exact .ite hk.setCore.axisCount.axisRaise hk

theorem Keeps.lockCheck {s₀ s : State} (hk : Keeps s₀ s) {a : Nat} : Keeps s₀ (s.lockCheck a) := by
  unfold State.lockCheck
  exact .ite hk.setCore.setAxisState hk

theorem Keeps.noteCorrection {b s old : State} (h : Keeps b s) {a : Nat} : Keeps b (State.noteCorrection old s a) := by
  unfold State.noteCorrection
  refine .ite ?_ h
  extract_lets p0 l0 l1 _ s1
  have h1 : Keeps b s1 := .ite h.setAxis h
  exact .ite h1.setAxis h1

theorem Keeps.axisEdge {s₀ s : State} (hk : Keeps s₀ s) {a : Nat} {stamp d : Int} : Keeps s₀ (s.axisEdge a stamp d) := by
  unfold State.axisEdge
  exact hk.dueFirst.turnCheck.setCore.indexAtEdge.edgeByState.lockCheck.missedIndex.reversalCheck.noteCorrection

theorem Keeps.channelEdge {s₀ s : State} (hk : Keeps s₀ s) {a : Nat} {e : ChannelEdge} : Keeps s₀ (s.channelEdge a e) := by
  unfold State.channelEdge
  exact .ite hk.setAxis hk.setAxis.axisEdge

theorem Keeps.channelEdges {b s : State} (h : Keeps b s) {a : Nat} {q : List ChannelEdge} : Keeps b (s.channelEdges a q) := by
  fun_induction State.channelEdges s a q with
  | case1 s e f q hc ih => exact ih h.illegalTransition
  | case2 s e f q hc ih => exact ih h.channelEdge
  | case3 s e => exact h.channelEdge
  | case4 s => exact h

theorem Keeps.releaseChannels {s₀ s : State} (hk : Keeps s₀ s) {a : Nat} : Keeps s₀ (s.releaseChannels a) := by
  unfold State.releaseChannels
  exact hk.setAxis.channelEdges

theorem Keeps.setEvIn {s₀ s : State} (hk : Keeps s₀ s) {i : Nat} {e : EvInput} : Keeps s₀ (s.setEvIn i e) := by
  unfold State.setEvIn
  exact hk.same

theorem Keeps.levelChange {s₀ s : State} (hk : Keeps s₀ s) {i : Nat} {level : Bool} {stamp : Nat} :
    Keeps s₀ (s.levelChange i level stamp) := by
  unfold State.levelChange
  extract_lets _
  exact .ite hk.setEvIn.releaseChannels.releaseChannels (by split; exacts [hk, hk.setEvIn])

theorem Keeps.crankApply {s₀ s : State} (hk : Keeps s₀ s) {k : Nat} {old : Int} : Keeps s₀ (crankApply s k old) := by
  unfold Machine.crankApply
  refine .ite ?_ ?_
  · exact .ite hk hk.configApply.recheck
  · refine .ite ?_ ?_
    · exact hk.same
    · refine .ite ?_ ?_
      · exact hk.same
      · exact .ite (.ite (Keeps.ite hk.enterStall hk).enterStall (.ite hk.enterStall hk)) (.ite hk.levelChange hk)

theorem Keeps.resetEnergyStatus {s₀ s : State} (hk : Keeps s₀ s) : Keeps s₀ (s.resetEnergyStatus) := by
  unfold State.resetEnergyStatus
  exact (hk.foldl fun _ _ k => k.set).same

theorem Keeps.setZone {s₀ s : State} (hk : Keeps s₀ s) {z : Nat} {x : ZoneDiag} : Keeps s₀ (s.setZone z x) := by
  unfold State.setZone
  exact hk.same

theorem Keeps.clearZone {s₀ s : State} (hk : Keeps s₀ s) {z : Nat} : Keeps s₀ (s.clearZone z) := by
  unfold State.clearZone
  exact hk.setZone

theorem Keeps.emitApply {s₀ s : State} (hk : Keeps s₀ s) {k : Nat} {old : Int} : Keeps s₀ (emitApply s k old) := by
  unfold Machine.emitApply
  exact .ite (.ite hk hk.resetEnergyStatus) (.ite (.ite (hk.foldl fun _ _ k => k.clearZone) hk.clearZone) hk)

theorem Keeps.finishCopy {s₀ s : State} (hk : Keeps s₀ s) : Keeps s₀ (s.finishCopy) := by
  unfold State.finishCopy
  exact hk.same

theorem Keeps.sendCues {s₀ s : State} (hk : Keeps s₀ s) : Keeps s₀ (s.sendCues) := by
  unfold State.sendCues
  exact .ite hk.sendFarlu hk

theorem Keeps.noteEmptyList {s₀ s : State} (hk : Keeps s₀ s) : Keeps s₀ (s.noteEmptyList) := by
  unfold State.noteEmptyList
  exact .ite hk.raise hk

theorem Keeps.swapBanks {s₀ s : State} (hk : Keeps s₀ s) {lookAt : Int} : Keeps s₀ (s.swapBanks lookAt) := by
  unfold State.swapBanks
  exact hk.finishCopy.same.raise.noteEmptyList.sendCues

theorem Keeps.trySwap {s₀ s : State} (hk : Keeps s₀ s) : Keeps s₀ (s.trySwap) := by
  unfold State.trySwap
  exact .ite hk (.ite hk.swapBanks (.ite hk.swapBanks hk))

theorem Keeps.seqStart {s₀ s : State} (hk : Keeps s₀ s) : Keeps s₀ (s.seqStart) := by
  unfold State.seqStart
  exact hk.setSeqState.seqFollowAxis.trySwap

theorem Keeps.drainCheck {s₀ s : State} (hk : Keeps s₀ s) : Keeps s₀ (s.drainCheck) := by
  unfold State.drainCheck
  exact .ite hk.setSeqState hk

theorem Keeps.seqStop {s₀ s : State} (hk : Keeps s₀ s) : Keeps s₀ (s.seqStop) := by
  unfold State.seqStop
  exact .ite hk.setSeqState.drainCheck.trySwap hk

theorem Keeps.seqApply {s₀ s : State} (hk : Keeps s₀ s) {k : Nat} {v : Int} : Keeps s₀ (seqApply s k v) := by
  unfold Machine.seqApply
  refine .ite ?_ ?_
  · exact hk.cueResult.same.trySwap
  · exact .ite hk.setBlk (.ite (.ite hk.cueResult.seqStart hk.seqStop) (.ite hk.same hk))

theorem Keeps.setInputPair {s₀ s : State} (hk : Keeps s₀ s) {p : Nat} {x : SafePair} : Keeps s₀ (s.setInputPair p x) := by
  unfold State.setInputPair
  exact .ite hk.same hk.same

theorem Keeps.pairChanged {s₀ s : State} (hk : Keeps s₀ s) {was now_ : Bool} {e : Nat} : Keeps s₀ (s.pairChanged was now_ e) := by
  unfold State.pairChanged
  exact (Keeps.ite hk hk.raise).recheck

theorem Keeps.takePair {s₀ s : State} (hk : Keeps s₀ s) {p : Nat} {x : SafePair} : Keeps s₀ (s.takePair p x) := by
  unfold State.takePair
  exact .ite hk.setInputPair hk.setInputPair.pairChanged

theorem Keeps.turnPair {s₀ s : State} (hk : Keeps s₀ s) {p : Nat} : Keeps s₀ (s.turnPair p) := by
  unfold State.turnPair
  exact .ite hk.takePair hk

theorem Keeps.turnPairs {s₀ s : State} (hk : Keeps s₀ s) {old : Int} : Keeps s₀ (s.turnPairs old) := by
  unfold State.turnPairs
  exact (hk.foldl fun _ _ k => (.ite k k.turnPair))

theorem Keeps.turnSource {s₀ s : State} (hk : Keeps s₀ s) {old : Int} : Keeps s₀ (s.turnSource old) := by
  unfold State.turnSource
  exact .ite hk (Keeps.ite hk.same hk).pairChanged

theorem Keeps.cmdPair {s₀ s : State} (hk : Keeps s₀ s) : Keeps s₀ (s.cmdPair) := by
  unfold State.cmdPair
  exact .ite hk.same.pairChanged hk.recheck

theorem Keeps.noteDisagreement {s₀ s : State} (hk : Keeps s₀ s) : Keeps s₀ (s.noteDisagreement) := by
  unfold State.noteDisagreement
  split
  exacts [hk.same.raise, hk.same, hk]

theorem Keeps.turnNets {s₀ s : State} (hk : Keeps s₀ s) {old : Int} : Keeps s₀ (s.turnNets old) := by
  unfold State.turnNets
  exact .ite hk hk.same.noteDisagreement.cmdPair

theorem Keeps.turnMonitor {s₀ s : State} (hk : Keeps s₀ s) {old : Int} : Keeps s₀ (s.turnMonitor old) := by
  unfold State.turnMonitor
  exact .ite hk hk.same

theorem Keeps.clearLockout {s₀ s : State} (hk : Keeps s₀ s) : Keeps s₀ (s.clearLockout) := by
  unfold State.clearLockout
  exact hk.set.set.set.same.raise.setSafetyState

theorem Keeps.setSealResult {s₀ s : State} (hk : Keeps s₀ s) {c : Nat} : Keeps s₀ (s.setSealResult c) := by
  unfold State.setSealResult
  exact .ite hk.set hk.set.raise

theorem Keeps.sealAccepted {s₀ s : State} (hk : Keeps s₀ s) : Keeps s₀ (s.sealAccepted) := by
  unfold State.sealAccepted
  exact hk.set.setSealResult.same

theorem Keeps.safetyApply {s₀ s : State} (hk : Keeps s₀ s) {k : Nat} {old : Int} : Keeps s₀ (safetyApply s k old) := by
  unfold Machine.safetyApply
  refine .ite ?_ ?_
  · exact hk.sealTouched.turnPairs
  · refine .ite ?_ ?_
    · exact hk.sealTouched.turnSource
    · refine .ite ?_ ?_
      · exact hk.sealTouched.turnNets
      · refine .ite ?_ ?_
        · exact hk.sealTouched.turnMonitor
        · exact .ite hk.sealTouched (.ite hk.clearLockout (.ite hk.trip (.ite hk.sealAccepted hk)))

theorem Keeps.setRxChan {s₀ s : State} (hk : Keeps s₀ s) {c : Nat} {x : RxChan} : Keeps s₀ (s.setRxChan c x) := by
  unfold State.setRxChan
  exact hk.same

theorem Keeps.applyDac {s₀ s : State} (hk : Keeps s₀ s) {c : Nat} : Keeps s₀ (s.applyDac c) := by
  unfold State.applyDac
  exact hk.setRxChan

theorem Keeps.touchDac {s₀ s : State} (hk : Keeps s₀ s) {c : Nat} : Keeps s₀ (s.touchDac c) := by
  unfold State.touchDac
  exact .ite hk.setRxChan (.ite hk.applyDac hk)

theorem Keeps.powerChannel {s₀ s : State} (hk : Keeps s₀ s) {c : Nat} : Keeps s₀ (s.powerChannel c) := by
  unfold State.powerChannel
  exact hk.setRxChan.applyDac

theorem Keeps.rxApply {s₀ s : State} (hk : Keeps s₀ s) {k : Nat} {old : Int} : Keeps s₀ (rxApply s k old) := by
  unfold Machine.rxApply
  exact .ite hk.touchDac (.ite (hk.foldl fun _ _ k => k.touchDac) (.ite hk.powerChannel hk))

theorem Keeps.histApply {s₀ s : State} (hk : Keeps s₀ s) {k : Nat} : Keeps s₀ (histApply s k) := by
  unfold Machine.histApply
  exact .ite hk.emptyAllMrev hk

theorem Keeps.abandonOnline {s₀ s : State} (hk : Keeps s₀ s) {u : Nat} : Keeps s₀ (s.abandonOnline u) := by
  unfold State.abandonOnline
  split
  exacts [hk, hk.same.setOutcome]

theorem Keeps.stopOnline {s₀ s : State} (hk : Keeps s₀ s) : Keeps s₀ (s.stopOnline) := by
  unfold State.stopOnline
  exact (hk.foldl fun _ _ k => k.abandonOnline)

theorem Keeps.calApply {s₀ s : State} (hk : Keeps s₀ s) {k : Nat} : Keeps s₀ (calApply s k) := by
  unfold Machine.calApply
  exact .ite hk.stopOnline (.ite (hk.foldl fun _ _ k => k.abandonOnline) hk)

theorem Keeps.startTrim {s₀ s : State} (hk : Keeps s₀ s) : Keeps s₀ (s.startTrim) := by
  unfold State.startTrim
  exact .ite hk.same hk

theorem Keeps.hkApply {s₀ s : State} (hk : Keeps s₀ s) {k : Nat} : Keeps s₀ (hkApply s k) := by
  unfold Machine.hkApply
  exact .ite hk.same (.ite hk.startTrim (.ite hk.same (.ite hk.same hk)))

theorem Keeps.markHour {s₀ s : State} (hk : Keeps s₀ s) : Keeps s₀ (s.markHour) := by
  unfold State.markHour
  exact hk.same

theorem Keeps.setIncrement {s₀ s : State} (hk : Keeps s₀ s) {inc : Int} : Keeps s₀ (s.setIncrement inc) := by
  unfold State.setIncrement
  exact hk.markHour.set

theorem Keeps.hostIncrement {s₀ s : State} (hk : Keeps s₀ s) {v inUse : Nat} : Keeps s₀ (s.hostIncrement v inUse) := by
  unfold State.hostIncrement
  exact .ite hk.set.same hk.set.same.setIncrement

theorem Keeps.newHour {s₀ s : State} (hk : Keeps s₀ s) : Keeps s₀ (s.newHour) := by
  unfold State.newHour
  exact hk.same

theorem Keeps.setClock {s₀ s : State} (hk : Keeps s₀ s) {x : Nat} : Keeps s₀ (s.setClock x) := by
  unfold State.setClock
  exact .ite hk (.ite hk.set.raise.same (.ite hk.set.raise.newHour hk.set.raise))

theorem Keeps.enterHoldover {s₀ s : State} (hk : Keeps s₀ s) {source : Nat} : Keeps s₀ (s.enterHoldover source) := by
  unfold State.enterHoldover
  extract_lets s1
  have h1 : Keeps s₀ s1 := by
    unfold s1
    split
    exacts [hk.setIncrement, hk]
  exact h1.setClock

theorem Keeps.askStep {s₀ s : State} (hk : Keeps s₀ s) {p : PendingStep} : Keeps s₀ (s.askStep p) := by
  unfold State.askStep
  exact hk.same.setClock

theorem Keeps.setPtp {s₀ s : State} (hk : Keeps s₀ s) {p : Nat} {x : GptpPort} : Keeps s₀ (s.setPtp p x) := by
  unfold State.setPtp
  exact .ite hk.same hk.same

theorem Keeps.restartPort {s₀ s : State} (hk : Keeps s₀ s) {p : Nat} : Keeps s₀ (s.restartPort p) := by
  unfold State.restartPort
  exact hk.setPtp

theorem Keeps.noteGm {s₀ s : State} (hk : Keeps s₀ s) {id : Nat} : Keeps s₀ (s.noteGm id) := by
  unfold State.noteGm
  exact .ite hk (.ite hk.set hk.set.raise)

theorem Keeps.selectGm {s₀ s : State} (hk : Keeps s₀ s) : Keeps s₀ (s.selectGm) := by
  unfold State.selectGm
  exact .ite hk (by split; exacts [hk.noteGm, hk])

theorem Keeps.restartGptp {s₀ s : State} (hk : Keeps s₀ s) {k : Nat} : Keeps s₀ (s.restartGptp k) := by
  unfold State.restartGptp
  exact .ite hk.restartPort (.ite hk.restartPort hk.restartPort.restartPort.selectGm)

theorem Keeps.clockApply {s₀ s : State} (hk : Keeps s₀ s) {k : Nat} {old : Int} : Keeps s₀ (clockApply s k old) := by
  unfold Machine.clockApply
  refine .ite ?_ ?_
  · exact hk.hostIncrement
  · refine .ite ?_ ?_
    · exact .ite hk.same.enterHoldover hk.same
    · refine .ite ?_ ?_
      · exact .ite hk.setClock (.ite hk.enterHoldover hk)
      · exact .ite hk.askStep (.ite (.ite hk.set hk) (.ite hk.restartGptp hk))

theorem Keeps.setLink {s₀ s : State} (hk : Keeps s₀ s) {p level : Nat} : Keeps s₀ (s.setLink p level) := by
  unfold State.setLink
  exact .ite hk hk.set.raise

theorem Keeps.portApply {s₀ s : State} (hk : Keeps s₀ s) {k : Nat} : Keeps s₀ (portApply s k) := by
  unfold Machine.portApply
  exact .ite hk.setLink (.ite hk.setLink hk)

theorem Keeps.canRestart {s₀ s : State} (hk : Keeps s₀ s) : Keeps s₀ (s.canRestart) := by
  unfold State.canRestart
  exact hk.same.set

theorem Keeps.drainCan {s₀ s : State} (hk : Keeps s₀ s) : Keeps s₀ (s.drainCan) := by
  unfold State.drainCan
  exact .ite (hk.same.foldl fun _ _ k => k.send) hk

theorem Keeps.setCanState {s₀ s : State} (hk : Keeps s₀ s) {x : Nat} : Keeps s₀ (s.setCanState x) := by
  unfold State.setCanState
  exact .ite hk (.ite hk.set.drainCan hk.set.raise.drainCan)

theorem Keeps.endBusOff {s₀ s : State} (hk : Keeps s₀ s) : Keeps s₀ (s.endBusOff) := by
  unfold State.endBusOff
  exact .ite hk.setCanState hk

theorem Keeps.canApply {s₀ s : State} (hk : Keeps s₀ s) {k : Nat} : Keeps s₀ (canApply s k) := by
  unfold Machine.canApply
  exact .ite hk.canRestart (.ite hk.endBusOff hk)

theorem Keeps.setLane {s₀ s : State} (hk : Keeps s₀ s) {n : Nat} {x : Lane} : Keeps s₀ (s.setLane n x) := by
  unfold State.setLane
  exact hk.same

theorem Keeps.prbsRestart {s₀ s : State} (hk : Keeps s₀ s) {n : Nat} : Keeps s₀ (s.prbsRestart n) := by
  unfold State.prbsRestart
  exact hk.setLane.set

theorem Keeps.leaveTest {s₀ s : State} (hk : Keeps s₀ s) {n : Nat} : Keeps s₀ (s.leaveTest n) := by
  unfold State.leaveTest
  exact hk.set.set.prbsRestart

theorem Keeps.failScan {s₀ s : State} (hk : Keeps s₀ s) {n : Nat} : Keeps s₀ (s.failScan n) := by
  unfold State.failScan
  exact (hk.foldl fun _ _ k => k.finishJob)

theorem Keeps.noteUsable {s₀ s : State} (hk : Keeps s₀ s) {b : Nat} : Keeps s₀ (s.noteUsable b) := by
  unfold State.noteUsable
  exact (hk.foldl fun _ _ k => (.ite (.ite k k.setLane) k.setLane))

theorem Keeps.addControl {s₀ s : State} (hk : Keeps s₀ s) {b : Nat} {c : ControlColumn} : Keeps s₀ (s.addControl b c) := by
  unfold State.addControl
  exact hk.setBond

theorem Keeps.sendColumn {s₀ s : State} (hk : Keeps s₀ s) {b : Nat} {ns : List Nat} {block : Nat → List Byte} :
    Keeps s₀ (s.sendColumn b ns block) := by
  unfold State.sendColumn
  exact hk.addControl

theorem Keeps.sendEpoch {s₀ s : State} (hk : Keeps s₀ s) : Keeps s₀ (s.sendEpoch) := by
  unfold State.sendEpoch
  exact hk.sendFarlu

theorem Keeps.farluChanged {s₀ s : State} (hk : Keeps s₀ s) {old new_ : Nat} : Keeps s₀ (s.farluChanged old new_) := by
  unfold State.farluChanged
  exact .ite hk (.ite hk.same.sendEpoch hk)

theorem Keeps.setBondState {s₀ s : State} (hk : Keeps s₀ s) {b st : Nat} : Keeps s₀ (s.setBondState b st) := by
  unfold State.setBondState
  extract_lets _ s1 s2
  have h2 : Keeps s₀ s2 := by
    unfold s2
    split
    exacts [hk.set.count.raise, hk.set.count.raise, hk.set.count.raise, hk.set.count]
  exact .ite hk (.ite h2.farluChanged h2)

theorem Keeps.resend {s₀ s : State} (hk : Keeps s₀ s) {b : Nat} : Keeps s₀ (s.resend b) := by
  unfold State.resend
  exact .ite hk (by split; exacts [(.ite hk.setBond.addControl.count hk), hk])

theorem Keeps.applyMap {s₀ s : State} (hk : Keeps s₀ s) {b : Nat} {lanes on : List Nat} : Keeps s₀ (s.applyMap b lanes on) := by
  unfold State.applyMap
  exact .ite hk.setBond.sendColumn.set hk.setBond.sendColumn.set.resend.setBondState

theorem Keeps.bondFalls {s₀ s : State} (hk : Keeps s₀ s) {b : Nat} : Keeps s₀ (s.bondFalls b) := by
  unfold State.bondFalls
  exact hk.set.resend.setBondState

theorem Keeps.scheduledAlign {s₀ s : State} (hk : Keeps s₀ s) {b : Nat} : Keeps s₀ (s.scheduledAlign b) := by
  unfold State.scheduledAlign
  exact .ite hk.setBond.setBond.sendColumn hk.setBond.applyMap

theorem Keeps.followUsable {s₀ s : State} (hk : Keeps s₀ s) {b : Nat} : Keeps s₀ (s.followUsable b) := by
  unfold State.followUsable
  extract_lets s1 _ _ _
  refine .ite ?_ ?_
  · exact .ite hk.noteUsable hk.noteUsable.applyMap
  · refine .ite ?_ ?_
    · exact hk.noteUsable.bondFalls
    · exact .ite hk.noteUsable (.ite hk.noteUsable.scheduledAlign hk.noteUsable.applyMap)

theorem Keeps.trainOrDown {s₀ s : State} (hk : Keeps s₀ s) {b : Nat} : Keeps s₀ (s.trainOrDown b) := by
  unfold State.trainOrDown
  exact hk.setBondState

theorem Keeps.bondModeChanged {s₀ s : State} (hk : Keeps s₀ s) {b : Nat} {started : Bool} : Keeps s₀ (s.bondModeChanged b started) := by
  unfold State.bondModeChanged
  exact .ite hk.followUsable.trainOrDown hk.followUsable

theorem Keeps.laneModeApply {s₀ s : State} (hk : Keeps s₀ s) {n old : Nat} : Keeps s₀ (s.laneModeApply n old) := by
  unfold State.laneModeApply
  refine .ite ?_ ?_
  · exact hk
  · extract_lets s1 _ s2 s3
    have h2 : Keeps s₀ s2 := .ite (Keeps.ite hk.leaveTest hk).setLane (.ite hk.leaveTest hk)
    split
    exacts [(Keeps.ite h2.failScan h2).bondModeChanged, (Keeps.ite h2.failScan h2).setLink]

theorem Keeps.restartReceiver {s₀ s : State} (hk : Keeps s₀ s) {n : Nat} : Keeps s₀ (s.restartReceiver n) := by
  unfold State.restartReceiver
  exact (Keeps.ite hk hk.failScan).setLane

theorem Keeps.restartReceivers {s₀ s : State} (hk : Keeps s₀ s) {b : Nat} : Keeps s₀ (s.restartReceivers b) := by
  unfold State.restartReceivers
  exact (hk.foldl fun _ _ k => k.restartReceiver).setBond

theorem Keeps.restartBond {s₀ s : State} (hk : Keeps s₀ s) {b : Nat} : Keeps s₀ (s.restartBond b) := by
  unfold State.restartBond
  exact hk.set.restartReceivers.resend.trainOrDown

theorem Keeps.prbsApply {s₀ s : State} (hk : Keeps s₀ s) {n old : Nat} : Keeps s₀ (s.prbsApply n old) := by
  unfold State.prbsApply
  exact .ite hk.set.prbsRestart (.ite hk.prbsRestart hk)

theorem Keeps.laneApply {s₀ s : State} (hk : Keeps s₀ s) {k : Nat} {old : Int} : Keeps s₀ (laneApply s k old) := by
  unfold Machine.laneApply
  exact .ite hk.laneModeApply (.ite hk.restartBond (.ite hk.restartBond (.ite hk.prbsApply hk)))

theorem Keeps.resolveRecord {s₀ s : State} (hk : Keeps s₀ s) {v : Nat} : Keeps s₀ (s.resolveRecord v) := by
  unfold State.resolveRecord
  split
  exacts [hk.setRecord.same.raise, hk]

theorem Keeps.revokeKey {s₀ s : State} (hk : Keeps s₀ s) {v : Nat} : Keeps s₀ (s.revokeKey v) := by
  unfold State.revokeKey
  exact hk.setKeySlot.raise

theorem Keeps.commitSvn {s₀ s : State} (hk : Keeps s₀ s) : Keeps s₀ (s.commitSvn) := by
  unfold State.commitSvn
  exact hk.same

theorem Keeps.freeJobSlot {s₀ s : State} (hk : Keeps s₀ s) {slot : Nat} : Keeps s₀ (s.freeJobSlot slot) := by
  unfold State.freeJobSlot
  exact hk.setJob

theorem Keeps.ackJob {s₀ s : State} (hk : Keeps s₀ s) {v : Nat} : Keeps s₀ (s.ackJob v) := by
  unfold State.ackJob
  exact .ite hk.freeJobSlot hk

theorem Keeps.dropCalRuns {s₀ s : State} (hk : Keeps s₀ s) {slot : Nat} : Keeps s₀ (s.dropCalRuns slot) := by
  unfold State.dropCalRuns
  exact (hk.same.foldl fun _ _ k => k.setOutcome)

theorem Keeps.setBootImage {s₀ s : State} (hk : Keeps s₀ s) {n : Nat} {x : BootImage} : Keeps s₀ (s.setBootImage n x) := by
  unfold State.setBootImage
  exact .ite hk.same hk.same

theorem Keeps.uncommitImage {s₀ s : State} (hk : Keeps s₀ s) {n : Nat} : Keeps s₀ (s.uncommitImage n) := by
  unfold State.uncommitImage
  exact hk.setBootImage

theorem Keeps.abortJob {s₀ s : State} (hk : Keeps s₀ s) {slot : Nat} : Keeps s₀ (s.abortJob slot) := by
  unfold State.abortJob
  exact (Keeps.ite (Keeps.ite hk.dropCalRuns hk).uncommitImage (.ite hk.dropCalRuns hk)).finishJob

theorem Keeps.memApply {s₀ s : State} (hk : Keeps s₀ s) {k : Nat} : Keeps s₀ (memApply s k) := by
  unfold Machine.memApply
  refine .ite ?_ ?_
  · exact hk.resolveRecord
  · refine .ite ?_ ?_
    · exact hk.revokeKey
    · exact .ite hk.commitSvn (.ite hk.ackJob (.ite hk.abortJob (.ite hk.same (.ite hk.same hk))))

theorem Keeps.ackEvents {s₀ s : State} (hk : Keeps s₀ s) {v : Nat} : Keeps s₀ (s.ackEvents v) := by
  unfold State.ackEvents
  exact hk.same

theorem Keeps.cleanSpan {s₀ s : State} (hk : Keeps s₀ s) {n a len : Nat} : Keeps s₀ (s.cleanSpan n a len) := by
  unfold State.cleanSpan
  exact hk.same

theorem Keeps.setY {s₀ s : State} (hk : Keeps s₀ s) {n a v : Nat} : Keeps s₀ (s.setY n a v) := by
  unfold State.setY
  exact hk.setEngine

theorem Keeps.fillY {b s : State} (h : Keeps b s) {n a : Nat} {ws : List Nat} : Keeps b (s.fillY n a ws) := by
  induction ws generalizing s a with
  | nil => exact h
  | cons w ws ih => exact ih h.setY

theorem Keeps.putY {s₀ s : State} (hk : Keeps s₀ s) {n a : Nat} {ws : List Nat} : Keeps s₀ (s.putY n a ws) := by
  unfold State.putY
  exact hk.fillY.cleanSpan

theorem Keeps.putParams {s₀ s : State} (hk : Keeps s₀ s) {n : Nat} : Keeps s₀ (s.putParams n) := by
  unfold State.putParams
  exact .ite (hk.foldl fun _ _ k => (by split; exacts [k.putY, k])) hk

theorem Keeps.startEngine {s₀ s : State} (hk : Keeps s₀ s) {n : Nat} : Keeps s₀ (s.startEngine n) := by
  unfold State.startEngine
  exact hk.setEngine.putParams

theorem Keeps.startKernel {s₀ s : State} (hk : Keeps s₀ s) : Keeps s₀ (s.startKernel) := by
  unfold State.startKernel
  exact (hk.set.foldl fun _ _ k => (.ite k (.ite k.startEngine k.setEngine)))

theorem Keeps.dropKernelObjects {b s : State} (h : Keeps b s) : Keeps b s.dropKernelObjects :=
  h.filter (fun e => e.1 / 2 ^ 20 != 4) (fun _ => true) (hb := by simp [State.dropKernelObjects])

theorem Keeps.seEnable {s₀ s : State} (hk : Keeps s₀ s) {n : Nat} : Keeps s₀ (s.seEnable n) := by
  unfold State.seEnable
  exact .ite (.ite hk.setEngine (.ite hk hk.setEngine)) hk.setEngine

theorem Keeps.queueParam {s₀ s : State} (hk : Keeps s₀ s) {k : Nat} : Keeps s₀ (s.queueParam k) := by
  unfold State.queueParam
  split
  exacts [hk, (by split; exacts [hk, (hk.foldl fun _ _ k => k.setEngine)])]

theorem Keeps.ownApply {s₀ s : State} (hk : Keeps s₀ s) {k : Nat} : Keeps s₀ (s.ownApply k) := by
  unfold State.ownApply
  refine .ite ?_ ?_
  · exact hk.ackEvents
  · exact .ite hk.dropKernelObjects.startKernel (.ite hk.seEnable (.ite hk.yieldRole (.ite hk.queueParam hk)))

theorem Keeps.blockApply {s₀ s : State} (hk : Keeps s₀ s) {k : Nat} {old v : Int} : Keeps s₀ (s.blockApply k old v) := by
  unfold State.blockApply
  extract_lets s1 s2 s3 s4 s5 s6 s7 s8 s9 s10 s11 s12 s13
  have h3 : Keeps s₀ s3 := hk.crankApply.emitApply.seqApply
  have h6 : Keeps s₀ s6 := h3.safetyApply.rxApply.histApply
  have h9 : Keeps s₀ s9 := h6.calApply.hkApply.clockApply
  have h12 : Keeps s₀ s12 := h9.portApply.canApply.laneApply
  exact h12.memApply.ownApply

theorem Keeps.startJob {b s : State} (h : Keeps b s) {kind : JobKind} {origin tag : Nat} {r : Resource} {arg total : Nat} {p : Nat × State}
    (hp : s.startJob kind origin tag r arg total = some p) : Keeps b p.2 := by
  unfold State.startJob at hp
  split at hp
  · cases hp
  · obtain rfl := Option.some.inj hp
    exact h.setJob.same

theorem Keeps.startWrite {b s : State} (h : Keeps b s) {k v origin tag : Nat} : Keeps b (s.startWrite k v origin tag).1 := by
  unfold State.startWrite
  split
  · exact h
  · split
    next hp => exact h.startJob hp
    next => exact h

theorem Keeps.applyScalar {s₀ s : State} (hk : Keeps s₀ s) {d : ObjDesc} {k : Nat} {v : Int} {origin tag : Nat} :
    Keeps s₀ (s.applyScalar d k v origin tag).1 := by
  unfold State.applyScalar
  exact .ite hk.keepParam.set.blockApply.startWrite.set hk.keepParam.set.blockApply.startWrite

theorem Keeps.sendObject {s₀ s : State} (hk : Keeps s₀ s) {k : Nat} {bs : List Byte} : Keeps s₀ (s.sendObject k bs) := by
  unfold State.sendObject
  exact (hk.foldl fun _ _ k => k.sendFarlu)

theorem Keeps.mirrorWrite {s₀ s : State} (hk : Keeps s₀ s) {d : ObjDesc} {k : Nat} {bs : List Byte} : Keeps s₀ (s.mirrorWrite d k bs) := by
  unfold State.mirrorWrite
  exact .ite hk.sendObject hk

theorem Keeps.applyValue {b s : State} (h : Keeps b s) {d : ObjDesc} {k : Nat} {bs : List Byte} {origin tag : Nat} :
    Keeps b (s.applyValue d k bs origin tag).1 := by
  unfold State.applyValue
  split
  · exact h.applyBlock.mirrorWrite
  · exact h.applyScalar.mirrorWrite

theorem Keeps.applyLater {s₀ s : State} (hk : Keeps s₀ s) {l : List (ObjDesc × Nat × List Byte)} : Keeps s₀ (s.applyLater l) := by
  unfold State.applyLater
  exact (hk.foldl fun _ _ k => k.applyValue)

theorem Keeps.applyAfter {s₀ s : State} (hk : Keeps s₀ s) {b : Bearer} {l : List (ObjDesc × Nat × List Byte)} :
    Keeps s₀ (s.applyAfter b l) := by
  unfold State.applyAfter
  exact .ite hk.applyLater hk.same

theorem Keeps.netServe {b s : State} (h : Keeps b s) {req : Requester} {pdu : List Byte} {run : State → Answer}
    (hr : ∀ t, Keeps b t → Keeps b (run t).st) : Keeps b (s.netServe req pdu run) := by
  unfold State.netServe
  refine .ite h.netRespond ?_
  split
  · exact h.holdRequest.netRespond
  · exact (hr _ h).resetFrom.holdRequest.netRespond.applyAfter

theorem Keeps.koaServe {b s : State} (h : Keeps b s) {req : Requester} {pdu : List Byte} {run : State → Answer}
    (hr : ∀ t, Keeps b t → Keeps b (run t).st) : Keeps b (s.koaServe req pdu run) := by
  unfold State.koaServe
  exact .ite h (.ite h.selectKoa.count (.ite (h.i3cServe hr) (h.netServe hr)))

theorem Keeps.fail {s₀ s : State} (hk : Keeps s₀ s) {x : Status} : Keeps s₀ (s.fail x).st := by
  unfold State.fail
  exact hk

theorem Keeps.done {s₀ s : State} (hk : Keeps s₀ s) {payload : List Byte} : Keeps s₀ (s.done payload).st := by
  unfold State.done
  exact hk

theorem Keeps.koaReadRange {s₀ s : State} (hk : Keeps s₀ s) {max index sub : Nat} {payload : List Byte} :
    Keeps s₀ (s.koaReadRange max index sub payload).st := by
  unfold State.koaReadRange
  extract_lets _ _ _
  split
  exacts [hk.fail, (by split; exacts [hk.fail, hk.done])]

theorem Keeps.hold {s₀ s : State} (hk : Keeps s₀ s) {x : ObjDesc × Nat × List Byte} : Keeps s₀ (s.hold x) := by
  unfold State.hold
  exact .ite hk.setBlk hk.set

theorem Keeps.accept {s₀ s : State} (hk : Keeps s₀ s) {d : ObjDesc} {k : Nat} {bs : List Byte} {origin tag : Nat} :
    Keeps s₀ (s.accept d k bs origin tag).st := by
  unfold State.accept
  split
  exacts [hk, hk.applyValue]

theorem Keeps.acceptAll {b s : State} (h : Keeps b s) {vs : List (ObjDesc × Nat × List Byte)} {origin tag : Nat} :
    Keeps b (s.acceptAll vs origin tag).st := by
  have hfold : ∀ (l : List (ObjDesc × Nat × List Byte)) (a : Answer), Keeps b a.st → Keeps b (l.foldl (fun (a : Answer) v =>
      let b := a.st.accept v.1 v.2.1 v.2.2 origin tag
      ⟨b.st, .ok, [], a.later ++ b.later⟩) a).st := by
    intro l
    induction l with
    | nil => exact fun a ha => ha
    | cons v l ih => exact fun a ha => ih _ ha.accept
  exact hfold vs _ h

theorem Keeps.seqBlkRefused {s₀ s : State} (hk : Keeps s₀ s) {k : Nat} {v : List Byte} {st : Status} :
    Keeps s₀ (seqBlkRefused s k v st) := by
  unfold Machine.seqBlkRefused
  exact .ite hk.cueResult (.ite hk.cueResult (.ite hk.cueResult hk))

theorem Keeps.safetyRefused {s₀ s : State} (hk : Keeps s₀ s) {k : Nat} {st : Status} : Keeps s₀ (safetyRefused s k st) := by
  unfold Machine.safetyRefused
  refine .ite ?_ ?_
  · exact .ite hk.raise hk
  · exact .ite (by split; exacts [hk.setSealResult, hk.setSealResult, hk.setSealResult, hk]) hk

theorem Keeps.seqRefused {s₀ s : State} (hk : Keeps s₀ s) {k : Nat} {v : Int} {st : Status} : Keeps s₀ (seqRefused s k v st) := by
  unfold Machine.seqRefused
  exact .ite hk.cueResult (.ite hk.cueResult hk)

theorem Keeps.refused {s₀ s : State} (hk : Keeps s₀ s) {d : ObjDesc} {k : Nat} {bs : List Byte} {st : Status} :
    Keeps s₀ (s.refused d k bs st) := by
  unfold State.refused
  exact .ite (.ite hk.seqBlkRefused.set hk.seqBlkRefused) hk.seqRefused.safetyRefused

theorem Keeps.refuseAll {s₀ s : State} (hk : Keeps s₀ s) {vs : List (ObjDesc × Nat × List Byte)} {ss : List (List Status)} :
    Keeps s₀ (s.refuseAll vs ss) := by
  unfold State.refuseAll
  exact (hk.foldl fun _ _ k => k.refused)

theorem Keeps.koaWriteRange {s₀ s : State} (hk : Keeps s₀ s) {max index sub : Nat} {payload : List Byte} {origin tag : Nat} :
    Keeps s₀ (s.koaWriteRange max index sub payload origin tag).st := by
  unfold State.koaWriteRange
  extract_lets _ _ _ _ _ _ _ _
  split
  · exact hk.fail
  · split
    exacts [hk.acceptAll, (by split; exacts [hk.refuseAll, hk.refuseAll.fail])]

theorem Keeps.koaRead {s₀ s : State} (hk : Keeps s₀ s) {max : Nat} {d : ObjDesc} {k : Nat} {payload : List Byte} :
    Keeps s₀ (s.koaRead max d k payload).st := by
  unfold State.koaRead
  extract_lets v
  split
  · exact hk.fail
  · split
    · exact hk.fail
    · split
      · exact hk.fail
      · exact hk.done

theorem Keeps.koaWrite {s₀ s : State} (hk : Keeps s₀ s) {max : Nat} {d : ObjDesc} {k : Nat} {bs : List Byte} {origin tag : Nat} :
    Keeps s₀ (s.koaWrite max d k bs origin tag).st := by
  unfold State.koaWrite
  extract_lets _
  split
  exacts [hk.accept, hk.refused.fail]

theorem Keeps.tellExpired {s₀ s : State} (hk : Keeps s₀ s) {req : Requester} {k : Nat} : Keeps s₀ (s.tellExpired req k) := by
  unfold State.tellExpired
  exact hk.same

theorem Keeps.putSnapshot {s₀ s : State} (hk : Keeps s₀ s) {x : Snapshot} : Keeps s₀ (s.putSnapshot x) := by
  unfold State.putSnapshot
  exact hk.same

theorem Keeps.koaReadSeg {s₀ s : State} (hk : Keeps s₀ s) {req : Requester} {max : Nat} {d : ObjDesc} {k : Nat} {payload : List Byte} :
    Keeps s₀ (s.koaReadSeg req max d k payload).st := by
  unfold State.koaReadSeg
  extract_lets _ _ _ _ _ _
  split
  · exact hk.tellExpired.fail
  · split
    exacts [hk.fail, (by split; exacts [hk.fail, hk.putSnapshot.done])]

theorem Keeps.dropSession {s₀ s : State} (hk : Keeps s₀ s) {k : Nat} : Keeps s₀ (s.dropSession k) := by
  unfold State.dropSession
  exact hk.same

theorem Keeps.koaWhole {s₀ s : State} (hk : Keeps s₀ s) {d : ObjDesc} {k : Nat} {bs : List Byte} {origin tag : Nat} :
    Keeps s₀ (s.koaWhole d k bs origin tag).st := by
  unfold State.koaWhole
  extract_lets _
  split
  exacts [hk.accept, hk.refused.fail]

theorem Keeps.koaWriteSeg {s₀ s : State} (hk :
    Keeps s₀ s) {req : Requester} {max : Nat} {d : ObjDesc} {k : Nat} {last : Bool} {payload : List Byte} {origin tag : Nat} :
    Keeps s₀ (s.koaWriteSeg req max d k last payload origin tag).st := by
  unfold State.koaWriteSeg
  extract_lets _ _ _ s1 _
  split
  · split
    exacts [hk.dropSession.koaWhole, hk.dropSession.same.done]
  · split
    exacts [hk.tellExpired.fail, (by split; exacts [hk.dropSession.fail, hk.fail])]

theorem Keeps.koaWriteIf {s₀ s : State} (hk : Keeps s₀ s) {d : ObjDesc} {k : Nat} {payload : List Byte} {origin tag : Nat} :
    Keeps s₀ (s.koaWriteIf d k payload origin tag).st := by
  unfold State.koaWriteIf
  extract_lets _ _ _ _ _
  split
  · exact hk.fail
  · split
    exacts [hk.fail, (by split; exacts [hk.accept, (by split; exacts [hk, hk.refused.fail])])]

theorem Keeps.koaObject {s₀ s : State} (hk : Keeps s₀ s) {req : Requester} {pdu : List Byte} {d : ObjDesc} :
    Keeps s₀ (s.koaObject req pdu d).st := by
  unfold State.koaObject
  extract_lets _ _ _
  split
  · exact hk.koaRead
  · exact hk.koaWrite
  · exact hk.koaReadSeg
  · exact hk.koaWriteSeg
  · exact hk.koaWriteIf
  · split
    exacts [hk.done, hk.fail]

theorem Keeps.koaExec {s₀ s : State} (hk : Keeps s₀ s) {req : Requester} {pdu : List Byte} : Keeps s₀ (s.koaExec req pdu).st := by
  unfold State.koaExec
  extract_lets _ _ _
  split
  · exact hk.fail
  · split
    · exact hk.fail
    · split
      · exact hk.fail
      · split
        · split
          exacts [hk.done, hk.fail]
        · split
          · exact hk.koaReadRange
          · split
            exacts [hk.koaWriteRange, (by split; exacts [hk.fail, hk.koaObject])]

theorem Keeps.koaPdu {s₀ s : State} (hk : Keeps s₀ s) {req : Requester} {pdu : List Byte} : Keeps s₀ (s.koaPdu req pdu) := by
  unfold State.koaPdu
  exact (hk.koaServe fun _ k => k.koaExec)

theorem Keeps.execKoaRead {s₀ s : State} (hk : Keeps s₀ s) {req : Requester} {h : KoaHdr} {payload : List Byte} :
    Completes s₀ (execKoaRead req h payload s) := by
  unfold Machine.execKoaRead
  exact .next hk.koaPdu

theorem Keeps.execKoaWrite {s₀ s : State} (hk : Keeps s₀ s) {req : Requester} {h : KoaHdr} {payload : List Byte} :
    Completes s₀ (execKoaWrite req h payload s) := by
  unfold Machine.execKoaWrite
  exact .next hk.koaPdu

theorem Keeps.execKoaReadRange {s₀ s : State} (hk : Keeps s₀ s) {req : Requester} {h : KoaHdr} {payload : List Byte} :
    Completes s₀ (execKoaReadRange req h payload s) := by
  unfold Machine.execKoaReadRange
  exact .next hk.koaPdu

theorem Keeps.execKoaWriteRange {s₀ s : State} (hk : Keeps s₀ s) {req : Requester} {h : KoaHdr} {payload : List Byte} :
    Completes s₀ (execKoaWriteRange req h payload s) := by
  unfold Machine.execKoaWriteRange
  exact .next hk.koaPdu

theorem Keeps.execKoaReadSeg {s₀ s : State} (hk : Keeps s₀ s) {req : Requester} {h : KoaHdr} {payload : List Byte} :
    Completes s₀ (execKoaReadSeg req h payload s) := by
  unfold Machine.execKoaReadSeg
  exact .next hk.koaPdu

theorem Keeps.execKoaWriteSeg {s₀ s : State} (hk : Keeps s₀ s) {req : Requester} {h : KoaHdr} {payload : List Byte} :
    Completes s₀ (execKoaWriteSeg req h payload s) := by
  unfold Machine.execKoaWriteSeg
  exact .next hk.koaPdu

theorem Keeps.execKoaWriteIf {s₀ s : State} (hk : Keeps s₀ s) {req : Requester} {h : KoaHdr} {payload : List Byte} :
    Completes s₀ (execKoaWriteIf req h payload s) := by
  unfold Machine.execKoaWriteIf
  exact .next hk.koaPdu

theorem Keeps.execKoaDescribe {s₀ s : State} (hk : Keeps s₀ s) {req : Requester} {h : KoaHdr} {payload : List Byte} :
    Completes s₀ (execKoaDescribe req h payload s) := by
  unfold Machine.execKoaDescribe
  exact .next hk.koaPdu

theorem Keeps.execKoaNop {s₀ s : State} (hk : Keeps s₀ s) {req : Requester} {h : KoaHdr} {payload : List Byte} :
    Completes s₀ (execKoaNop req h payload s) := by
  unfold Machine.execKoaNop
  exact .next hk.koaPdu

theorem Keeps.execKoaUnassignedOpcode {s₀ s : State} (hk : Keeps s₀ s) {req : Requester} {op : Fin 16} {h : KoaHdr} {payload : List Byte} :
    Completes s₀ (execKoaUnassignedOpcode req op h payload s) := by
  unfold Machine.execKoaUnassignedOpcode
  exact .ite (.next hk.koaPdu) (.next hk)

theorem Keeps.execKoaPduDiscard {s₀ s : State} (hk : Keeps s₀ s) {req : Requester} {pdu : List Byte} :
    Completes s₀ (execKoaPduDiscard req pdu s) := by
  unfold Machine.execKoaPduDiscard
  exact .ite (.next hk.koaPdu) (.next hk)

theorem Keeps.applyKept {s₀ s : State} (hk : Keeps s₀ s) {k : Nat} {bs : List Byte} : Keeps s₀ (s.applyKept k bs) := by
  unfold State.applyKept
  split
  exacts [hk.applyValue, hk]

theorem Keeps.applyI3cLater {s₀ s : State} (hk : Keeps s₀ s) : Keeps s₀ (s.applyI3cLater) := by
  unfold State.applyI3cLater
  exact (hk.same.foldl fun _ _ k => k.applyKept)

theorem Keeps.emptyResponse {s₀ s : State} (hk : Keeps s₀ s) : Keeps s₀ (s.emptyResponse) := by
  unfold State.emptyResponse
  exact hk.applyI3cLater.same

theorem Keeps.execKoaI3cResponseTimeout {s₀ s : State} (hk : Keeps s₀ s) : Completes s₀ (execKoaI3cResponseTimeout s) := by
  unfold Machine.execKoaI3cResponseTimeout
  split
  exacts [(.ite (.next hk.emptyResponse.count) (.next hk)), (.next hk)]

theorem Keeps.loseSegments {s₀ s : State} (hk : Keeps s₀ s) {owner : Requester} {key : Nat} : Keeps s₀ (s.loseSegments owner key) := by
  unfold State.loseSegments
  exact hk.same

theorem Keeps.execSegmentExpired {s₀ s : State} (hk : Keeps s₀ s) {owner : Requester} {key : Nat} :
    Completes s₀ (execSegmentExpired owner key s) := by
  unfold Machine.execSegmentExpired
  exact .ite (.next hk) (.next hk.same.loseSegments.raise)

theorem Keeps.koaLong {s₀ s : State} (hk : Keeps s₀ s) {req : Requester} {d : ObjDesc} {k : Nat} {bs : List Byte} {origin tag : Nat} :
    Keeps s₀ (s.koaLong req d k bs origin tag).st := by
  unfold State.koaLong
  extract_lets _ _
  split
  exacts [hk.koaWhole, (by split; exacts [hk.tellExpired.fail, hk.fail])]

theorem Keeps.koaWriteOf {s₀ s : State} (hk : Keeps s₀ s) {req : Requester} {tag k : Nat} {bs : List Byte} :
    Keeps s₀ (s.koaWriteOf req tag k bs) := by
  unfold State.koaWriteOf
  exact .ite hk.koaPdu (hk.koaServe fun _ k => (by split; exacts [k.fail, k.koaLong]))

theorem Keeps.koaSet {s₀ s : State} (hk : Keeps s₀ s) {req : Requester} {tag k : Nat} {v : Int} : Keeps s₀ (s.koaSet req tag k v) := by
  unfold State.koaSet
  exact hk.koaWriteOf

theorem Keeps.execStoreAll {s₀ s : State} (hk : Keeps s₀ s) {req : Requester} {tag value : Nat} :
    Completes s₀ (execStoreAll req tag value s) := by
  unfold Machine.execStoreAll
  exact .next hk.koaSet

theorem Keeps.execStoreCal {s₀ s : State} (hk : Keeps s₀ s) {req : Requester} {tag value : Nat} :
    Completes s₀ (execStoreCal req tag value s) := by
  unfold Machine.execStoreCal
  exact .next hk.koaSet

theorem Keeps.execRestoreDefaults {s₀ s : State} (hk : Keeps s₀ s) {req : Requester} {tag value : Nat} :
    Completes s₀ (execRestoreDefaults req tag value s) := by
  unfold Machine.execRestoreDefaults
  exact .next hk.koaSet

theorem Keeps.execJobAck {s₀ s : State} (hk : Keeps s₀ s) {req : Requester} {tag value : Nat} :
    Completes s₀ (execJobAck req tag value s) := by
  unfold Machine.execJobAck
  exact .next hk.koaSet

theorem Keeps.execJobAbort {s₀ s : State} (hk : Keeps s₀ s) {req : Requester} {tag value : Nat} :
    Completes s₀ (execJobAbort req tag value s) := by
  unfold Machine.execJobAbort
  exact .next hk.koaSet

theorem Keeps.restoreStart {s₀ s : State} (hk : Keeps s₀ s) {slot : Nat} : Keeps s₀ (s.restoreStart slot) := by
  unfold State.restoreStart
  exact hk.setJob

theorem Keeps.storeSnapshot {s₀ s : State} (hk : Keeps s₀ s) {slot : Nat} : Keeps s₀ (s.storeSnapshot slot) := by
  unfold State.storeSnapshot
  exact .ite hk.finishJob (.ite hk.finishJob hk.setJob)

theorem Keeps.issueRecord {s₀ s : State} (hk : Keeps s₀ s) {slot : Nat} : Keeps s₀ (s.issueRecord slot) := by
  unfold State.issueRecord
  split
  exacts [hk, hk.same]

theorem Keeps.verifyCommit {s₀ s : State} (hk : Keeps s₀ s) : Keeps s₀ (s.verifyCommit) := by
  unfold State.verifyCommit
  exact hk.same

theorem Keeps.logCommitCheck {s₀ s : State} (hk : Keeps s₀ s) {slot : Nat} {ok : Bool} : Keeps s₀ (s.logCommitCheck slot ok) := by
  unfold State.logCommitCheck
  exact .ite (Keeps.ite hk.verifyCommit.raise.raise hk.verifyCommit.raise).finishJob hk.finishJob

theorem Keeps.storeStep {s₀ s : State} (hk : Keeps s₀ s) {slot : Nat} {ok : Bool} : Keeps s₀ (s.storeStep slot ok) := by
  unfold State.storeStep
  split
  exacts [(.ite hk.restoreStart hk.storeSnapshot), hk.issueRecord, hk.logCommitCheck]

theorem Keeps.storeCalStart {s₀ s : State} (hk : Keeps s₀ s) {slot : Nat} : Keeps s₀ (s.storeCalStart slot) := by
  unfold State.storeCalStart
  exact hk.same.setJob

theorem Keeps.storeCalEnd {s₀ s : State} (hk : Keeps s₀ s) {slot : Nat} : Keeps s₀ (s.storeCalEnd slot) := by
  unfold State.storeCalEnd
  exact hk.set.same.raise.finishJob

theorem Keeps.setCalBank {s₀ s : State} (hk : Keeps s₀ s) {b : Nat} {x : CalBank} : Keeps s₀ (s.setCalBank b x) := by
  unfold State.setCalBank
  exact .ite hk.same hk.same

theorem Keeps.storeCalPart {s₀ s : State} (hk : Keeps s₀ s) {bank part : Nat} : Keeps s₀ (s.storeCalPart bank part) := by
  unfold State.storeCalPart
  exact hk.setCalBank

theorem Keeps.storeCalStep {s₀ s : State} (hk : Keeps s₀ s) {slot : Nat} {ok : Bool} : Keeps s₀ (s.storeCalStep slot ok) := by
  unfold State.storeCalStep
  exact .ite hk.storeCalStart (.ite hk.same.finishJob (.ite hk.storeCalEnd hk.storeCalPart.setJob))

theorem Keeps.setRunningBit {s₀ s : State} (hk : Keeps s₀ s) {u : Nat} {x : Bool} : Keeps s₀ (s.setRunningBit u x) := by
  unfold State.setRunningBit
  exact hk.set

theorem Keeps.startRun {s₀ s : State} (hk : Keeps s₀ s) {kind u slot : Nat} : Keeps s₀ (s.startRun kind u slot) := by
  unfold State.startRun
  exact .ite (hk.same.foldl fun _ _ k => k.setRunningBit) hk.same.setRunningBit

theorem Keeps.fillRuns {s₀ s : State} (hk : Keeps s₀ s) {slot kind : Nat} : Keeps s₀ (s.fillRuns slot kind) := by
  unfold State.fillRuns
  exact (hk.same.foldl fun _ _ k => k.startRun)

theorem Keeps.nextStep {s₀ s : State} (hk : Keeps s₀ s) {slot : Nat} : Keeps s₀ (s.nextStep slot) := by
  unfold State.nextStep
  split
  exacts [(.ite hk.same hk), hk]

theorem Keeps.calJobStep {s₀ s : State} (hk : Keeps s₀ s) {slot : Nat} {ok : Bool} : Keeps s₀ (s.calJobStep slot ok) := by
  unfold State.calJobStep
  extract_lets _ s1 _ _
  have h1 : Keeps s₀ s1 := (hk.setJob.foldl fun _ _ k => k.abandonOnline)
  exact .ite (.ite h1.same.startRun h1.same.fillRuns) (.ite hk.nextStep hk)

theorem Keeps.firmwareCommit {s₀ s : State} (hk : Keeps s₀ s) {slot : Nat} : Keeps s₀ (s.firmwareCommit slot) := by
  unfold State.firmwareCommit
  exact hk.setBootImage.finishJob

theorem Keeps.firmwareStep {s₀ s : State} (hk : Keeps s₀ s) {slot : Nat} {ok : Bool} : Keeps s₀ (s.firmwareStep slot ok) := by
  unfold State.firmwareStep
  extract_lets _ _ _
  split
  · split
    exacts [hk.finishJob, hk.setBootImage.setJob]
  · exact .ite hk.setBootImage.setJob hk.finishJob
  · exact .ite hk.setJob hk.finishJob
  · exact .ite hk.firmwareCommit hk.finishJob

theorem Keeps.selfTestStep {s₀ s : State} (hk : Keeps s₀ s) {slot : Nat} {ok : Bool} : Keeps s₀ (s.selfTestStep slot ok) := by
  unfold State.selfTestStep
  extract_lets _ s1
  split
  · exact (Keeps.ite hk.setBlk hk).finishJob
  · extract_lets s2 s3 _ s4
    have h2 : Keeps s₀ s2 := (Keeps.ite hk.setBlk hk).setBlk
    have h4 : Keeps s₀ s4 := (Keeps.ite h2 h2.raise).setJob
    exact .ite h4 (.ite h4.finishJob h4.finishJob)

theorem Keeps.scanStep {s₀ s : State} (hk : Keeps s₀ s) {slot : Nat} {counts : List Byte} : Keeps s₀ (s.scanStep slot counts) := by
  unfold State.scanStep
  exact .ite hk.finishJob (.ite hk.setBlk.finishJob hk.setJob)

theorem Keeps.verifyEnd {s₀ s : State} (hk : Keeps s₀ s) {slot : Nat} : Keeps s₀ (s.verifyEnd slot) := by
  unfold State.verifyEnd
  exact .ite hk.setBlk.finishJob (.ite hk.setBlk.finishJob hk.setBlk.finishJob)

theorem Keeps.verifyStep {s₀ s : State} (hk : Keeps s₀ s) {slot : Nat} {found : List Byte} : Keeps s₀ (s.verifyStep slot found) := by
  unfold State.verifyStep
  extract_lets _ _ _ s1 _
  have h1 : Keeps s₀ s1 := (hk.foldl fun _ _ k => k.raise)
  split
  exacts [hk.verifyEnd, (.ite h1.setJob h1.setJob.verifyEnd)]

theorem Keeps.noteErase {s₀ s : State} (hk : Keeps s₀ s) {x : Nat} : Keeps s₀ (s.noteErase x) := by
  unfold State.noteErase
  exact .ite hk.same.raise hk.same

theorem Keeps.wipeSector {s₀ s : State} (hk : Keeps s₀ s) {i : Nat} : Keeps s₀ (s.wipeSector i) := by
  unfold State.wipeSector
  exact .ite hk.same.noteErase (.ite hk.setCalBank hk.setCalBank)

theorem Keeps.wipeEnd {s₀ s : State} (hk : Keeps s₀ s) {slot : Nat} : Keeps s₀ (s.wipeEnd slot) := by
  unfold State.wipeEnd
  exact hk.same.updateRecord.raise.finishJob

theorem Keeps.serviceStep {s₀ s : State} (hk : Keeps s₀ s) {slot : Nat} {ok : Bool} : Keeps s₀ (s.serviceStep slot ok) := by
  unfold State.serviceStep
  exact .ite hk.finishJob (.ite hk.wipeSector.setJob.wipeEnd hk.wipeSector.setJob)

theorem Keeps.stepJob {s₀ s : State} (hk : Keeps s₀ s) {slot : Nat} {i : JobInput} : Keeps s₀ (s.stepJob slot i) := by
  unfold State.stepJob
  split
  · exact hk.storeStep
  · exact hk.storeStep
  · exact hk.storeCalStep
  · exact hk.calJobStep
  · exact hk.calJobStep
  · exact hk.calJobStep
  · exact hk.firmwareStep
  · exact hk.selfTestStep
  · exact hk.scanStep
  · exact hk.verifyStep
  · exact hk.serviceStep
  · exact hk
  · exact hk

theorem Keeps.execJobStep {s₀ s : State} (hk : Keeps s₀ s) {input : JobInput} : Completes s₀ (execJobStep input s) := by
  unfold Machine.execJobStep
  split
  exacts [(.next hk), (.next hk.same.setJob.stepJob)]

theorem Keeps.execJobRetentionExpiry {s₀ s : State} (hk : Keeps s₀ s) {slot : Nat} : Completes s₀ (execJobRetentionExpiry slot s) := by
  unfold Machine.execJobRetentionExpiry
  exact .ite (.next hk.freeJobSlot) (.next hk)

theorem Keeps.recordDone {s₀ s : State} (hk : Keeps s₀ s) {slot : Nat} : Keeps s₀ (s.recordDone slot) := by
  unfold State.recordDone
  exact hk.setJob

theorem Keeps.execNvmProgramDone {s₀ s : State} (hk : Keeps s₀ s) {ok : Bool} : Completes s₀ (execNvmProgramDone ok s) := by
  unfold Machine.execNvmProgramDone
  split
  exacts [(.next (.ite hk.same.recordDone hk.same.finishJob)), (.next hk)]

theorem Keeps.failStores {s₀ s : State} (hk : Keeps s₀ s) : Keeps s₀ (s.failStores) := by
  unfold State.failStores
  exact (hk.foldl fun _ _ k => k.finishJob)

theorem Keeps.execNvmEraseDone {s₀ s : State} (hk : Keeps s₀ s) {ok : Bool} : Completes s₀ (execNvmEraseDone ok s) := by
  unfold Machine.execNvmEraseDone
  split
  · exact .ite (.next hk.same.noteErase.same) (.next hk.same.noteErase.same.failStores)
  · exact .next hk

theorem Keeps.execNvmWearLevelErase {s₀ s : State} (hk : Keeps s₀ s) : Completes s₀ (execNvmWearLevelErase s) := by
  unfold Machine.execNvmWearLevelErase
  exact .ite (.next hk.same) (.next hk)

theorem Keeps.setReel {s₀ s : State} (hk : Keeps s₀ s) {ch buf : Nat} {r : Reel} : Keeps s₀ (s.setReel ch buf r) := by
  unfold State.setReel
  exact hk.same

theorem Keeps.beginReel {s₀ s : State} (hk : Keeps s₀ s) {ch b : Nat} {r : Reel} : Keeps s₀ (s.beginReel ch b r) := by
  unfold State.beginReel
  exact hk.setReel

theorem Keeps.settleClaim {s₀ s : State} (hk : Keeps s₀ s) {ch : Nat} : Keeps s₀ (s.settleClaim ch) := by
  unfold State.settleClaim
  split
  exacts [hk.same.beginReel, hk]

theorem Keeps.clearReel {s₀ s : State} (hk : Keeps s₀ s) {ch b : Nat} : Keeps s₀ (s.clearReel ch b) := by
  unfold State.clearReel
  exact hk.setReel.settleClaim

theorem Keeps.freeBuffer {s₀ s : State} (hk : Keeps s₀ s) {ch buf : Nat} : Keeps s₀ (s.freeBuffer ch buf) := by
  unfold State.freeBuffer
  exact .ite (.ite hk.setReel hk.clearReel) hk

theorem Keeps.releaseReel {s₀ s : State} (hk : Keeps s₀ s) {d : Descriptor} : Keeps s₀ (s.releaseReel d) := by
  unfold State.releaseReel
  exact .ite hk.freeBuffer hk

theorem Keeps.mapSpoke {s₀ s : State} (hk : Keeps s₀ s) {g b : Nat} {f : Spoke → Spoke} : Keeps s₀ (s.mapSpoke g b f) := by
  unfold State.mapSpoke
  exact hk.same

theorem Keeps.applyExtrinsics {s₀ s : State} (hk : Keeps s₀ s) {g : Nat} : Keeps s₀ (s.applyExtrinsics g) := by
  unfold State.applyExtrinsics
  exact .ite hk.same.raise hk

theorem Keeps.leave {s₀ s : State} (hk : Keeps s₀ s) {p : Spoke → Bool} {forced : Bool} : Keeps s₀ (s.leave p forced) := by
  unfold State.leave
  exact hk.same

theorem Keeps.limitSpokes {s₀ s : State} (hk : Keeps s₀ s) {g : Nat} : Keeps s₀ (s.limitSpokes g) := by
  unfold State.limitSpokes
  dsimp only
  split
  · exact .ite hk.leave hk
  · exact hk

theorem Keeps.newSpoke {s₀ s : State} (hk : Keeps s₀ s) {g bind : Nat} {f : FirstTake} : Keeps s₀ (s.newSpoke g bind f) := by
  unfold State.newSpoke
  exact hk.limitSpokes.applyExtrinsics.same

theorem Keeps.spokeFor {s₀ s : State} (hk : Keeps s₀ s) {g bind : Nat} {f : FirstTake} : Keeps s₀ (s.spokeFor g bind f) := by
  unfold State.spokeFor
  split
  exacts [hk.mapSpoke, hk.newSpoke]

theorem Keeps.limiterStart {s₀ s : State} (hk : Keeps s₀ s) {key : Nat} : Keeps s₀ (s.limiterStart key) := by
  unfold State.limiterStart
  exact hk.same

theorem Keeps.raiseLimited {s₀ s : State} (hk : Keeps s₀ s) {e source payload : Nat} : Keeps s₀ (s.raiseLimited e source payload) := by
  unfold State.raiseLimited
  exact .ite hk.limiterStart.raise hk

theorem Keeps.raiseMs {s₀ s : State} (hk : Keeps s₀ s) {e payload : Nat} : Keeps s₀ (s.raiseMs e payload) := by
  unfold State.raiseMs
  exact hk.raiseLimited

theorem Keeps.addPoint {s₀ s : State} (hk : Keeps s₀ s) {g b : Nat} {p : SpokePoint} : Keeps s₀ (s.addPoint g b p) := by
  unfold State.addPoint
  split
  exacts [hk, (.ite hk.mapSpoke hk.mapSpoke.count.raiseMs)]

theorem Keeps.takeAlarm {s₀ s : State} (hk : Keeps s₀ s) : Keeps s₀ (s.takeAlarm) := by
  unfold State.takeAlarm
  exact hk.same

theorem Keeps.noteQuiet {s₀ s : State} (hk : Keeps s₀ s) : Keeps s₀ (s.noteQuiet) := by
  unfold State.noteQuiet
  exact hk.same

theorem Keeps.setOwed {s₀ s : State} (hk : Keeps s₀ s) {g b n : Nat} : Keeps s₀ (s.setOwed g b n) := by
  unfold State.setOwed
  exact hk.same

theorem Keeps.blockUpdate {s₀ s : State} (hk : Keeps s₀ s) {bind ch rev : Nat} {recs : List Nat} :
    Keeps s₀ (s.blockUpdate bind ch rev recs) := by
  unfold State.blockUpdate
  exact hk.same

theorem Keeps.soilUpdate {s₀ s : State} (hk : Keeps s₀ s) {bind ch : Nat} {recs : List Nat} : Keeps s₀ (s.soilUpdate bind ch recs) := by
  unfold State.soilUpdate
  exact hk.same

theorem Keeps.assembleReel {s₀ s : State} (hk : Keeps s₀ s) {d : Descriptor} {recs : List Nat} {lost : Bool} :
    Keeps s₀ (s.assembleReel d recs lost) := by
  unfold State.assembleReel
  extract_lets s1 s2 s3 s4
  have h2 : Keeps s₀ s2 := (hk.spokeFor.foldl fun _ _ k => k.addPoint)
  have h4 : Keeps s₀ s4 := h2.mapSpoke.setOwed.noteQuiet.takeAlarm
  exact .ite h4.soilUpdate.blockUpdate h4

theorem Keeps.loseOpen {s₀ s : State} (hk : Keeps s₀ s) {n : Nat} : Keeps s₀ (s.loseOpen n) := by
  unfold State.loseOpen
  extract_lets _
  split
  exacts [hk, (by split; exacts [hk, hk.setEngine.assembleReel.releaseReel])]

theorem Keeps.clockStop {s₀ s : State} (hk : Keeps s₀ s) {n : Nat} : Keeps s₀ (s.clockStop n) := by
  unfold State.clockStop
  exact .ite hk.loseOpen.setEngine hk

theorem Keeps.clockFaulted {s₀ s : State} (hk : Keeps s₀ s) {clock : Nat} : Keeps s₀ (s.clockFaulted clock) := by
  unfold State.clockFaulted
  exact .ite (hk.same.foldl fun _ _ k => k.clockStop) (.ite hk.same.trip hk.trip)

theorem Keeps.execClockFault {s₀ s : State} (hk : Keeps s₀ s) {clock : Fin 4} : Completes s₀ (execClockFault clock s) := by
  unfold Machine.execClockFault
  exact .ite (.next hk) (.next hk.same.clockFaulted.raise)

theorem Keeps.execClockRecovered {s₀ s : State} (hk : Keeps s₀ s) {clock : Fin 4} : Completes s₀ (execClockRecovered clock s) := by
  unfold Machine.execClockRecovered
  exact .ite (.next hk.same.raise) (.next hk)

theorem Keeps.restartEngine {s₀ s : State} (hk : Keeps s₀ s) {n : Nat} : Keeps s₀ (s.restartEngine n) := by
  unfold State.restartEngine
  exact hk.setEngine.putParams

theorem Keeps.execSpokePllStable {s₀ s : State} (hk : Keeps s₀ s) : Completes s₀ (execSpokePllStable s) := by
  unfold Machine.execSpokePllStable
  split
  · exact .ite (.next (hk.same.foldl fun _ _ k => (.ite k.restartEngine k))) (.next hk)
  · exact .next hk

theorem Keeps.monitorLevel {s₀ s : State} (hk : Keeps s₀ s) {i : Nat} {level : Bool} {stamp : Nat} :
    Keeps s₀ (s.monitorLevel i level stamp) := by
  unfold State.monitorLevel
  extract_lets _
  exact .ite hk.setEvIn (by split; exacts [hk, hk.setEvIn])

theorem Keeps.execEvRawTransition {s₀ s : State} (hk : Keeps s₀ s) {input : Fin 16} {level : Bool} {tap : Fin 64} :
    Completes s₀ (execEvRawTransition input level tap s) := by
  unfold Machine.execEvRawTransition
  exact .ite (.next hk.setEvIn.levelChange) (.ite (.next hk.setEvIn) (.next hk.setEvIn.monitorLevel))

theorem Keeps.countEvHit {s₀ s : State} (hk : Keeps s₀ s) {i t : Nat} : Keeps s₀ (s.countEvHit i t) := by
  unfold State.countEvHit
  exact .ite hk hk.same

theorem Keeps.silentLevel {s₀ s : State} (hk : Keeps s₀ s) {a i : Nat} {level : Bool} : Keeps s₀ (s.silentLevel a i level) := by
  unfold State.silentLevel
  exact .ite (Keeps.ite hk.setAxis hk).setAxis (.ite hk.setAxis hk)

theorem Keeps.scanMonitorEdge {s₀ s : State} (hk : Keeps s₀ s) {i : Nat} {level : Bool} : Keeps s₀ (s.scanMonitorEdge i level) := by
  unfold State.scanMonitorEdge
  exact .ite hk.same hk

theorem Keeps.axisChannel {s₀ s : State} (hk : Keeps s₀ s) {a : Nat} {isB level : Bool} {stamp : Int} :
    Keeps s₀ (s.axisChannel a isB level stamp) := by
  unfold State.axisChannel
  exact hk.setAxis.releaseChannels

theorem Keeps.pickoffEdge {s₀ s : State} (hk : Keeps s₀ s) {a : Nat} {stamp : Int} : Keeps s₀ (s.pickoffEdge a stamp) := by
  unfold State.pickoffEdge
  exact hk.setCore.axisEdge

theorem Keeps.indexEdge {s₀ s : State} (hk : Keeps s₀ s) {a : Nat} {stamp : Int} : Keeps s₀ (s.indexEdge a stamp) := by
  unfold State.indexEdge
  extract_lets _ _
  split
  exacts [hk.qualifyIndex.lockCheck.noteCorrection, (.ite hk.lostIndex.noteCorrection hk.setCore)]

theorem Keeps.axisInputEdge {s₀ s : State} (hk : Keeps s₀ s) {a i : Nat} {level : Bool} {stamp : Int} :
    Keeps s₀ (s.axisInputEdge a i level stamp) := by
  unfold State.axisInputEdge
  extract_lets s1 s2
  have h2 : Keeps s₀ s2 := .ite (Keeps.ite hk.axisChannel hk).axisChannel (.ite hk.axisChannel hk)
  exact .ite (.ite h2.pickoffEdge h2.indexEdge) h2

theorem Keeps.deliverEdge {s₀ s : State} (hk : Keeps s₀ s) {i : Nat} {level : Bool} {stamp : Nat} :
    Keeps s₀ (s.deliverEdge i level stamp) := by
  unfold State.deliverEdge
  extract_lets _ s1 s2
  have h2 : Keeps s₀ s2 := hk.scanMonitorEdge.setEvIn
  exact .ite hk.scanMonitorEdge.silentLevel.silentLevel.count.raise h2.axisInputEdge.axisInputEdge

theorem Keeps.acceptEdge {s₀ s : State} (hk : Keeps s₀ s) {i : Nat} {level : Bool} {t : Nat} : Keeps s₀ (s.acceptEdge i level t) := by
  unfold State.acceptEdge
  extract_lets s1 _ s2
  refine .ite ?_ ?_
  · exact hk.countEvHit.setEvIn.silentLevel.silentLevel.releaseChannels.releaseChannels
  · exact hk.countEvHit.setEvIn.deliverEdge.releaseChannels.releaseChannels

theorem Keeps.monitorAccept {s₀ s : State} (hk : Keeps s₀ s) {i : Nat} {level : Bool} : Keeps s₀ (s.monitorAccept i level) := by
  unfold State.monitorAccept
  exact hk.setEvIn.scanMonitorEdge

theorem Keeps.execEvEdgeAccepted {s₀ s : State} (hk : Keeps s₀ s) {input : Fin 16} : Completes s₀ (execEvEdgeAccepted input s) := by
  unfold Machine.execEvEdgeAccepted
  split
  exacts [(.ite (.next (.ite hk.acceptEdge hk.monitorAccept)) (.next hk)), (.next hk)]

theorem Keeps.execEvBankLevelWrite {s₀ s : State} (hk : Keeps s₀ s) {req : Requester} {tag : Nat} {bank : Fin 2} {value : Nat} :
    Completes s₀ (execEvBankLevelWrite req tag bank value s) := by
  unfold Machine.execEvBankLevelWrite
  exact .next hk.koaSet

theorem Keeps.execEvBankGapEnd {s₀ s : State} (hk : Keeps s₀ s) {bank : Fin 2} : Completes s₀ (execEvBankGapEnd bank s) := by
  unfold Machine.execEvBankGapEnd
  exact .ite (.next hk) (.ite (.next hk.same) (.next hk.same))

theorem Keeps.execAxisConfigWrite {s₀ s : State} (hk : Keeps s₀ s) {req : Requester} {tag key value : Nat} :
    Completes s₀ (execAxisConfigWrite req tag key value s) := by
  unfold Machine.execAxisConfigWrite
  exact .ite (.next hk.koaSet) (.next hk)

theorem Keeps.execFreewheelEntry {s₀ s : State} (hk : Keeps s₀ s) {axis : Fin 2} : Completes s₀ (execFreewheelEntry axis s) := by
  unfold Machine.execFreewheelEntry
  exact .ite (.next hk.freewheelEntry) (.next hk)

theorem Keeps.execFreewheelLimitReached {s₀ s : State} (hk : Keeps s₀ s) {axis : Fin 2} :
    Completes s₀ (execFreewheelLimitReached axis s) := by
  unfold Machine.execFreewheelLimitReached
  exact .ite (.next hk.enterStall) (.next hk)

theorem Keeps.execFreewheelLimitWrite {s₀ s : State} (hk : Keeps s₀ s) {req : Requester} {tag value : Nat} :
    Completes s₀ (execFreewheelLimitWrite req tag value s) := by
  unfold Machine.execFreewheelLimitWrite
  exact .next hk.koaSet

theorem Keeps.endRevolution {s₀ s : State} (hk : Keeps s₀ s) {a : Nat} : Keeps s₀ (s.endRevolution a) := by
  unfold State.endRevolution
  exact .ite hk.same hk

theorem Keeps.applyLin {s₀ s : State} (hk : Keeps s₀ s) {a : Nat} : Keeps s₀ (s.applyLin a) := by
  unfold State.applyLin
  split
  exacts [hk.setAxis.axisRaise, hk]

theorem Keeps.blockFraction {s₀ s : State} (hk : Keeps s₀ s) : Keeps s₀ (s.blockFraction) := by
  unfold State.blockFraction
  exact .ite hk.set hk.set.same.raise

theorem Keeps.lateIncrement {s₀ s : State} (hk : Keeps s₀ s) : Keeps s₀ (s.lateIncrement) := by
  unfold State.lateIncrement
  split
  exacts [(.ite hk.setIncrement hk), hk]

theorem Keeps.applyStep {s₀ s : State} (hk : Keeps s₀ s) : Keeps s₀ (s.applyStep) := by
  unfold State.applyStep
  exact hk.same.set.raise.setClock.lateIncrement.emptyAllMrev.same

theorem Keeps.passA {s₀ s : State} (hk : Keeps s₀ s) : Keeps s₀ (s.passA) := by
  unfold State.passA
  exact .ite hk.raise.blockFraction.same.applyStep hk.raise.blockFraction.same

theorem Keeps.forwardPass {s₀ s : State} (hk : Keeps s₀ s) {a : Nat} : Keeps s₀ (s.forwardPass a) := by
  unfold State.forwardPass
  exact .ite hk.setAxis.applyLin.endRevolution.passA hk.setAxis.applyLin.endRevolution

theorem Keeps.backwardPass {s₀ s : State} (hk : Keeps s₀ s) {a : Nat} : Keeps s₀ (s.backwardPass a) := by
  unfold State.backwardPass
  exact hk.setAxis

theorem Keeps.execRevolutionA {s₀ s : State} (hk : Keeps s₀ s) {axis : Fin 2} : Completes s₀ (execRevolutionA axis s) := by
  unfold Machine.execRevolutionA
  exact .ite (.next hk.forwardPass) (.ite (.next hk.backwardPass) (.next hk))

theorem Keeps.endTurnaround {s₀ s : State} (hk : Keeps s₀ s) : Keeps s₀ (s.endTurnaround) := by
  unfold State.endTurnaround
  split
  exacts [(hk.same.foldl fun _ _ k => k.count.raise), hk]

theorem Keeps.beginTurnaround {s₀ s : State} (hk : Keeps s₀ s) : Keeps s₀ (s.beginTurnaround) := by
  unfold State.beginTurnaround
  exact hk.endTurnaround.same

theorem Keeps.execFacetStart {s₀ s : State} (hk : Keeps s₀ s) {facet : Fin 16} : Completes s₀ (execFacetStart facet s) := by
  unfold Machine.execFacetStart
  split
  exacts [(.ite (.next hk.setAxis.beginTurnaround.same.raise) (.next hk)), (.next hk)]

theorem Keeps.virtualBoundary {s₀ old : State} (hk : Keeps s₀ old) : Keeps s₀ (old.virtualBoundary) := by
  unfold State.virtualBoundary
  exact (Keeps.ite hk.applyStep hk).setAxis.noteCorrection

theorem Keeps.execVirtualBoundary {s₀ s : State} (hk : Keeps s₀ s) : Completes s₀ (execVirtualBoundary s) := by
  unfold Machine.execVirtualBoundary
  exact .ite (.next hk.virtualBoundary) (.next hk)

theorem Keeps.execEvFreqGateEnd {s₀ s : State} (hk : Keeps s₀ s) {input : Fin 16} : Completes s₀ (execEvFreqGateEnd input s) := by
  unfold Machine.execEvFreqGateEnd
  exact .ite (.next (.ite hk.set.setEvIn.raise hk.set.setEvIn)) (.next hk)

theorem Keeps.execCueWindowWrite {s₀ s : State} (hk : Keeps s₀ s) {req : Requester} {tag first count : Nat} {cues : List Byte} :
    Completes s₀ (execCueWindowWrite req tag first count cues s) := by
  unfold Machine.execCueWindowWrite
  exact .next hk.koaWriteOf

theorem Keeps.execCueWindowInsert {s₀ s : State} (hk : Keeps s₀ s) {req : Requester} {tag first count : Nat} {cues : List Byte} :
    Completes s₀ (execCueWindowInsert req tag first count cues s) := by
  unfold Machine.execCueWindowInsert
  exact .next hk.koaWriteOf

theorem Keeps.execCueWindowDelete {s₀ s : State} (hk : Keeps s₀ s) {req : Requester} {tag first count : Nat} :
    Completes s₀ (execCueWindowDelete req tag first count s) := by
  unfold Machine.execCueWindowDelete
  exact .next hk.koaWriteOf

theorem Keeps.execCueWindowClear {s₀ s : State} (hk : Keeps s₀ s) {req : Requester} {tag : Nat} :
    Completes s₀ (execCueWindowClear req tag s) := by
  unfold Machine.execCueWindowClear
  exact .next hk.koaWriteOf

theorem Keeps.execCueCommit {s₀ s : State} (hk : Keeps s₀ s) {req : Requester} {tag value : Nat} :
    Completes s₀ (execCueCommit req tag value s) := by
  unfold Machine.execCueCommit
  exact .next hk.koaSet

theorem Keeps.execCueSwap {s₀ s : State} (hk : Keeps s₀ s) : Completes s₀ (execCueSwap s) := by
  unfold Machine.execCueSwap
  exact .next hk.trySwap

theorem Keeps.execStagingCopyDone {s₀ s : State} (hk : Keeps s₀ s) : Completes s₀ (execStagingCopyDone s) := by
  unfold Machine.execStagingCopyDone
  split
  exacts [(.next hk), (.next hk.finishCopy)]

theorem Keeps.execCueBootWrite {s₀ s : State} (hk : Keeps s₀ s) {req : Requester} {tag : Nat} {value : List Byte} :
    Completes s₀ (execCueBootWrite req tag value s) := by
  unfold Machine.execCueBootWrite
  exact .next hk.koaWriteOf

theorem Keeps.execCueCapture {s₀ s : State} (hk : Keeps s₀ s) {req : Requester} {tag value : Nat} :
    Completes s₀ (execCueCapture req tag value s) := by
  unfold Machine.execCueCapture
  exact .next hk.koaSet

theorem Keeps.execSeqCtrlStart {s₀ s : State} (hk : Keeps s₀ s) {req : Requester} {tag : Nat} :
    Completes s₀ (execSeqCtrlStart req tag s) := by
  unfold Machine.execSeqCtrlStart
  exact .next hk.koaSet

theorem Keeps.execSeqCtrlStop {s₀ s : State} (hk : Keeps s₀ s) {req : Requester} {tag : Nat} :
    Completes s₀ (execSeqCtrlStop req tag s) := by
  unfold Machine.execSeqCtrlStop
  exact .next hk.koaSet

theorem Keeps.execSeqEpochInitWrite {s₀ s : State} (hk : Keeps s₀ s) {req : Requester} {tag value : Nat} :
    Completes s₀ (execSeqEpochInitWrite req tag value s) := by
  unfold Machine.execSeqEpochInitWrite
  exact .next hk.koaSet

theorem Keeps.passCue {s₀ s : State} (hk : Keeps s₀ s) {p : Int} : Keeps s₀ (s.passCue p) := by
  unfold State.passCue
  exact .ite hk.same hk.same

theorem Keeps.skip {s₀ s : State} (hk : Keeps s₀ s) {k e : Nat} : Keeps s₀ (s.skip k e) := by
  unfold State.skip
  exact hk.count.raise

theorem Keeps.nextNumber {s₀ s : State} (hk : Keeps s₀ s) : Keeps s₀ (s.nextNumber) := by
  unfold State.nextNumber
  exact .ite hk.same.raise hk.same

theorem Keeps.book {s₀ s : State} (hk : Keeps s₀ s) {r : LogCharge} : Keeps s₀ (s.book r) := by
  unfold State.book
  exact hk.same

theorem Keeps.charge {s₀ s : State} (hk : Keeps s₀ s) {seq epoch group zone : Nat} {trig : Int} :
    Keeps s₀ (s.charge seq epoch group zone trig) := by
  unfold State.charge
  exact hk.book.same

theorem Keeps.budgetHold {s₀ s : State} (hk : Keeps s₀ s) : Keeps s₀ (s.budgetHold) := by
  unfold State.budgetHold
  exact hk.count.raise

theorem Keeps.admitTake {s₀ s : State} (hk : Keeps s₀ s) {t : Take} : Keeps s₀ (s.admitTake t).2 := by
  unfold State.admitTake
  split
  exacts [hk.count, (by split; exacts [hk.charge, hk.budgetHold])]

theorem Keeps.traceAdd {s₀ s : State} (hk : Keeps s₀ s) {cls source : Nat} {body : List Byte} :
    Keeps s₀ (s.traceAdd cls source body).2 := by
  unfold State.traceAdd
  split
  exacts [(by split; exacts [hk.same, hk.count.same]), hk]

theorem Keeps.traceSend {s₀ s : State} (hk : Keeps s₀ s) {cls source : Nat} {body : List Byte} :
    Keeps s₀ (s.traceSend cls source body) := by
  unfold State.traceSend
  exact .ite hk.traceAdd.limiterStart.raise hk.traceAdd

theorem Keeps.sendTake {s₀ s : State} (hk : Keeps s₀ s) {t : Take} {k : Nat} : Keeps s₀ (s.sendTake t k) := by
  unfold State.sendTake
  exact (Keeps.ite hk.sendFarlu hk).traceSend

theorem Keeps.startFrame {s₀ s : State} (hk : Keeps s₀ s) : Keeps s₀ (s.startFrame) := by
  unfold State.startFrame
  exact .ite hk.same hk

theorem Keeps.requestFrame {s₀ s : State} (hk : Keeps s₀ s) {g : Nat} : Keeps s₀ (s.requestFrame g) := by
  unfold State.requestFrame
  exact .ite hk.same.startFrame hk

theorem Keeps.applyGear {s₀ s : State} (hk : Keeps s₀ s) {g : Nat} : Keeps s₀ (s.applyGear g) := by
  unfold State.applyGear
  split
  exacts [hk, (.ite hk.same.set.set.raise.emptyMrev hk)]

theorem Keeps.openReelSet {s₀ s : State} (hk : Keeps s₀ s) {t : Take} {k : Nat} : Keeps s₀ (s.openReelSet t k).2 := by
  unfold State.openReelSet
  exact hk.applyGear.same

theorem Keeps.setFor {s₀ s : State} (hk : Keeps s₀ s) {t : Take} {k : Nat} : Keeps s₀ (s.setFor t k).2 := by
  unfold State.setFor
  split
  exacts [(by split; exacts [hk, hk.closeEarly.spokeFor.openReelSet]), hk.spokeFor.openReelSet]

theorem Keeps.noteWrap {s₀ s : State} (hk : Keeps s₀ s) {id : Nat} {t : Take} : Keeps s₀ (s.noteWrap id t) := by
  unfold State.noteWrap
  exact .ite hk.mapSet.mapSpoke hk

theorem Keeps.joinSet {s₀ s : State} (hk : Keeps s₀ s) {id : Nat} {t : Take} : Keeps s₀ (s.joinSet id t) := by
  unfold State.joinSet
  exact hk.mapSet

theorem Keeps.placeTake {s₀ s : State} (hk : Keeps s₀ s) {t : Take} {k : Nat} : Keeps s₀ (s.placeTake t k) := by
  unfold State.placeTake
  exact hk.setFor.joinSet.noteWrap.same

theorem Keeps.scheduleMatrix {s₀ s : State} (hk : Keeps s₀ s) {t : Take} : Keeps s₀ (s.scheduleMatrix t) := by
  unfold State.scheduleMatrix
  exact .ite hk.same hk

theorem Keeps.launch {s₀ s : State} (hk : Keeps s₀ s) {t : Take} {k : Nat} : Keeps s₀ (s.launch t k) := by
  unfold State.launch
  exact hk.admitTake.scheduleMatrix.placeTake.requestFrame.sendTake

theorem Keeps.fire {s₀ s : State} (hk : Keeps s₀ s) {c : Cue} {at_ : ℚ} : Keeps s₀ (s.fire c at_) := by
  unfold State.fire
  exact hk.same.nextNumber.same.launch

theorem Keeps.examine {s₀ s : State} (hk : Keeps s₀ s) {c : Cue} {p : Int} : Keeps s₀ (s.examine c p) := by
  unfold State.examine
  exact .ite hk.skip (.ite hk.skip (.ite hk.skip hk.fire))

theorem Keeps.execFireDecision {s₀ s : State} (hk : Keeps s₀ s) : Completes s₀ (execFireDecision s) := by
  unfold Machine.execFireDecision
  split
  exacts [(.next hk), (.ite (.next hk) (.next (.ite hk.same.passCue hk.same.passCue.examine)))]

theorem Keeps.pauseRecharge {s₀ s : State} (hk : Keeps s₀ s) {m : MatrixInterval} : Keeps s₀ (s.pauseRecharge m) := by
  unfold State.pauseRecharge
  exact hk.same

theorem Keeps.execPrechargeStart {s₀ s : State} (hk : Keeps s₀ s) : Completes s₀ (execPrechargeStart s) := by
  unfold Machine.execPrechargeStart
  split
  exacts [(.ite (.next hk.same.pauseRecharge) (.next hk)), (.next hk)]

theorem Keeps.execMatrixIntervalEnd {s₀ s : State} (hk : Keeps s₀ s) : Completes s₀ (execMatrixIntervalEnd s) := by
  unfold Machine.execMatrixIntervalEnd
  split
  exacts [(.ite (.next hk.same.recharge) (.next hk)), (.next hk)]

theorem Keeps.firstFired {s₀ s : State} (hk : Keeps s₀ s) {t : Take} : Keeps s₀ (s.firstFired t) := by
  unfold State.firstFired
  exact .ite hk.same.mapSpoke hk

theorem Keeps.mapTake {s₀ s : State} (hk : Keeps s₀ s) {t : Take} {f : Take → Take} : Keeps s₀ (s.mapTake t f) := by
  unfold State.mapTake
  exact hk.same

theorem Keeps.noteStale {s₀ s : State} (hk : Keeps s₀ s) {t : Take} : Keeps s₀ (s.noteStale t) := by
  unfold State.noteStale
  exact .ite hk.count.raise.mapTake hk

theorem Keeps.noteUndercharge {s₀ s : State} (hk : Keeps s₀ s) {t : Take} : Keeps s₀ (s.noteUndercharge t) := by
  unfold State.noteUndercharge
  exact .ite hk.count.raise.mapTake hk

theorem Keeps.holdSettings {s₀ s : State} (hk : Keeps s₀ s) {at_ : Int} {c : Nat} : Keeps s₀ (s.holdSettings at_ c) := by
  unfold State.holdSettings
  exact .ite hk hk.setRxChan

theorem Keeps.scheduleCapture {s₀ s : State} (hk : Keeps s₀ s) {t : Take} : Keeps s₀ (s.scheduleCapture t) := by
  unfold State.scheduleCapture
  exact .ite hk.count.raise hk.same.mapTake

theorem Keeps.rechargeAt {s₀ s : State} (hk : Keeps s₀ s) {c : Nat} {from_ : Int} : Keeps s₀ (s.rechargeAt c from_) := by
  unfold State.rechargeAt
  exact .ite hk.setColumn hk

theorem Keeps.issueTake {s₀ s : State} (hk : Keeps s₀ s) {t : Take} : Keeps s₀ (s.issueTake t) := by
  unfold State.issueTake
  extract_lets s1 _ _ s2 s3 s4
  have h1 : Keeps s₀ s1 := hk.noteUndercharge.noteStale.firstFired
  have h3 : Keeps s₀ s3 := .ite h1.same (h1.same.foldl fun _ _ k => k.holdSettings)
  have h4 : Keeps s₀ s4 := h3.mapTake.scheduleCapture
  exact .ite h4 h4.rechargeAt

theorem Keeps.dropDiag {s₀ s : State} (hk : Keeps s₀ s) {t : Take} : Keeps s₀ (s.dropDiag t) := by
  unfold State.dropDiag
  exact .ite hk.same hk

theorem Keeps.uncharge {s₀ s : State} (hk : Keeps s₀ s) {seq epoch group : Nat} {trig : Int} :
    Keeps s₀ (s.uncharge seq epoch group trig) := by
  unfold State.uncharge
  exact (hk.foldl fun _ _ k => k.book).same

theorem Keeps.pendingDacs {s₀ s : State} (hk : Keeps s₀ s) {g : Nat} : Keeps s₀ (s.pendingDacs g) := by
  unfold State.pendingDacs
  exact (hk.foldl fun _ _ k => (.ite k.applyDac k))

theorem Keeps.applyDacs {s₀ s : State} (hk : Keeps s₀ s) {g : Nat} : Keeps s₀ (s.applyDacs g) := by
  unfold State.applyDacs
  exact .ite hk hk.pendingDacs

theorem Keeps.countWrap {s₀ s : State} (hk : Keeps s₀ s) {k n : Nat} : Keeps s₀ (s.countWrap k n) := by
  unfold State.countWrap
  exact hk.set

theorem Keeps.background {s₀ s : State} (hk : Keeps s₀ s) {c : Nat} : Keeps s₀ (s.background c) := by
  unfold State.background
  exact hk.countWrap

theorem Keeps.raiseLow {s₀ s : State} (hk : Keeps s₀ s) {e c : Nat} : Keeps s₀ (s.raiseLow e c) := by
  unfold State.raiseLow
  exact hk.same

theorem Keeps.preStart {s₀ s : State} (hk : Keeps s₀ s) {c : Nat} {p : RxPulse} : Keeps s₀ (s.preStart c p) := by
  unfold State.preStart
  exact .ite hk hk.countWrap.raiseLow

theorem Keeps.mapOpen {s₀ s : State} (hk : Keeps s₀ s) {ch : Nat} {p : Nat → Bool} {f : Reel → Reel} : Keeps s₀ (s.mapOpen ch p f) := by
  unfold State.mapOpen
  exact .ite (hk.foldl fun _ _ k => (.ite k.setReel k)) (hk.foldl fun _ _ k => (.ite k.setReel k)).same

theorem Keeps.degradePosted {s₀ s : State} (hk : Keeps s₀ s) {ch buf : Nat} : Keeps s₀ (s.degradePosted ch buf) := by
  unfold State.degradePosted
  exact hk.same

theorem Keeps.degradeReel {s₀ s : State} (hk : Keeps s₀ s) {ch set_ : Nat} : Keeps s₀ (s.degradeReel ch set_) := by
  unfold State.degradeReel
  extract_lets s1
  split
  exacts [hk.mapOpen.setReel.degradePosted, hk.mapOpen]

theorem Keeps.windowEdge {s₀ s : State} (hk : Keeps s₀ s) {c : Nat} {p : RxPulse} {t : Take} {d : Int} :
    Keeps s₀ (s.windowEdge c p t d).1 := by
  unfold State.windowEdge
  extract_lets _ _ s1
  split
  · exact hk
  · split
    · exact hk.degradeReel
    · split
      exacts [hk.countWrap.raiseLow, (by split; exacts [hk.setRxChan.raiseLow, hk.setRxChan])]

theorem Keeps.classify {s₀ s : State} (hk : Keeps s₀ s) {c : Nat} {p : RxPulse} : Keeps s₀ (s.classify c p).1 := by
  unfold State.classify
  split
  · exact hk.background
  · split
    exacts [hk.preStart, (by split; exacts [hk.windowEdge, hk.background])]

theorem Keeps.tryClassify {s₀ s : State} (hk : Keeps s₀ s) {c : Nat} {p : RxPulse} : Keeps s₀ (s.tryClassify c p).1 := by
  unfold State.tryClassify
  split
  exacts [(by split; exacts [hk, hk.classify]), hk]

theorem Keeps.countHit {s₀ s : State} (hk : Keeps s₀ s) {c : Nat} {h : Hit} : Keeps s₀ (s.countHit c h) := by
  unfold State.countHit
  split
  exacts [hk.mapOpen, hk]

theorem Keeps.ingestDrop {s₀ s : State} (hk : Keeps s₀ s) {ch set_ : Nat} : Keeps s₀ (s.ingestDrop ch set_) := by
  unfold State.ingestDrop
  exact hk.degradeReel.count.raiseMs

theorem Keeps.recordHit {s₀ s : State} (hk : Keeps s₀ s) {c : Nat} {h : Hit} : Keeps s₀ (s.recordHit c h) := by
  unfold State.recordHit
  extract_lets s1 s2 s3 _
  have h2 : Keeps s₀ s2 := .ite hk.countWrap.countHit.countWrap hk.countWrap.countHit
  exact .ite (Keeps.ite h2.raiseLow h2).setRxChan (Keeps.ite h2.raiseLow h2).ingestDrop

theorem Keeps.finishPulse {s₀ s : State} (hk : Keeps s₀ s) {c : Nat} {p : RxPulse} : Keeps s₀ (s.finishPulse c p) := by
  unfold State.finishPulse
  split
  exacts [hk.recordHit, hk]

theorem Keeps.settleChannel {s₀ s : State} (hk : Keeps s₀ s) {c : Nat} : Keeps s₀ (s.settleChannel c) := by
  unfold State.settleChannel
  extract_lets _ _ s1 s2
  have h2 : Keeps s₀ s2 := hk.setRxChan.foldl fun t p k => by
    dsimp only
    split
    · exact k.tryClassify.setRxChan
    · exact k.tryClassify.finishPulse
  split
  · exact h2.tryClassify.setRxChan
  · exact h2

theorem Keeps.startDecided {s₀ s : State} (hk : Keeps s₀ s) {g : Nat} : Keeps s₀ (s.startDecided g) := by
  unfold State.startDecided
  exact (hk.foldl fun _ _ k => (.ite k k.settleChannel))

theorem Keeps.blockTake {s₀ s : State} (hk : Keeps s₀ s) {t : Take} : Keeps s₀ (s.blockTake t) := by
  unfold State.blockTake
  exact .ite hk.mapTake.uncharge.dropDiag hk.mapTake.uncharge.dropDiag.startDecided.applyDacs

theorem Keeps.execTriggerIssue {s₀ s : State} (hk : Keeps s₀ s) : Completes s₀ (execTriggerIssue s) := by
  unfold Machine.execTriggerIssue
  split
  exacts [(.next hk), (.ite (.next hk.issueTake) (.next hk.blockTake))]

theorem Keeps.takeTable {s₀ s : State} (hk : Keeps s₀ s) {c : Nat} : Keeps s₀ (s.takeTable c) := by
  unfold State.takeTable
  exact .ite hk hk.same

theorem Keeps.holdStart {s₀ s : State} (hk : Keeps s₀ s) {g : Nat} {x : Int} : Keeps s₀ (s.holdStart g x) := by
  unfold State.holdStart
  exact (hk.foldl fun _ _ k => (Keeps.ite k k.takeTable).holdSettings)

theorem Keeps.setWaiting {s₀ s : State} (hk : Keeps s₀ s) {g : Nat} {starts : List (Int × Time)} {takes : List (TakeFrame × Time)} :
    Keeps s₀ (s.setWaiting g starts takes) := by
  unfold State.setWaiting
  exact hk.same

theorem Keeps.chargeFollowed {s₀ s : State} (hk : Keeps s₀ s) {t : Take} : Keeps s₀ (s.chargeFollowed t) := by
  unfold State.chargeFollowed
  exact .ite hk.charge.scheduleCapture hk

theorem Keeps.placeFollowedDiag {s₀ s : State} (hk : Keeps s₀ s) {f : TakeFrame} {x : Int} : Keeps s₀ (s.placeFollowedDiag f x) := by
  unfold State.placeFollowedDiag
  exact hk.same.chargeFollowed.startDecided.applyDacs

theorem Keeps.keptSettings {s₀ s : State} (hk : Keeps s₀ s) {at_ : Int} {c : Nat} : Keeps s₀ (s.keptSettings at_ c) := by
  unfold State.keptSettings
  extract_lets s1 _
  split
  exacts [hk.takeTable.setRxChan, hk.takeTable]

theorem Keeps.staleTake {s₀ s : State} (hk : Keeps s₀ s) {t : Take} : Keeps s₀ (s.staleTake t) := by
  unfold State.staleTake
  exact (hk.foldl fun _ _ k => (.ite k.mapOpen k))

theorem Keeps.staleLast {s₀ s : State} (hk : Keeps s₀ s) : Keeps s₀ (s.staleLast) := by
  unfold State.staleLast
  split
  exacts [hk.staleTake, hk]

theorem Keeps.claimReel {s₀ s : State} (hk : Keeps s₀ s) {ch set_ : Nat} : Keeps s₀ (s.claimReel ch set_) := by
  unfold State.claimReel
  split
  exacts [hk.same, hk.beginReel]

theorem Keeps.openBuffers {s₀ s : State} (hk : Keeps s₀ s) : Keeps s₀ (s.openBuffers) := by
  unfold State.openBuffers
  exact (hk.foldl fun _ _ k => (k.mapSet.foldl fun _ _ k => k.claimReel))

theorem Keeps.placeFollowed {s₀ s : State} (hk : Keeps s₀ s) {t : Take} {k : Nat} : Keeps s₀ (s.placeFollowed t k) := by
  unfold State.placeFollowed
  exact hk.placeTake.openBuffers.staleLast.chargeFollowed.startDecided

theorem Keeps.pairTakes {b s : State} (h : Keeps b s) {g n : Nat} : Keeps b (s.pairTakes g n) := by
  induction n generalizing s with
  | zero => exact h
  | succ n ih =>
    unfold State.pairTakes
    split
    · exact h
    · refine .ite ?_ (ih h.setWaiting.placeFollowed)
      split
      · exact h
      · exact ih (.ite h.setWaiting.placeFollowedDiag (h.setWaiting.foldl fun _ _ k => k.keptSettings).placeFollowed)

theorem Keeps.shadowStart {s₀ s : State} (hk : Keeps s₀ s) {g : Nat} {x : Int} : Keeps s₀ (s.shadowStart g x) := by
  unfold State.shadowStart
  exact .ite hk.holdStart hk.holdStart.setWaiting.pairTakes

theorem Keeps.shadowEdge {s₀ s : State} (hk : Keeps s₀ s) {out : Nat} {x : Int} : Keeps s₀ (s.shadowEdge out x) := by
  unfold State.shadowEdge
  exact .ite hk hk.same.shadowStart

theorem Keeps.takeSettings {s₀ s : State} (hk : Keeps s₀ s) {at_ : Int} {c : Nat} : Keeps s₀ (s.takeSettings at_ c) := by
  unfold State.takeSettings
  exact hk.takeTable.setRxChan

theorem Keeps.groupSettings {s₀ s : State} (hk : Keeps s₀ s) {g : Nat} {at_ : Int} : Keeps s₀ (s.groupSettings g at_) := by
  unfold State.groupSettings
  exact (hk.foldl fun _ _ k => k.takeSettings)

theorem Keeps.ownEdge {s₀ s : State} (hk : Keeps s₀ s) {out : Nat} {x : Int} : Keeps s₀ (s.ownEdge out x) := by
  unfold State.ownEdge
  split
  exacts [hk.pendingDacs.mapTake.groupSettings.startDecided, (.ite hk hk.count.raise)]

theorem Keeps.execLoopbackEdge {s₀ s : State} (hk : Keeps s₀ s) {out : Fin 32} {tap : Fin 64} :
    Completes s₀ (execLoopbackEdge out tap s) := by
  unfold Machine.execLoopbackEdge
  exact .ite (.next hk) (.next (.ite hk.shadowEdge hk.ownEdge))

theorem Keeps.degradeTake {s₀ s : State} (hk : Keeps s₀ s) {t : Take} : Keeps s₀ (s.degradeTake t) := by
  unfold State.degradeTake
  exact hk.mapSet

theorem Keeps.execStartMissing {s₀ s : State} (hk : Keeps s₀ s) : Completes s₀ (execStartMissing s) := by
  unfold Machine.execStartMissing
  split
  · exact .next hk
  · exact .next (hk.mapTake.count.raise.degradeTake.foldl fun _ _ k => k.keptSettings).startDecided

theorem Keeps.closeIfDue {s₀ s : State} (hk : Keeps s₀ s) {g : Nat} : Keeps s₀ (s.closeIfDue g) := by
  unfold State.closeIfDue
  split
  exacts [(.ite hk.closeEarly hk), hk]

theorem Keeps.execTakeWindowClose {s₀ s : State} (hk : Keeps s₀ s) : Completes s₀ (execTakeWindowClose s) := by
  unfold Machine.execTakeWindowClose
  split
  · exact .next hk
  · exact .next (Keeps.ite hk.mapTake.mapSet.same hk.mapTake.mapSet).closeIfDue.applyDacs

theorem Keeps.execColRechargeEnd {s₀ s : State} (hk : Keeps s₀ s) {column : Fin 32} : Completes s₀ (execColRechargeEnd column s) := by
  unfold Machine.execColRechargeEnd
  split
  exacts [(.ite (.next hk.setColumn) (.next hk)), (.next hk)]

theorem Keeps.readbackErrors {s₀ s : State} (hk : Keeps s₀ s) {n : Nat} : Keeps s₀ (s.readbackErrors n) := by
  unfold State.readbackErrors
  refine .ite ?_ ?_
  · exact hk.same
  · exact .ite (hk.foldl fun _ _ k => k.count.raise).same.raise.trip (hk.foldl fun _ _ k => k.count.raise).same

theorem Keeps.execChainFrameShiftDone {s₀ s : State} (hk : Keeps s₀ s) {readback : List Nat} :
    Completes s₀ (execChainFrameShiftDone readback s) := by
  unfold Machine.execChainFrameShiftDone
  split
  exacts [(.ite (.next hk.same.readbackErrors) (.next hk)), (.next hk)]

theorem Keeps.execChainLatch {s₀ s : State} (hk : Keeps s₀ s) : Completes s₀ (execChainLatch s) := by
  unfold Machine.execChainLatch
  split
  exacts [(.ite (.next hk.same) (.next hk)), (.next hk)]

theorem Keeps.mapCharge {s₀ s : State} (hk : Keeps s₀ s) {seq epoch group : Nat} {trig : Int} {f : Charge → Charge} :
    Keeps s₀ (s.mapCharge seq epoch group trig f) := by
  unfold State.mapCharge
  exact hk.same

theorem Keeps.notePeak {s₀ s : State} (hk : Keeps s₀ s) {z : Nat} {measured : Option Nat} {trig : Int} :
    Keeps s₀ (s.notePeak z measured trig) := by
  unfold State.notePeak
  exact hk.same

theorem Keeps.noteW0 {s₀ s : State} (hk : Keeps s₀ s) {z e : Nat} {trig : Int} : Keeps s₀ (s.noteW0 z e trig) := by
  unfold State.noteW0
  exact hk.same

theorem Keeps.accountTrip {s₀ s : State} (hk : Keeps s₀ s) : Keeps s₀ (s.accountTrip) := by
  unfold State.accountTrip
  exact hk.raise.trip

theorem Keeps.finishCharge {s₀ s : State} (hk : Keeps s₀ s) {seq epoch group : Nat} {trig : Int} {measured : Option Nat} :
    Keeps s₀ (s.finishCharge seq epoch group trig measured) := by
  unfold State.finishCharge
  split
  · exact hk
  · exact .ite hk.book.mapCharge.noteW0.notePeak.accountTrip hk.book.mapCharge.noteW0.notePeak

theorem Keeps.keepProvisional {s₀ s : State} (hk : Keeps s₀ s) {t : Take} : Keeps s₀ (s.keepProvisional t) := by
  unfold State.keepProvisional
  exact hk.finishCharge

theorem Keeps.raiseHk {s₀ s : State} (hk : Keeps s₀ s) {e m : Nat} : Keeps s₀ (s.raiseHk e m) := by
  unfold State.raiseHk
  exact .ite hk.limiterStart.raise hk

theorem Keeps.noteEnergy {s₀ s : State} (hk : Keeps s₀ s) {t : Take} {e : Int} : Keeps s₀ (s.noteEnergy t e) := by
  unfold State.noteEnergy
  exact .ite hk hk.set

theorem Keeps.noteTolerance {s₀ s : State} (hk : Keeps s₀ s) {g : Nat} {within : Bool} : Keeps s₀ (s.noteTolerance g within) := by
  unfold State.noteTolerance
  exact hk.same

theorem Keeps.setTrim {s₀ s : State} (hk : Keeps s₀ s) {k : Nat} {v : Int} : Keeps s₀ (s.setTrim k v) := by
  unfold State.setTrim
  exact .ite hk.set.sendObject hk.set

theorem Keeps.updateTrim {s₀ s : State} (hk : Keeps s₀ s) {t : Take} {e : Int} : Keeps s₀ (s.updateTrim t e).2 := by
  unfold State.updateTrim
  split
  exacts [hk, (by split; exacts [hk.setTrim, hk])]

theorem Keeps.setEnergyStatus {s₀ s : State} (hk : Keeps s₀ s) {g st : Nat} : Keeps s₀ (s.setEnergyStatus g st) := by
  unfold State.setEnergyStatus
  exact .ite hk.set.raise hk.set

theorem Keeps.updateLoop {s₀ s : State} (hk : Keeps s₀ s) {t : Take} {e : Int} : Keeps s₀ (s.updateLoop t e) := by
  unfold State.updateLoop
  exact .ite hk.noteTolerance.updateTrim.setEnergyStatus.raise hk.noteTolerance.updateTrim.setEnergyStatus

theorem Keeps.sendZones {s₀ s : State} (hk : Keeps s₀ s) : Keeps s₀ (s.sendZones) := by
  unfold State.sendZones
  exact .ite hk.sendObject hk

theorem Keeps.judgeZone {s₀ s : State} (hk : Keeps s₀ s) {z v : Nat} : Keeps s₀ (s.judgeZone z v) := by
  unfold State.judgeZone
  exact .ite (Keeps.ite hk.setZone hk.setZone.sendZones).raise (.ite hk.setZone hk.setZone.sendZones)

theorem Keeps.useCapture {s₀ s : State} (hk : Keeps s₀ s) {t : Take} {f : CaptureFigures} : Keeps s₀ (s.useCapture t f) := by
  unfold State.useCapture
  extract_lets s1 s2
  have h1 : Keeps s₀ s1 := hk.noteEnergy.finishCharge
  exact .ite (Keeps.ite h1.updateLoop h1).judgeZone (.ite h1.updateLoop h1)

theorem Keeps.endCapture {s₀ s : State} (hk : Keeps s₀ s) {t : Take} {c : CaptureSamples} : Keeps s₀ (s.endCapture t c) := by
  unfold State.endCapture
  refine .ite ?_ ?_
  · exact hk
  · refine .ite ?_ ?_
    · exact hk.count.raiseHk.keepProvisional
    · exact .ite hk.count.raiseHk.keepProvisional (.ite hk.useCapture hk.keepProvisional)

theorem Keeps.execCaptureComplete {s₀ s : State} (hk : Keeps s₀ s) {samples : CaptureSamples} :
    Completes s₀ (execCaptureComplete samples s) := by
  unfold Machine.execCaptureComplete
  split
  exacts [(.next hk), (.next hk.mapTake.endCapture.dropDiag)]

theorem Keeps.execZoneDiagClear {s₀ s : State} (hk : Keeps s₀ s) {req : Requester} {tag value : Nat} :
    Completes s₀ (execZoneDiagClear req tag value s) := by
  unfold Machine.execZoneDiagClear
  exact .next hk.koaSet

theorem Keeps.execDiagIntervalBoundary {s₀ s : State} (hk : Keeps s₀ s) : Completes s₀ (execDiagIntervalBoundary s) := by
  unfold Machine.execDiagIntervalBoundary
  extract_lets _ _ _ _ _ s1 s2 s3
  have h2 : Keeps s₀ s2 := (hk.same.foldl fun _ _ k => k.setZone).sendZones
  exact .ite (.next (.ite (.ite h2 h2.raise) (Keeps.ite h2 h2.raise).raise)) (.next hk)

theorem Keeps.serveZone {s₀ s : State} (hk : Keeps s₀ s) {z : Nat} : Keeps s₀ (s.serveZone z) := by
  unfold State.serveZone
  exact hk.setZone

theorem Keeps.insertDiag {s₀ s : State} (hk : Keeps s₀ s) {z : Nat} : Keeps s₀ (s.insertDiag z) := by
  unfold State.insertDiag
  exact hk.serveZone.admitTake.scheduleMatrix.same.count.raise.sendTake

theorem Keeps.execDiagPulseInsert {s₀ s : State} (hk : Keeps s₀ s) : Completes s₀ (execDiagPulseInsert s) := by
  unfold Machine.execDiagPulseInsert
  exact .ite (by split; exacts [(.next hk), (.next hk.insertDiag)]) (.next hk)

theorem Keeps.execDiagTurnaroundEnd {s₀ s : State} (hk : Keeps s₀ s) : Completes s₀ (execDiagTurnaroundEnd s) := by
  unfold Machine.execDiagTurnaroundEnd
  exact .ite (.next hk) (.next hk.endTurnaround)

theorem Keeps.execSafetySelfTestDone {s₀ s : State} (hk : Keeps s₀ s) {passed : Bool} : Completes s₀ (execSafetySelfTestDone passed s) := by
  unfold Machine.execSafetySelfTestDone
  exact .ite (.ite (.next (.ite hk.same.setSafetyState hk.same)) (.next hk.trip)) (.next hk)

theorem Keeps.execArmingStart {s₀ s : State} (hk : Keeps s₀ s) : Completes s₀ (execArmingStart s) := by
  unfold Machine.execArmingStart
  exact .ite (.next hk.same.setSafetyState.setEnA.setEnB) (.next hk)

theorem Keeps.execRearmHoldElapsed {s₀ s : State} (hk : Keeps s₀ s) : Completes s₀ (execRearmHoldElapsed s) := by
  unfold Machine.execRearmHoldElapsed
  exact .ite (.next hk.same) (.next hk)

theorem Keeps.setEn {s₀ s : State} (hk : Keeps s₀ s) {out : Nat} {x : Bool} : Keeps s₀ (s.setEn out x) := by
  unfold State.setEn
  exact .ite hk.setEnA hk.setEnB

theorem Keeps.scheduleNext {s₀ s : State} (hk : Keeps s₀ s) {out : Nat} : Keeps s₀ (s.scheduleNext out) := by
  unfold State.scheduleNext
  exact .ite hk (.ite hk.same hk.same)

theorem Keeps.execOfftestStart {s₀ s : State} (hk : Keeps s₀ s) {out : Fin 2} : Completes s₀ (execOfftestStart out s) := by
  unfold Machine.execOfftestStart
  exact .ite (.next hk.scheduleNext.setEn.same) (.next hk)

theorem Keeps.execOfftestEnRise {s₀ s : State} (hk : Keeps s₀ s) : Completes s₀ (execOfftestEnRise s) := by
  unfold Machine.execOfftestEnRise
  split
  exacts [(.ite (.next hk.setEn.same) (.next hk)), (.next hk)]

theorem Keeps.enterArmed {s₀ s : State} (hk : Keeps s₀ s) : Keeps s₀ (s.enterArmed) := by
  unfold State.enterArmed
  exact hk.same.setSafetyState

theorem Keeps.offTestPass {s₀ s : State} (hk : Keeps s₀ s) {out : Nat} : Keeps s₀ (s.offTestPass out) := by
  unfold State.offTestPass
  exact .ite (.ite hk.same.count.same hk.same.count.same.enterArmed) hk.same.count

theorem Keeps.judged {s₀ s : State} (hk : Keeps s₀ s) {out : Nat} : Keeps s₀ (s.judged out) := by
  unfold State.judged
  exact .ite hk.same hk.same

theorem Keeps.offTestFail {s₀ s : State} (hk : Keeps s₀ s) {out : Nat} : Keeps s₀ (s.offTestFail out) := by
  unfold State.offTestFail
  exact hk.judged.raise.trip

theorem Keeps.execOfftestCheck {s₀ s : State} (hk : Keeps s₀ s) : Completes s₀ (execOfftestCheck s) := by
  unfold Machine.execOfftestCheck
  split
  · split
    · exact .ite (.next (.ite hk.offTestPass hk.offTestFail)) (.next hk)
    · exact .next (.ite hk.offTestFail hk)
  · exact .next hk

theorem Keeps.execTripTest {s₀ s : State} (hk : Keeps s₀ s) {req : Requester} {tag value : Nat} :
    Completes s₀ (execTripTest req tag value s) := by
  unfold Machine.execTripTest
  exact .next hk.koaSet

theorem Keeps.execGateLeak {s₀ s : State} (hk : Keeps s₀ s) {ball : Fin 65} : Completes s₀ (execGateLeak ball s) := by
  unfold Machine.execGateLeak
  exact .ite (.next hk) (.next hk.trip)

theorem Keeps.execOverEnergy {s₀ s : State} (hk : Keeps s₀ s) {_input _integrator : Fin 2} :
    Completes s₀ (execOverEnergy _input _integrator s) := by
  unfold Machine.execOverEnergy
  exact .ite (.next hk) (.next hk.same.raise.trip)

theorem Keeps.execAccBucketRoll {s₀ s : State} (hk : Keeps s₀ s) {window : Fin 4} : Completes s₀ (execAccBucketRoll window s) := by
  unfold Machine.execAccBucketRoll
  exact .ite (.next hk.same) (.next hk)

theorem Keeps.sendAccount {s₀ s : State} (hk : Keeps s₀ s) : Keeps s₀ (s.sendAccount) := by
  unfold State.sendAccount
  exact .ite hk.sendFarlu hk

theorem Keeps.setPeaks {s₀ s : State} (hk : Keeps s₀ s) : Keeps s₀ (s.setPeaks) := by
  unfold State.setPeaks
  exact (hk.set.foldl fun _ _ k => k.set).same

theorem Keeps.freeze {s₀ s : State} (hk : Keeps s₀ s) : Keeps s₀ (s.freeze) := by
  unfold State.freeze
  exact hk.same

theorem Keeps.execAuditBoundary {s₀ s : State} (hk : Keeps s₀ s) : Completes s₀ (execAuditBoundary s) := by
  unfold Machine.execAuditBoundary
  exact .ite (.next (.ite hk.freeze.setPeaks.sendAccount.raise.trip hk.freeze.setPeaks.sendAccount)) (.next hk)

theorem Keeps.auditVerdict {s₀ s : State} (hk : Keeps s₀ s) {ok : Bool} : Keeps s₀ (s.auditVerdict ok) := by
  unfold State.auditVerdict
  exact hk.same

theorem Keeps.execAuditCompareDone {s₀ s : State} (hk : Keeps s₀ s) : Completes s₀ (execAuditCompareDone s) := by
  unfold Machine.execAuditCompareDone
  refine .ite ?_ ?_
  · extract_lets _ s1 _ s2 s3 s4
    have h3 : Keeps s₀ s3 := .ite hk.same.auditVerdict hk.same.auditVerdict.raise.trip
    exact .next (.ite (.ite h3.accountTrip h3) (Keeps.ite h3.accountTrip h3).trip)
  · exact .next hk

theorem Keeps.execScanMonitor {s₀ s : State} (hk : Keeps s₀ s) : Completes s₀ (execScanMonitor s) := by
  unfold Machine.execScanMonitor
  exact .ite (.next hk.same.raise.trip) (.next hk)

theorem Keeps.judgeDiscrepancy {s₀ s : State} (hk : Keeps s₀ s) {p : Nat} : Keeps s₀ (s.judgeDiscrepancy p) := by
  unfold State.judgeDiscrepancy
  exact .ite hk.setInputPair.raise.trip hk

theorem Keeps.acceptInput {s₀ s : State} (hk : Keeps s₀ s) {p : Nat} {isB on : Bool} : Keeps s₀ (s.acceptInput p isB on) := by
  unfold State.acceptInput
  exact hk.judgeDiscrepancy.takePair

theorem Keeps.execSafeInputAccept {s₀ s : State} (hk : Keeps s₀ s) {channel : Fin 4} {level : Bool} :
    Completes s₀ (execSafeInputAccept channel level s) := by
  unfold Machine.execSafeInputAccept
  exact .ite (.next hk) (.ite (.next hk) (.next hk.acceptInput))

theorem Keeps.execInputDiscrepancy {s₀ s : State} (hk : Keeps s₀ s) {pair : Fin 2} : Completes s₀ (execInputDiscrepancy pair s) := by
  unfold Machine.execInputDiscrepancy
  exact .next hk.judgeDiscrepancy

theorem Keeps.setFb {s₀ s : State} (hk : Keeps s₀ s) {out : Nat} {level : Bool} : Keeps s₀ (s.setFb out level) := by
  unfold State.setFb
  exact .ite hk.same hk.same

theorem Keeps.execSupplyFbChange {s₀ s : State} (hk : Keeps s₀ s) {out : Fin 2} {level : Bool} :
    Completes s₀ (execSupplyFbChange out level s) := by
  unfold Machine.execSupplyFbChange
  refine .ite (.next hk) ?_
  dsimp only
  split
  · exact .ite (.next hk.setFb.same) (.next hk.setFb)
  · exact .next hk.setFb

theorem Keeps.execSupplyReadback {s₀ s : State} (hk : Keeps s₀ s) {out : Fin 2} : Completes s₀ (execSupplyReadback out s) := by
  unfold Machine.execSupplyReadback
  exact .ite (.next (Keeps.ite hk.same hk.same).raise.trip) (.next hk)

theorem Keeps.sendSafe {s₀ s : State} (hk : Keeps s₀ s) {net : Nat} {m : List Byte} : Keeps s₀ (s.sendSafe net m) := by
  unfold State.sendSafe
  exact .ite hk.sendCan hk.sendUdp

theorem Keeps.execSafeStatusSend {s₀ s : State} (hk : Keeps s₀ s) : Completes s₀ (execSafeStatusSend s) := by
  unfold Machine.execSafeStatusSend
  exact .ite (.next hk.sendSafe.sendSafe.same) (.next hk)

theorem Keeps.judgeCommands {s₀ s : State} (hk : Keeps s₀ s) : Keeps s₀ (s.judgeCommands) := by
  unfold State.judgeCommands
  split
  exacts [(.ite hk.same.trip hk), hk]

theorem Keeps.setSafeBearer {s₀ s : State} (hk : Keeps s₀ s) {b : Nat} {x : SafeBearer} : Keeps s₀ (s.setSafeBearer b x) := by
  unfold State.setSafeBearer
  split
  exacts [hk.same, hk.same, hk.same]

theorem Keeps.execSafeCmdReceive {s₀ s : State} (hk : Keeps s₀ s) {bearer : Fin 2} {data : List Byte} :
    Completes s₀ (execSafeCmdReceive bearer data s) := by
  unfold Machine.execSafeCmdReceive
  refine .ite ?_ ?_
  · exact .next hk
  · exact .ite (.next hk.judgeCommands.setSafeBearer.noteDisagreement.cmdPair) (.next hk.count.raise)

theorem Keeps.execSafeMsgTimeout {s₀ s : State} (hk : Keeps s₀ s) {bearer : Fin 2} : Completes s₀ (execSafeMsgTimeout bearer s) := by
  unfold Machine.execSafeMsgTimeout
  exact .ite (.next hk.setSafeBearer.raise.cmdPair) (.next hk)

theorem Keeps.execSafeMsgDiscrepancy {s₀ s : State} (hk : Keeps s₀ s) : Completes s₀ (execSafeMsgDiscrepancy s) := by
  unfold Machine.execSafeMsgDiscrepancy
  exact .next hk.judgeCommands

theorem Keeps.execSealCommit {s₀ s : State} (hk : Keeps s₀ s) {req : Requester} {tag value : Nat} :
    Completes s₀ (execSealCommit req tag value s) := by
  unfold Machine.execSealCommit
  exact .next hk.koaSet

theorem Keeps.execLockoutReset {s₀ s : State} (hk : Keeps s₀ s) {req : Requester} {tag value : Nat} :
    Completes s₀ (execLockoutReset req tag value s) := by
  unfold Machine.execLockoutReset
  exact .next hk.koaSet

theorem Keeps.rejectUnit {s₀ s : State} (hk : Keeps s₀ s) {r : CalRun} {u code : Nat} : Keeps s₀ (s.rejectUnit r u code) := by
  unfold State.rejectUnit
  exact (Keeps.ite hk.setOutcome.same hk.setOutcome.same).raise

theorem Keeps.interruptOffset {s₀ s : State} (hk : Keeps s₀ s) {u : Nat} : Keeps s₀ (s.interruptOffset u) := by
  unfold State.interruptOffset
  split
  exacts [hk, (.ite hk.rejectUnit hk)]

theorem Keeps.calJobCheck {s₀ s : State} (hk : Keeps s₀ s) {slot : Nat} : Keeps s₀ (s.calJobCheck slot) := by
  unfold State.calJobCheck
  exact .ite hk (.ite hk.fillRuns hk.fillRuns.same.finishJob)

theorem Keeps.dropRun {s₀ s : State} (hk : Keeps s₀ s) {u kind : Nat} : Keeps s₀ (s.dropRun u kind) := by
  unfold State.dropRun
  exact hk.same

theorem Keeps.interruptUnit {s₀ s : State} (hk : Keeps s₀ s) {u : Nat} : Keeps s₀ (s.interruptUnit u) := by
  unfold State.interruptUnit
  split
  exacts [hk.interruptOffset, hk.dropRun.rejectUnit.calJobCheck]

theorem Keeps.execRefFaultDetect {s₀ s : State} (hk : Keeps s₀ s) {block : Fin 16} : Completes s₀ (execRefFaultDetect block s) := by
  unfold Machine.execRefFaultDetect
  exact .ite (.next (hk.set.raiseLow.foldl fun _ _ k => k.interruptUnit)) (.next hk)

theorem Keeps.execRefFaultClear {s₀ s : State} (hk : Keeps s₀ s) {block : Fin 16} : Completes s₀ (execRefFaultClear block s) := by
  unfold Machine.execRefFaultClear
  exact .ite (.next hk.set) (.next hk)

theorem Keeps.execThreshWrite {s₀ s : State} (hk : Keeps s₀ s) {req : Requester} {tag key : Nat} {value : List Byte} :
    Completes s₀ (execThreshWrite req tag key value s) := by
  unfold Machine.execThreshWrite
  exact .ite (.next hk.koaWriteOf) (.next hk)

theorem Keeps.execRxLeadingEdge {s₀ s : State} (hk : Keeps s₀ s) {channel : Fin 256} {tap : Fin 64} :
    Completes s₀ (execRxLeadingEdge channel tap s) := by
  unfold Machine.execRxLeadingEdge
  extract_lets _ _ s1 _ _ _ _
  refine .ite ?_ ?_
  · exact .next hk
  · refine .ite ?_ ?_
    · exact .next hk.setRxChan
    · exact .ite (.next hk.setRxChan.setRxChan) (.next hk.setRxChan.tryClassify.setRxChan)

theorem Keeps.execRxHighCrossing {s₀ s : State} (hk : Keeps s₀ s) {channel : Fin 256} : Completes s₀ (execRxHighCrossing channel s) := by
  unfold Machine.execRxHighCrossing
  exact .ite (.next hk) (.next hk.setRxChan)

theorem Keeps.closePulse {s₀ s : State} (hk : Keeps s₀ s) {c : Nat} {p : RxPulse} : Keeps s₀ (s.closePulse c p) := by
  unfold State.closePulse
  extract_lets _ _ s1 _
  split
  exacts [hk.tryClassify.setRxChan.setRxChan, hk.tryClassify.setRxChan.finishPulse]

theorem Keeps.execRxTrailingEdge {s₀ s : State} (hk : Keeps s₀ s) {channel : Fin 256} {tap : Fin 64} :
    Completes s₀ (execRxTrailingEdge channel tap s) := by
  unfold Machine.execRxTrailingEdge
  extract_lets _ _ s1
  exact .ite (.next hk) (by split; exacts [(.next hk.setRxChan.closePulse), (.next hk.setRxChan)])

theorem Keeps.execRxTotLong {s₀ s : State} (hk : Keeps s₀ s) {channel : Fin 256} : Completes s₀ (execRxTotLong channel s) := by
  unfold Machine.execRxTotLong
  extract_lets _ s1
  split
  exacts [(.ite (.next hk.setRxChan.closePulse) (.next hk)), (.next hk)]

theorem Keeps.execRxDeadTimeEnd {s₀ s : State} (hk : Keeps s₀ s) {channel : Fin 256} : Completes s₀ (execRxDeadTimeEnd channel s) := by
  unfold Machine.execRxDeadTimeEnd
  extract_lets _
  split
  exacts [(.ite (.next hk.setRxChan) (.next hk)), (.next hk)]

theorem Keeps.popHit {s₀ s : State} (hk : Keeps s₀ s) {c : Nat} : Keeps s₀ (s.popHit c) := by
  unfold State.popHit
  exact hk.setRxChan

theorem Keeps.discardHit {s₀ s : State} (hk : Keeps s₀ s) {c set_ : Nat} : Keeps s₀ (s.discardHit c set_) := by
  unfold State.discardHit
  exact hk.popHit.degradeReel

theorem Keeps.spanCheck {s₀ s : State} (hk : Keeps s₀ s) {g : List Byte} {h : Hit} : Keeps s₀ (s.spanCheck g h) := by
  unfold State.spanCheck
  exact .ite hk.count.raiseMs hk

theorem Keeps.setBank {s₀ s : State} (hk : Keeps s₀ s) {b : Nat} {q : List Addition} : Keeps s₀ (s.setBank b q) := by
  unfold State.setBank
  exact hk.same

theorem Keeps.queueAddition {s₀ s : State} (hk : Keeps s₀ s) {g : List Byte} {a : Addition} : Keeps s₀ (s.queueAddition g a) := by
  unfold State.queueAddition
  split
  exacts [hk.setBank, hk]

theorem Keeps.deliver {s₀ s : State} (hk : Keeps s₀ s) {h : Hit} {t : Take} {st : ReelSet} {b : Nat} : Keeps s₀ (s.deliver h t st b) := by
  unfold State.deliver
  exact .ite hk (hk.popHit.foldl fun _ _ k => k.queueAddition).spanCheck

theorem Keeps.execHitDelivery {s₀ s : State} (hk : Keeps s₀ s) {channel : Fin 256} : Completes s₀ (execHitDelivery channel s) := by
  unfold Machine.execHitDelivery
  split
  · exact .next hk
  · refine .ite ?_ ?_
    · exact .next hk.discardHit
    · split
      · exact .next hk.popHit.count.raiseMs
      · refine .ite ?_ ?_
        · exact .next hk.discardHit
        · split
          · exact .next hk.popHit.count.raiseMs
          · split
            exacts [(.next hk.deliver), (.next (.ite hk hk.popHit))]

theorem Keeps.execDllUnlock {s₀ s : State} (hk : Keeps s₀ s) {dll : Fin 18} : Completes s₀ (execDllUnlock dll s) := by
  unfold Machine.execDllUnlock
  exact .ite (.next (hk.set.raiseLow.foldl fun _ _ k => k.interruptUnit)) (.next hk)

theorem Keeps.setDue {s₀ s : State} (hk : Keeps s₀ s) {u bit : Nat} : Keeps s₀ (s.setDue u bit) := by
  unfold State.setDue
  exact .ite hk hk.set.raise

theorem Keeps.execDllLockHeld {s₀ s : State} (hk : Keeps s₀ s) {dll : Fin 18} : Completes s₀ (execDllLockHeld dll s) := by
  unfold Machine.execDllLockHeld
  exact .ite (.next (.ite (hk.set.same.foldl fun _ _ k => k.setDue) hk.set.same)) (.next hk)

theorem Keeps.execRxEnableWrite {s₀ s : State} (hk : Keeps s₀ s) {req : Requester} {tag key : Nat} {value : List Byte} :
    Completes s₀ (execRxEnableWrite req tag key value s) := by
  unfold Machine.execRxEnableWrite
  exact .ite (.next hk.koaWriteOf) (.next hk)

theorem Keeps.degradeChannel {s₀ s : State} (hk : Keeps s₀ s) {ch : Nat} : Keeps s₀ (s.degradeChannel ch) := by
  unfold State.degradeChannel
  exact hk.mapOpen

theorem Keeps.execRxStuck {s₀ s : State} (hk : Keeps s₀ s) {channel : Fin 256} : Completes s₀ (execRxStuck channel s) := by
  unfold Machine.execRxStuck
  extract_lets _ s1
  split
  · exact .ite (.next hk.setRxChan.degradeChannel.raiseLow.interruptUnit) (.next hk)
  · exact .next hk

theorem Keeps.execRxStuckClear {s₀ s : State} (hk : Keeps s₀ s) {channel : Fin 256} : Completes s₀ (execRxStuckClear channel s) := by
  unfold Machine.execRxStuckClear
  extract_lets _
  split
  exacts [(.ite (.next hk.setRxChan) (.next hk)), (.next hk)]

theorem Keeps.bgRate {s₀ s : State} (hk : Keeps s₀ s) {c : Nat} : Keeps s₀ (s.bgRate c) := by
  unfold State.bgRate
  exact .ite (Keeps.ite hk hk.setRxChan).set.raiseLow (Keeps.ite hk hk.setRxChan).set

theorem Keeps.execRxBgInterval {s₀ s : State} (hk : Keeps s₀ s) : Completes s₀ (execRxBgInterval s) := by
  unfold Machine.execRxBgInterval
  exact .ite (.next (hk.same.foldl fun _ _ k => k.bgRate)) (.next hk)

theorem Keeps.zeroWord {s₀ s : State} (hk : Keeps s₀ s) {ch buf w : Nat} : Keeps s₀ (s.zeroWord ch buf w) := by
  unfold State.zeroWord
  exact (Keeps.ite hk.setReel.same.degradePosted hk.setReel.same).count.raiseMs

theorem Keeps.zeroBadWord {s₀ s : State} (hk : Keeps s₀ s) {ch buf bin : Nat} : Keeps s₀ (s.zeroBadWord ch buf bin) := by
  unfold State.zeroBadWord
  exact .ite hk.zeroWord hk

theorem Keeps.noteSaturation {s₀ s : State} (hk : Keeps s₀ s) {ch buf bin : Nat} : Keeps s₀ (s.noteSaturation ch buf bin) := by
  unfold State.noteSaturation
  exact .ite hk hk.setReel.count.raiseMs

theorem Keeps.applyAddition {s₀ s : State} (hk : Keeps s₀ s) {a : Addition} : Keeps s₀ (s.applyAddition a) := by
  unfold State.applyAddition
  split
  · exact hk
  · split
    exacts [hk, (.ite hk.zeroBadWord.setReel.noteSaturation hk.zeroBadWord.setReel)]

theorem Keeps.busyBank {s₀ s : State} (hk : Keeps s₀ s) {b : Nat} : Keeps s₀ (s.busyBank b) := by
  unfold State.busyBank
  exact hk.same

theorem Keeps.execBinUpdate {s₀ s : State} (hk : Keeps s₀ s) {bank : Fin 64} : Completes s₀ (execBinUpdate bank s) := by
  unfold Machine.execBinUpdate
  split
  exacts [(.next hk), (.next (.ite hk.busyBank.setBank.applyAddition hk))]

theorem Keeps.execGearTableWrite {s₀ s : State} (hk : Keeps s₀ s) {req : Requester} {tag group : Nat} {value : List Byte} :
    Completes s₀ (execGearTableWrite req tag group value s) := by
  unfold Machine.execGearTableWrite
  exact .next hk.koaWriteOf

theorem Keeps.execCodeFamilyWrite {s₀ s : State} (hk : Keeps s₀ s) {req : Requester} {tag : Nat} {value : List Byte} :
    Completes s₀ (execCodeFamilyWrite req tag value s) := by
  unfold Machine.execCodeFamilyWrite
  exact .next hk.koaWriteOf

theorem Keeps.execReelSetComplete {s₀ s : State} (hk : Keeps s₀ s) : Completes s₀ (execReelSetComplete s) := by
  unfold Machine.execReelSetComplete
  split
  exacts [(.next hk), (.next hk.mapSet)]

theorem Keeps.releaseUnprocessed {s₀ s : State} (hk : Keeps s₀ s) {d : Descriptor} : Keeps s₀ (s.releaseUnprocessed d) := by
  unfold State.releaseUnprocessed
  exact hk.releaseReel.count.assembleReel

theorem Keeps.postTo {s₀ s : State} (hk : Keeps s₀ s) {n : Nat} {d : Descriptor} : Keeps s₀ (s.postTo n d) := by
  unfold State.postTo
  exact hk.setEngine.count

theorem Keeps.execDescriptorPost {s₀ s : State} (hk : Keeps s₀ s) : Completes s₀ (execDescriptorPost s) := by
  unfold Machine.execDescriptorPost
  split
  · exact .next hk
  · extract_lets _ s1
    exact .ite (.next hk.same.releaseUnprocessed) (by split; exacts [(.next hk.same.postTo), (.next hk)])

theorem Keeps.dropMessage {s₀ s : State} (hk : Keeps s₀ s) {m : OutMessage} : Keeps s₀ (s.dropMessage m) := by
  unfold State.dropMessage
  exact (Keeps.ite hk.count (.ite hk hk.count)).same.raiseMs

theorem Keeps.setOutQueue {s₀ s : State} (hk : Keeps s₀ s) {dest : Nat} {q : List OutMessage} : Keeps s₀ (s.setOutQueue dest q) := by
  unfold State.setOutQueue
  exact .ite hk.same (.ite hk.same hk.same)

theorem Keeps.makeRoom {b s : State} (h : Keeps b s) {dest need p n : Nat} : Keeps b (s.makeRoom dest need p n) := by
  induction n generalizing s with
  | zero => exact h
  | succ n ih =>
    unfold State.makeRoom
    refine .ite h ?_
    split
    · exact h
    · exact ih h.setOutQueue.dropMessage

theorem Keeps.enqueue {s₀ s : State} (hk : Keeps s₀ s) {dest : Nat} {m : OutMessage} : Keeps s₀ (s.enqueue dest m) := by
  unfold State.enqueue
  exact .ite hk.dropMessage (.ite hk.makeRoom.setOutQueue.set hk.makeRoom.dropMessage)

theorem Keeps.streamRaw {s₀ s : State} (hk : Keeps s₀ s) {ch : Nat} {r : List Byte} : Keeps s₀ (s.streamRaw ch r) := by
  unfold State.streamRaw
  exact .ite hk (hk.foldl fun _ _ k => (.ite k k.enqueue))

theorem Keeps.execRawExportCopyDone {s₀ s : State} (hk : Keeps s₀ s) {channel : Fin 256} {buf : Fin 2} :
    Completes s₀ (execRawExportCopyDone channel buf s) := by
  unfold Machine.execRawExportCopyDone
  split
  exacts [(.next hk), (.next (Keeps.ite hk.same.clearReel hk.same.setReel).streamRaw)]

theorem Keeps.cleanReel {s₀ s : State} (hk : Keeps s₀ s) {ch buf : Nat} : Keeps s₀ (s.cleanReel ch buf) := by
  unfold State.cleanReel
  exact hk.same

theorem Keeps.execReelClearDone {s₀ s : State} (hk : Keeps s₀ s) {channel : Fin 256} {buf : Fin 2} :
    Completes s₀ (execReelClearDone channel buf s) := by
  unfold Machine.execReelClearDone
  exact .ite (.next (Keeps.ite hk.cleanReel hk).setReel) (.next (Keeps.ite hk.cleanReel hk).setReel)

theorem Keeps.sumsInterval {s₀ s : State} (hk : Keeps s₀ s) : Keeps s₀ (s.sumsInterval) := by
  unfold State.sumsInterval
  exact .ite hk.same hk

theorem Keeps.oweReel {s₀ s : State} (hk : Keeps s₀ s) {g b : Nat} : Keeps s₀ (s.oweReel g b) := by
  unfold State.oweReel
  exact hk.setOwed.noteQuiet

theorem Keeps.dispatch {s₀ s : State} (hk : Keeps s₀ s) {d : Descriptor} : Keeps s₀ (s.dispatch d) := by
  unfold State.dispatch
  exact .ite hk.releaseUnprocessed (by split; exacts [hk.postTo, hk.same])

theorem Keeps.execMrevSumBuild {s₀ s : State} (hk : Keeps s₀ s) : Completes s₀ (execMrevSumBuild s) := by
  unfold Machine.execMrevSumBuild
  split
  · exact .next hk
  · extract_lets _ s1 _ s2 s3
    have h1 : Keeps s₀ s1 := hk.same.sumsInterval
    have h2 : Keeps s₀ s2 := h1.same
    have h3 : Keeps s₀ s3 := h2.oweReel.spokeFor
    clear_value s3 s2 s1
    exact .ite (.next h1) (.ite (.next h1.count.raiseMs) (.next h3.dispatch))

theorem Keeps.execMrevConfigWrite {s₀ s : State} (hk : Keeps s₀ s) {req : Requester} {tag key : Nat} {value : List Byte} :
    Completes s₀ (execMrevConfigWrite req tag key value s) := by
  unfold Machine.execMrevConfigWrite
  exact .ite (.next hk.koaWriteOf) (.next hk)

theorem Keeps.execEgoStale {s₀ s : State} (hk : Keeps s₀ s) : Completes s₀ (execEgoStale s) := by
  unfold Machine.execEgoStale
  exact .ite (.next hk.same.raiseMs) (.next hk)

theorem Keeps.reloadMemory {s₀ s : State} (hk : Keeps s₀ s) {n : Nat} : Keeps s₀ (s.reloadMemory n) := by
  unfold State.reloadMemory
  exact hk.same

theorem Keeps.raiseSe {s₀ s : State} (hk : Keeps s₀ s) {n cause : Nat} : Keeps s₀ (s.raiseSe n cause) := by
  unfold State.raiseSe
  exact hk.raiseLimited

theorem Keeps.offline {s₀ s : State} (hk : Keeps s₀ s) {n : Nat} : Keeps s₀ (s.offline n) := by
  unfold State.offline
  exact ((hk.setEngine.raise.foldl fun _ _ k => k.releaseUnprocessed).foldl fun _ _ k => k.dispatch)

theorem Keeps.seFault {s₀ s : State} (hk : Keeps s₀ s) {n cause : Nat} : Keeps s₀ (s.seFault n cause) := by
  unfold State.seFault
  exact .ite hk.reloadMemory.loseOpen.count.raiseSe.offline hk.reloadMemory.loseOpen.count.raiseSe.setEngine

theorem Keeps.engineFault {s₀ s : State} (hk : Keeps s₀ s) {n cause : Nat} : Keeps s₀ (s.engineFault n cause) := by
  unfold State.engineFault
  exact .ite hk.seFault hk.same.trip

theorem Keeps.traceFlow {s₀ s : State} (hk : Keeps s₀ s) {n was : Nat} {irq : Option Nat} : Keeps s₀ (s.traceFlow n was irq) := by
  unfold State.traceFlow
  exact .ite hk.traceSend hk

theorem Keeps.modEngine {s₀ s : State} (hk : Keeps s₀ s) {n : Nat} {f : Engine → Engine} : Keeps s₀ (s.modEngine n f) := by
  unfold State.modEngine
  exact hk.setEngine

theorem Keeps.issue {b s : State} (h : Keeps b s) {n : Nat} {c : InstrClass} {body : State → Except Nat State}
    (hb : ∀ t, Keeps b t → KeepsOk b (body t)) : Keeps b (s.issue n c body) := by
  unfold State.issue
  refine .ite h (.ite h.engineFault (.ite h.engineFault (.ite h.engineFault ?_)))
  split
  · exact h.engineFault
  next hr => exact (hb _ h.setEngine _ hr).modEngine.traceFlow

theorem Keeps.ranged {b s : State} (h : Keeps b s) {d : Descriptor} {l : List Centroid} : Keeps b (s.ranged d l).2 := by
  induction l generalizing s with
  | nil => exact h
  | cons x l ih => exact ih h.draw

theorem Keeps.kernelPoints {s₀ s : State} (hk : Keeps s₀ s) {d : Descriptor} : Keeps s₀ (s.kernelPoints d).2 := by
  unfold State.kernelPoints
  exact hk.ranged

theorem Keeps.seenBy {s₀ s : State} (hk : Keeps s₀ s) {n : Nat} : Keeps s₀ (s.seenBy n) := by
  unfold State.seenBy
  exact (hk.foldl fun _ _ k => k.set.setBlk)

theorem Keeps.tallyReel {s₀ s : State} (hk : Keeps s₀ s) {d : Descriptor} {l : List Centroid} : Keeps s₀ (s.tallyReel d l) := by
  unfold State.tallyReel
  split
  exacts [(.ite hk.same hk), hk]

theorem Keeps.openSlot {s₀ s : State} (hk : Keeps s₀ s) {n b : Nat} : Keeps s₀ (s.openSlot n b) := by
  unfold State.openSlot
  extract_lets _ s1
  split
  exacts [(.ite hk.modEngine.tallyReel.same.modEngine hk.modEngine), hk.modEngine]

theorem Keeps.mbxNext {s₀ s : State} (hk : Keeps s₀ s) {n : Nat} : Keeps s₀ (s.mbxNext n).2 := by
  unfold State.mbxNext
  extract_lets _
  split
  exacts [hk, (by split; exacts [hk.openSlot, hk])]

theorem Keeps.ioRead {s₀ s : State} (hk : Keeps s₀ s) {n a : Nat} : Keeps s₀ (s.ioRead n a).2 := by
  have hite : ∀ {c : Prop} [Decidable c] {p q : Nat × State}, Keeps s₀ p.2 → Keeps s₀ q.2 → Keeps s₀ (if c then p else q).2 := by
    intro c _ p q hp hq
    split
    · exact hp
    · exact hq
  unfold State.ioRead
  exact hite hk.draw (hite hk (hite hk.mbxNext (hite hk (hite hk (hite hk (hite hk (hite hk (hite hk (hite hk (hite hk (hite hk
    (hite hk (hite hk (hite hk (hite hk hk.draw)))))))))))))))

theorem Keeps.read16 {b s : State} (h : Keeps b s) {n a : Nat} : KeepsRead b (s.read16 n a) := by
  unfold State.read16
  exact .ite .error (.ite .error (.ite (.ok h) (.ite (.ok h) (.ite (.ok h) (.ok h.ioRead)))))

theorem Keeps.read32 {b s : State} (h : Keeps b s) {n a : Nat} : KeepsRead b (s.read32 n a) := by
  unfold State.read32
  refine .ite .error ?_
  split
  · exact .error
  next hh =>
    split
    · exact .error
    next y hl =>
      have hy : Keeps b y.2 := (h.read16 _ hh).read16 _ hl
      exact .ok hy

theorem Keeps.move {b s : State} (h : Keeps b s) {n f base : Nat} : KeepsOk b (s.move n f base) := by
  unfold State.move
  refine .ite (.ok h) ?_
  dsimp only
  split
  · exact .error
  next hr => exact .ok (h.read32 _ hr).modEngine

theorem Keeps.moves {b s : State} (h : Keeps b s) {n w : Nat} : KeepsOk b (s.moves n w) := by
  unfold State.moves
  refine .ite .error ?_
  split
  · exact .error
  next hr => exact (h.move _ hr).move

theorem Keeps.drawBit {s₀ s : State} (hk : Keeps s₀ s) : Keeps s₀ (s.drawBit).2 := by
  unfold State.drawBit
  exact hk.same

theorem Keeps.putAcc {s₀ s : State} (hk : Keeps s₀ s) {n : Nat} {b : Bool} {v : Int} : Keeps s₀ (s.putAcc n b v) := by
  unfold State.putAcc
  extract_lets _ _ _ s1
  split
  exacts [hk.drawBit.modEngine.modEngine, hk.drawBit.modEngine]

theorem Keeps.multiply {b s : State} (h : Keeps b s) {n w : Nat} {accumulate sa sb : Bool} :
    KeepsOk b (s.multiply n w accumulate sa sb) := by
  unfold State.multiply
  split
  · exact .error
  next hr => exact .ok (h.moves _ hr).putAcc

theorem Keeps.execSeMac {s₀ s : State} (hk : Keeps s₀ s) {eng : Fin 34} {w : BitVec 26} : Completes s₀ (execSeMac eng w s) := by
  unfold Machine.execSeMac
  exact .next (hk.issue fun _ k => k.multiply)

theorem Keeps.execSeMpy {s₀ s : State} (hk : Keeps s₀ s) {eng : Fin 34} {w : BitVec 26} : Completes s₀ (execSeMpy eng w s) := by
  unfold Machine.execSeMpy
  exact .next (hk.issue fun _ k => k.multiply)

theorem Keeps.execSeMacu {s₀ s : State} (hk : Keeps s₀ s) {eng : Fin 34} {w : BitVec 26} : Completes s₀ (execSeMacu eng w s) := by
  unfold Machine.execSeMacu
  exact .next (hk.issue fun _ k => k.multiply)

theorem Keeps.execSeMacsu {s₀ s : State} (hk : Keeps s₀ s) {eng : Fin 34} {w : BitVec 26} : Completes s₀ (execSeMacsu eng w s) := by
  unfold Machine.execSeMacsu
  exact .next (hk.issue fun _ k => k.multiply)

theorem Keeps.execSeMove {s₀ s : State} (hk : Keeps s₀ s) {eng : Fin 34} {w : BitVec 26} : Completes s₀ (execSeMove eng w s) := by
  unfold Machine.execSeMove
  exact .next (hk.issue fun _ k => k.moves)

theorem Keeps.pickWord {s₀ s : State} (hk : Keeps s₀ s) {o : Option Nat} : Keeps s₀ (s.pickWord o).2 := by
  unfold State.pickWord
  split
  exacts [hk, hk.draw]

theorem Keeps.pickBit {s₀ s : State} (hk : Keeps s₀ s) {o : Option Bool} : Keeps s₀ (s.pickBit o).2 := by
  unfold State.pickBit
  split
  exacts [hk, hk.drawBit]

theorem Keeps.putAlu {s₀ s : State} (hk : Keeps s₀ s) {n : Nat} {dst : Option Nat} {o : AluOut} : Keeps s₀ (s.putAlu n dst o) := by
  unfold State.putAlu
  exact hk.pickWord.pickBit.pickBit.modEngine

theorem Keeps.aluA {b s : State} (h : Keeps b s) {n w : Nat} {op : Nat → Nat → AluOut} : KeepsOk b (s.aluA n w op) := by
  unfold State.aluA
  split
  · exact .error
  next hr => exact .ok (h.moves _ hr).putAlu

theorem Keeps.execSeAdd {s₀ s : State} (hk : Keeps s₀ s) {eng : Fin 34} {w : BitVec 26} : Completes s₀ (execSeAdd eng w s) := by
  unfold Machine.execSeAdd
  exact .next (hk.issue fun _ k => k.aluA)

theorem Keeps.execSeSub {s₀ s : State} (hk : Keeps s₀ s) {eng : Fin 34} {w : BitVec 26} : Completes s₀ (execSeSub eng w s) := by
  unfold Machine.execSeSub
  exact .next (hk.issue fun _ k => k.aluA)

theorem Keeps.execSeAnd {s₀ s : State} (hk : Keeps s₀ s) {eng : Fin 34} {w : BitVec 26} : Completes s₀ (execSeAnd eng w s) := by
  unfold Machine.execSeAnd
  exact .next (hk.issue fun _ k => k.aluA)

theorem Keeps.execSeOr {s₀ s : State} (hk : Keeps s₀ s) {eng : Fin 34} {w : BitVec 26} : Completes s₀ (execSeOr eng w s) := by
  unfold Machine.execSeOr
  exact .next (hk.issue fun _ k => k.aluA)

theorem Keeps.execSeXor {s₀ s : State} (hk : Keeps s₀ s) {eng : Fin 34} {w : BitVec 26} : Completes s₀ (execSeXor eng w s) := by
  unfold Machine.execSeXor
  exact .next (hk.issue fun _ k => k.aluA)

theorem Keeps.execSeMin {s₀ s : State} (hk : Keeps s₀ s) {eng : Fin 34} {w : BitVec 26} : Completes s₀ (execSeMin eng w s) := by
  unfold Machine.execSeMin
  exact .next (hk.issue fun _ k => k.aluA)

theorem Keeps.execSeMax {s₀ s : State} (hk : Keeps s₀ s) {eng : Fin 34} {w : BitVec 26} : Completes s₀ (execSeMax eng w s) := by
  unfold Machine.execSeMax
  exact .next (hk.issue fun _ k => k.aluA)

theorem Keeps.execSeShift {s₀ s : State} (hk : Keeps s₀ s) {eng : Fin 34} {w : BitVec 26} : Completes s₀ (execSeShift eng w s) := by
  unfold Machine.execSeShift
  exact .next (hk.issue fun _ k => k.aluA)

theorem Keeps.accOp {b s : State} (h : Keeps b s) {n w : Nat} {f : Int → Int → Nat → Int} : KeepsOk b (s.accOp n w f) := by
  unfold State.accOp
  split
  · exact .error
  next hr => exact .ok (h.moves _ hr).putAcc

theorem Keeps.execSeAdda {s₀ s : State} (hk : Keeps s₀ s) {eng : Fin 34} {w : BitVec 26} : Completes s₀ (execSeAdda eng w s) := by
  unfold Machine.execSeAdda
  exact .next (hk.issue fun _ k => k.accOp)

theorem Keeps.execSeSuba {s₀ s : State} (hk : Keeps s₀ s) {eng : Fin 34} {w : BitVec 26} : Completes s₀ (execSeSuba eng w s) := by
  unfold Machine.execSeSuba
  exact .next (hk.issue fun _ k => k.accOp)

theorem Keeps.execSeShla {s₀ s : State} (hk : Keeps s₀ s) {eng : Fin 34} {w : BitVec 26} : Completes s₀ (execSeShla eng w s) := by
  unfold Machine.execSeShla
  exact .next (hk.issue fun _ k => k.accOp)

theorem Keeps.execSeShra {s₀ s : State} (hk : Keeps s₀ s) {eng : Fin 34} {w : BitVec 26} : Completes s₀ (execSeShra eng w s) := by
  unfold Machine.execSeShra
  exact .next (hk.issue fun _ k => k.accOp)

theorem Keeps.moveAcc {b s : State} (h : Keeps b s) {n w : Nat} : KeepsOk b (s.moveAcc n w) := by
  unfold State.moveAcc
  split
  · exact .error
  next hr => exact .ok (h.moves _ hr).modEngine

theorem Keeps.execSeMova {s₀ s : State} (hk : Keeps s₀ s) {eng : Fin 34} {w : BitVec 26} : Completes s₀ (execSeMova eng w s) := by
  unfold Machine.execSeMova
  exact .next (hk.issue fun _ k => k.moveAcc)

theorem Keeps.moveAccHigh {b s : State} (h : Keeps b s) {n w : Nat} : KeepsOk b (s.moveAccHigh n w) := by
  unfold State.moveAccHigh
  split
  · exact .error
  next hr => exact .ok (h.moves _ hr).modEngine

theorem Keeps.execSeMovah {s₀ s : State} (hk : Keeps s₀ s) {eng : Fin 34} {w : BitVec 26} : Completes s₀ (execSeMovah eng w s) := by
  unfold Machine.execSeMovah
  exact .next (hk.issue fun _ k => k.moveAccHigh)

theorem Keeps.execSeClra {s₀ s : State} (hk : Keeps s₀ s) {eng : Fin 34} {w : BitVec 26} : Completes s₀ (execSeClra eng w s) := by
  unfold Machine.execSeClra
  exact .next (hk.issue fun _ k => k.accOp)

theorem Keeps.immOp {b s : State} (h : Keeps b s) {n w : Nat} {f : Engine → Nat → Nat → Engine} : KeepsOk b (s.immOp n w f) := by
  unfold State.immOp
  exact .ite .error (.ok h.modEngine)

theorem Keeps.execSeMovi {s₀ s : State} (hk : Keeps s₀ s) {eng : Fin 34} {w : BitVec 26} : Completes s₀ (execSeMovi eng w s) := by
  unfold Machine.execSeMovi
  exact .next (hk.issue fun _ k => k.immOp)

theorem Keeps.execSeMovih {s₀ s : State} (hk : Keeps s₀ s) {eng : Fin 34} {w : BitVec 26} : Completes s₀ (execSeMovih eng w s) := by
  unfold Machine.execSeMovih
  exact .next (hk.issue fun _ k => k.immOp)

theorem Keeps.addImm {b s : State} (h : Keeps b s) {n w : Nat} : KeepsOk b (s.addImm n w) := by
  unfold State.addImm
  dsimp only
  split
  · exact .error
  · exact .ok (.ite h.putAcc h.putAlu)

theorem Keeps.execSeAddi {s₀ s : State} (hk : Keeps s₀ s) {eng : Fin 34} {w : BitVec 26} : Completes s₀ (execSeAddi eng w s) := by
  unfold Machine.execSeAddi
  exact .next (hk.issue fun _ k => k.addImm)

theorem Keeps.cmpImm {b s : State} (h : Keeps b s) {n w : Nat} : KeepsOk b (s.cmpImm n w) := by
  unfold State.cmpImm
  dsimp only
  split
  · exact .error
  · exact .ite (.ok h.drawBit.modEngine) (.ok h.putAlu)

theorem Keeps.execSeCmpi {s₀ s : State} (hk : Keeps s₀ s) {eng : Fin 34} {w : BitVec 26} : Completes s₀ (execSeCmpi eng w s) := by
  unfold Machine.execSeCmpi
  exact .next (hk.issue fun _ k => k.cmpImm)

theorem Keeps.aluR {b s : State} (h : Keeps b s) {n w : Nat} {writes : Bool} {op : Nat → Nat → AluOut} :
    KeepsOk b (s.aluR n w writes op) := by
  unfold State.aluR
  exact .ite .error (.ok h.putAlu)

theorem Keeps.execSeAluAdd {s₀ s : State} (hk : Keeps s₀ s) {eng : Fin 34} {w : BitVec 26} : Completes s₀ (execSeAluAdd eng w s) := by
  unfold Machine.execSeAluAdd
  exact .next (hk.issue fun _ k => k.aluR)

theorem Keeps.execSeAluSub {s₀ s : State} (hk : Keeps s₀ s) {eng : Fin 34} {w : BitVec 26} : Completes s₀ (execSeAluSub eng w s) := by
  unfold Machine.execSeAluSub
  exact .next (hk.issue fun _ k => k.aluR)

theorem Keeps.execSeAluAnd {s₀ s : State} (hk : Keeps s₀ s) {eng : Fin 34} {w : BitVec 26} : Completes s₀ (execSeAluAnd eng w s) := by
  unfold Machine.execSeAluAnd
  exact .next (hk.issue fun _ k => k.aluR)

theorem Keeps.execSeAluOr {s₀ s : State} (hk : Keeps s₀ s) {eng : Fin 34} {w : BitVec 26} : Completes s₀ (execSeAluOr eng w s) := by
  unfold Machine.execSeAluOr
  exact .next (hk.issue fun _ k => k.aluR)

theorem Keeps.execSeAluXor {s₀ s : State} (hk : Keeps s₀ s) {eng : Fin 34} {w : BitVec 26} : Completes s₀ (execSeAluXor eng w s) := by
  unfold Machine.execSeAluXor
  exact .next (hk.issue fun _ k => k.aluR)

theorem Keeps.execSeAluMin {s₀ s : State} (hk : Keeps s₀ s) {eng : Fin 34} {w : BitVec 26} : Completes s₀ (execSeAluMin eng w s) := by
  unfold Machine.execSeAluMin
  exact .next (hk.issue fun _ k => k.aluR)

theorem Keeps.execSeAluMax {s₀ s : State} (hk : Keeps s₀ s) {eng : Fin 34} {w : BitVec 26} : Completes s₀ (execSeAluMax eng w s) := by
  unfold Machine.execSeAluMax
  exact .next (hk.issue fun _ k => k.aluR)

theorem Keeps.execSeAluShift {s₀ s : State} (hk : Keeps s₀ s) {eng : Fin 34} {w : BitVec 26} : Completes s₀ (execSeAluShift eng w s) := by
  unfold Machine.execSeAluShift
  exact .next (hk.issue fun _ k => k.aluR)

theorem Keeps.execSeAluCmp {s₀ s : State} (hk : Keeps s₀ s) {eng : Fin 34} {w : BitVec 26} : Completes s₀ (execSeAluCmp eng w s) := by
  unfold Machine.execSeAluCmp
  exact .next (hk.issue fun _ k => k.aluR)

theorem Keeps.execSeAluAbs {s₀ s : State} (hk : Keeps s₀ s) {eng : Fin 34} {w : BitVec 26} : Completes s₀ (execSeAluAbs eng w s) := by
  unfold Machine.execSeAluAbs
  exact .next (hk.issue fun _ k => k.aluR)

theorem Keeps.execSeAluNeg {s₀ s : State} (hk : Keeps s₀ s) {eng : Fin 34} {w : BitVec 26} : Completes s₀ (execSeAluNeg eng w s) := by
  unfold Machine.execSeAluNeg
  exact .next (hk.issue fun _ k => k.aluR)

theorem Keeps.execSeAluClz {s₀ s : State} (hk : Keeps s₀ s) {eng : Fin 34} {w : BitVec 26} : Completes s₀ (execSeAluClz eng w s) := by
  unfold Machine.execSeAluClz
  exact .next (hk.issue fun _ k => k.aluR)

theorem Keeps.execSeAluMinu {s₀ s : State} (hk : Keeps s₀ s) {eng : Fin 34} {w : BitVec 26} : Completes s₀ (execSeAluMinu eng w s) := by
  unfold Machine.execSeAluMinu
  exact .next (hk.issue fun _ k => k.aluR)

theorem Keeps.execSeAluMaxu {s₀ s : State} (hk : Keeps s₀ s) {eng : Fin 34} {w : BitVec 26} : Completes s₀ (execSeAluMaxu eng w s) := by
  unfold Machine.execSeAluMaxu
  exact .next (hk.issue fun _ k => k.aluR)

theorem Keeps.load16 {b s : State} (h : Keeps b s) {n w : Nat} {f : Nat → Int} : KeepsOk b (s.load16 n w f) := by
  unfold State.load16
  refine .ite .error ?_
  dsimp only
  split
  · exact .error
  next hr => exact .ok (h.read16 _ hr).modEngine

theorem Keeps.execSeLdW {s₀ s : State} (hk : Keeps s₀ s) {eng : Fin 34} {w : BitVec 26} : Completes s₀ (execSeLdW eng w s) := by
  unfold Machine.execSeLdW
  exact .next (hk.issue fun _ k => k.load16)

theorem Keeps.execSeLdUw {s₀ s : State} (hk : Keeps s₀ s) {eng : Fin 34} {w : BitVec 26} : Completes s₀ (execSeLdUw eng w s) := by
  unfold Machine.execSeLdUw
  exact .next (hk.issue fun _ k => k.load16)

theorem Keeps.load32 {b s : State} (h : Keeps b s) {n w : Nat} : KeepsOk b (s.load32 n w) := by
  unfold State.load32
  refine .ite .error ?_
  dsimp only
  split
  · exact .error
  next hr => exact .ok (h.read32 _ hr).modEngine

theorem Keeps.execSeLdL {s₀ s : State} (hk : Keeps s₀ s) {eng : Fin 34} {w : BitVec 26} : Completes s₀ (execSeLdL eng w s) := by
  unfold Machine.execSeLdL
  exact .next (hk.issue fun _ k => k.load32)

theorem Keeps.setX {s₀ s : State} (hk : Keeps s₀ s) {n a v : Nat} : Keeps s₀ (s.setX n a v) := by
  unfold State.setX
  exact hk.setEngine

theorem Keeps.releaseSlot {s₀ s : State} (hk : Keeps s₀ s) {n b : Nat} : Keeps s₀ (s.releaseSlot n b) := by
  unfold State.releaseSlot
  extract_lets _ _ s1 s2 s3
  have h3 : Keeps s₀ s3 := .ite hk.setEngine.count.count hk.setEngine.count
  split
  exacts [hk, h3.assembleReel.releaseReel]

theorem Keeps.mbxRelease {b s : State} (h : Keeps b s) {n v : Nat} : KeepsOk b (s.mbxRelease n v) := by
  unfold State.mbxRelease
  dsimp only
  split
  · exact .error
  · exact .ite (.ok (.ite h.setEngine h.releaseSlot)) .error

theorem Keeps.appendPoint {s₀ s : State} (hk : Keeps s₀ s) {n b r : Nat} : Keeps s₀ (s.appendPoint n b r) := by
  unfold State.appendPoint
  exact .ite hk.modEngine hk.count

theorem Keeps.ptOut {b s : State} (h : Keeps b s) {n i v : Nat} : KeepsOk b (s.ptOut n i v) := by
  unfold State.ptOut
  dsimp only
  split
  · exact .error
  · exact .ok (.ite h.setEngine.appendPoint h.setEngine)

theorem Keeps.dmaCtrl {s₀ s : State} (hk : Keeps s₀ s) {n v : Nat} : Keeps s₀ (s.dmaCtrl n v) := by
  unfold State.dmaCtrl
  exact .ite (.ite hk.setEngine hk.setEngine) hk

theorem Keeps.setTimerCmp {s₀ s : State} (hk : Keeps s₀ s) {n v : Nat} : Keeps s₀ (s.setTimerCmp n v) := by
  unfold State.setTimerCmp
  exact hk.modEngine

theorem Keeps.ioWrite {b s : State} (h : Keeps b s) {n a v : Nat} : KeepsOk b (s.ioWrite n a v) := by
  unfold State.ioWrite
  exact .ite (.ok h) (.ite h.mbxRelease (.ite h.ptOut (.ite (.ok h.setEngine) (.ite (.ok h.setEngine) (.ite (.ok h.setEngine)
    (.ite (.ok h.setEngine) (.ite (.ok h.setEngine) (.ite (.ok h.dmaCtrl) (.ite (.ok h.setTimerCmp) (.ite (.ok h.setTimerCmp)
      (.ok h)))))))))))

theorem Keeps.write16 {b s : State} (h : Keeps b s) {n a v : Nat} : KeepsOk b (s.write16 n a v) := by
  unfold State.write16
  exact .ite .error (.ite (.ok h.setX) (.ite (.ok h.setY) (.ite .error h.ioWrite)))

theorem Keeps.store16 {b s : State} (h : Keeps b s) {n w : Nat} : KeepsOk b (s.store16 n w) := by
  unfold State.store16
  dsimp only
  split
  · exact .error
  · split
    · exact .error
    next hr => exact .ok (h.write16 _ hr).modEngine

theorem Keeps.execSeStW {s₀ s : State} (hk : Keeps s₀ s) {eng : Fin 34} {w : BitVec 26} : Completes s₀ (execSeStW eng w s) := by
  unfold Machine.execSeStW
  exact .next (hk.issue fun _ k => k.store16)

theorem Keeps.write32 {b s : State} (h : Keeps b s) {n a v : Nat} : KeepsOk b (s.write32 n a v) := by
  unfold State.write32
  refine .ite .error ?_
  split
  · exact .error
  next hr => exact (h.write16 _ hr).write16

theorem Keeps.store32 {b s : State} (h : Keeps b s) {n w : Nat} : KeepsOk b (s.store32 n w) := by
  unfold State.store32
  dsimp only
  split
  · exact .error
  · split
    · exact .error
    next hr => exact .ok (h.write32 _ hr).modEngine

theorem Keeps.execSeStL {s₀ s : State} (hk : Keeps s₀ s) {eng : Fin 34} {w : BitVec 26} : Completes s₀ (execSeStL eng w s) := by
  unfold Machine.execSeStL
  exact .next (hk.issue fun _ k => k.store32)

theorem Keeps.loadAddress {b s : State} (h : Keeps b s) {n w : Nat} : KeepsOk b (s.loadAddress n w) := by
  unfold State.loadAddress
  exact .ite .error (.ok h.modEngine)

theorem Keeps.execSeLea {s₀ s : State} (hk : Keeps s₀ s) {eng : Fin 34} {w : BitVec 26} : Completes s₀ (execSeLea eng w s) := by
  unfold Machine.execSeLea
  exact .next (hk.issue fun _ k => k.loadAddress)

theorem Keeps.readControl {b s : State} (h : Keeps b s) {n w : Nat} : KeepsOk b (s.readControl n w) := by
  unfold State.readControl
  split
  · exact .error
  · exact .ok h.modEngine

theorem Keeps.execSeMovcRead {s₀ s : State} (hk : Keeps s₀ s) {eng : Fin 34} {w : BitVec 26} : Completes s₀ (execSeMovcRead eng w s) := by
  unfold Machine.execSeMovcRead
  exact .next (hk.issue fun _ k => k.readControl)

theorem Keeps.setControl {b s : State} (h : Keeps b s) {n cr v : Nat} : KeepsOk b (s.setControl n cr v) := by
  unfold State.setControl
  exact .ite (.ok h.modEngine) (.ite (.ok h.modEngine) (.ite (.ok h.modEngine) (.ite (.ok h.modEngine) (.ite (.ok h.modEngine)
    (.ite (.ok h.modEngine) (.ite (.ok h.modEngine) (.ite (.ok h) .error)))))))

theorem Keeps.writeControl {b s : State} (h : Keeps b s) {n w : Nat} : KeepsOk b (s.writeControl n w) := by
  unfold State.writeControl
  exact h.setControl

theorem Keeps.execSeMovcWrite {s₀ s : State} (hk : Keeps s₀ s) {eng : Fin 34} {w : BitVec 26} : Completes s₀ (execSeMovcWrite eng w s) := by
  unfold Machine.execSeMovcWrite
  exact .next (hk.issue fun _ k => k.writeControl)

theorem Keeps.execSeMovcImmediate {s₀ s : State} (hk : Keeps s₀ s) {eng : Fin 34} {w : BitVec 26} :
    Completes s₀ (execSeMovcImmediate eng w s) := by
  unfold Machine.execSeMovcImmediate
  exact .next (hk.issue fun _ k => k.setControl)

theorem Keeps.execSeMovp {s₀ s : State} (hk : Keeps s₀ s) {eng : Fin 34} {w : BitVec 26} : Completes s₀ (execSeMovp eng w s) := by
  unfold Machine.execSeMovp
  exact .next (hk.issue fun _ k => (.ok k.modEngine))

theorem Keeps.execSeMovpi {s₀ s : State} (hk : Keeps s₀ s) {eng : Fin 34} {w : BitVec 26} : Completes s₀ (execSeMovpi eng w s) := by
  unfold Machine.execSeMovpi
  exact .next (hk.issue fun _ k => (.ok k.modEngine))

theorem Keeps.branchTo {b s : State} (h : Keeps b s) {n : Nat} {taken : Bool} {a : Nat} : KeepsOk b (s.branchTo n taken a) := by
  unfold State.branchTo
  exact .ite .error (.ok h.setEngine)

theorem Keeps.execSeB {s₀ s : State} (hk : Keeps s₀ s) {eng : Fin 34} {w : BitVec 26} : Completes s₀ (execSeB eng w s) := by
  unfold Machine.execSeB
  exact .next (hk.issue fun _ k => k.branchTo)

theorem Keeps.call {b s : State} (h : Keeps b s) {n w : Nat} : KeepsOk b (s.call n w) := by
  unfold State.call
  exact .ite .error h.setEngine.branchTo

theorem Keeps.execSeCall {s₀ s : State} (hk : Keeps s₀ s) {eng : Fin 34} {w : BitVec 26} : Completes s₀ (execSeCall eng w s) := by
  unfold Machine.execSeCall
  exact .next (hk.issue fun _ k => k.call)

theorem Keeps.execSeBr {s₀ s : State} (hk : Keeps s₀ s) {eng : Fin 34} {w : BitVec 26} : Completes s₀ (execSeBr eng w s) := by
  unfold Machine.execSeBr
  exact .next (hk.issue fun _ k => k.branchTo)

theorem Keeps.ret {b s : State} (h : Keeps b s) {n w : Nat} : KeepsOk b (s.ret n w) := by
  unfold State.ret
  dsimp only
  split
  · exact .error
  · exact h.setEngine.branchTo

theorem Keeps.execSeRet {s₀ s : State} (hk : Keeps s₀ s) {eng : Fin 34} {w : BitVec 26} : Completes s₀ (execSeRet eng w s) := by
  unfold Machine.execSeRet
  exact .next (hk.issue fun _ k => k.ret)

theorem Keeps.reti {b s : State} (h : Keeps b s) {n : Nat} : KeepsOk b (s.reti n) := by
  unfold State.reti
  exact .ite .error (.ite .error (.ok h.setEngine))

theorem Keeps.execSeReti {s₀ s : State} (hk : Keeps s₀ s) {eng : Fin 34} {_w : BitVec 26} : Completes s₀ (execSeReti eng _w s) := by
  unfold Machine.execSeReti
  exact .next (hk.issue fun _ k => k.reti)

theorem Keeps.breakLoop {b s : State} (h : Keeps b s) {n : Nat} : KeepsOk b (s.breakLoop n) := by
  unfold State.breakLoop
  refine .ite .error (.ite .error ?_)
  split
  · exact .ok h
  · exact .ok h.setEngine

theorem Keeps.execSeBreak {s₀ s : State} (hk : Keeps s₀ s) {eng : Fin 34} {_w : BitVec 26} : Completes s₀ (execSeBreak eng _w s) := by
  unfold Machine.execSeBreak
  exact .next (hk.issue fun _ k => k.breakLoop)

theorem Keeps.execSeRpt {s₀ s : State} (hk : Keeps s₀ s) {eng : Fin 34} {w : BitVec 26} : Completes s₀ (execSeRpt eng w s) := by
  unfold Machine.execSeRpt
  exact .next (hk.issue fun _ k => (.ok k.modEngine))

theorem Keeps.blockRepeat {b s : State} (h : Keeps b s) {n w : Nat} : KeepsOk b (s.blockRepeat n w) := by
  unfold State.blockRepeat
  exact .ite .error (.ite .error (.ite (.ok h.setEngine) (.ok h.setEngine)))

theorem Keeps.execSeBrpt {s₀ s : State} (hk : Keeps s₀ s) {eng : Fin 34} {w : BitVec 26} : Completes s₀ (execSeBrpt eng w s) := by
  unfold Machine.execSeBrpt
  exact .next (hk.issue fun _ k => k.blockRepeat)

theorem Keeps.execSeNop {s₀ s : State} (hk : Keeps s₀ s) {eng : Fin 34} : Completes s₀ (execSeNop eng s) := by
  unfold Machine.execSeNop
  exact .next (hk.issue fun _ k => (.ok k))

theorem Keeps.execSeWait {s₀ s : State} (hk : Keeps s₀ s) {eng : Fin 34} : Completes s₀ (execSeWait eng s) := by
  unfold Machine.execSeWait
  exact .next (hk.issue fun _ k => (.ok k.modEngine))

theorem Keeps.execSeIllegalOpcode {s₀ s : State} (hk : Keeps s₀ s) {eng : Fin 34} : Completes s₀ (execSeIllegalOpcode eng s) := by
  unfold Machine.execSeIllegalOpcode
  exact .next (hk.issue fun _ k => .error)

theorem Keeps.execSeRestartDone {s₀ s : State} (hk : Keeps s₀ s) {eng : Fin 32} : Completes s₀ (execSeRestartDone eng s) := by
  unfold Machine.execSeRestartDone
  exact .ite (.next hk.restartEngine) (.next hk)

theorem Keeps.execSeWatchdog {s₀ s : State} (hk : Keeps s₀ s) {eng : Fin 32} : Completes s₀ (execSeWatchdog eng s) := by
  unfold Machine.execSeWatchdog
  extract_lets _
  split
  exacts [(.ite (.next hk.setEngine) (.next hk)), (.next hk)]

theorem Keeps.execInterruptAccept {s₀ s : State} (hk : Keeps s₀ s) {eng : Fin 32} : Completes s₀ (execInterruptAccept eng s) := by
  unfold Machine.execInterruptAccept
  extract_lets _
  split
  exacts [(.ite (.next hk.setEngine.traceFlow) (.next hk)), (.next hk)]

theorem Keeps.pend {s₀ s : State} (hk : Keeps s₀ s) {n bit : Nat} : Keeps s₀ (s.pend n bit) := by
  unfold State.pend
  exact hk.setEngine

theorem Keeps.execTimerMatch {s₀ s : State} (hk : Keeps s₀ s) {eng : Fin 32} : Completes s₀ (execTimerMatch eng s) := by
  unfold Machine.execTimerMatch
  exact .ite (.next hk.setEngine.pend) (.next hk)

theorem Keeps.readWords {s₀ s : State} (hk : Keeps s₀ s) {ch buf : Nat} {p : Nat → Bool} : Keeps s₀ (s.readWords ch buf p) := by
  unfold State.readWords
  exact (hk.foldl fun _ _ k => k.zeroWord)

theorem Keeps.readReel {s₀ s : State} (hk : Keeps s₀ s) {d : Descriptor} {p : Nat → Bool} : Keeps s₀ (s.readReel d p) := by
  unfold State.readReel
  exact .ite hk.readWords hk

theorem Keeps.fillX {b s : State} (h : Keeps b s) {n a : Nat} {ws : List Nat} : Keeps b (s.fillX n a ws) := by
  induction ws generalizing s a with
  | nil => exact h
  | cons w ws ih => exact ih h.setX

theorem Keeps.putX {s₀ s : State} (hk : Keeps s₀ s) {n a : Nat} {ws : List Nat} : Keeps s₀ (s.putX n a ws) := by
  unfold State.putX
  exact hk.fillX.cleanSpan

theorem Keeps.slotReady {s₀ s : State} (hk : Keeps s₀ s) {n b : Nat} : Keeps s₀ (s.slotReady n b) := by
  unfold State.slotReady
  extract_lets _ _
  split
  exacts [(.ite hk.setEngine.readReel.putX.pend.same hk), hk]

theorem Keeps.execSlotReady {s₀ s : State} (hk : Keeps s₀ s) {eng : Fin 32} {slot : Fin 2} : Completes s₀ (execSlotReady eng slot s) := by
  unfold Machine.execSlotReady
  exact .next hk.slotReady

theorem Keeps.busOp {b s : State} (h : Keeps b s) {n : Nat} {r : Except Nat State} (hr : KeepsOk b r) : Keeps b (s.busOp n r) := by
  unfold State.busOp
  refine .ite ?_ h
  split
  · exact hr _ rfl
  · exact h.engineFault

theorem Keeps.execMbxNext {s₀ s : State} (hk : Keeps s₀ s) {eng : Fin 32} : Completes s₀ (execMbxNext eng s) := by
  unfold Machine.execMbxNext
  exact .next (hk.busOp (.ok hk.mbxNext))

theorem Keeps.execMbxRelease {s₀ s : State} (hk : Keeps s₀ s) {eng : Fin 32} {value : BitVec 16} :
    Completes s₀ (execMbxRelease eng value s) := by
  unfold Machine.execMbxRelease
  exact .next (hk.busOp hk.mbxRelease)

theorem Keeps.execPtOut {s₀ s : State} (hk : Keeps s₀ s) {eng : Fin 32} {n : Fin 8} {value : BitVec 16} :
    Completes s₀ (execPtOut eng n value s) := by
  unfold Machine.execPtOut
  exact .next (hk.busOp hk.ptOut)

theorem Keeps.execDmaCtrl {s₀ s : State} (hk : Keeps s₀ s) {eng : Fin 32} {value : BitVec 16} : Completes s₀ (execDmaCtrl eng value s) := by
  unfold Machine.execDmaCtrl
  exact .next (hk.busOp (.ok hk.dmaCtrl))

theorem Keeps.putLocal {s₀ s : State} (hk : Keeps s₀ s) {n a : Nat} {ws : List Nat} : Keeps s₀ (s.putLocal n a ws) := by
  unfold State.putLocal
  exact .ite hk.putX hk.putY

theorem Keeps.putDdr {b s : State} (h : Keeps b s) {a : Nat} {ws : List Nat} : Keeps b (s.putDdr a ws) := by
  induction ws generalizing s a with
  | nil => exact h
  | cons w ws ih => exact ih h.same

theorem Keeps.dmaMove {s₀ s : State} (hk : Keeps s₀ s) {n src dst len : Nat} : Keeps s₀ (s.dmaMove n src dst len) := by
  unfold State.dmaMove
  extract_lets _ _
  exact .ite (by split; exacts [hk.readReel.putLocal, hk]) (.ite hk.putLocal hk.putDdr)

theorem Keeps.releaseAfterDma {s₀ s : State} (hk : Keeps s₀ s) {n : Nat} : Keeps s₀ (s.releaseAfterDma n) := by
  unfold State.releaseAfterDma
  split
  exacts [(.ite hk.releaseSlot hk), hk]

theorem Keeps.dmaDone {b s : State} (h : Keeps b s) {n : Nat} : KeepsOk b (s.dmaDone n) := by
  unfold State.dmaDone
  split
  · exact .ok h
  · exact .ite (.ok h) (.ite .error (.ok h.dmaMove.modEngine.pend.releaseAfterDma))

theorem Keeps.execDmaDone {s₀ s : State} (hk : Keeps s₀ s) {eng : Fin 32} : Completes s₀ (execDmaDone eng s) := by
  unfold Machine.execDmaDone
  exact .next (hk.busOp hk.dmaDone)

theorem Keeps.execKernelSelect {s₀ s : State} (hk : Keeps s₀ s) {req : Requester} {tag value : Nat} :
    Completes s₀ (execKernelSelect req tag value s) := by
  unfold Machine.execKernelSelect
  exact .next hk.koaSet

theorem Keeps.execKernelParamDeliver {s₀ s : State} (hk : Keeps s₀ s) {eng : Fin 32} : Completes s₀ (execKernelParamDeliver eng s) := by
  unfold Machine.execKernelParamDeliver
  exact .ite (.next hk) (.next (hk.setEngine.foldl fun _ _ k => k.putY))

theorem Keeps.execSeEnableWrite {s₀ s : State} (hk : Keeps s₀ s) {req : Requester} {tag : Nat} {eng : Fin 32} {value : Nat} :
    Completes s₀ (execSeEnableWrite req tag eng value s) := by
  unfold Machine.execSeEnableWrite
  exact .next hk.koaSet

theorem Keeps.execSeQueueDrained {s₀ s : State} (hk : Keeps s₀ s) {eng : Fin 32} : Completes s₀ (execSeQueueDrained eng s) := by
  unfold Machine.execSeQueueDrained
  exact .ite (.next hk.setEngine) (.next hk)

theorem Keeps.execSpokeClose {s₀ s : State} (hk : Keeps s₀ s) : Completes s₀ (execSpokeClose s) := by
  unfold Machine.execSpokeClose
  exact .next hk.leave

theorem Keeps.execSpokeSplit {s₀ s : State} (hk : Keeps s₀ s) : Completes s₀ (execSpokeSplit s) := by
  unfold Machine.execSpokeSplit
  exact .next hk.leave

theorem Keeps.sendDigest {s₀ s : State} (hk : Keeps s₀ s) {dest : Nat} {m : OutMessage} : Keeps s₀ (s.sendDigest dest m) := by
  unfold State.sendDigest
  exact (hk.foldl fun _ _ k => k.sendUdp)

theorem Keeps.setGathered {s₀ s : State} (hk : Keeps s₀ s) {e1 : Bool} {g : EventGather} : Keeps s₀ (s.setGathered e1 g) := by
  unfold State.setGathered
  exact .ite hk.same hk.same

theorem Keeps.sendEvents {s₀ s : State} (hk : Keeps s₀ s) {dest : Nat} {m : OutMessage} : Keeps s₀ (s.sendEvents dest m) := by
  unfold State.sendEvents
  exact (Keeps.ite hk.setGathered hk).sendUdp

theorem Keeps.sendPiece {s₀ s : State} (hk :
    Keeps s₀ s) {dest : Nat} {queued m : OutMessage} {fragment count : Nat} {piece : Nat × List Byte} :
    Keeps s₀ (s.sendPiece dest queued m fragment count piece) := by
  unfold State.sendPiece
  exact .ite hk.countWrap.sendFrame hk.countWrap.sendUdpFrom

theorem Keeps.sendMessage {s₀ s : State} (hk : Keeps s₀ s) {dest : Nat} {m : OutMessage} : Keeps s₀ (s.sendMessage dest m) := by
  unfold State.sendMessage
  exact .ite hk.sendDigest (.ite hk.sendEvents (hk.same.foldl fun _ _ k => k.sendPiece))

theorem Keeps.execStreamMessageSend {s₀ s : State} (hk : Keeps s₀ s) {dest : Fin 3} : Completes s₀ (execStreamMessageSend dest s) := by
  unfold Machine.execStreamMessageSend
  extract_lets _
  exact .ite (by split; exacts [(.next hk), (.next (Keeps.ite hk hk.setOutQueue).sendMessage)]) (.next hk)

theorem Keeps.makeDigest {s₀ s : State} (hk : Keeps s₀ s) : Keeps s₀ (s.makeDigest) := by
  unfold State.makeDigest
  exact (Keeps.ite hk.setBlk.setOutQueue hk.setBlk).countWrap

theorem Keeps.execDailiesDigest {s₀ s : State} (hk : Keeps s₀ s) : Completes s₀ (execDailiesDigest s) := by
  unfold Machine.execDailiesDigest
  exact .ite (.next hk.same.makeDigest) (.next hk)

theorem Keeps.execExtrinsicsWrite {s₀ s : State} (hk : Keeps s₀ s) {req : Requester} {tag key : Nat} {value : List Byte} :
    Completes s₀ (execExtrinsicsWrite req tag key value s) := by
  unfold Machine.execExtrinsicsWrite
  exact .ite (.next hk.koaWriteOf) (.next hk)

theorem Keeps.execCalStartTdc {s₀ s : State} (hk : Keeps s₀ s) {req : Requester} {tag : Nat} :
    Completes s₀ (execCalStartTdc req tag s) := by
  unfold Machine.execCalStartTdc
  exact .next hk.koaSet

theorem Keeps.execCalStartThreshold {s₀ s : State} (hk : Keeps s₀ s) {req : Requester} {tag : Nat} :
    Completes s₀ (execCalStartThreshold req tag s) := by
  unfold Machine.execCalStartThreshold
  exact .next hk.koaSet

theorem Keeps.execCalStartRangeOffset {s₀ s : State} (hk : Keeps s₀ s) {req : Requester} {tag : Nat} :
    Completes s₀ (execCalStartRangeOffset req tag s) := by
  unfold Machine.execCalStartRangeOffset
  exact .next hk.koaSet

theorem Keeps.searchDac {s₀ s : State} (hk : Keeps s₀ s) {c : Nat} : Keeps s₀ (s.searchDac c) := by
  unfold State.searchDac
  exact hk.setRxChan

theorem Keeps.followSpans {s₀ s : State} (hk : Keeps s₀ s) : Keeps s₀ (s.followSpans) := by
  unfold State.followSpans
  exact ((hk.foldl fun _ _ k => k.applyDac).foldl fun _ _ k => k.searchDac)

theorem Keeps.setSpan {s₀ s : State} (hk : Keeps s₀ s) {u : Nat} {x : Bool} : Keeps s₀ (s.setSpan u x) := by
  unfold State.setSpan
  exact hk.same

theorem Keeps.execCalSpanStart {s₀ s : State} (hk : Keeps s₀ s) {unit : Fin 304} : Completes s₀ (execCalSpanStart unit s) := by
  unfold Machine.execCalSpanStart
  exact .next hk.setSpan.followSpans

theorem Keeps.execCalSpanEnd {s₀ s : State} (hk : Keeps s₀ s) {unit : Fin 304} : Completes s₀ (execCalSpanEnd unit s) := by
  unfold Machine.execCalSpanEnd
  exact .next hk.setSpan.followSpans

theorem Keeps.nextRepeat {s₀ s : State} (hk : Keeps s₀ s) {r : CalRun} {rep : CalRepeat} : Keeps s₀ (s.nextRepeat r rep) := by
  unfold State.nextRepeat
  exact hk.same

theorem Keeps.noteTable {s₀ s : State} (hk : Keeps s₀ s) {u : Nat} {rs : List CalRepeat} : Keeps s₀ (s.noteTable u rs) := by
  unfold State.noteTable
  exact hk.set.same

theorem Keeps.clearDue {s₀ s : State} (hk : Keeps s₀ s) {u kind : Nat} : Keeps s₀ (s.clearDue u kind) := by
  unfold State.clearDue
  exact .ite hk.set hk

theorem Keeps.acceptUnit {s₀ s : State} (hk : Keeps s₀ s) {u kind : Nat} {rs : List CalRepeat} : Keeps s₀ (s.acceptUnit u kind rs) := by
  unfold State.acceptUnit
  exact hk.setOutcome.clearDue.noteTable.raise

theorem Keeps.installRange {s₀ s : State} (hk : Keeps s₀ s) {c : Nat} {ps : List CalTally} : Keeps s₀ (s.installRange c ps) := by
  unfold State.installRange
  exact hk.set.same

theorem Keeps.judgeChannel {s₀ s : State} (hk : Keeps s₀ s) {r : CalRun} {c : Nat} {a b : CalRepeat} :
    Keeps s₀ (s.judgeChannel r c a b).2 := by
  unfold State.judgeChannel
  extract_lets _ _
  split
  exacts [hk.rejectUnit, (by split; exacts [hk.rejectUnit, hk.installRange.acceptUnit])]

theorem Keeps.alignChannel {s₀ s : State} (hk : Keeps s₀ s) {c : Nat} {rc rmax : Int} : Keeps s₀ (s.alignChannel c rc rmax) := by
  unfold State.alignChannel
  exact hk.set.set

theorem Keeps.alignGroups {s₀ s : State} (hk : Keeps s₀ s) {cs : List Nat} : Keeps s₀ (s.alignGroups cs) := by
  unfold State.alignGroups
  exact (hk.foldl fun _ _ k => k.alignChannel)

theorem Keeps.judgeRange {b s : State} (h : Keeps b s) {r : CalRun} {x y : CalRepeat} : Keeps b (s.judgeRange r x y) := by
  have hfold : ∀ (l : List Nat) (p : List Nat × State), Keeps b p.2 → Keeps b (l.foldl (fun (p : List Nat × State) c =>
      let q := p.2.judgeChannel r c x y
      (if q.1 then p.1 ++ [c] else p.1, q.2)) p).2 := by
    intro l
    induction l with
    | nil => exact fun p hp => hp
    | cons c l ih => exact fun p hp => ih _ hp.judgeChannel
  unfold State.judgeRange
  extract_lets units s1 z s2
  have hz : Keeps b z.2 := hfold units _ h.dropRun
  have h2 : Keeps b s2 := .ite hz.alignGroups hz
  exact h2.same.calJobCheck

theorem Keeps.rangeRepeat {s₀ s : State} (hk : Keeps s₀ s) {r : CalRun} {m : CalMeasure} : Keeps s₀ (s.rangeRepeat r m) := by
  unfold State.rangeRepeat
  extract_lets _ s1 _
  split
  exacts [hk.nextRepeat.same, hk.judgeRange]

theorem Keeps.failRun {s₀ s : State} (hk : Keeps s₀ s) {r : CalRun} {u code : Nat} : Keeps s₀ (s.failRun r u code) := by
  unfold State.failRun
  exact hk.dropRun.rejectUnit.calJobCheck

theorem Keeps.installTdc {s₀ s : State} (hk : Keeps s₀ s) {u : Nat} {a b : CalMeasure} : Keeps s₀ (s.installTdc u a b) := by
  unfold State.installTdc
  exact hk.same

theorem Keeps.installTrims {s₀ s : State} (hk : Keeps s₀ s) {u : Nat} {a b : CalMeasure} : Keeps s₀ (s.installTrims u a b) := by
  unfold State.installTrims
  exact hk.set.set.touchDac

theorem Keeps.installUnit {s₀ s : State} (hk : Keeps s₀ s) {u kind : Nat} {a b : CalMeasure} : Keeps s₀ (s.installUnit u kind a b) := by
  unfold State.installUnit
  exact .ite hk.installTdc hk.installTrims

theorem Keeps.judgeUnit {s₀ s : State} (hk : Keeps s₀ s) {r : CalRun} {u : Nat} {a b : CalRepeat} : Keeps s₀ (s.judgeUnit r u a b) := by
  unfold State.judgeUnit
  exact .ite hk.dropRun.installUnit.acceptUnit.calJobCheck hk.failRun

theorem Keeps.unitRepeat {s₀ s : State} (hk : Keeps s₀ s) {r : CalRun} {m : CalMeasure} : Keeps s₀ (s.unitRepeat r m) := by
  unfold State.unitRepeat
  extract_lets _ _
  exact .ite hk.failRun (by split; exacts [hk.nextRepeat, hk.judgeUnit])

theorem Keeps.execCalRepeatDone {s₀ s : State} (hk : Keeps s₀ s) {unit : Fin 305} {measure : CalMeasure} :
    Completes s₀ (execCalRepeatDone unit measure s) := by
  unfold Machine.execCalRepeatDone
  split
  exacts [(.next hk), (.ite (.next hk) (.ite (.next hk.rangeRepeat) (.next hk.unitRepeat)))]

theorem Keeps.execCalTdcTimeout {s₀ s : State} (hk : Keeps s₀ s) {unit : Fin 304} : Completes s₀ (execCalTdcTimeout unit s) := by
  unfold Machine.execCalTdcTimeout
  split
  exacts [(.next hk), (.ite (.next hk.failRun) (.next hk))]

theorem Keeps.becomeDue {s₀ s : State} (hk : Keeps s₀ s) {u : Nat} : Keeps s₀ (s.becomeDue u) := by
  unfold State.becomeDue
  exact .ite hk.setDue.setDue hk.setDue

theorem Keeps.execCalAgeExpiry {s₀ s : State} (hk : Keeps s₀ s) {unit : Fin 304} : Completes s₀ (execCalAgeExpiry unit s) := by
  unfold Machine.execCalAgeExpiry
  exact .ite (.next hk.becomeDue) (.next hk)

theorem Keeps.execCalOnlineStart {s₀ s : State} (hk : Keeps s₀ s) : Completes s₀ (execCalOnlineStart s) := by
  unfold Machine.execCalOnlineStart
  exact .ite (by split; exacts [(.next hk), (.next hk.startRun)]) (.next hk)

theorem Keeps.execCalOnlineWrite {s₀ s : State} (hk : Keeps s₀ s) {req : Requester} {tag value : Nat} :
    Completes s₀ (execCalOnlineWrite req tag value s) := by
  unfold Machine.execCalOnlineWrite
  exact .next hk.koaSet

theorem Keeps.hkBegin {s₀ s : State} (hk : Keeps s₀ s) {r : HkRun} : Keeps s₀ (s.hkBegin r) := by
  unfold State.hkBegin
  exact hk.same

theorem Keeps.execHkMeasurementStart {s₀ s : State} (hk : Keeps s₀ s) : Completes s₀ (execHkMeasurementStart s) := by
  unfold Machine.execHkMeasurementStart
  refine .ite ?_ ?_
  · split
    · exact .ite (.next hk.same.hkBegin) (.next hk)
    · split
      exacts [(.ite (.next hk.same.hkBegin) (.next hk)), (.next hk)]
  · exact .next hk

theorem Keeps.hkPut {s₀ s : State} (hk : Keeps s₀ s) {r : HkRun} : Keeps s₀ (s.hkPut r) := by
  unfold State.hkPut
  exact hk.same

theorem Keeps.execHkDischargeEnd {s₀ s : State} (hk : Keeps s₀ s) {m : Fin 16} : Completes s₀ (execHkDischargeEnd m s) := by
  unfold Machine.execHkDischargeEnd
  split
  exacts [(.ite (.next hk.hkPut) (.next hk)), (.next hk)]

theorem Keeps.execHkSettleEnd {s₀ s : State} (hk : Keeps s₀ s) {m : Fin 16} : Completes s₀ (execHkSettleEnd m s) := by
  unfold Machine.execHkSettleEnd
  split
  exacts [(.ite (.next hk.hkPut) (.next hk)), (.next hk)]

theorem Keeps.setFallback {s₀ s : State} (hk : Keeps s₀ s) {r : HkRun} {x : Bool} : Keeps s₀ (s.setFallback r x) := by
  unfold State.setFallback
  exact .ite hk.same.raiseHk hk.same

theorem Keeps.execHkPeriodStart {s₀ s : State} (hk : Keeps s₀ s) {m : Fin 16} : Completes s₀ (execHkPeriodStart m s) := by
  unfold Machine.execHkPeriodStart
  split
  · refine .ite ?_ ?_
    · refine .ite ?_ ?_
      · exact .next hk.hkPut
      · refine .ite ?_ ?_
        · split
          exacts [(.ite (.next hk.hkPut.setFallback) (.next hk)), (.next hk)]
        · exact .next hk.hkPut.setFallback
    · exact .next hk
  · exact .next hk

theorem Keeps.hkPeriodEvents {s₀ s : State} (hk : Keeps s₀ s) {m : Nat} {f : HkFlags} : Keeps s₀ (s.hkPeriodEvents m f) := by
  unfold State.hkPeriodEvents
  extract_lets s1 s2
  have h2 : Keeps s₀ s2 := .ite (Keeps.ite hk.raiseHk hk).raiseHk (.ite hk.raiseHk hk)
  exact .ite h2.raiseHk h2

theorem Keeps.startDie {s₀ s : State} (hk : Keeps s₀ s) {conv : Nat} : Keeps s₀ (s.startDie conv) := by
  unfold State.startDie
  exact hk.same

theorem Keeps.hkKeep {s₀ s : State} (hk : Keeps s₀ s) {r : HkRun} {range : Bool} : Keeps s₀ (s.hkKeep r range) := by
  unfold State.hkKeep
  exact .ite hk.set.count hk.set

theorem Keeps.hkNumber {s₀ s : State} (hk : Keeps s₀ s) {r : HkRun} : Keeps s₀ (s.hkNumber r).2 := by
  unfold State.hkNumber
  split
  exacts [(by split; exacts [hk, hk.draw]), hk.draw]

theorem Keeps.hkWrite {s₀ s : State} (hk : Keeps s₀ s) {r : HkRun} : Keeps s₀ (s.hkWrite r) := by
  unfold State.hkWrite
  exact .ite hk.hkNumber.set.set.same.raiseHk hk.hkNumber.set.set.same

theorem Keeps.releaseReadings {s₀ s : State} (hk : Keeps s₀ s) : Keeps s₀ (s.releaseReadings) := by
  unfold State.releaseReadings
  exact hk.same

theorem Keeps.hkResult {s₀ s : State} (hk : Keeps s₀ s) {r : HkRun} : Keeps s₀ (s.hkResult r) := by
  unfold State.hkResult
  extract_lets _ s1 s2
  have h2 : Keeps s₀ s2 := .ite (Keeps.ite hk.raiseHk hk).hkKeep (Keeps.ite hk.raiseHk hk).hkWrite
  exact .ite h2.raise.releaseReadings h2

theorem Keeps.execHkPeriodEnd {s₀ s : State} (hk : Keeps s₀ s) {m : Fin 16} {n1 ref1 : Nat} {flags : HkFlags} :
    Completes s₀ (execHkPeriodEnd m n1 ref1 flags s) := by
  unfold Machine.execHkPeriodEnd
  split
  · split
    · extract_lets _ _ s1 s2
      have h2 : Keeps s₀ s2 := (hk.hkPut.hkPeriodEvents.foldl fun _ _ k => k.startDie)
      exact .next (.ite h2.hkResult h2)
    · exact .next hk
  · exact .next hk

theorem Keeps.execHkUnlocked {s₀ s : State} (hk : Keeps s₀ s) {m : Fin 16} : Completes s₀ (execHkUnlocked m s) := by
  unfold Machine.execHkUnlocked
  split
  exacts [(.ite (.next hk.hkPut.setFallback) (.next hk)), (.next hk)]

theorem Keeps.endDie {s₀ s : State} (hk : Keeps s₀ s) {conv : Nat} : Keeps s₀ (s.endDie conv) := by
  unfold State.endDie
  exact .ite hk.same hk.same

theorem Keeps.hkAdvance {s₀ s : State} (hk : Keeps s₀ s) : Keeps s₀ (s.hkAdvance) := by
  unfold State.hkAdvance
  exact hk.same

theorem Keeps.noteTrimDue {s₀ s : State} (hk : Keeps s₀ s) {sensor : Nat} : Keeps s₀ (s.noteTrimDue sensor) := by
  unfold State.noteTrimDue
  exact .ite hk.raiseHk hk

theorem Keeps.driftDue {s₀ s : State} (hk : Keeps s₀ s) {sensor : Nat} : Keeps s₀ (s.driftDue sensor) := by
  unfold State.driftDue
  exact .ite (hk.foldl fun _ _ k => (.ite k.becomeDue k)) hk

theorem Keeps.execHkDieTempDone {s₀ s : State} (hk : Keeps s₀ s) {conv : Fin 2} {reading : Int} :
    Completes s₀ (execHkDieTempDone conv reading s) := by
  unfold Machine.execHkDieTempDone
  split
  exacts [(.ite (.next hk.set.endDie.same.driftDue.noteTrimDue.hkAdvance) (.next hk)), (.next hk)]

theorem Keeps.execHkInject {s₀ s : State} (hk : Keeps s₀ s) {req : Requester} {tag value : Nat} :
    Completes s₀ (execHkInject req tag value s) := by
  unfold Machine.execHkInject
  exact .next hk.koaSet

theorem Keeps.execFcGainApply {s₀ s : State} (hk : Keeps s₀ s) {input : Fin 3} : Completes s₀ (execFcGainApply input s) := by
  unfold Machine.execFcGainApply
  exact .ite (.next hk.same) (.next hk)

theorem Keeps.execFcTrim {s₀ s : State} (hk : Keeps s₀ s) {write : Option Requester} {tag value : Nat} :
    Completes s₀ (execFcTrim write tag value s) := by
  unfold Machine.execFcTrim
  split
  exacts [(.next hk.koaSet), (.ite (.next hk.startTrim) (.next hk))]

theorem Keeps.execFcTrimDone {s₀ s : State} (hk : Keeps s₀ s) {offset gain skew : Int} :
    Completes s₀ (execFcTrimDone offset gain skew s) := by
  unfold Machine.execFcTrimDone
  split
  exacts [(.ite (.next hk.set.set.set.same.raise) (.next hk)), (.next hk)]

theorem Keeps.execClockIncrementWrite {s₀ s : State} (hk : Keeps s₀ s) {req : Requester} {tag value : Nat} :
    Completes s₀ (execClockIncrementWrite req tag value s) := by
  unfold Machine.execClockIncrementWrite
  exact .next hk.koaSet

theorem Keeps.reportTimeout {s₀ s : State} (hk : Keeps s₀ s) {p : Nat} : Keeps s₀ (s.reportTimeout p) := by
  unfold State.reportTimeout
  exact .ite hk.setPtp.raise hk

theorem Keeps.reportOffset {s₀ s : State} (hk : Keeps s₀ s) {o : Int} : Keeps s₀ (s.reportOffset o) := by
  unfold State.reportOffset
  exact hk.raise

theorem Keeps.discontinuity {s₀ s : State} (hk : Keeps s₀ s) {o : Int} : Keeps s₀ (s.discontinuity o) := by
  unfold State.discontinuity
  exact hk.reportOffset.enterHoldover

theorem Keeps.countSync {s₀ s : State} (hk : Keeps s₀ s) {o : Int} : Keeps s₀ (s.countSync o) := by
  unfold State.countSync
  exact .ite hk.same.setClock hk.same

theorem Keeps.servoWrite {s₀ s : State} (hk : Keeps s₀ s) : Keeps s₀ (s.servoWrite) := by
  unfold State.servoWrite
  exact .ite hk.draw.setIncrement.same hk.draw.setIncrement

theorem Keeps.judgeOffset {s₀ s : State} (hk : Keeps s₀ s) {o : Int} : Keeps s₀ (s.judgeOffset o) := by
  unfold State.judgeOffset
  extract_lets _ s1 _
  split
  · exact .ite hk.same.set.askStep hk.same.set
  · exact hk.same.set
  · exact .ite hk.same.set.discontinuity (.ite hk.same.set.servoWrite.countSync hk.same.set)
  · exact .ite hk.same.set.discontinuity (.ite hk.same.set.servoWrite hk.same.set)
  · exact .ite hk.same.set.setClock (.ite hk.same.set.reportOffset hk.same.set)

theorem Keeps.moveServo {s₀ s : State} (hk : Keeps s₀ s) {p : Nat} : Keeps s₀ (s.moveServo p) := by
  unfold State.moveServo
  exact .ite hk hk.same.raise

theorem Keeps.validSync {s₀ s : State} (hk : Keeps s₀ s) {p id : Nat} {o : Int} : Keeps s₀ (s.validSync p id o) := by
  unfold State.validSync
  exact .ite hk.reportTimeout.setPtp.moveServo.noteGm.judgeOffset hk.reportTimeout.setPtp

theorem Keeps.execGptpSyncReceive {s₀ s : State} (hk : Keeps s₀ s) {port : Fin 2} {msg : GptpSync} :
    Completes s₀ (execGptpSyncReceive port msg s) := by
  unfold Machine.execGptpSyncReceive
  exact .ite (by split; exacts [(.ite (.next hk.setPtp) (.next hk.validSync)), (.next hk)]) (.next hk)

theorem Keeps.execGptpFollowUpReceive {s₀ s : State} (hk : Keeps s₀ s) {port : Fin 2} {msg : GptpFollowUp} :
    Completes s₀ (execGptpFollowUpReceive port msg s) := by
  unfold Machine.execGptpFollowUpReceive
  split
  exacts [(.ite (.next hk.setPtp.validSync) (.next hk)), (.next hk)]

theorem Keeps.sendPtp {s₀ s : State} (hk : Keeps s₀ s) {p : Nat} {bytes : List Byte} : Keeps s₀ (s.sendPtp p bytes) := by
  unfold State.sendPtp
  exact hk.transmit

theorem Keeps.execGptpPdelayReqReceive {s₀ s : State} (hk : Keeps s₀ s) {port : Fin 2} {msg : GptpPdelayReq} :
    Completes s₀ (execGptpPdelayReqReceive port msg s) := by
  unfold Machine.execGptpPdelayReqReceive
  exact .ite (.ite (.next hk.setPtp) (.next hk.sendPtp)) (.next hk)

theorem Keeps.setDelay {s₀ s : State} (hk : Keeps s₀ s) {p : Nat} {d : Int} : Keeps s₀ (s.setDelay p d) := by
  unfold State.setDelay
  exact hk.setPtp.set

theorem Keeps.execGptpPdelayRespReceive {s₀ s : State} (hk : Keeps s₀ s) {port : Fin 2} {msg : GptpPdelayResp} :
    Completes s₀ (execGptpPdelayRespReceive port msg s) := by
  unfold Machine.execGptpPdelayRespReceive
  extract_lets _ _
  refine .ite ?_ ?_
  · split
    · exact .next hk.setDelay
    · exact .next hk.setPtp
    · split
      exacts [(.next hk.setDelay), (.next hk)]
  · exact .next hk

theorem Keeps.execGptpAnnounceReceive {s₀ s : State} (hk : Keeps s₀ s) {port : Fin 2} {msg : GptpAnnounce} :
    Completes s₀ (execGptpAnnounceReceive port msg s) := by
  unfold Machine.execGptpAnnounceReceive
  exact .ite (.next hk.setPtp.selectGm) (.next hk)

theorem Keeps.execGptpSignalingReceive {s₀ s : State} (hk : Keeps s₀ s) {port : Fin 2} {msg : GptpSignaling} :
    Completes s₀ (execGptpSignalingReceive port msg s) := by
  unfold Machine.execGptpSignalingReceive
  exact .ite (.next hk.setPtp) (.next hk)

theorem Keeps.sendPdelayResp {s₀ s : State} (hk : Keeps s₀ s) {p : Nat} : Keeps s₀ (s.sendPdelayResp p) := by
  unfold State.sendPdelayResp
  split
  exacts [hk.setPtp.sendPtp, hk]

theorem Keeps.execGptpSyncTransmit {s₀ s : State} (hk : Keeps s₀ s) {port : Fin 2} {stamp : Nat} :
    Completes s₀ (execGptpSyncTransmit port stamp s) := by
  unfold Machine.execGptpSyncTransmit
  exact .ite (.next hk.setPtp.sendPtp.sendPdelayResp) (.next hk)

theorem Keeps.execGptpPdelayReqTransmit {s₀ s : State} (hk : Keeps s₀ s) {port : Fin 2} {stamp : Nat} :
    Completes s₀ (execGptpPdelayReqTransmit port stamp s) := by
  unfold Machine.execGptpPdelayReqTransmit
  exact .ite (.next hk.setPtp.sendPtp) (.next hk)

theorem Keeps.execGptpAnnounceTransmit {s₀ s : State} (hk : Keeps s₀ s) {port : Fin 2} :
    Completes s₀ (execGptpAnnounceTransmit port s) := by
  unfold Machine.execGptpAnnounceTransmit
  exact .ite (.next hk.setPtp.sendPtp) (.next hk)

theorem Keeps.execSyncTimeout {s₀ s : State} (hk : Keeps s₀ s) {port : Fin 2} : Completes s₀ (execSyncTimeout port s) := by
  unfold Machine.execSyncTimeout
  refine .ite ?_ ?_
  · exact .next hk
  · extract_lets s1 _
    refine .ite ?_ ?_
    · refine .ite ?_ ?_
      · exact .next hk.reportTimeout.moveServo
      · exact .ite (.next hk.reportTimeout.same.enterHoldover) (.next hk.reportTimeout)
    · exact .next hk.reportTimeout

theorem Keeps.execAnnounceReceiptTimeout {s₀ s : State} (hk : Keeps s₀ s) {port : Fin 2} :
    Completes s₀ (execAnnounceReceiptTimeout port s) := by
  unfold Machine.execAnnounceReceiptTimeout
  exact .ite (.next hk.setPtp.selectGm) (.next hk)

theorem Keeps.execTimeRestepToGptp {s₀ s : State} (hk : Keeps s₀ s) {req : Requester} {tag : Nat} :
    Completes s₀ (execTimeRestepToGptp req tag s) := by
  unfold Machine.execTimeRestepToGptp
  exact .next hk.koaSet

theorem Keeps.execTimeRestepToTimeSet {s₀ s : State} (hk : Keeps s₀ s) {req : Requester} {tag : Nat} :
    Completes s₀ (execTimeRestepToTimeSet req tag s) := by
  unfold Machine.execTimeRestepToTimeSet
  exact .next hk.koaSet

theorem Keeps.execTimeStepped {s₀ s : State} (hk : Keeps s₀ s) : Completes s₀ (execTimeStepped s) := by
  unfold Machine.execTimeStepped
  refine .ite ?_ ?_
  · exact .next hk
  · exact .ite (.next hk.applyStep) (.ite (.next hk.virtualBoundary) (.ite (.next hk.applyStep) (.next hk)))

theorem Keeps.execHostLockedSet {s₀ s : State} (hk : Keeps s₀ s) {req : Requester} {tag : Nat} :
    Completes s₀ (execHostLockedSet req tag s) := by
  unfold Machine.execHostLockedSet
  exact .next hk.koaSet

theorem Keeps.execHostLockedClear {s₀ s : State} (hk : Keeps s₀ s) {req : Requester} {tag : Nat} :
    Completes s₀ (execHostLockedClear req tag s) := by
  unfold Machine.execHostLockedClear
  exact .next hk.koaSet

theorem Keeps.execHostTimeout {s₀ s : State} (hk : Keeps s₀ s) : Completes s₀ (execHostTimeout s) := by
  unfold Machine.execHostTimeout
  exact .ite (.next (.ite (Keeps.ite hk hk.same.raise).enterHoldover (.ite hk hk.same.raise))) (.next hk)

theorem Keeps.execXtalLearned {s₀ s : State} (hk : Keeps s₀ s) : Completes s₀ (execXtalLearned s) := by
  unfold Machine.execXtalLearned
  exact .ite (.next (Keeps.cond hk.markHour hk.markHour.draw).newHour.set.raise) (.next hk)

theorem Keeps.execTimeSourceWrite {s₀ s : State} (hk : Keeps s₀ s) {req : Requester} {tag value : Nat} :
    Completes s₀ (execTimeSourceWrite req tag value s) := by
  unfold Machine.execTimeSourceWrite
  exact .next hk.koaSet

theorem Keeps.execGptpConfigWrite {s₀ s : State} (hk : Keeps s₀ s) {req : Requester} {tag key : Nat} {value : List Byte} :
    Completes s₀ (execGptpConfigWrite req tag key value s) := by
  unfold Machine.execGptpConfigWrite
  exact .ite (.next hk.koaWriteOf) (.next hk)

theorem Keeps.learn {s₀ s : State} (hk : Keeps s₀ s) {p addr : Nat} : Keeps s₀ (s.learn p addr) := by
  unfold State.learn
  exact hk.same

theorem Keeps.meet {s₀ s : State} (hk : Keeps s₀ s) {p a : Nat} {asked : Bool} : Keeps s₀ (s.meet p a asked) := by
  unfold State.meet
  exact .ite hk.learn hk

theorem Keeps.answerResolve {s₀ s : State} (hk : Keeps s₀ s) {p dst : Nat} : Keeps s₀ (s.answerResolve p dst) := by
  unfold State.answerResolve
  exact hk.transmit

theorem Keeps.arpFrame {s₀ s : State} (hk : Keeps s₀ s) {p : Nat} {request : Bool} {sender target : Nat} :
    Keeps s₀ (s.arpFrame p request sender target) := by
  unfold State.arpFrame
  exact .ite hk.meet.answerResolve hk.meet

theorem Keeps.andThen {b s : State} (_h : Keeps b s) {f : State → Host.Outcome State Fault Refusal} (hf : Completes b (f s)) :
    Keeps b (andThen s f) := by
  obtain ⟨t, ht, hk⟩ := hf
  simpa [Machine.andThen, ht] using hk

theorem Keeps.safeCopy {s₀ s : State} (hk : Keeps s₀ s) {net : Nat} {data : List Byte} : Keeps s₀ (s.safeCopy net data) := by
  unfold State.safeCopy
  extract_lets s1
  have h1 : Keeps s₀ s1 := .ite (hk.andThen hk.execSafeCmdReceive) hk
  exact .ite (h1.andThen h1.execSafeCmdReceive) h1

theorem Keeps.egoMessage {s₀ s : State} (hk : Keeps s₀ s) {d : List Byte} : Keeps s₀ (s.egoMessage d) := by
  unfold State.egoMessage
  exact .ite hk.set.same hk.count.raise

theorem Keeps.execEgoSpeedReceive {s₀ s : State} (hk : Keeps s₀ s) {source : Fin 2} {data : List Byte} :
    Completes s₀ (execEgoSpeedReceive source data s) := by
  unfold Machine.execEgoSpeedReceive
  exact .ite (.next hk) (.ite (.next hk.egoMessage) (.next hk.egoMessage))

theorem Keeps.udpTo {s₀ s : State} (hk : Keeps s₀ s) {p src sport dport : Nat} {data : List Byte} :
    Keeps s₀ (s.udpTo p src sport dport data) := by
  unfold State.udpTo
  exact .ite hk.koaPdu (.ite hk.safeCopy (.ite (hk.andThen hk.execEgoSpeedReceive) hk))

theorem Keeps.ipPayload {s₀ s : State} (hk : Keeps s₀ s) {p : Nat} {x : IpPacket} : Keeps s₀ (s.ipPayload p x) := by
  unfold State.ipPayload
  split
  exacts [hk.sendUdp, (.ite hk.meet.answerResolve hk), hk.meet, hk.udpTo, hk]

theorem Keeps.ipPacket {s₀ s : State} (hk : Keeps s₀ s) {p : Nat} {x : IpPacket} : Keeps s₀ (s.ipPacket p x) := by
  unfold State.ipPacket
  exact .ite hk.count (.ite hk hk.ipPayload)

theorem Keeps.execEthFrameReceive {s₀ s : State} (hk : Keeps s₀ s) {port : Fin 2} {frame : EthFrame} :
    Completes s₀ (execEthFrameReceive port frame s) := by
  unfold Machine.execEthFrameReceive
  refine .ite ?_ ?_
  · exact .next hk
  · refine .ite ?_ ?_
    · exact .next hk.count
    · refine .ite ?_ ?_
      · exact .next hk.count
      · refine .ite ?_ ?_
        · exact .next hk.count
        · extract_lets s1
          split
          · exact .next hk.count.arpFrame
          · exact .next hk.count.ipPacket
          · exact .next hk.count
          · exact .next hk.count
          · exact .next hk.count

theorem Keeps.execAddressResolutionRetry {s₀ s : State} (hk : Keeps s₀ s) : Completes s₀ (execAddressResolutionRetry s) := by
  unfold Machine.execAddressResolutionRetry
  exact .next (hk.same.foldl fun _ _ k => (.ite k.sendResolve k))

theorem Keeps.execArpRefresh {s₀ s : State} (hk : Keeps s₀ s) : Completes s₀ (execArpRefresh s) := by
  unfold Machine.execArpRefresh
  exact .next (hk.same.foldl fun _ _ k => (.ite k.sendResolve k))

theorem Keeps.execLinkChange {s₀ s : State} (hk : Keeps s₀ s) {port : Fin 2} {level : Fin 5} :
    Completes s₀ (execLinkChange port level s) := by
  unfold Machine.execLinkChange
  exact .ite (.next hk.setLink) (.ite (.next hk.setLink) (.next hk))

theorem Keeps.execPortConfigWrite {s₀ s : State} (hk : Keeps s₀ s) {req : Requester} {tag key : Nat} {value : List Byte} :
    Completes s₀ (execPortConfigWrite req tag key value s) := by
  unfold Machine.execPortConfigWrite
  exact .ite (.next hk.koaWriteOf) (.next hk)

theorem Keeps.execCanFrameReceive {s₀ s : State} (hk : Keeps s₀ s) {frame : CanFrame} : Completes s₀ (execCanFrameReceive frame s) := by
  unfold Machine.execCanFrameReceive
  refine .ite ?_ ?_
  · exact .next hk
  · extract_lets _ s1 s2
    have h2 : Keeps s₀ s2 := .ite (Keeps.ite hk.koaPdu hk).safeCopy (.ite hk.koaPdu hk)
    exact .ite (.next (h2.andThen h2.execEgoSpeedReceive)) (.next h2)

theorem Keeps.execCanState {s₀ s : State} (hk : Keeps s₀ s) {errors : Fin 3} : Completes s₀ (execCanState errors s) := by
  unfold Machine.execCanState
  exact .ite (.next hk) (.ite (.next (.ite hk.same.set.drainCan hk)) (.next hk.setCanState))

theorem Keeps.execCanBusOffRecovery {s₀ s : State} (hk : Keeps s₀ s) : Completes s₀ (execCanBusOffRecovery s) := by
  unfold Machine.execCanBusOffRecovery
  exact .ite (.next hk.endBusOff) (.next hk)

theorem Keeps.execCanAutoRecoverWrite {s₀ s : State} (hk : Keeps s₀ s) {req : Requester} {tag value : Nat} :
    Completes s₀ (execCanAutoRecoverWrite req tag value s) := by
  unfold Machine.execCanAutoRecoverWrite
  exact .next hk.koaSet

theorem Keeps.execCanTxTimeout {s₀ s : State} (hk : Keeps s₀ s) : Completes s₀ (execCanTxTimeout s) := by
  unfold Machine.execCanTxTimeout
  exact .next hk.same.addSat

theorem Keeps.execCanConfigWrite {s₀ s : State} (hk : Keeps s₀ s) {req : Requester} {tag key : Nat} {value : List Byte} :
    Completes s₀ (execCanConfigWrite req tag key value s) := by
  unfold Machine.execCanConfigWrite
  exact .ite (.next hk.koaWriteOf) (.next hk)

theorem Keeps.prbsBits {s₀ s : State} (hk : Keeps s₀ s) {n : Nat} {bits : List Bool} : Keeps s₀ (s.prbsBits n bits) := by
  unfold State.prbsBits
  exact .ite hk.setLane.addSat hk.setLane

theorem Keeps.setOut {s₀ s : State} (hk : Keeps s₀ s) {n : Nat} {x : Option FrameBlock} : Keeps s₀ (s.setOut n x) := by
  unfold State.setOut
  exact hk.setLane

theorem Keeps.loseLock {s₀ s : State} (hk : Keeps s₀ s) {n : Nat} : Keeps s₀ (s.loseLock n) := by
  unfold State.loseLock
  exact .ite (.ite hk.setLane.count.raiseLimited hk.setLane.count.raiseLimited.failScan) hk

theorem Keeps.keepLock {s₀ s : State} (hk : Keeps s₀ s) {n : Nat} {ok : Bool} : Keeps s₀ (s.keepLock n ok) := by
  unfold State.keepLock
  exact .ite (Keeps.ite hk.setLane hk.setLane.count).loseLock (.ite hk.setLane hk.setLane.count)

theorem Keeps.setLevel {s₀ s : State} (hk : Keeps s₀ s) {b level : Nat} : Keeps s₀ (s.setLevel b level) := by
  unfold State.setLevel
  exact hk.setBond

theorem Keeps.elasticError {s₀ s : State} (hk : Keeps s₀ s) {b n : Nat} : Keeps s₀ (s.elasticError b n) := by
  unfold State.elasticError
  exact (hk.setLevel.count.raise.foldl fun _ _ k => k.loseLock)

theorem Keeps.takeColumns {s₀ s : State} (hk : Keeps s₀ s) {b n taken : Nat} : Keeps s₀ (s.takeColumns b n taken) := by
  unfold State.takeColumns
  exact .ite hk.elasticError hk.setLevel

theorem Keeps.enterColumn {s₀ s : State} (hk : Keeps s₀ s) {b n : Nat} {fill_ : Bool} : Keeps s₀ (s.enterColumn b n fill_) := by
  unfold State.enterColumn
  extract_lets _
  refine .ite ?_ ?_
  · exact (hk.foldl fun _ _ k => k.countWrap)
  · exact .ite (hk.setLevel.foldl fun _ _ k => k.countWrap) (.ite hk.elasticError hk.setLevel)

theorem Keeps.columnBlock {s₀ s : State} (hk : Keeps s₀ s) {b n : Nat} {fill_ : Bool} : Keeps s₀ (s.columnBlock b n fill_) := by
  unfold State.columnBlock
  exact .ite hk.setBond.enterColumn hk.setBond

theorem Keeps.laneOut {s₀ s : State} (hk : Keeps s₀ s) {n : Nat} {x : FrameBlock} : Keeps s₀ (s.laneOut n x) := by
  unfold State.laneOut
  exact hk.setLane

theorem Keeps.lockedBlock {s₀ s : State} (hk : Keeps s₀ s) {b n taken : Nat} {x : FrameBlock} : Keeps s₀ (s.lockedBlock b n taken x) := by
  unfold State.lockedBlock
  extract_lets s1 s2
  have h2 : Keeps s₀ s2 := (Keeps.ite hk.count hk).takeColumns
  refine .ite ?_ ?_
  · exact .ite (.ite hk.count hk) (.ite h2.columnBlock h2)
  · exact .ite (Keeps.ite hk.count hk).laneOut (.ite hk.count hk)

theorem Keeps.seekLock {s₀ s : State} (hk : Keeps s₀ s) {n : Nat} {ok : Bool} : Keeps s₀ (s.seekLock n ok) := by
  unfold State.seekLock
  exact .ite hk.setLane hk.setLane.count

theorem Keeps.receiveBlock {s₀ s : State} (hk : Keeps s₀ s) {n : Nat} {x : LaneBlock} : Keeps s₀ (s.receiveBlock n x) := by
  unfold State.receiveBlock
  refine .ite ?_ ?_
  · exact hk.prbsBits
  · split
    · exact .ite hk.setOut hk
    · exact .ite (.ite hk.setLane.keepLock.lockedBlock hk.setLane.keepLock) hk.setLane.seekLock

theorem Keeps.execLaneBlockReceive {s₀ s : State} (hk : Keeps s₀ s) {lane : Fin 8} {block : LaneBlock} :
    Completes s₀ (execLaneBlockReceive lane block s) := by
  unfold Machine.execLaneBlockReceive
  exact .ite (.next hk) (.next hk.receiveBlock)

theorem Keeps.execLaneLocked {s₀ s : State} (hk : Keeps s₀ s) {lane : Fin 8} : Completes s₀ (execLaneLocked lane s) := by
  unfold Machine.execLaneLocked
  exact .ite (.next hk.setLane.raise) (.next hk)

theorem Keeps.deskew {s₀ s : State} (hk : Keeps s₀ s) {n skew : Nat} : Keeps s₀ (s.deskew n skew) := by
  unfold State.deskew
  exact .ite hk (.ite hk.setLane hk.setLane.raise)

theorem Keeps.execAlignReceive {s₀ s : State} (hk : Keeps s₀ s) {lane : Fin 8} {col : AlignColumn} :
    Completes s₀ (execAlignReceive lane col s) := by
  unfold Machine.execAlignReceive
  split
  exacts [(.next hk), (.ite (.next hk) (.next (hk.foldl fun _ _ k => k.deskew).setBond))]

theorem Keeps.execStatusReceive {s₀ s : State} (hk : Keeps s₀ s) {lane : Fin 8} {col : StatusColumn} :
    Completes s₀ (execStatusReceive lane col s) := by
  unfold Machine.execStatusReceive
  split
  · exact .next hk
  · exact .ite (.next hk) (.next (hk.setBond.foldl fun _ _ k => k.setLane).followUsable)

theorem Keeps.execLaneStatusAged {s₀ s : State} (hk : Keeps s₀ s) {bond : Fin 2} : Completes s₀ (execLaneStatusAged bond s) := by
  unfold Machine.execLaneStatusAged
  exact .ite (.next hk.followUsable) (.next hk)

theorem Keeps.execAlignColumnSend {s₀ s : State} (hk : Keeps s₀ s) {bond : Fin 2} : Completes s₀ (execAlignColumnSend bond s) := by
  unfold Machine.execAlignColumnSend
  exact .ite (.next hk.noteUsable.scheduledAlign) (.next hk)

theorem Keeps.execStatusColumnSend {s₀ s : State} (hk : Keeps s₀ s) {bond : Fin 2} : Completes s₀ (execStatusColumnSend bond s) := by
  unfold Machine.execStatusColumnSend
  exact .ite (.next hk.setBond.sendColumn) (.next hk)

theorem Keeps.badFrame {s₀ s : State} (hk : Keeps s₀ s) {b : Nat} : Keeps s₀ (s.badFrame b) := by
  unfold State.badFrame
  exact hk.count.raiseLimited

theorem Keeps.onFrame {b s : State} (h : Keeps b s) {payload : List Byte} {n : Nat} {f : State → State} (hf : Keeps b (f s)) :
    Completes b (s.onFrame payload n f) := by
  unfold State.onFrame
  exact .ite (.next h) (.ite (.next h.badFrame) (.ite (.next h) (.next hf)))

theorem Keeps.endClaim {s₀ s : State} (hk : Keeps s₀ s) : Keeps s₀ (s.endClaim) := by
  unfold State.endClaim
  exact hk.same

theorem Keeps.beatRole {s₀ s : State} (hk : Keeps s₀ s) : Keeps s₀ (s.beatRole) := by
  unfold State.beatRole
  exact .ite hk.endClaim (.ite hk.setRole hk)

theorem Keeps.beatReturns {s₀ s : State} (hk : Keeps s₀ s) : Keeps s₀ (s.beatReturns) := by
  unfold State.beatReturns
  exact .ite hk.raise.requestResync hk.raise

theorem Keeps.reportConflict {s₀ s : State} (hk : Keeps s₀ s) {old : Option PartnerBeat} {b : PartnerBeat} :
    Keeps s₀ (s.reportConflict old b) := by
  unfold State.reportConflict
  exact .ite hk (.ite (Keeps.ite hk.raise hk).raise (.ite hk.raise hk))

theorem Keeps.noteBeat {s₀ s : State} (hk : Keeps s₀ s) {b : PartnerBeat} : Keeps s₀ (s.noteBeat b) := by
  unfold State.noteBeat
  exact hk.same.set.reportConflict

theorem Keeps.takeBeat {s₀ s : State} (hk : Keeps s₀ s) {b : PartnerBeat} : Keeps s₀ (s.takeBeat b) := by
  unfold State.takeBeat
  exact .ite hk.noteBeat.beatReturns.beatRole hk.noteBeat.beatRole

theorem Keeps.execHeartbeatReceive {s₀ s : State} (hk : Keeps s₀ s) {payload : List Byte} :
    Completes s₀ (execHeartbeatReceive payload s) := by
  unfold Machine.execHeartbeatReceive
  exact (hk.onFrame hk.takeBeat)

theorem Keeps.takeFrame {s₀ s : State} (hk : Keeps s₀ s) {f : TakeFrame} : Keeps s₀ (s.takeFrame f) := by
  unfold State.takeFrame
  exact hk.same.setWaiting.pairTakes

theorem Keeps.execTakeFrameReceive {s₀ s : State} (hk : Keeps s₀ s) {payload : List Byte} :
    Completes s₀ (execTakeFrameReceive payload s) := by
  unfold Machine.execTakeFrameReceive
  exact (hk.onFrame (.ite hk.takeFrame hk))

theorem Keeps.compareSums {s₀ s : State} (hk : Keeps s₀ s) {a b : SpokeSum} : Keeps s₀ (s.compareSums a b) := by
  unfold State.compareSums
  exact .ite hk.count.same (.ite hk.count.same.count.raiseMs.raise hk.count.same.count.raiseMs)

theorem Keeps.peerSum {s₀ s : State} (hk : Keeps s₀ s) {x : SpokeSum} : Keeps s₀ (s.peerSum x) := by
  unfold State.peerSum
  split
  exacts [hk.same.compareSums, hk.same]

theorem Keeps.execSpokeSumReceive {s₀ s : State} (hk : Keeps s₀ s) {payload : List Byte} :
    Completes s₀ (execSpokeSumReceive payload s) := by
  unfold Machine.execSpokeSumReceive
  exact (hk.onFrame (.ite hk.peerSum hk))

theorem Keeps.setPartial {s₀ s : State} (hk : Keeps s₀ s) {k : Nat} {bs : Option (List Byte)} : Keeps s₀ (s.setPartial k bs) := by
  unfold State.setPartial
  exact hk.same

theorem Keeps.takeEmitter {s₀ s : State} (hk : Keeps s₀ s) {k : Nat} {bs : List Byte} : Keeps s₀ (s.takeEmitter k bs) := by
  unfold State.takeEmitter
  exact .ite (.ite hk.set hk) (.ite (hk.foldl fun _ _ k => k.setZone) hk)

theorem Keeps.mirrored {s₀ s : State} (hk : Keeps s₀ s) {d : ObjDesc} {k : Nat} {bs : List Byte} : Keeps s₀ (s.mirrored d k bs) := by
  unfold State.mirrored
  exact .ite hk.applyValue hk.refused

theorem Keeps.checkResync {s₀ s : State} (hk : Keeps s₀ s) : Keeps s₀ (s.checkResync) := by
  unfold State.checkResync
  exact .ite hk.same.setMirrorSync hk

theorem Keeps.objectDone {s₀ s : State} (hk : Keeps s₀ s) {k : Nat} {bs : List Byte} : Keeps s₀ (s.objectDone k bs) := by
  unfold State.objectDone
  extract_lets s1 _ _
  have h1 : Keeps s₀ s1 := by
    unfold s1
    split
    exacts [(.ite hk.takeEmitter (.ite hk.mirrored hk)), hk]
  exact h1.same.checkResync

theorem Keeps.objectFrame {s₀ s : State} (hk : Keeps s₀ s) {p : List Byte} : Keeps s₀ (s.objectFrame p) := by
  unfold State.objectFrame
  exact .ite hk.setPartial (.ite hk.setPartial.objectDone hk.setPartial)

theorem Keeps.execObjectFrameReceive {s₀ s : State} (hk : Keeps s₀ s) {payload : List Byte} :
    Completes s₀ (execObjectFrameReceive payload s) := by
  unfold Machine.execObjectFrameReceive
  exact .ite (.next hk) (.ite (.next hk.badFrame) (.ite (.next hk.objectFrame) (.next hk)))

theorem Keeps.takeCues {s₀ s : State} (hk : Keeps s₀ s) {l : List Cue} : Keeps s₀ (s.takeCues l) := by
  unfold State.takeCues
  exact (Keeps.ite hk.same.seqPoint hk.same).checkResync

theorem Keeps.execCueFrameReceive {s₀ s : State} (hk : Keeps s₀ s) {payload : List Byte} :
    Completes s₀ (execCueFrameReceive payload s) := by
  unfold Machine.execCueFrameReceive
  exact (hk.onFrame (.ite hk.takeCues hk))

theorem Keeps.timeMoved {b s old : State} (h : Keeps b s) : Keeps b (State.timeMoved old s) := by
  unfold State.timeMoved
  refine .ite ?_ h
  extract_lets p raw x s1
  have h1 : Keeps b s1 := .ite h h.setAxis
  exact h1.noteCorrection

theorem Keeps.takeEpoch {s₀ s : State} (hk : Keeps s₀ s) {e : Nat} : Keeps s₀ (s.takeEpoch e) := by
  unfold State.takeEpoch
  exact .ite hk hk.set.emptyAllMrev.same

theorem Keeps.takeTime {s₀ s : State} (hk : Keeps s₀ s) {p : List Byte} : Keeps s₀ (s.takeTime p) := by
  unfold State.takeTime
  exact (Keeps.ite hk.draw.same.timeMoved.takeEpoch hk.draw.same.timeMoved.takeEpoch.set.raise).setIncrement

theorem Keeps.timeCame {s₀ s : State} (hk : Keeps s₀ s) {p : List Byte} : Keeps s₀ (s.timeCame p) := by
  unfold State.timeCame
  exact .ite hk.same.checkResync.takeTime hk.same.checkResync

theorem Keeps.execTimeFrameReceive {s₀ s : State} (hk : Keeps s₀ s) {payload : List Byte} :
    Completes s₀ (execTimeFrameReceive payload s) := by
  unfold Machine.execTimeFrameReceive
  exact (hk.onFrame (.ite hk.timeCame hk))

theorem Keeps.execAccountFrameReceive {s₀ s : State} (hk : Keeps s₀ s) {payload : List Byte} :
    Completes s₀ (execAccountFrameReceive payload s) := by
  unfold Machine.execAccountFrameReceive
  exact (hk.onFrame (.ite hk.same.checkResync hk))

theorem Keeps.deviceReset {b s : State} (h : Keeps b s) {c : ResetSource} {supply : Nat} : Keeps b (s.deviceReset c supply) :=
  ⟨h.now, h.pending, fun _ => rfl⟩

theorem Keeps.pairConflict {s₀ s : State} (hk : Keeps s₀ s) {epoch id : Nat} : Keeps s₀ (s.pairConflict epoch id) := by
  unfold State.pairConflict
  exact hk.setRecord.deviceReset

theorem Keeps.setEpoch {s₀ s : State} (hk : Keeps s₀ s) {epoch id : Nat} : Keeps s₀ (s.setEpoch epoch id) := by
  unfold State.setEpoch
  exact hk.set.set.updateRecord.raise

theorem Keeps.newEpoch {s₀ s : State} (hk : Keeps s₀ s) : Keeps s₀ (s.newEpoch) := by
  unfold State.newEpoch
  exact hk.setEpoch.sendEpoch

theorem Keeps.becomeShadow {s₀ s : State} (hk : Keeps s₀ s) : Keeps s₀ (s.becomeShadow) := by
  unfold State.becomeShadow
  exact .ite hk hk.endClaim.same.setRole

theorem Keeps.adoptEpoch {s₀ s : State} (hk : Keeps s₀ s) {epoch id : Nat} : Keeps s₀ (s.adoptEpoch epoch id) := by
  unfold State.adoptEpoch
  exact .ite hk.setEpoch.sendEpoch hk

theorem Keeps.startClaim {s₀ s : State} (hk : Keeps s₀ s) {takeover : Bool} : Keeps s₀ (s.startClaim takeover) := by
  unfold State.startClaim
  split
  exacts [hk.same, hk]

theorem Keeps.verdictClaim {s₀ s : State} (hk : Keeps s₀ s) : Keeps s₀ (s.verdictClaim) := by
  unfold State.verdictClaim
  exact .ite hk.startClaim hk

theorem Keeps.named {s₀ s : State} (hk : Keeps s₀ s) : Keeps s₀ (s.named) := by
  unfold State.named
  exact hk.same.verdictClaim

theorem Keeps.judgeEpoch {s₀ s : State} (hk : Keeps s₀ s) {epoch id : Nat} : Keeps s₀ (s.judgeEpoch epoch id) := by
  unfold State.judgeEpoch
  extract_lets _ _ _ s1
  refine .ite ?_ ?_
  · exact hk.pairConflict
  · refine .ite ?_ ?_
    · exact hk.newEpoch
    · refine .ite ?_ ?_
      · exact hk.adoptEpoch.becomeShadow
      · refine .ite ?_ ?_
        · exact .ite hk.adoptEpoch.named hk.adoptEpoch.becomeShadow
        · exact .ite (.ite hk.named hk) (.ite hk.named hk)

theorem Keeps.takeEpochFrame {s₀ s : State} (hk : Keeps s₀ s) {epoch id : Nat} : Keeps s₀ (s.takeEpochFrame epoch id) := by
  unfold State.takeEpochFrame
  exact .ite hk.set.same.judgeEpoch (.ite hk.set.adoptEpoch hk.set)

theorem Keeps.execEpochFrameReceive {s₀ s : State} (hk : Keeps s₀ s) {payload : List Byte} :
    Completes s₀ (execEpochFrameReceive payload s) := by
  unfold Machine.execEpochFrameReceive
  exact (hk.onFrame hk.takeEpochFrame)

theorem Keeps.execYieldFrameReceive {s₀ s : State} (hk : Keeps s₀ s) {payload : List Byte} :
    Completes s₀ (execYieldFrameReceive payload s) := by
  unfold Machine.execYieldFrameReceive
  exact (hk.onFrame hk)

theorem Keeps.sendResync {s₀ s : State} (hk : Keeps s₀ s) : Keeps s₀ (s.sendResync) := by
  unfold State.sendResync
  exact (hk.foldl fun _ _ k => k.sendObject).sendFarlu.sendFarlu.sendAccount

theorem Keeps.execResyncReqReceive {s₀ s : State} (hk : Keeps s₀ s) {payload : List Byte} :
    Completes s₀ (execResyncReqReceive payload s) := by
  unfold Machine.execResyncReqReceive
  exact (hk.onFrame (.ite hk.sendResync hk))

theorem Keeps.farluFrame {s₀ s : State} (hk : Keeps s₀ s) {t : Nat} {p : List Byte} : Completes s₀ (s.farluFrame t p) := by
  unfold State.farluFrame
  split
  · exact hk.execHeartbeatReceive
  · exact hk.execTakeFrameReceive
  · exact hk.execSpokeSumReceive
  · exact hk.execObjectFrameReceive
  · exact hk.execCueFrameReceive
  · exact hk.execTimeFrameReceive
  · exact hk.execAccountFrameReceive
  · exact hk.execEpochFrameReceive
  · exact hk.execYieldFrameReceive
  · exact hk.execResyncReqReceive

theorem Keeps.execKlpFrameReceive {s₀ s : State} (hk : Keeps s₀ s) {bond : Fin 2} {frame : LaneFrame} :
    Completes s₀ (execKlpFrameReceive bond frame s) := by
  unfold Machine.execKlpFrameReceive
  exact .ite (.next hk) (.ite (.next hk.badFrame) hk.farluFrame)

theorem Keeps.execLaneModeWrite {s₀ s : State} (hk : Keeps s₀ s) {req : Requester} {tag : Nat} {lane : Fin 8} {value : Nat} :
    Completes s₀ (execLaneModeWrite req tag lane value s) := by
  unfold Machine.execLaneModeWrite
  exact .next hk.koaSet

theorem Keeps.execBondConfigWrite {s₀ s : State} (hk : Keeps s₀ s) {req : Requester} {tag key : Nat} {value : List Byte} :
    Completes s₀ (execBondConfigWrite req tag key value s) := by
  unfold Machine.execBondConfigWrite
  exact .ite (.next hk.koaWriteOf) (.next hk)

theorem Keeps.drawAll {b s : State} (h : Keeps b s) {l : List Nat} : Keeps b (s.drawAll l).2 := by
  induction l generalizing s with
  | nil => exact h
  | cons x l ih => exact ih h.draw

theorem Keeps.adaptLane {s₀ s : State} (hk : Keeps s₀ s) {n : Nat} : Keeps s₀ (s.adaptLane n) := by
  unfold State.adaptLane
  exact .ite hk.drawAll.setLane hk

theorem Keeps.freezeLane {s₀ s : State} (hk : Keeps s₀ s) {n : Nat} : Keeps s₀ (s.freezeLane n) := by
  unfold State.freezeLane
  exact .ite hk hk.set.count.raiseLimited

theorem Keeps.resumeLane {s₀ s : State} (hk : Keeps s₀ s) {n : Nat} : Keeps s₀ (s.resumeLane n) := by
  unfold State.resumeLane
  exact .ite hk.set.raiseLimited hk

theorem Keeps.execAdaptWindowEnd {s₀ s : State} (hk : Keeps s₀ s) {lane : Fin 8} {transitions : Nat} :
    Completes s₀ (execAdaptWindowEnd lane transitions s) := by
  unfold Machine.execAdaptWindowEnd
  exact .ite (.next hk) (.next (Keeps.ite hk.set.freezeLane hk.set.resumeLane).adaptLane)

theorem Keeps.execEyeScan {s₀ s : State} (hk : Keeps s₀ s) {req : Requester} {tag value : Nat} :
    Completes s₀ (execEyeScan req tag value s) := by
  unfold Machine.execEyeScan
  exact .next hk.koaSet

theorem Keeps.execPrbsGenWrite {s₀ s : State} (hk : Keeps s₀ s) {req : Requester} {tag : Nat} {lane : Fin 8} {value : Nat} :
    Completes s₀ (execPrbsGenWrite req tag lane value s) := by
  unfold Machine.execPrbsGenWrite
  exact .next hk.koaSet

theorem Keeps.execPrbsCheckWrite {s₀ s : State} (hk : Keeps s₀ s) {req : Requester} {tag : Nat} {lane : Fin 8} {value : Nat} :
    Completes s₀ (execPrbsCheckWrite req tag lane value s) := by
  unfold Machine.execPrbsCheckWrite
  exact .next hk.koaSet

theorem Keeps.execPrbsLockAcquired {s₀ s : State} (hk : Keeps s₀ s) {lane : Fin 8} : Completes s₀ (execPrbsLockAcquired lane s) := by
  unfold Machine.execPrbsLockAcquired
  exact .ite (.next hk.setLane.set) (.next hk)

theorem Keeps.execPrbsLoss {s₀ s : State} (hk : Keeps s₀ s) {lane : Fin 8} : Completes s₀ (execPrbsLoss lane s) := by
  unfold Machine.execPrbsLoss
  exact .ite (.next hk.prbsRestart.raise.failScan) (.next hk)

theorem Keeps.execLaneLoopWrite {s₀ s : State} (hk : Keeps s₀ s) {req : Requester} {tag : Nat} {lane : Fin 8} {value : Nat} :
    Completes s₀ (execLaneLoopWrite req tag lane value s) := by
  unfold Machine.execLaneLoopWrite
  exact .next hk.koaSet

theorem Keeps.discardWrite {s₀ s : State} (hk : Keeps s₀ s) : Keeps s₀ (s.discardWrite) := by
  unfold State.discardWrite
  exact hk.count.same

theorem Keeps.execKoaRequest {s₀ s : State} (hk : Keeps s₀ s) {pdu : List Byte} : Completes s₀ (execKoaRequest pdu s) := by
  unfold Machine.execKoaRequest
  refine .ite ?_ ?_
  · exact .next hk
  · exact .ite (.next hk.setSource.koaPdu) (.ite (.next hk.discardWrite.count) (.next hk.discardWrite))

theorem Keeps.execLiveSelect {s₀ s : State} (hk : Keeps s₀ s) {half : Fin 512} : Completes s₀ (execLiveSelect half s) := by
  unfold Machine.execLiveSelect
  exact .ite (.next hk.setSource) (.next hk)

theorem Keeps.execEventRead {s₀ s : State} (hk : Keeps s₀ s) : Completes s₀ (execEventRead s) := by
  unfold Machine.execEventRead
  exact .ite (.next hk.setSource) (.next hk)

theorem Keeps.execI3cWriteDiscard {s₀ s : State} (hk : Keeps s₀ s) {_data : List Byte} : Completes s₀ (execI3cWriteDiscard _data s) := by
  unfold Machine.execI3cWriteDiscard
  exact .ite (.next hk.discardWrite) (.next hk)

theorem Keeps.readLow {s₀ s : State} (hk : Keeps s₀ s) {j : Nat} : Keeps s₀ (s.readLow j).2 := by
  unfold State.readLow
  exact hk.same

theorem Keeps.readHigh {s₀ s : State} (hk : Keeps s₀ s) {j : Nat} : Keeps s₀ (s.readHigh j).2 := by
  unfold State.readHigh
  split
  exacts [(by split; exacts [hk.same, hk.same.count]), hk.same.count]

theorem Keeps.readHalf {s₀ s : State} (hk : Keeps s₀ s) {h : Nat} : Keeps s₀ (s.readHalf h).2 := by
  unfold State.readHalf
  split
  exacts [hk.readLow, hk.readHigh]

theorem Keeps.readHalves {b s : State} (h : Keeps b s) {n i : Nat} : Keeps b (s.readHalves n i).2 := by
  induction n generalizing s i with
  | zero => exact h
  | succ n ih => exact ih h.readHalf

theorem Keeps.i3cAnswer {s₀ s : State} (hk : Keeps s₀ s) {kind : SentKind} {bs : List Byte} : Keeps s₀ (s.i3cAnswer kind bs) := by
  unfold State.i3cAnswer
  exact hk.send

theorem Keeps.execLiveWindowRead {s₀ s : State} (hk : Keeps s₀ s) {count : Nat} : Completes s₀ (execLiveWindowRead count s) := by
  unfold Machine.execLiveWindowRead
  split
  exacts [(.next hk.readHalves.i3cAnswer), (.next hk)]

theorem Keeps.execKoaResponseRead {s₀ s : State} (hk : Keeps s₀ s) {count : Nat} : Completes s₀ (execKoaResponseRead count s) := by
  unfold Machine.execKoaResponseRead
  refine .ite ?_ ?_
  · exact .next hk
  · split
    exacts [(.next hk.i3cAnswer), (.next (.ite hk.i3cAnswer.emptyResponse hk.i3cAnswer))]

theorem Keeps.execEventQueueRead {s₀ s : State} (hk : Keeps s₀ s) {count : Nat} : Completes s₀ (execEventQueueRead count s) := by
  unfold Machine.execEventQueueRead
  exact .ite (.next hk) (.ite (.next hk.i3cAnswer) (.next hk.i3cAnswer.same))

theorem Keeps.execI3cTransferTimeout {s₀ s : State} (hk : Keeps s₀ s) : Completes s₀ (execI3cTransferTimeout s) := by
  unfold Machine.execI3cTransferTimeout
  exact .ite (.next hk.count) (.next hk)

theorem Keeps.execIbiRequest {s₀ s : State} (hk : Keeps s₀ s) {acked : Bool} : Completes s₀ (execIbiRequest acked s) := by
  unfold Machine.execIbiRequest
  refine .ite ?_ ?_
  · exact .next hk
  · refine .ite ?_ ?_
    · exact .next hk.same.i3cAnswer
    · split
      · exact .next hk
      · exact .ite (.next hk.same.i3cAnswer) (.ite (.next hk.same.i3cAnswer) (.next hk))

theorem Keeps.sdr {s₀ s : State} (hk : Keeps s₀ s) : Keeps s₀ (s.sdr) := by
  unfold State.sdr
  exact hk.same

theorem Keeps.onCcc {b s : State} (h : Keeps b s) {f : State → State} (hf : Keeps b (f s.sdr)) : Completes b (s.onCcc f) := by
  unfold State.onCcc
  exact .ite (.next hf) (.next h)

theorem Keeps.execEnec {s₀ s : State} (hk : Keeps s₀ s) : Completes s₀ (execEnec s) := by
  unfold Machine.execEnec
  exact (hk.onCcc hk.sdr.set)

theorem Keeps.execDisec {s₀ s : State} (hk : Keeps s₀ s) : Completes s₀ (execDisec s) := by
  unfold Machine.execDisec
  exact (hk.onCcc hk.sdr.set)

theorem Keeps.execRstdaa {s₀ s : State} (hk : Keeps s₀ s) : Completes s₀ (execRstdaa s) := by
  unfold Machine.execRstdaa
  exact (hk.onCcc hk.sdr.set)

theorem Keeps.assign {s₀ s : State} (hk : Keeps s₀ s) {a : BitVec 7} : Keeps s₀ (s.assign a) := by
  unfold State.assign
  exact .ite hk.set hk

theorem Keeps.execEntdaa {s₀ s : State} (hk : Keeps s₀ s) {won : Bool} {address : BitVec 7} : Completes s₀ (execEntdaa won address s) := by
  unfold Machine.execEntdaa
  exact (hk.onCcc (.ite hk.sdr.assign hk.sdr))

theorem Keeps.execSetdasa {s₀ s : State} (hk : Keeps s₀ s) {staticAddr address : BitVec 7} :
    Completes s₀ (execSetdasa staticAddr address s) := by
  unfold Machine.execSetdasa
  exact (hk.onCcc (.ite hk.sdr.assign hk.sdr))

theorem Keeps.execSetnewda {s₀ s : State} (hk : Keeps s₀ s) {address : BitVec 7} : Completes s₀ (execSetnewda address s) := by
  unfold Machine.execSetnewda
  exact (hk.onCcc (.ite hk.sdr hk.sdr.assign))

theorem Keeps.execSetmwl {s₀ s : State} (hk : Keeps s₀ s) {length : Nat} : Completes s₀ (execSetmwl length s) := by
  unfold Machine.execSetmwl
  exact (hk.onCcc (.ite hk.sdr.same hk.sdr))

theorem Keeps.refitResponse {s₀ s : State} (hk : Keeps s₀ s) : Keeps s₀ (s.refitResponse) := by
  unfold State.refitResponse
  split
  exacts [hk, (.ite hk (Keeps.ite hk.count hk).same)]

theorem Keeps.execSetmrl {s₀ s : State} (hk : Keeps s₀ s) {length : Nat} {ibi : Option Nat} : Completes s₀ (execSetmrl length ibi s) := by
  unfold Machine.execSetmrl
  refine hk.onCcc ?_
  extract_lets _ s1 _ s2
  have h1 : Keeps s₀ s1 := .ite hk.sdr.same hk.sdr
  have h2 : Keeps s₀ s2 := by
    unfold s2
    split
    · exact h1.same
    · exact h1
  exact h2.refitResponse

theorem Keeps.execGetmwl {s₀ s : State} (hk : Keeps s₀ s) : Completes s₀ (execGetmwl s) := by
  unfold Machine.execGetmwl
  exact (hk.onCcc hk.sdr.i3cAnswer)

theorem Keeps.execGetmrl {s₀ s : State} (hk : Keeps s₀ s) : Completes s₀ (execGetmrl s) := by
  unfold Machine.execGetmrl
  exact (hk.onCcc hk.sdr.i3cAnswer)

theorem Keeps.execGetpid {s₀ s : State} (hk : Keeps s₀ s) : Completes s₀ (execGetpid s) := by
  unfold Machine.execGetpid
  exact (hk.onCcc hk.sdr.i3cAnswer)

theorem Keeps.execGetbcr {s₀ s : State} (hk : Keeps s₀ s) : Completes s₀ (execGetbcr s) := by
  unfold Machine.execGetbcr
  exact (hk.onCcc hk.sdr.i3cAnswer)

theorem Keeps.execGetdcr {s₀ s : State} (hk : Keeps s₀ s) : Completes s₀ (execGetdcr s) := by
  unfold Machine.execGetdcr
  exact (hk.onCcc hk.sdr.i3cAnswer)

theorem Keeps.execGetstatus {s₀ s : State} (hk : Keeps s₀ s) : Completes s₀ (execGetstatus s) := by
  unfold Machine.execGetstatus
  exact (hk.onCcc hk.sdr.same.i3cAnswer)

theorem Keeps.openAnswer {s₀ s : State} (hk : Keeps s₀ s) {n : Nat} : Keeps s₀ (s.openAnswer n) := by
  unfold State.openAnswer
  exact hk.draw.i3cAnswer

theorem Keeps.execGetmxds {s₀ s : State} (hk : Keeps s₀ s) : Completes s₀ (execGetmxds s) := by
  unfold Machine.execGetmxds
  exact (hk.onCcc hk.sdr.openAnswer)

theorem Keeps.execGetcaps {s₀ s : State} (hk : Keeps s₀ s) : Completes s₀ (execGetcaps s) := by
  unfold Machine.execGetcaps
  exact (hk.onCcc hk.sdr.openAnswer)

theorem Keeps.execEnthdr0 {s₀ s : State} (hk : Keeps s₀ s) : Completes s₀ (execEnthdr0 s) := by
  unfold Machine.execEnthdr0
  exact (hk.onCcc hk.sdr.same)

theorem Keeps.execRstactNoReset {s₀ s : State} (hk : Keeps s₀ s) : Completes s₀ (execRstactNoReset s) := by
  unfold Machine.execRstactNoReset
  exact (hk.onCcc hk.sdr)

theorem Keeps.resetI3c {s₀ s : State} (hk : Keeps s₀ s) : Keeps s₀ (s.resetI3c) := by
  unfold State.resetI3c
  exact hk.applyI3cLater.set.set.same

theorem Keeps.execRstactResetI3c {s₀ s : State} (hk : Keeps s₀ s) : Completes s₀ (execRstactResetI3c s) := by
  unfold Machine.execRstactResetI3c
  exact (hk.onCcc hk.sdr.resetI3c)

theorem Keeps.execEventAck {s₀ s : State} (hk : Keeps s₀ s) {req : Requester} {tag value : Nat} :
    Completes s₀ (execEventAck req tag value s) := by
  unfold Machine.execEventAck
  exact .next hk.koaSet

theorem Keeps.execEventMaskWrite {s₀ s : State} (hk : Keeps s₀ s) {req : Requester} {tag key : Nat} {value : List Byte} :
    Completes s₀ (execEventMaskWrite req tag key value s) := by
  unfold Machine.execEventMaskWrite
  exact .ite (.next hk.koaWriteOf) (.next hk)

theorem Keeps.flushEvents {s₀ s : State} (hk : Keeps s₀ s) {e1 : Bool} : Keeps s₀ (s.flushEvents e1) := by
  unfold State.flushEvents
  exact .ite hk hk.setGathered.setOutQueue

theorem Keeps.execEventDatagramFlush {s₀ s : State} (hk : Keeps s₀ s) {port : Fin 2} : Completes s₀ (execEventDatagramFlush port s) := by
  unfold Machine.execEventDatagramFlush
  exact .ite (.next hk.flushEvents) (.next hk)

theorem Keeps.execLiveMapWrite {s₀ s : State} (hk : Keeps s₀ s) {req : Requester} {tag : Nat} {value : List Byte} :
    Completes s₀ (execLiveMapWrite req tag value s) := by
  unfold Machine.execLiveMapWrite
  exact .next hk.koaWriteOf

theorem Keeps.failClaim {s₀ s : State} (hk : Keeps s₀ s) : Keeps s₀ (s.failClaim) := by
  unfold State.failClaim
  exact hk.releasePins.count

theorem Keeps.seeContention {s₀ s : State} (hk : Keeps s₀ s) : Keeps s₀ (s.seeContention) := by
  unfold State.seeContention
  refine .ite ?_ ?_
  · exact hk
  · extract_lets s1
    exact .ite hk.raise (.ite hk.raise.stop.releasePins.setRole (by split; exacts [hk.raise.failClaim, hk.raise]))

theorem Keeps.driveChanged {s₀ s : State} (hk : Keeps s₀ s) {old : DriveState} : Keeps s₀ (s.driveChanged old) := by
  unfold State.driveChanged
  extract_lets new _ s1 _ s2
  have h2 : Keeps s₀ s2 := by
    unfold s2
    split
    · exact .ite hk.same hk.same.same
    · exact hk.same
  refine .ite hk ?_
  cases new with
  | contention => exact h2.seeContention
  | partner => exact .ite h2.setRole h2
  | undriven => exact h2.verdictClaim
  | own => exact h2

theorem Keeps.execTrigDriveClassChange {s₀ s : State} (hk : Keeps s₀ s) {pair : Fin 32} {level : DriveLevel} :
    Completes s₀ (execTrigDriveClassChange pair level s) := by
  unfold Machine.execTrigDriveClassChange
  exact .next hk.same.driveChanged

theorem Keeps.execTakeover {s₀ s : State} (hk : Keeps s₀ s) : Completes s₀ (execTakeover s) := by
  unfold Machine.execTakeover
  split
  exacts [(.ite (.next hk.count.raise.startClaim) (.next hk)), (.next hk)]

theorem Keeps.execAloneWaitExpiry {s₀ s : State} (hk : Keeps s₀ s) : Completes s₀ (execAloneWaitExpiry s) := by
  unfold Machine.execAloneWaitExpiry
  exact .ite (.next hk.startClaim) (.next hk)

theorem Keeps.execClaimQuietEnd {s₀ s : State} (hk : Keeps s₀ s) : Completes s₀ (execClaimQuietEnd s) := by
  unfold Machine.execClaimQuietEnd
  split
  exacts [(.ite (.next hk.same) (.next hk)), (.next hk)]

theorem Keeps.enterRunning {s₀ s : State} (hk : Keeps s₀ s) : Keeps s₀ (s.enterRunning) := by
  unfold State.enterRunning
  exact .ite hk.seqPoint.startDiagGrid hk.setSeqState

theorem Keeps.followStreams {s₀ s : State} (hk : Keeps s₀ s) : Keeps s₀ (s.followStreams) := by
  unfold State.followStreams
  extract_lets s1 _
  have h1 : Keeps s₀ s1 := by
    unfold s1
    split
    exacts [(hk.foldl fun _ _ k => k.set), hk]
  exact h1.same

theorem Keeps.seedAccount {s₀ s : State} (hk : Keeps s₀ s) : Keeps s₀ (s.seedAccount) := by
  unfold State.seedAccount
  exact hk.same

theorem Keeps.followTakes {s₀ s : State} (hk : Keeps s₀ s) : Keeps s₀ (s.followTakes) := by
  unfold State.followTakes
  extract_lets _ s1
  have h1 : Keeps s₀ s1 := by
    unfold s1
    split
    exacts [hk.same, hk]
  exact (h1.foldl fun _ _ k => (by split; exacts [k.same, k]))

theorem Keeps.takeOver {s₀ s : State} (hk : Keeps s₀ s) : Keeps s₀ (s.takeOver) := by
  unfold State.takeOver
  exact hk.same.followTakes.seedAccount.followStreams.enterRunning.seqFollowAxis

theorem Keeps.completeClaim {s₀ s : State} (hk : Keeps s₀ s) : Keeps s₀ (s.completeClaim) := by
  unfold State.completeClaim
  exact (Keeps.ite hk.same.setRole.takeOver hk.same.setRole).newEpoch

theorem Keeps.execClaimComplete {s₀ s : State} (hk : Keeps s₀ s) : Completes s₀ (execClaimComplete s) := by
  unfold Machine.execClaimComplete
  split
  exacts [(.ite (.next hk.completeClaim) (.next hk)), (.next hk)]

theorem Keeps.execHeartbeatSend {s₀ s : State} (hk : Keeps s₀ s) : Completes s₀ (execHeartbeatSend s) := by
  unfold Machine.execHeartbeatSend
  exact .ite (.next hk.same.sendFarlu) (.next hk)

theorem Keeps.execHeartbeatLost {s₀ s : State} (hk : Keeps s₀ s) : Completes s₀ (execHeartbeatLost s) := by
  unfold Machine.execHeartbeatLost
  exact .ite (.next hk.same.setMirrorSync.raise) (.next hk)

theorem Keeps.discardSets {s₀ s : State} (hk : Keeps s₀ s) {g : Nat} : Keeps s₀ (s.discardSets g) := by
  unfold State.discardSets
  extract_lets _ _ s1 _ _ s2 _
  have h1 : Keeps s₀ s1 := (hk.same.foldl fun _ _ k => (k.foldl fun _ _ k => (by split; exacts [k.clearReel, k])))
  exact h1.same.same.noteQuiet.drainCheck

theorem Keeps.diverge {s₀ s : State} (hk : Keeps s₀ s) {g : Nat} : Keeps s₀ (s.diverge g) := by
  unfold State.diverge
  exact hk.setWaiting.discardSets.same.applyDacs.count.raiseMs.requestResync

theorem Keeps.execTakeDivergence {s₀ s : State} (hk : Keeps s₀ s) {group : Fin 4} : Completes s₀ (execTakeDivergence group s) := by
  unfold Machine.execTakeDivergence
  exact .ite (.next hk.diverge) (.next hk)

theorem Keeps.execSumUnpairedTimeout {s₀ s : State} (hk : Keeps s₀ s) : Completes s₀ (execSumUnpairedTimeout s) := by
  unfold Machine.execSumUnpairedTimeout
  exact .next hk.same.addSat

theorem Keeps.execTimeFrameSend {s₀ s : State} (hk : Keeps s₀ s) : Completes s₀ (execTimeFrameSend s) := by
  unfold Machine.execTimeFrameSend
  exact .ite (.next hk.same.sendFarlu) (.next hk)

theorem Keeps.execPairHandover {s₀ s : State} (hk : Keeps s₀ s) {req : Requester} {tag value : Nat} :
    Completes s₀ (execPairHandover req tag value s) := by
  unfold Machine.execPairHandover
  exact .next hk.koaSet

theorem Keeps.resetTogether {s₀ s : State} (hk : Keeps s₀ s) {c : ResetSource} : Keeps s₀ (s.resetTogether c) := by
  unfold State.resetTogether
  exact .ite hk.same hk

theorem Keeps.scrubPass {s₀ s : State} (hk : Keeps s₀ s) {which e : Nat} {done : Bool} : Keeps s₀ (s.scrubPass which e done) := by
  unfold State.scrubPass
  exact .ite hk.count.raise hk

theorem Keeps.logEcc {s₀ s : State} (hk : Keeps s₀ s) {mem kind syndrome finder addr : Nat} :
    Keeps s₀ (s.logEcc mem kind syndrome finder addr) := by
  unfold State.logEcc
  exact hk.same

theorem Keeps.eccCorrected {s₀ s : State} (hk : Keeps s₀ s) {mem syndrome finder addr : Nat} :
    Keeps s₀ (s.eccCorrected mem syndrome finder addr) := by
  unfold State.eccCorrected
  exact hk.count.logEcc.raiseLimited

theorem Keeps.badHistWord {s₀ s : State} (hk : Keeps s₀ s) {addr : Nat} : Keeps s₀ (s.badHistWord addr) := by
  unfold State.badHistWord
  exact .ite hk hk.same

theorem Keeps.badEngineWord {s₀ s : State} (hk : Keeps s₀ s) {addr : Nat} : Keeps s₀ (s.badEngineWord addr) := by
  unfold State.badEngineWord
  exact .ite hk hk.same

theorem Keeps.voidCue {s₀ s : State} (hk : Keeps s₀ s) {addr : Nat} : Keeps s₀ (s.voidCue addr) := by
  unfold State.voidCue
  exact .ite hk.same hk

theorem Keeps.badItem {s₀ s : State} (hk : Keeps s₀ s) {addr : Nat} : Keeps s₀ (s.badItem addr) := by
  unfold State.badItem
  exact .ite hk.setRxChan (by split; exacts [hk.mapTake, hk])

theorem Keeps.discardItem {s₀ s : State} (hk : Keeps s₀ s) {addr : Nat} : Keeps s₀ (s.discardItem addr) := by
  unfold State.discardItem
  dsimp only
  split
  · split
    · exact hk.setRxChan.degradeReel
    · exact hk
  · split
    · exact hk.badItem.mapSet
    · exact hk

theorem Keeps.sramLost {s₀ s : State} (hk : Keeps s₀ s) {mem addr : Nat} {owner : Bool} : Keeps s₀ (s.sramLost mem addr owner) := by
  unfold State.sramLost
  split
  · exact hk.badHistWord
  · exact hk.badEngineWord
  · exact .ite hk.deviceReset hk
  · exact hk.trip
  · exact hk.voidCue
  · exact .ite hk.discardItem hk.badItem

theorem Keeps.eccUncorrected {s₀ s : State} (hk : Keeps s₀ s) {mem words kind syndrome finder addr : Nat} :
    Keeps s₀ (s.eccUncorrected mem words kind syndrome finder addr) := by
  unfold State.eccUncorrected
  exact hk.addSat.logEcc.raise

theorem Keeps.execSramScrubRead {s₀ s : State} (hk : Keeps s₀ s) {mem : Fin 6} {addr : Nat} {found : EccFind} {owner passEnd : Bool} :
    Completes s₀ (execSramScrubRead mem addr found owner passEnd s) := by
  unfold Machine.execSramScrubRead
  refine .ite ?_ ?_
  · exact .next (.ite hk.resetTogether hk)
  · extract_lets s1
    split
    · exact .next hk.scrubPass
    · exact .next hk.scrubPass.eccCorrected
    · exact .next hk.scrubPass.eccUncorrected.sramLost
    · exact .next hk.scrubPass

theorem Keeps.loseMessage {s₀ s : State} (hk : Keeps s₀ s) {dest place : Nat} : Keeps s₀ (s.loseMessage dest place) := by
  unfold State.loseMessage
  split
  exacts [hk.setOutQueue.dropMessage, hk]

theorem Keeps.ddrLost {s₀ s : State} (hk : Keeps s₀ s) {item : DdrItem} : Keeps s₀ (s.ddrLost item) := by
  unfold State.ddrLost
  split
  · exact .ite hk.same.loseSegments hk
  · exact .ite hk.same.loseSegments hk
  · exact hk.loseMessage
  · exact hk.same
  · exact hk.same
  · exact hk

theorem Keeps.execDdrScrubRead {s₀ s : State} (hk : Keeps s₀ s) {addr : Nat} {found : EccFind} {item : DdrItem} {passEnd : Bool} :
    Completes s₀ (execDdrScrubRead addr found item passEnd s) := by
  unfold Machine.execDdrScrubRead
  refine .ite ?_ ?_
  · exact .next hk
  · extract_lets s1
    split
    · exact .next hk.scrubPass
    · exact .next hk.scrubPass.eccCorrected
    · exact .next hk.scrubPass.eccUncorrected.ddrLost
    · exact .next hk.scrubPass.eccUncorrected.ddrLost

theorem Keeps.startWipe {b s : State} (h : Keeps b s) {size : Nat} : Keeps b (s.startWipe size) := by
  unfold State.startWipe
  dsimp only
  split
  next hp => exact (h.set.set.startJob hp).same
  next => exact h.set.set

theorem Keeps.execDdrTrainingDone {s₀ s : State} (hk : Keeps s₀ s) {lanesOk : Bool} {org : Fin 5} :
    Completes s₀ (execDdrTrainingDone lanesOk org s) := by
  unfold Machine.execDdrTrainingDone
  exact .ite (.ite (.next hk.startWipe) (.next hk.set.raise)) (.next hk)

theorem Keeps.wipeDone {s₀ s : State} (hk : Keeps s₀ s) {slot : Nat} : Keeps s₀ (s.wipeDone slot) := by
  unfold State.wipeDone
  exact hk.set.raise.finishJob

theorem Keeps.execDdrWipeRegionDone {s₀ s : State} (hk : Keeps s₀ s) : Completes s₀ (execDdrWipeRegionDone s) := by
  unfold Machine.execDdrWipeRegionDone
  split
  exacts [(.next hk), (.next (.ite hk.same.setJob.wipeDone hk.same.setJob))]

theorem Keeps.execDdrTempPoll {s₀ s : State} (hk : Keeps s₀ s) {temps : List Int} : Completes s₀ (execDdrTempPoll temps s) := by
  unfold Machine.execDdrTempPoll
  exact .ite (.next hk) (.next hk.same.raise)

theorem Keeps.execSramWipeDone {s₀ s : State} (hk : Keeps s₀ s) : Completes s₀ (execSramWipeDone s) := by
  unfold Machine.execSramWipeDone
  exact .ite (.next hk.same) (.next hk)

theorem Keeps.execOperatingLogAppend {s₀ s : State} (hk : Keeps s₀ s) : Completes s₀ (execOperatingLogAppend s) := by
  unfold Machine.execOperatingLogAppend
  exact .ite (.next hk.same) (.next hk)

theorem Keeps.execRecordResolve {s₀ s : State} (hk : Keeps s₀ s) {req : Requester} {tag value : Nat} :
    Completes s₀ (execRecordResolve req tag value s) := by
  unfold Machine.execRecordResolve
  exact .next hk.koaSet

theorem Keeps.execKeyProgram {s₀ s : State} (hk : Keeps s₀ s) {req : Requester} {tag : Nat} {value : List Byte} :
    Completes s₀ (execKeyProgram req tag value s) := by
  unfold Machine.execKeyProgram
  exact .next hk.koaWriteOf

theorem Keeps.execKeyRevoke {s₀ s : State} (hk : Keeps s₀ s) {req : Requester} {tag value : Nat} :
    Completes s₀ (execKeyRevoke req tag value s) := by
  unfold Machine.execKeyRevoke
  exact .next hk.koaSet

theorem Keeps.execIdentitySet {s₀ s : State} (hk : Keeps s₀ s) {req : Requester} {tag : Nat} {value : List Byte} :
    Completes s₀ (execIdentitySet req tag value s) := by
  unfold Machine.execIdentitySet
  exact .next hk.koaWriteOf

theorem Keeps.execLifecycleRequest {s₀ s : State} (hk : Keeps s₀ s) {req : Requester} {tag : Nat} {value : List Byte} :
    Completes s₀ (execLifecycleRequest req tag value s) := by
  unfold Machine.execLifecycleRequest
  exact .next hk.koaWriteOf

theorem Keeps.execFwCommit {s₀ s : State} (hk : Keeps s₀ s) {req : Requester} {tag value : Nat} :
    Completes s₀ (execFwCommit req tag value s) := by
  unfold Machine.execFwCommit
  exact .next hk.koaSet

theorem Keeps.execSvnCommit {s₀ s : State} (hk : Keeps s₀ s) {req : Requester} {tag value : Nat} :
    Completes s₀ (execSvnCommit req tag value s) := by
  unfold Machine.execSvnCommit
  exact .next hk.koaSet

theorem Keeps.execSelftestStart {s₀ s : State} (hk : Keeps s₀ s) {req : Requester} {tag value : Nat} :
    Completes s₀ (execSelftestStart req tag value s) := by
  unfold Machine.execSelftestStart
  exact .next hk.koaSet

theorem Keeps.execNvmVerify {s₀ s : State} (hk : Keeps s₀ s) {req : Requester} {tag value : Nat} :
    Completes s₀ (execNvmVerify req tag value s) := by
  unfold Machine.execNvmVerify
  exact .next hk.koaSet

theorem Keeps.execTraceCtrlWrite {s₀ s : State} (hk : Keeps s₀ s) {req : Requester} {tag value : Nat} :
    Completes s₀ (execTraceCtrlWrite req tag value s) := by
  unfold Machine.execTraceCtrlWrite
  exact .next hk.koaSet

theorem Keeps.execTraceSnapshot {s₀ s : State} (hk : Keeps s₀ s) : Completes s₀ (execTraceSnapshot s) := by
  unfold Machine.execTraceSnapshot
  exact .ite (.next (hk.same.foldl fun _ _ k => k.traceSend)) (.next hk)

theorem Keeps.execSupplyPowerOn {s₀ s : State} (hk : Keeps s₀ s) : Completes s₀ (execSupplyPowerOn s) := by
  unfold Machine.execSupplyPowerOn
  exact .next hk.same

theorem Keeps.heldBrownout {s₀ s : State} (hk : Keeps s₀ s) {supply : Nat} : Keeps s₀ (s.heldBrownout supply) := by
  unfold State.heldBrownout
  exact hk.same

theorem Keeps.execBrownout {s₀ s : State} (hk : Keeps s₀ s) {supply : Fin 7} : Completes s₀ (execBrownout supply s) := by
  unfold Machine.execBrownout
  exact .ite (.next hk.heldBrownout) (.next hk.same.deviceReset)

theorem Keeps.execResetPin {s₀ s : State} (hk : Keeps s₀ s) : Completes s₀ (execResetPin s) := by
  unfold Machine.execResetPin
  exact .next (.ite hk.same.resetTogether hk.same.deviceReset)

theorem Keeps.execStandbyEntry {s₀ s : State} (hk : Keeps s₀ s) : Completes s₀ (execStandbyEntry s) := by
  unfold Machine.execStandbyEntry
  exact .next (.ite hk.same.resetTogether hk.same.deviceReset)

theorem Keeps.execWakeHigh {s₀ s : State} (hk : Keeps s₀ s) : Completes s₀ (execWakeHigh s) := by
  unfold Machine.execWakeHigh
  exact .next hk.same

theorem Keeps.execCcWatchdogExpiry {s₀ s : State} (hk : Keeps s₀ s) : Completes s₀ (execCcWatchdogExpiry s) := by
  unfold Machine.execCcWatchdogExpiry
  exact .next (.ite hk.deviceReset hk.resetTogether)

theorem Keeps.execResetRequest {s₀ s : State} (hk : Keeps s₀ s) {req : Requester} {tag value : Nat} :
    Completes s₀ (execResetRequest req tag value s) := by
  unfold Machine.execResetRequest
  exact .next hk.koaSet

theorem Keeps.execResetRequestDelayEnd {s₀ s : State} (hk : Keeps s₀ s) : Completes s₀ (execResetRequestDelayEnd s) := by
  unfold Machine.execResetRequestDelayEnd
  split
  exacts [(.next (.ite hk.deviceReset hk)), (.next hk)]

theorem Keeps.sampleStraps {s₀ s : State} (hk : Keeps s₀ s) {x : StrapLevels} : Keeps s₀ (s.sampleStraps x) := by
  unfold State.sampleStraps
  exact hk.same.same.set.set

theorem Keeps.writeSeal {s₀ s : State} (hk : Keeps s₀ s) {good : Bool} : Keeps s₀ (s.writeSeal good) := by
  unfold State.writeSeal
  split
  exacts [(Keeps.ite hk.updateRecord hk).same, hk]

theorem Keeps.blowFuse {s₀ s : State} (hk : Keeps s₀ s) : Keeps s₀ (s.blowFuse) := by
  unfold State.blowFuse
  split
  exacts [hk.same, hk]

theorem Keeps.resolveAtBoot {s₀ s : State} (hk : Keeps s₀ s) {kind : Nat} : Keeps s₀ (s.resolveAtBoot kind) := by
  unfold State.resolveAtBoot
  extract_lets _ _ s1
  split
  exacts [hk.same.setRecord.raise, hk.same.raise, hk.same.raise, hk.same]

theorem Keeps.startMonitor {s₀ s : State} (hk : Keeps s₀ s) : Keeps s₀ (s.startMonitor) := by
  unfold State.startMonitor
  exact (hk.foldl fun _ _ k => k.setEvIn).same

theorem Keeps.setOtp {s₀ s : State} (hk : Keeps s₀ s) {k : Nat} : Keeps s₀ (s.setOtp k) := by
  unfold State.setOtp
  split
  exacts [hk.set, hk]

theorem Keeps.otpObjects {s₀ s : State} (hk : Keeps s₀ s) : Keeps s₀ (s.otpObjects) := by
  unfold State.otpObjects
  exact (hk.foldl fun _ _ k => k.setOtp)

theorem Keeps.releaseEpoch {s₀ s : State} (hk : Keeps s₀ s) : Keeps s₀ (s.releaseEpoch) := by
  unfold State.releaseEpoch
  split
  exacts [hk.set.set, hk]

theorem Keeps.loadSealObject {s₀ s : State} (hk : Keeps s₀ s) {d : ObjDesc} {bs : List Byte} : Keeps s₀ (s.loadSealObject d bs) := by
  unfold State.loadSealObject
  exact (hk.foldl fun _ _ k => (.ite k.setBlk k.set))

theorem Keeps.loadSeal {b s : State} (h : Keeps b s) {image : List Byte} : Keeps b (s.loadSeal image) := by
  have hfold : ∀ (l : List ObjDesc) (p : State × List Byte), Keeps b p.1 →
      Keeps b (l.foldl (fun p d => (p.1.loadSealObject d p.2, p.2.drop (sealSize d))) p).1 := by
    intro l
    induction l with
    | nil => exact fun p hp => hp
    | cons d l ih => exact fun p hp => ih _ hp.loadSealObject
  exact hfold _ _ h

theorem Keeps.releaseSeal {s₀ s : State} (hk : Keeps s₀ s) {sealEn : Bool} : Keeps s₀ (s.releaseSeal sealEn) := by
  unfold State.releaseSeal
  extract_lets _ _ s1 s2
  have h2 : Keeps s₀ s2 := by
    unfold s2
    split
    exacts [(.ite hk.set.set.set hk.set.set.set.loadSeal), hk.set]
  exact h2.sealTouched

theorem Keeps.enterPairing {s₀ s : State} (hk : Keeps s₀ s) : Keeps s₀ (s.enterPairing) := by
  unfold State.enterPairing
  exact .ite hk.setRole.setRole hk.setRole

theorem Keeps.release {s₀ s : State} (hk : Keeps s₀ s) {x : StrapLevels} : Keeps s₀ (s.release x) := by
  unfold State.release
  extract_lets s1 _ s2 _ _ s3 s4 s5 s6
  have h1 : Keeps s₀ s1 := hk.blowFuse.writeSeal.sampleStraps
  have h4 : Keeps s₀ s4 := (h1.same.same.foldl fun _ _ k => k.resolveAtBoot).drawNonce
  have h5 : Keeps s₀ s5 := .ite h4.setSafetyState h4.raise
  have h6 : Keeps s₀ s6 := h5.releaseSeal.releaseEpoch.otpObjects.startMonitor
  exact .ite h6.enterPairing h6

theorem Keeps.execResetRelease {s₀ s : State} (hk : Keeps s₀ s) {levels : StrapLevels} : Completes s₀ (execResetRelease levels s) := by
  unfold Machine.execResetRelease
  exact .next (.ite hk.release hk)

theorem Keeps.noteImages {s₀ s : State} (hk : Keeps s₀ s) : Keeps s₀ (s.noteImages) := by
  unfold State.noteImages
  exact (hk.foldl fun _ _ k => (.ite k k.raise))

theorem Keeps.runImage {s₀ s : State} (hk : Keeps s₀ s) {n : Nat} : Keeps s₀ (s.runImage n) := by
  unfold State.runImage
  extract_lets _ _ s1 s2 _ s3 _ s4
  have h3 : Keeps s₀ s3 := .ite hk.same.set.raise.same.raise hk.same.set.raise
  have h4 : Keeps s₀ s4 := .ite h3.same.setSealResult h3
  exact .ite h4.setSafetyState h4

theorem Keeps.execBootImageVerified {s₀ s : State} (hk : Keeps s₀ s) : Completes s₀ (execBootImageVerified s) := by
  unfold Machine.execBootImageVerified
  exact .ite (.next (.ite hk.noteImages.same hk.noteImages.runImage)) (.next hk)

theorem Keeps.startHk {s₀ s : State} (hk : Keeps s₀ s) : Keeps s₀ (s.startHk) := by
  unfold State.startHk
  exact hk.same

theorem Keeps.startHist {s₀ s : State} (hk : Keeps s₀ s) : Keeps s₀ (s.startHist) := by
  unfold State.startHist
  exact hk.same

theorem Keeps.startRx {s₀ s : State} (hk : Keeps s₀ s) : Keeps s₀ (s.startRx) := by
  unfold State.startRx
  exact (hk.same.foldl fun _ _ k => k.applyDac.takeSettings)

theorem Keeps.startCrank {s₀ s : State} (hk : Keeps s₀ s) : Keeps s₀ (s.startCrank) := by
  unfold State.startCrank
  exact ((hk.foldl fun _ _ k => k.setEvIn).foldl fun _ _ k => k.setAxis).restartAxis.restartAxis

theorem Keeps.startSeq {s₀ s : State} (hk : Keeps s₀ s) : Keeps s₀ (s.startSeq) := by
  unfold State.startSeq
  exact .ite (.ite hk.same.same.seqStart hk.same.same) hk.same.raise

theorem Keeps.startLanes {s₀ s : State} (hk : Keeps s₀ s) : Keeps s₀ (s.startLanes) := by
  unfold State.startLanes
  exact hk.setBond.setBond.trainOrDown.trainOrDown

theorem Keeps.startCan {s₀ s : State} (hk : Keeps s₀ s) : Keeps s₀ (s.startCan) := by
  unfold State.startCan
  exact .ite hk hk.canRestart

theorem Keeps.startClock {s₀ s : State} (hk : Keeps s₀ s) : Keeps s₀ (s.startClock) := by
  unfold State.startClock
  exact hk.set.setPtp.setPtp.same.restartPort.restartPort

theorem Keeps.serviceWipe {b s : State} (h : Keeps b s) : Keeps b s.serviceWipe := by
  unfold State.serviceWipe
  refine .ite ?_ h
  split
  next hp => exact h.startJob hp
  next => exact h

theorem Keeps.startBlocks {s₀ s : State} (hk : Keeps s₀ s) : Keeps s₀ (s.startBlocks) := by
  unfold State.startBlocks
  extract_lets _ s1 s2 s3
  have h2 : Keeps s₀ s2 := hk.same.startCrank.startKernel.startRx.startHist.startHk
  have h3 : Keeps s₀ s3 := h2.startClock.startCan.startLanes.startSeq.takeAlarm
  exact h3.serviceWipe

theorem Keeps.loadIdeal {b s : State} (h : Keeps b s) : Keeps b s.loadIdeal :=
  h.filter (fun e => !calStored e.1) (fun _ => true) (hb := by simp [State.loadIdeal])

theorem Keeps.loadBank {s₀ s : State} (hk : Keeps s₀ s) {b : CalBank} : Keeps s₀ (s.loadBank b) := by
  unfold State.loadBank
  exact ((hk.loadIdeal.foldl fun _ _ k => k.set.set).foldl fun _ _ k => k.set.set.set).same

theorem Keeps.loadCalibration {s₀ s : State} (hk : Keeps s₀ s) : Keeps s₀ (s.loadCalibration) := by
  unfold State.loadCalibration
  extract_lets _ _ s1 s2 _ s3
  have h1 : Keeps s₀ s1 := (hk.foldl fun _ _ k => (.ite k.raise k))
  have h3 : Keeps s₀ s3 := (Keeps.ite h1.raise h1).set.set
  exact .ite h3.loadIdeal.raise h3.loadBank

theorem Keeps.storedReject {s₀ s : State} (hk : Keeps s₀ s) : Keeps s₀ (s.storedReject) := by
  unfold State.storedReject
  exact hk.set.raise

theorem Keeps.putStored {s₀ s : State} (hk : Keeps s₀ s) {k : Nat} {x : StoredVal} : Keeps s₀ (s.putStored k x) := by
  unfold State.putStored
  split
  exacts [hk.set, hk.setBlk]

theorem Keeps.loadStored {s₀ s : State} (hk : Keeps s₀ s) {k : Nat} : Keeps s₀ (s.loadStored k) := by
  unfold State.loadStored
  split
  exacts [(.ite hk (.ite hk.storedReject hk.putStored)), hk]

theorem Keeps.clearRws {b s : State} (h : Keeps b s) : Keeps b s.clearRws :=
  (h.filter (fun e => !isRwsKey e.1) (fun e => !isRwsKey e.1)).otpObjects

theorem Keeps.putDefault {b s : State} (h : Keeps b s) {k : Nat} : Keeps b (s.putDefault k) :=
  (h.filter (fun e => e.1 != k) (fun e => e.1 != k)).setOtp

theorem Keeps.settle {b s : State} (h : Keeps b s) {l : List CrossCheck} {n : Nat} {stored : List Nat} :
    Keeps b (State.settle l n stored s) := by
  induction n generalizing s stored with
  | zero => exact h
  | succ n ih =>
    unfold State.settle
    split
    · exact h
    · exact ih (h.foldl fun _ _ k => k.putDefault.storedReject)

theorem Keeps.limitToCeiling {s₀ s : State} (hk : Keeps s₀ s) : Keeps s₀ (s.limitToCeiling) := by
  unfold State.limitToCeiling
  exact .ite hk.set hk

theorem Keeps.applyStored {s₀ s : State} (hk : Keeps s₀ s) : Keeps s₀ (s.applyStored) := by
  unfold State.applyStored
  extract_lets _ _ s1 s2 s3 _ s4 _
  have h1 : Keeps s₀ s1 := (hk.clearRws.foldl fun _ _ k => k.loadStored)
  have h4 : Keeps s₀ s4 := (h1.settle.set.foldl fun _ _ k => k.loadStored)
  exact h4.settle.limitToCeiling.resetEnergyStatus

theorem Keeps.execBootApplyStored {s₀ s : State} (hk : Keeps s₀ s) : Completes s₀ (execBootApplyStored s) := by
  unfold Machine.execBootApplyStored
  exact .next (.ite hk.applyStored.loadCalibration.startBlocks hk)

theorem Keeps.execLockstepDivergence {s₀ s : State} (hk : Keeps s₀ s) {_complex : Fin 2} :
    Completes s₀ (execLockstepDivergence _complex s) := by
  unfold Machine.execLockstepDivergence
  exact .next (.ite hk hk.trip)

theorem Keeps.followSwing {s₀ s : State} (hk : Keeps s₀ s) : Keeps s₀ (s.followSwing) := by
  unfold State.followSwing
  exact .ite hk.setAxis hk

theorem Keeps.latchCrossings {s₀ s : State} (hk : Keeps s₀ s) : Keeps s₀ (s.latchCrossings) := by
  unfold State.latchCrossings
  exact .ite hk.same hk

theorem Keeps.beginFrame {s₀ s : State} (hk : Keeps s₀ s) {f : EgressFrame} : Keeps s₀ (s.beginFrame f) := by
  unfold State.beginFrame
  exact hk.same.count.send

theorem Keeps.servePort {s₀ s : State} (hk : Keeps s₀ s) {p : Nat} : Keeps s₀ (s.servePort p) := by
  unfold State.servePort
  exact .ite hk.same (.ite (by split; exacts [hk.beginFrame, hk]) hk)

theorem Keeps.servePorts {s₀ s : State} (hk : Keeps s₀ s) : Keeps s₀ (s.servePorts) := by
  unfold State.servePorts
  exact hk.servePort.servePort

theorem Keeps.sendPdelayResps {s₀ s : State} (hk : Keeps s₀ s) : Keeps s₀ (s.sendPdelayResps) := by
  unfold State.sendPdelayResps
  exact hk.sendPdelayResp.sendPdelayResp

theorem Keeps.noteSum {s₀ s : State} (hk : Keeps s₀ s) {x : SpokeSum} : Keeps s₀ (s.noteSum x) := by
  unfold State.noteSum
  exact .ite hk.sendFarlu (.ite (by split; exacts [hk.same.compareSums, hk.same]) hk)

theorem Keeps.coordinate {s₀ s : State} (hk : Keeps s₀ s) {num : Int} : Keeps s₀ (s.coordinate num).2 := by
  unfold State.coordinate
  exact hk.draw

theorem Keeps.vehicleBits {s₀ s : State} (hk : Keeps s₀ s) {st : SpokeSettings} {p : SpokePoint} : Keeps s₀ (s.vehicleBits st p).2 := by
  unfold State.vehicleBits
  extract_lets u x y z
  have hx : Keeps s₀ x.2 := hk.coordinate
  have hy : Keeps s₀ y.2 := hx.coordinate
  exact hy.coordinate (num := vehicleNum st (recRange p.rec_) u 2)

theorem Keeps.streamRecords {b s : State} (h : Keeps b s) {kind : Nat} {st : SpokeSettings} {l : List SpokePoint} :
    Keeps b (s.streamRecords kind st l).2 := by
  induction l generalizing s with
  | nil => exact h
  | cons p l ih =>
    unfold State.streamRecords
    split
    · exact ih h.vehicleBits
    · exact ih h

theorem Keeps.streamSpoke {s₀ s : State} (hk : Keeps s₀ s) {sp : Spoke} {points : List SpokePoint} {n : Nat} :
    Keeps s₀ (s.streamSpoke sp points n) := by
  unfold State.streamSpoke
  exact .ite hk hk.streamRecords.enqueue

theorem Keeps.closeSpoke {s₀ s : State} (hk : Keeps s₀ s) {sp : Spoke} : Keeps s₀ (s.closeSpoke sp) := by
  unfold State.closeSpoke
  exact .ite hk.same.noteSum (hk.same.noteSum.foldl fun _ _ k => k.streamSpoke)

theorem Keeps.splitSpoke {s₀ s : State} (hk : Keeps s₀ s) {sp : Spoke} : Keeps s₀ (s.splitSpoke sp) := by
  unfold State.splitSpoke
  exact hk.closeSpoke.count.raiseMs

theorem Keeps.endSpoke {s₀ s : State} (hk : Keeps s₀ s) {x : Spoke} : Keeps s₀ (s.endSpoke x) := by
  unfold State.endSpoke
  exact .ite hk.splitSpoke (.ite hk.closeSpoke hk.mapSpoke)

theorem Keeps.endSpokes {s₀ s : State} (hk : Keeps s₀ s) : Keeps s₀ (s.endSpokes) := by
  unfold State.endSpokes
  exact (hk.foldl fun _ _ k => k.endSpoke)

theorem Keeps.drainBank {s₀ s : State} (hk : Keeps s₀ s) {id b : Nat} : Keeps s₀ (s.drainBank id b) := by
  unfold State.drainBank
  exact .ite hk (hk.setBank.foldl fun _ _ k => k.applyAddition)

theorem Keeps.drainBanks {s₀ s : State} (hk : Keeps s₀ s) {id : Nat} : Keeps s₀ (s.drainBanks id) := by
  unfold State.drainBanks
  exact (hk.foldl fun _ _ k => k.drainBank)

theorem Keeps.dropClaim {s₀ s : State} (hk : Keeps s₀ s) {id ch : Nat} : Keeps s₀ (s.dropClaim id ch) := by
  unfold State.dropClaim
  exact .ite hk.same hk.same.setRxChan.addSat.raiseMs

theorem Keeps.dropWaiting {s₀ s : State} (hk : Keeps s₀ s) {st : ReelSet} {ch buf : Nat} : Keeps s₀ (s.dropWaiting st ch buf) := by
  unfold State.dropWaiting
  exact .ite hk hk.setRxChan.setReel.addSat.raiseMs

theorem Keeps.overrun {s₀ s : State} (hk : Keeps s₀ s) {st : ReelSet} {ch buf : Nat} : Keeps s₀ (s.overrun st ch buf) := by
  unfold State.overrun
  exact hk.clearReel.mapSpoke.count.raiseMs

theorem Keeps.readCopied {s₀ s : State} (hk : Keeps s₀ s) {d : Descriptor} : Keeps s₀ (s.readCopied d) := by
  unfold State.readCopied
  exact .ite hk.readWords hk

theorem Keeps.noteRates {s₀ s : State} (hk : Keeps s₀ s) {d : Descriptor} : Keeps s₀ (s.noteRates d) := by
  unfold State.noteRates
  exact .ite hk.set.set hk.set.set.same

theorem Keeps.rawCopy {s₀ s : State} (hk : Keeps s₀ s) {d : Descriptor} {bins : Tab Nat} : Keeps s₀ (s.rawCopy d bins) := by
  unfold State.rawCopy
  exact .ite (.ite hk.same.setReel hk.count.raiseMs) hk

theorem Keeps.mrevCopy {s₀ s : State} (hk : Keeps s₀ s) {d : Descriptor} {bins : Tab Nat} : Keeps s₀ (s.mrevCopy d bins) := by
  unfold State.mrevCopy
  exact .ite hk.same hk

theorem Keeps.postReel {s₀ s : State} (hk : Keeps s₀ s) {st : ReelSet} {ch buf : Nat} : Keeps s₀ (s.postReel st ch buf) := by
  unfold State.postReel
  exact hk.readCopied.setReel.noteRates.oweReel.mrevCopy.rawCopy.dispatch

theorem Keeps.completeChannel {s₀ s : State} (hk : Keeps s₀ s) {st : ReelSet} {ch : Nat} : Keeps s₀ (s.completeChannel st ch) := by
  unfold State.completeChannel
  split
  · exact hk.dropClaim
  · exact .ite hk.dropWaiting.overrun (.ite hk.dropWaiting.clearReel hk.dropWaiting.postReel)

theorem Keeps.purgeSets {s₀ s : State} (hk : Keeps s₀ s) : Keeps s₀ (s.purgeSets) := by
  unfold State.purgeSets
  exact hk.same

theorem Keeps.completeSet {s₀ s : State} (hk : Keeps s₀ s) {st : ReelSet} : Keeps s₀ (s.completeSet st) := by
  unfold State.completeSet
  exact (hk.drainBanks.foldl fun _ _ k => k.completeChannel).mapSet.same.purgeSets.noteQuiet.drainCheck

theorem Keeps.completeSets {s₀ s : State} (hk : Keeps s₀ s) : Keeps s₀ (s.completeSets) := by
  unfold State.completeSets
  exact (hk.foldl fun _ _ k => k.completeSet)

theorem Keeps.expire {s₀ s : State} (hk : Keeps s₀ s) {n : Nat} : Keeps s₀ (s.expire n) := by
  unfold State.expire
  exact .ite hk.seFault hk

theorem Keeps.expireSlots {s₀ s : State} (hk : Keeps s₀ s) : Keeps s₀ (s.expireSlots) := by
  unfold State.expireSlots
  exact (hk.foldl fun _ _ k => k.expire)

theorem Keeps.stampTake {s₀ s : State} (hk : Keeps s₀ s) {t : Take} : Keeps s₀ (s.stampTake t) := by
  unfold State.stampTake
  exact hk.staleTake.same

theorem Keeps.stampTakes {s₀ s : State} (hk : Keeps s₀ s) : Keeps s₀ (s.stampTakes) := by
  unfold State.stampTakes
  exact (hk.foldl fun _ _ k => k.stampTake)

theorem Keeps.blockCut {s₀ s : State} (hk : Keeps s₀ s) : Keeps s₀ (s.blockCut) := by
  unfold State.blockCut
  exact (hk.foldl fun _ _ k => k.blockTake)

theorem Keeps.holdPosition {b s old : State} (h : Keeps b s) {a : Nat} : Keeps b (State.holdPosition old s a) := by
  unfold State.holdPosition
  exact .ite h.setAxis h

theorem Keeps.applyHeld {s₀ s : State} (hk : Keeps s₀ s) : Keeps s₀ (s.applyHeld) := by
  unfold State.applyHeld
  exact .ite hk (hk.same.foldl fun _ _ k => k.applyKept)

theorem Keeps.loopBack {s₀ s : State} (hk : Keeps s₀ s) {n : Nat} : Keeps s₀ (s.loopBack n) := by
  unfold State.loopBack
  split
  exacts [(.ite hk.receiveBlock hk), hk]

theorem Keeps.testWord {s₀ s : State} (hk : Keeps s₀ s) {n : Nat} : Keeps s₀ (s.testWord n) := by
  unfold State.testWord
  exact .ite hk.setLane (.ite hk.laneOut hk.setOut)

theorem Keeps.testLane {s₀ s : State} (hk : Keeps s₀ s) {n : Nat} : Keeps s₀ (s.testLane n) := by
  unfold State.testLane
  exact .ite hk hk.setLane.testWord.loopBack

theorem Keeps.frameLeft {s₀ s : State} (hk : Keeps s₀ s) {b : Nat} {f : TxFrame} : Keeps s₀ (s.frameLeft b f) := by
  unfold State.frameLeft
  extract_lets s1
  split
  exacts [hk.send.setOutQueue, hk.send]

theorem Keeps.columnLeft {s₀ s : State} (hk : Keeps s₀ s) {b : Nat} : Keeps s₀ (s.columnLeft b) := by
  unfold State.columnLeft
  extract_lets _ _
  refine .ite ?_ ?_
  · exact hk.setBond
  · split
    · exact (hk.setBond.foldl fun _ _ k => k.send)
    · exact .ite hk.setBond hk.setBond.frameLeft
    · exact hk.setBond

theorem Keeps.beginColumn {s₀ s : State} (hk : Keeps s₀ s) {b : Nat} : Keeps s₀ (s.beginColumn b) := by
  unfold State.beginColumn
  exact (hk.foldl fun _ _ k => k.laneOut).columnLeft

theorem Keeps.bondColumn {s₀ s : State} (hk : Keeps s₀ s) {b : Nat} : Keeps s₀ (s.bondColumn b) := by
  unfold State.bondColumn
  exact .ite hk hk.setBond.beginColumn

theorem Keeps.laneColumns {s₀ s : State} (hk : Keeps s₀ s) : Keeps s₀ (s.laneColumns) := by
  unfold State.laneColumns
  exact .ite (hk.bondColumn.bondColumn.foldl fun _ _ k => k.testLane) hk

theorem Keeps.sampleTime {s₀ s : State} (hk : Keeps s₀ s) : Keeps s₀ (s.sampleTime) := by
  unfold State.sampleTime
  split
  exacts [(.ite hk.setBond hk), hk]

theorem Keeps.endHour {s₀ s : State} (hk : Keeps s₀ s) : Keeps s₀ (s.endHour) := by
  unfold State.endHour
  exact .ite hk.newHour hk

theorem Keeps.endSpans {s₀ s : State} (hk : Keeps s₀ s) : Keeps s₀ (s.endSpans) := by
  unfold State.endSpans
  exact .ite hk hk.same.followSpans

theorem Keeps.flushLows {s₀ s : State} (hk : Keeps s₀ s) : Keeps s₀ (s.flushLows) := by
  unfold State.flushLows
  exact .ite hk (hk.same.foldl fun _ _ k => k.raise)

theorem Keeps.lapseCaptures {s₀ s : State} (hk : Keeps s₀ s) : Keeps s₀ (s.lapseCaptures) := by
  unfold State.lapseCaptures
  exact (hk.foldl fun _ _ k => k.mapTake.keepProvisional.dropDiag)

theorem Keeps.beginRecharges {s₀ s : State} (hk : Keeps s₀ s) : Keeps s₀ (s.beginRecharges) := by
  unfold State.beginRecharges
  exact (hk.foldl fun _ _ k => (by split; exacts [(.ite k.recharge k), k]))

theorem Keeps.settleWaiting {s₀ s : State} (hk : Keeps s₀ s) : Keeps s₀ (s.settleWaiting) := by
  unfold State.settleWaiting
  exact (hk.foldl fun _ _ k => (.ite k k.settleChannel))

theorem Keeps.chainFall {s₀ s : State} (hk : Keeps s₀ s) : Keeps s₀ (s.chainFall) := by
  unfold State.chainFall
  split
  exacts [(by split; exacts [(.ite hk.same.countWrap.startFrame hk), hk]), hk.startFrame]

theorem Keeps.releaseHeld {s₀ s : State} (hk : Keeps s₀ s) : Keeps s₀ (s.releaseHeld) := by
  unfold State.releaseHeld
  exact .ite hk hk.releaseChannels.releaseChannels

theorem Keeps.tracePins {s₀ s : State} (hk : Keeps s₀ s) : Keeps s₀ (s.tracePins) := by
  unfold State.tracePins
  split
  exacts [hk, hk.same.send]

theorem Keeps.traceLane {s₀ s : State} (hk : Keeps s₀ s) : Keeps s₀ (s.traceLane) := by
  unfold State.traceLane
  split
  exacts [hk, hk.same.send]

theorem Keeps.drainTrace {s₀ s : State} (hk : Keeps s₀ s) : Keeps s₀ (s.drainTrace) := by
  unfold State.drainTrace
  exact .ite (.ite hk.tracePins (.ite hk.traceLane hk)) hk

theorem Keeps.advanceTime {s₀ s : State} (hk : Keeps s₀ s) : Keeps s₀ (s.advanceTime) := by
  unfold State.advanceTime
  exact .ite hk.same hk

theorem Keeps.noteEvent {s₀ s : State} (hk : Keeps s₀ s) {r : RaisedEvent} : Keeps s₀ (s.noteEvent r) := by
  unfold State.noteEvent
  exact hk.count.setBlk

theorem Keeps.ibiAdd {s₀ s : State} (hk : Keeps s₀ s) {r : List Byte} : Keeps s₀ (s.ibiAdd r) := by
  unfold State.ibiAdd
  exact .ite hk.same hk.count.same

theorem Keeps.gather {s₀ s : State} (hk : Keeps s₀ s) {e1 : Bool} {r : List Byte} : Keeps s₀ (s.gather e1 r) := by
  unfold State.gather
  exact .ite hk.setGathered.flushEvents hk.setGathered

theorem Keeps.gatherRoutes {s₀ s : State} (hk : Keeps s₀ s) {e : Nat} {r : List Byte} : Keeps s₀ (s.gatherRoutes e r) := by
  unfold State.gatherRoutes
  exact .ite hk (.ite (Keeps.ite hk.gather hk).gather (.ite hk.gather hk))

theorem Keeps.routeEvent {s₀ s : State} (hk : Keeps s₀ s) {r : RaisedEvent} : Keeps s₀ (s.routeEvent r) := by
  unfold State.routeEvent
  exact .ite (Keeps.ite hk.ibiAdd hk).gatherRoutes.traceSend (Keeps.ite hk.ibiAdd hk).gatherRoutes

theorem Keeps.setPending {s₀ s : State} (hk : Keeps s₀ s) {e : Nat} : Keeps s₀ (s.setPending e) := by
  unfold State.setPending
  exact hk.same

theorem Keeps.handleEvent {s₀ s : State} (hk : Keeps s₀ s) {r : RaisedEvent} : Keeps s₀ (s.handleEvent r) := by
  unfold State.handleEvent
  exact .ite hk.noteEvent.setPending.routeEvent hk.noteEvent

theorem Keeps.handleEvents {s₀ s : State} (hk : Keeps s₀ s) : Keeps s₀ (s.handleEvents) := by
  unfold State.handleEvents
  exact (hk.same.foldl fun _ _ k => k.handleEvent).same

/-- Every command has an effect or none, and no effect touches the queue, the clock or the store's form. -/
theorem Keeps.exec {s₀ s : State} (hk : Keeps s₀ s) : ∀ c : Instr, Completes s₀ (exec c s)
  | .koaRead .. => hk.execKoaRead
  | .koaWrite .. => hk.execKoaWrite
  | .koaReadRange .. => hk.execKoaReadRange
  | .koaWriteRange .. => hk.execKoaWriteRange
  | .koaReadSeg .. => hk.execKoaReadSeg
  | .koaWriteSeg .. => hk.execKoaWriteSeg
  | .koaWriteIf .. => hk.execKoaWriteIf
  | .koaDescribe .. => hk.execKoaDescribe
  | .koaNop .. => hk.execKoaNop
  | .koaUnassignedOpcode .. => hk.execKoaUnassignedOpcode
  | .koaPduDiscard .. => hk.execKoaPduDiscard
  | .koaI3cResponseTimeout => hk.execKoaI3cResponseTimeout
  | .segmentExpired .. => hk.execSegmentExpired
  | .storeAll .. => hk.execStoreAll
  | .storeCal .. => hk.execStoreCal
  | .restoreDefaults .. => hk.execRestoreDefaults
  | .jobAck .. => hk.execJobAck
  | .jobAbort .. => hk.execJobAbort
  | .jobStep .. => hk.execJobStep
  | .jobRetentionExpiry .. => hk.execJobRetentionExpiry
  | .nvmProgramDone .. => hk.execNvmProgramDone
  | .nvmEraseDone .. => hk.execNvmEraseDone
  | .nvmWearLevelErase => hk.execNvmWearLevelErase
  | .clockFault .. => hk.execClockFault
  | .clockRecovered .. => hk.execClockRecovered
  | .spokePllStable => hk.execSpokePllStable
  | .evRawTransition .. => hk.execEvRawTransition
  | .evEdgeAccepted .. => hk.execEvEdgeAccepted
  | .evBankLevelWrite .. => hk.execEvBankLevelWrite
  | .evBankGapEnd .. => hk.execEvBankGapEnd
  | .axisConfigWrite .. => hk.execAxisConfigWrite
  | .freewheelEntry .. => hk.execFreewheelEntry
  | .freewheelLimitReached .. => hk.execFreewheelLimitReached
  | .freewheelLimitWrite .. => hk.execFreewheelLimitWrite
  | .revolutionA .. => hk.execRevolutionA
  | .facetStart .. => hk.execFacetStart
  | .virtualBoundary => hk.execVirtualBoundary
  | .evFreqGateEnd .. => hk.execEvFreqGateEnd
  | .cueWindowWrite .. => hk.execCueWindowWrite
  | .cueWindowInsert .. => hk.execCueWindowInsert
  | .cueWindowDelete .. => hk.execCueWindowDelete
  | .cueWindowClear .. => hk.execCueWindowClear
  | .cueCommit .. => hk.execCueCommit
  | .cueSwap => hk.execCueSwap
  | .stagingCopyDone => hk.execStagingCopyDone
  | .cueBootWrite .. => hk.execCueBootWrite
  | .cueCapture .. => hk.execCueCapture
  | .seqCtrlStart .. => hk.execSeqCtrlStart
  | .seqCtrlStop .. => hk.execSeqCtrlStop
  | .seqEpochInitWrite .. => hk.execSeqEpochInitWrite
  | .fireDecision => hk.execFireDecision
  | .prechargeStart => hk.execPrechargeStart
  | .matrixIntervalEnd => hk.execMatrixIntervalEnd
  | .triggerIssue => hk.execTriggerIssue
  | .loopbackEdge .. => hk.execLoopbackEdge
  | .startMissing => hk.execStartMissing
  | .takeWindowClose => hk.execTakeWindowClose
  | .colRechargeEnd .. => hk.execColRechargeEnd
  | .chainFrameShiftDone .. => hk.execChainFrameShiftDone
  | .chainLatch => hk.execChainLatch
  | .captureComplete .. => hk.execCaptureComplete
  | .zoneDiagClear .. => hk.execZoneDiagClear
  | .diagIntervalBoundary => hk.execDiagIntervalBoundary
  | .diagPulseInsert => hk.execDiagPulseInsert
  | .diagTurnaroundEnd => hk.execDiagTurnaroundEnd
  | .safetySelfTestDone .. => hk.execSafetySelfTestDone
  | .armingStart => hk.execArmingStart
  | .rearmHoldElapsed => hk.execRearmHoldElapsed
  | .offtestStart .. => hk.execOfftestStart
  | .offtestEnRise => hk.execOfftestEnRise
  | .offtestCheck => hk.execOfftestCheck
  | .tripTest .. => hk.execTripTest
  | .gateLeak .. => hk.execGateLeak
  | .overEnergy x y => hk.execOverEnergy (_input := x) (_integrator := y)
  | .accBucketRoll .. => hk.execAccBucketRoll
  | .auditBoundary => hk.execAuditBoundary
  | .auditCompareDone => hk.execAuditCompareDone
  | .scanMonitor => hk.execScanMonitor
  | .safeInputAccept .. => hk.execSafeInputAccept
  | .inputDiscrepancy .. => hk.execInputDiscrepancy
  | .supplyFbChange .. => hk.execSupplyFbChange
  | .supplyReadback .. => hk.execSupplyReadback
  | .safeStatusSend => hk.execSafeStatusSend
  | .safeCmdReceive .. => hk.execSafeCmdReceive
  | .safeMsgTimeout .. => hk.execSafeMsgTimeout
  | .safeMsgDiscrepancy => hk.execSafeMsgDiscrepancy
  | .sealCommit .. => hk.execSealCommit
  | .lockoutReset .. => hk.execLockoutReset
  | .refFaultDetect .. => hk.execRefFaultDetect
  | .refFaultClear .. => hk.execRefFaultClear
  | .threshWrite .. => hk.execThreshWrite
  | .rxLeadingEdge .. => hk.execRxLeadingEdge
  | .rxHighCrossing .. => hk.execRxHighCrossing
  | .rxTrailingEdge .. => hk.execRxTrailingEdge
  | .rxTotLong .. => hk.execRxTotLong
  | .rxDeadTimeEnd .. => hk.execRxDeadTimeEnd
  | .hitDelivery .. => hk.execHitDelivery
  | .dllUnlock .. => hk.execDllUnlock
  | .dllLockHeld .. => hk.execDllLockHeld
  | .rxEnableWrite .. => hk.execRxEnableWrite
  | .rxStuck .. => hk.execRxStuck
  | .rxStuckClear .. => hk.execRxStuckClear
  | .rxBgInterval => hk.execRxBgInterval
  | .binUpdate .. => hk.execBinUpdate
  | .gearTableWrite .. => hk.execGearTableWrite
  | .codeFamilyWrite .. => hk.execCodeFamilyWrite
  | .reelSetComplete => hk.execReelSetComplete
  | .descriptorPost => hk.execDescriptorPost
  | .rawExportCopyDone .. => hk.execRawExportCopyDone
  | .reelClearDone .. => hk.execReelClearDone
  | .mrevSumBuild => hk.execMrevSumBuild
  | .mrevConfigWrite .. => hk.execMrevConfigWrite
  | .egoStale => hk.execEgoStale
  | .seMac .. => hk.execSeMac
  | .seMpy .. => hk.execSeMpy
  | .seMacu .. => hk.execSeMacu
  | .seMacsu .. => hk.execSeMacsu
  | .seMove .. => hk.execSeMove
  | .seAdd .. => hk.execSeAdd
  | .seSub .. => hk.execSeSub
  | .seAnd .. => hk.execSeAnd
  | .seOr .. => hk.execSeOr
  | .seXor .. => hk.execSeXor
  | .seMin .. => hk.execSeMin
  | .seMax .. => hk.execSeMax
  | .seShift .. => hk.execSeShift
  | .seAdda .. => hk.execSeAdda
  | .seSuba .. => hk.execSeSuba
  | .seShla .. => hk.execSeShla
  | .seShra .. => hk.execSeShra
  | .seMova .. => hk.execSeMova
  | .seMovah .. => hk.execSeMovah
  | .seClra .. => hk.execSeClra
  | .seMovi .. => hk.execSeMovi
  | .seMovih .. => hk.execSeMovih
  | .seAddi .. => hk.execSeAddi
  | .seCmpi .. => hk.execSeCmpi
  | .seAluAdd .. => hk.execSeAluAdd
  | .seAluSub .. => hk.execSeAluSub
  | .seAluAnd .. => hk.execSeAluAnd
  | .seAluOr .. => hk.execSeAluOr
  | .seAluXor .. => hk.execSeAluXor
  | .seAluMin .. => hk.execSeAluMin
  | .seAluMax .. => hk.execSeAluMax
  | .seAluShift .. => hk.execSeAluShift
  | .seAluCmp .. => hk.execSeAluCmp
  | .seAluAbs .. => hk.execSeAluAbs
  | .seAluNeg .. => hk.execSeAluNeg
  | .seAluClz .. => hk.execSeAluClz
  | .seAluMinu .. => hk.execSeAluMinu
  | .seAluMaxu .. => hk.execSeAluMaxu
  | .seLdW .. => hk.execSeLdW
  | .seLdUw .. => hk.execSeLdUw
  | .seLdL .. => hk.execSeLdL
  | .seStW .. => hk.execSeStW
  | .seStL .. => hk.execSeStL
  | .seLea .. => hk.execSeLea
  | .seMovcRead .. => hk.execSeMovcRead
  | .seMovcWrite .. => hk.execSeMovcWrite
  | .seMovcImmediate .. => hk.execSeMovcImmediate
  | .seMovp .. => hk.execSeMovp
  | .seMovpi .. => hk.execSeMovpi
  | .seB .. => hk.execSeB
  | .seCall .. => hk.execSeCall
  | .seBr .. => hk.execSeBr
  | .seRet .. => hk.execSeRet
  | .seReti _ w => hk.execSeReti (_w := w)
  | .seBreak _ w => hk.execSeBreak (_w := w)
  | .seRpt .. => hk.execSeRpt
  | .seBrpt .. => hk.execSeBrpt
  | .seNop .. => hk.execSeNop
  | .seWait .. => hk.execSeWait
  | .seIllegalOpcode .. => hk.execSeIllegalOpcode
  | .seRestartDone .. => hk.execSeRestartDone
  | .seWatchdog .. => hk.execSeWatchdog
  | .interruptAccept .. => hk.execInterruptAccept
  | .timerMatch .. => hk.execTimerMatch
  | .slotReady .. => hk.execSlotReady
  | .mbxNext .. => hk.execMbxNext
  | .mbxRelease .. => hk.execMbxRelease
  | .ptOut .. => hk.execPtOut
  | .dmaCtrl .. => hk.execDmaCtrl
  | .dmaDone .. => hk.execDmaDone
  | .kernelSelect .. => hk.execKernelSelect
  | .kernelParamDeliver .. => hk.execKernelParamDeliver
  | .seEnableWrite .. => hk.execSeEnableWrite
  | .seQueueDrained .. => hk.execSeQueueDrained
  | .spokeClose => hk.execSpokeClose
  | .spokeSplit => hk.execSpokeSplit
  | .streamMessageSend .. => hk.execStreamMessageSend
  | .dailiesDigest => hk.execDailiesDigest
  | .extrinsicsWrite .. => hk.execExtrinsicsWrite
  | .calStartTdc .. => hk.execCalStartTdc
  | .calStartThreshold .. => hk.execCalStartThreshold
  | .calStartRangeOffset .. => hk.execCalStartRangeOffset
  | .calSpanStart .. => hk.execCalSpanStart
  | .calSpanEnd .. => hk.execCalSpanEnd
  | .calRepeatDone .. => hk.execCalRepeatDone
  | .calTdcTimeout .. => hk.execCalTdcTimeout
  | .calAgeExpiry .. => hk.execCalAgeExpiry
  | .calOnlineStart => hk.execCalOnlineStart
  | .calOnlineWrite .. => hk.execCalOnlineWrite
  | .hkMeasurementStart => hk.execHkMeasurementStart
  | .hkDischargeEnd .. => hk.execHkDischargeEnd
  | .hkSettleEnd .. => hk.execHkSettleEnd
  | .hkPeriodStart .. => hk.execHkPeriodStart
  | .hkPeriodEnd .. => hk.execHkPeriodEnd
  | .hkUnlocked .. => hk.execHkUnlocked
  | .hkDieTempDone .. => hk.execHkDieTempDone
  | .hkInject .. => hk.execHkInject
  | .fcGainApply .. => hk.execFcGainApply
  | .fcTrim .. => hk.execFcTrim
  | .fcTrimDone .. => hk.execFcTrimDone
  | .clockIncrementWrite .. => hk.execClockIncrementWrite
  | .gptpSyncReceive .. => hk.execGptpSyncReceive
  | .gptpFollowUpReceive .. => hk.execGptpFollowUpReceive
  | .gptpPdelayReqReceive .. => hk.execGptpPdelayReqReceive
  | .gptpPdelayRespReceive .. => hk.execGptpPdelayRespReceive
  | .gptpAnnounceReceive .. => hk.execGptpAnnounceReceive
  | .gptpSignalingReceive .. => hk.execGptpSignalingReceive
  | .gptpSyncTransmit .. => hk.execGptpSyncTransmit
  | .gptpPdelayReqTransmit .. => hk.execGptpPdelayReqTransmit
  | .gptpAnnounceTransmit .. => hk.execGptpAnnounceTransmit
  | .syncTimeout .. => hk.execSyncTimeout
  | .announceReceiptTimeout .. => hk.execAnnounceReceiptTimeout
  | .timeRestepToGptp .. => hk.execTimeRestepToGptp
  | .timeRestepToTimeSet .. => hk.execTimeRestepToTimeSet
  | .timeStepped => hk.execTimeStepped
  | .hostLockedSet .. => hk.execHostLockedSet
  | .hostLockedClear .. => hk.execHostLockedClear
  | .hostTimeout => hk.execHostTimeout
  | .xtalLearned => hk.execXtalLearned
  | .timeSourceWrite .. => hk.execTimeSourceWrite
  | .gptpConfigWrite .. => hk.execGptpConfigWrite
  | .ethFrameReceive .. => hk.execEthFrameReceive
  | .addressResolutionRetry => hk.execAddressResolutionRetry
  | .arpRefresh => hk.execArpRefresh
  | .linkChange .. => hk.execLinkChange
  | .portConfigWrite .. => hk.execPortConfigWrite
  | .canFrameReceive .. => hk.execCanFrameReceive
  | .canState .. => hk.execCanState
  | .canBusOffRecovery => hk.execCanBusOffRecovery
  | .canAutoRecoverWrite .. => hk.execCanAutoRecoverWrite
  | .canTxTimeout => hk.execCanTxTimeout
  | .canConfigWrite .. => hk.execCanConfigWrite
  | .egoSpeedReceive .. => hk.execEgoSpeedReceive
  | .laneBlockReceive .. => hk.execLaneBlockReceive
  | .laneLocked .. => hk.execLaneLocked
  | .alignReceive .. => hk.execAlignReceive
  | .statusReceive .. => hk.execStatusReceive
  | .laneStatusAged .. => hk.execLaneStatusAged
  | .alignColumnSend .. => hk.execAlignColumnSend
  | .statusColumnSend .. => hk.execStatusColumnSend
  | .klpFrameReceive .. => hk.execKlpFrameReceive
  | .laneModeWrite .. => hk.execLaneModeWrite
  | .bondConfigWrite .. => hk.execBondConfigWrite
  | .adaptWindowEnd .. => hk.execAdaptWindowEnd
  | .eyeScan .. => hk.execEyeScan
  | .prbsGenWrite .. => hk.execPrbsGenWrite
  | .prbsCheckWrite .. => hk.execPrbsCheckWrite
  | .prbsLockAcquired .. => hk.execPrbsLockAcquired
  | .prbsLoss .. => hk.execPrbsLoss
  | .laneLoopWrite .. => hk.execLaneLoopWrite
  | .koaRequest .. => hk.execKoaRequest
  | .liveSelect .. => hk.execLiveSelect
  | .eventRead => hk.execEventRead
  | .i3cWriteDiscard bs => hk.execI3cWriteDiscard (_data := bs)
  | .liveWindowRead .. => hk.execLiveWindowRead
  | .koaResponseRead .. => hk.execKoaResponseRead
  | .eventQueueRead .. => hk.execEventQueueRead
  | .i3cTransferTimeout => hk.execI3cTransferTimeout
  | .ibiRequest .. => hk.execIbiRequest
  | .enec => hk.execEnec
  | .disec => hk.execDisec
  | .rstdaa => hk.execRstdaa
  | .entdaa .. => hk.execEntdaa
  | .setdasa .. => hk.execSetdasa
  | .setnewda .. => hk.execSetnewda
  | .setmwl .. => hk.execSetmwl
  | .setmrl .. => hk.execSetmrl
  | .getmwl => hk.execGetmwl
  | .getmrl => hk.execGetmrl
  | .getpid => hk.execGetpid
  | .getbcr => hk.execGetbcr
  | .getdcr => hk.execGetdcr
  | .getstatus => hk.execGetstatus
  | .getmxds => hk.execGetmxds
  | .getcaps => hk.execGetcaps
  | .enthdr0 => hk.execEnthdr0
  | .rstactNoReset => hk.execRstactNoReset
  | .rstactResetI3c => hk.execRstactResetI3c
  | .eventAck .. => hk.execEventAck
  | .eventMaskWrite .. => hk.execEventMaskWrite
  | .eventDatagramFlush .. => hk.execEventDatagramFlush
  | .liveMapWrite .. => hk.execLiveMapWrite
  | .trigDriveClassChange .. => hk.execTrigDriveClassChange
  | .takeover => hk.execTakeover
  | .aloneWaitExpiry => hk.execAloneWaitExpiry
  | .claimQuietEnd => hk.execClaimQuietEnd
  | .claimComplete => hk.execClaimComplete
  | .heartbeatSend => hk.execHeartbeatSend
  | .heartbeatReceive .. => hk.execHeartbeatReceive
  | .heartbeatLost => hk.execHeartbeatLost
  | .takeFrameReceive .. => hk.execTakeFrameReceive
  | .takeDivergence .. => hk.execTakeDivergence
  | .spokeSumReceive .. => hk.execSpokeSumReceive
  | .sumUnpairedTimeout => hk.execSumUnpairedTimeout
  | .objectFrameReceive .. => hk.execObjectFrameReceive
  | .cueFrameReceive .. => hk.execCueFrameReceive
  | .timeFrameSend => hk.execTimeFrameSend
  | .timeFrameReceive .. => hk.execTimeFrameReceive
  | .accountFrameReceive .. => hk.execAccountFrameReceive
  | .epochFrameReceive .. => hk.execEpochFrameReceive
  | .yieldFrameReceive .. => hk.execYieldFrameReceive
  | .resyncReqReceive .. => hk.execResyncReqReceive
  | .pairHandover .. => hk.execPairHandover
  | .sramScrubRead .. => hk.execSramScrubRead
  | .ddrScrubRead .. => hk.execDdrScrubRead
  | .ddrTrainingDone .. => hk.execDdrTrainingDone
  | .ddrWipeRegionDone => hk.execDdrWipeRegionDone
  | .ddrTempPoll .. => hk.execDdrTempPoll
  | .sramWipeDone => hk.execSramWipeDone
  | .operatingLogAppend => hk.execOperatingLogAppend
  | .recordResolve .. => hk.execRecordResolve
  | .keyProgram .. => hk.execKeyProgram
  | .keyRevoke .. => hk.execKeyRevoke
  | .identitySet .. => hk.execIdentitySet
  | .lifecycleRequest .. => hk.execLifecycleRequest
  | .fwCommit .. => hk.execFwCommit
  | .svnCommit .. => hk.execSvnCommit
  | .selftestStart .. => hk.execSelftestStart
  | .nvmVerify .. => hk.execNvmVerify
  | .traceCtrlWrite .. => hk.execTraceCtrlWrite
  | .traceSnapshot => hk.execTraceSnapshot
  | .supplyPowerOn => hk.execSupplyPowerOn
  | .brownout .. => hk.execBrownout
  | .resetPin => hk.execResetPin
  | .standbyEntry => hk.execStandbyEntry
  | .wakeHigh => hk.execWakeHigh
  | .ccWatchdogExpiry => hk.execCcWatchdogExpiry
  | .resetRequest .. => hk.execResetRequest
  | .resetRequestDelayEnd => hk.execResetRequestDelayEnd
  | .resetRelease .. => hk.execResetRelease
  | .bootImageVerified => hk.execBootImageVerified
  | .bootApplyStored => hk.execBootApplyStored
  | .lockstepDivergence c => hk.execLockstepDivergence (_complex := c)

/-- The cycle that ends, up to the count of the clock. -/
def State.coreCycleEnd (s : State) : State :=
  s.blockCut.stampTakes.expireSlots.completeSets.endSpokes.sendPdelayResps.servePorts.latchCrossings.followSwing

/-- The cycle that begins, from the state before it and the state with the clock counted on. -/
def State.coreCycleStart (s t : State) : State :=
  (State.holdPosition s (State.holdPosition s t 0) 1).handleEvents.advanceTime.drainTrace.releaseHeld.chainFall.openBuffers.settleWaiting
    |>.beginRecharges.lapseCaptures.flushLows.endSpans.endHour.sampleTime.laneColumns.applyHeld

theorem State.tick_eq (s : State) :
    s.tick = State.coreCycleStart s.coreCycleEnd { s.coreCycleEnd with now := s.coreCycleEnd.now + 1 } := rfl

theorem Keeps.coreCycleEnd {s₀ s : State} (hk : Keeps s₀ s) : Keeps s₀ s.coreCycleEnd :=
  hk.blockCut.stampTakes.expireSlots.completeSets.endSpokes.sendPdelayResps.servePorts.latchCrossings.followSwing

theorem Keeps.coreCycleStart {s₀ s t : State} (hk : Keeps s₀ t) : Keeps s₀ (State.coreCycleStart s t) :=
  hk.holdPosition.holdPosition.handleEvents.advanceTime.drainTrace.releaseHeld.chainFall.openBuffers.settleWaiting
    |>.beginRecharges.lapseCaptures.flushLows.endSpans.endHour.sampleTime.laneColumns.applyHeld

theorem Keeps.counted {s₀ s : State} (hk : Keeps s₀ s) : Keeps { s₀ with now := s₀.now + 1 } { s with now := s.now + 1 } :=
  ⟨congrArg (· + 1) hk.now, hk.pending, hk.store⟩

/-- One core cycle counts the clock on, and keeps the queue and the store's form. -/
theorem State.tick_keeps (s : State) : Keeps { s with now := s.now + 1 } s.tick := by
  rw [State.tick_eq]
  exact (Keeps.refl s).coreCycleEnd.counted.coreCycleStart

/-- Settles O4: every arm of `exec` keeps the queue and the clock (`Keeps.exec`). -/
theorem commandsKeepQueueAndClock : Obligations.CommandsKeepQueueAndClock := by
  intro c s t ht
  obtain ⟨u, hu, hk⟩ := (Keeps.refl s).exec c
  obtain rfl := Host.Outcome.next.inj (ht.symm.trans hu)
  exact ⟨hk.pending, hk.now⟩

/-- Settles O3: a step is a command's effect or one core cycle. -/
theorem everyCommandCompletes : Obligations.EveryCommandCompletes := by
  have hexec : ∀ (c : Instr) (s : State), ∃ t, exec c s = .next t := fun c s =>
    let ⟨t, ht, _⟩ := (Keeps.refl s).exec c
    ⟨t, ht⟩
  refine ⟨hexec, fun s => ?_⟩
  cases hq : s.pending with
  | nil => exact ⟨s.tick, by simp [step, hq], trivial⟩
  | cons c rest =>
    obtain ⟨t, ht⟩ := hexec c (s.dequeue rest)
    exact ⟨t, by simpa [step, hq] using ht, trivial⟩

/-- Settles O5: what a command or a core cycle writes goes through the store's own writes, which keep its form. -/
theorem stepKeepsTheStoreCanonical : Obligations.StepKeepsTheStoreCanonical := by
  intro s t hs ht
  cases hq : s.pending with
  | nil =>
    obtain rfl : s.tick = t := by simpa [step, hq] using ht
    exact s.tick_keeps.store hs
  | cons c rest =>
    obtain ⟨u, hu, hk⟩ := (Keeps.refl (s.dequeue rest)).exec c
    obtain rfl : u = t := by simpa [step, hq, hu] using ht
    exact hk.store hs

end Sys2Proof.Machine

/-! ## The supply enables (R297, R301): the promise does not hold of every state

A value that waits for a response takes effect without the checks of its write (R71). Where LOCKOUT_RESET waits, which the object server
never makes wait but a state can hold, it leaves ARMED for INHIBITED without lowering the supply enables. -/

namespace Sys2Proof.Machine

open Sys2Proof Sys2Proof.Safety

set_option Elab.async false

/-- A running device in ARMED with SUPPLY_EN_A high, whose I3C response has been ready for 10 ms with LOCKOUT_RESET waiting behind it. -/
def armedWithLateReset : State :=
  { State.reset with
    now := ms 10
    safety := { State.reset.safety with state := .armed, enA := true }
    reset_ := { State.reset.reset_ with phase := .running }
    i3c := { State.reset.i3c with response := some ([], 0), later := [(Obj.LOCKOUT_RESET, [0xA5, 0xC3])] }
    pending := [.koaI3cResponseTimeout] }

theorem supplyInv_armedWithLateReset : supplyInv armedWithLateReset = true := by decide

/-- The response times out, and the waiting LOCKOUT_RESET leaves INHIBITED with SUPPLY_EN_A high. -/
theorem step_armedWithLateReset :
    (match step armedWithLateReset with | .next t => supplyInv t | _ => true) = false := by decide +kernel

/-- Refutes O42: LOCKOUT_RESET that waited for its response is applied in ARMED, and ends in INHIBITED with SUPPLY_EN_A high. -/
theorem not_supplyEnablesNeedArming : ¬ Obligations.SupplyEnablesNeedArming := by
  intro h
  obtain ⟨t, ht, -⟩ := everyCommandCompletes.2 armedWithLateReset
  have hbad := step_armedWithLateReset
  rw [ht] at hbad
  exact absurd (h _ _ supplyInv_armedWithLateReset ht) (by simpa using hbad)

end Sys2Proof.Machine

/-! ## The block's law, the reset state, and the event matrix (R765) -/

namespace Sys2Proof.Machine

open Sys2Proof Sys2Proof.Safety

set_option Elab.async false

/-- Settles O1: a step looks at the front of the queue alone. -/
theorem stepRunsTheFrontCommand : Obligations.StepRunsTheFrontCommand := by
  refine ⟨fun c s => rfl, fun c rest s hq => ?_⟩
  simp [step, hq]

/-- Settles O6: every field of the reset state computes. -/
theorem resetIsHeldDark : Obligations.ResetIsHeldDark := by
  refine ⟨?_, ?_, ?_, ?_, ?_, ?_, ?_, ?_, ?_, ?_, ?_, ?_, fun k => ?_, fun k => ?_⟩ <;> rfl

/-- Settles O43: both invariants compute at the reset state. -/
theorem resetMeetsTheInvariants : Obligations.ResetMeetsTheInvariants := by
  refine ⟨?_, ?_, ?_, ?_⟩ <;> rfl

/-! ### Raising and handling an event -/

/-- What the routes of a record leave of the store's BLOCK objects and of the pending bits. -/
theorem State.ibiAdd_blk_pending (s : State) (r : List Byte) :
    (s.ibiAdd r).blk = s.blk ∧ (s.ibiAdd r).ev.pending = s.ev.pending := by
  unfold State.ibiAdd
  split
  · exact ⟨rfl, rfl⟩
  · exact ⟨rfl, rfl⟩

theorem State.setOutQueue_blk_ev (s : State) (d : Nat) (q : List OutMessage) :
    (s.setOutQueue d q).blk = s.blk ∧ (s.setOutQueue d q).ev = s.ev := by
  simp

theorem State.setGathered_blk_pending (s : State) (b : Bool) (g : EventGather) :
    (s.setGathered b g).blk = s.blk ∧ (s.setGathered b g).ev.pending = s.ev.pending := by
  cases b <;> exact ⟨rfl, rfl⟩

theorem State.flushEvents_blk_pending (s : State) (b : Bool) :
    (s.flushEvents b).blk = s.blk ∧ (s.flushEvents b).ev.pending = s.ev.pending := by
  unfold State.flushEvents
  dsimp only
  split
  · exact ⟨rfl, rfl⟩
  · rw [(State.setOutQueue_blk_ev _ _ _).1, (State.setOutQueue_blk_ev _ _ _).2]
    exact s.setGathered_blk_pending b _

theorem State.gather_blk_pending (s : State) (b : Bool) (r : List Byte) :
    (s.gather b r).blk = s.blk ∧ (s.gather b r).ev.pending = s.ev.pending := by
  unfold State.gather
  dsimp only
  split
  · rw [(State.flushEvents_blk_pending _ _).1, (State.flushEvents_blk_pending _ _).2]
    exact s.setGathered_blk_pending b _
  · exact s.setGathered_blk_pending b _

theorem State.gatherRoutes_blk_pending (s : State) (e : Nat) (r : List Byte) :
    (s.gatherRoutes e r).blk = s.blk ∧ (s.gatherRoutes e r).ev.pending = s.ev.pending := by
  unfold State.gatherRoutes
  dsimp only
  split
  · exact ⟨rfl, rfl⟩
  · split <;> split <;> simp [State.gather_blk_pending]

theorem State.traceAdd_blk_pending (s : State) (c o : Nat) (x : List Byte) :
    (s.traceAdd c o x).2.blk = s.blk ∧ (s.traceAdd c o x).2.ev.pending = s.ev.pending := by
  unfold State.traceAdd
  split
  · split
    · exact ⟨rfl, rfl⟩
    · exact ⟨rfl, rfl⟩
  · exact ⟨rfl, rfl⟩

theorem State.traceSend_blk_pending (s : State) (c o : Nat) (x : List Byte) :
    (s.traceSend c o x).blk = s.blk ∧ (s.traceSend c o x).ev.pending = s.ev.pending := by
  unfold State.traceSend
  dsimp only
  split
  · exact s.traceAdd_blk_pending c o x
  · exact s.traceAdd_blk_pending c o x

theorem State.routeEvent_blk_pending (s : State) (r : RaisedEvent) :
    (s.routeEvent r).blk = s.blk ∧ (s.routeEvent r).ev.pending = s.ev.pending := by
  unfold State.routeEvent
  dsimp only
  split <;> split <;>
    simp [State.traceSend_blk_pending, State.gatherRoutes_blk_pending, State.ibiAdd_blk_pending]

/-- The record of an event is none of the objects of the event matrix that decide on it. -/
theorem eventLastKey_ne {e k : Nat} (he : e < 384) (hk : k < Obj.EVENT_LAST) : k ≠ eventLastKey e := by
  unfold eventLastKey
  simp only [Obj.EVENT_LAST, Obj.EVENT_LAST_HI] at hk ⊢
  split <;> omega

theorem State.eventEnabled_noteEvent (s : State) (r : RaisedEvent) (he : r.event < 384) (e : Nat) :
    (s.noteEvent r).eventEnabled e = s.eventEnabled e := by
  have hmask : (s.noteEvent r).getBlk Obj.EVENT_MASK = s.getBlk Obj.EVENT_MASK :=
    State.getBlk_setBlk_other _ _ (eventLastKey_ne he (by decide))
  simp [State.eventEnabled, hmask]

theorem State.handleEvent_of_enabled {s : State} {r : RaisedEvent} (he : r.event < 384) (h : s.eventEnabled r.event = true) :
    s.handleEvent r = ((s.noteEvent r).setPending r.event).routeEvent r := by
  simp [State.handleEvent, State.eventEnabled_noteEvent s r he, h]

theorem State.handleEvent_of_disabled {s : State} {r : RaisedEvent} (he : r.event < 384) (h : s.eventEnabled r.event = false) :
    s.handleEvent r = s.noteEvent r := by
  simp [State.handleEvent, State.eventEnabled_noteEvent s r he, h]

theorem State.getBlk_handleEvent_last (s : State) (r : RaisedEvent) (he : r.event < 384) :
    (s.handleEvent r).getBlk (eventLastKey r.event) = r.record := by
  have hnote : (s.noteEvent r).getBlk (eventLastKey r.event) = r.record := State.getBlk_setBlk_same ..
  cases h : s.eventEnabled r.event
  · rw [State.handleEvent_of_disabled he h, hnote]
  · rw [State.handleEvent_of_enabled he h, State.getBlk_congr (State.routeEvent_blk_pending _ _).1, ← hnote]
    rfl

theorem eventBit_getLsbD {e : Nat} (he : e < 384) : (eventBit e).getLsbD e = true := by
  have h : (1#384 <<< e).getLsbD e = true := by
    rw [BitVec.getLsbD_shiftLeft]
    simp [he]
  exact h

theorem State.setPending_getLsbD (s : State) {e : Nat} (he : e < 384) : (s.setPending e).ev.pending.getLsbD e = true := by
  simp [State.setPending, eventBit_getLsbD he]

/-- A list sorted by insertion has the elements of the list, in the order of a total relation. -/
theorem insertBy_perm {α : Type} (le : α → α → Bool) (x : α) (l : List α) : (insertBy le x l).Perm (x :: l) := by
  induction l with
  | nil => exact .refl _
  | cons y ys ih =>
    unfold insertBy
    split
    · exact .refl _
    · exact (ih.cons y).trans (.swap x y ys)

theorem sortBy_perm {α : Type} (le : α → α → Bool) (l : List α) : (sortBy le l).Perm l := by
  induction l with
  | nil => exact .refl _
  | cons x l ih => exact (insertBy_perm le x _).trans (ih.cons x)

theorem insertBy_pairwise {α : Type} {le : α → α → Bool} (ht : ∀ a b, le a b = true ∨ le b a = true)
    (htr : ∀ a b c, le a b = true → le b c = true → le a c = true) (x : α) {l : List α} (h : l.Pairwise (fun a b => le a b = true)) :
    (insertBy le x l).Pairwise (fun a b => le a b = true) := by
  induction l with
  | nil => simp [insertBy]
  | cons y ys ih =>
    obtain ⟨hy, hys⟩ := List.pairwise_cons.1 h
    unfold insertBy
    split
    next hxy => exact List.pairwise_cons.2 ⟨fun z hz => (List.mem_cons.1 hz).elim (· ▸ hxy) fun hz => htr _ _ _ hxy (hy z hz), h⟩
    next hxy =>
      refine List.pairwise_cons.2 ⟨fun z hz => ?_, ih hys⟩
      rcases List.mem_cons.1 ((insertBy_perm le x ys).mem_iff.1 hz) with rfl | hz
      · exact (ht _ _).resolve_right hxy
      · exact hy z hz

theorem sortBy_pairwise {α : Type} {le : α → α → Bool} (ht : ∀ a b, le a b = true ∨ le b a = true)
    (htr : ∀ a b c, le a b = true → le b c = true → le a c = true) (l : List α) :
    (sortBy le l).Pairwise (fun a b => le a b = true) := by
  induction l with
  | nil => exact .nil
  | cons x l ih => exact insertBy_pairwise ht htr x ih

/-- Settles O7: the events of a cycle are sorted by insertion, and the mask that decides on an event is not among what its note writes. -/
theorem raisedEventIsCountedAndRouted : Obligations.RaisedEventIsCountedAndRouted := by
  intro s e p he r
  have hr : r.event < 384 := he
  refine ⟨rfl, s.handleEvent_counts r (hr.trans (by decide)), s.getBlk_handleEvent_last r hr, fun hen => ?_,
    fun hdis => State.handleEvent_of_disabled hr hdis, ?_⟩
  · have hroute := State.handleEvent_of_enabled (s := s) hr hen
    refine ⟨?_, hroute⟩
    rw [hroute, (State.routeEvent_blk_pending _ _).2]
    exact State.setPending_getLsbD _ he
  · refine ⟨sortBy (fun a b => decide (a.event ≤ b.event)) s.ev.raised, sortBy_perm _ _, ?_, rfl⟩
    refine (sortBy_pairwise ?_ ?_ _).imp fun h => of_decide_eq_true h
    · intro a b
      simpa using Nat.le_total a.event b.event
    · intro a b c
      simpa using Nat.le_trans

/-- Settles O8: by the frames of `raise` and `handleEvent`. -/
theorem reportingChangesOnlyReports : Obligations.ReportingChangesOnlyReports := by
  intro s e p r _ hr
  exact ⟨s.raise_onlyParts e p, fun k _ => s.get_raise e p k, s.handleEvent_onlyParts r,
    s.handleEvent_onlyKeys r (hr.trans (by decide))⟩

end Sys2Proof.Machine

/-! ## Jobs, segments and responses in time (R46, R80, R83, R95, R98) -/

namespace Sys2Proof.Machine

open Sys2Proof Sys2Proof.Safety

set_option Elab.async false

/-! ### Slots -/

theorem handleSlot_bounds_of_names {s : State} {v : Nat} (h : s.handleNames v = true) : jobSlots.contains (handleSlot v) = true := by
  simp only [State.handleNames, Bool.and_eq_true] at h
  exact h.1.1

theorem jobSlots_contains_iff (n : Nat) : jobSlots.contains n = true ↔ 1 ≤ n ∧ n ≤ 16 := by
  simp only [jobSlots, List.contains_iff_mem, List.mem_map, List.mem_range]
  constructor
  · rintro ⟨a, ha, rfl⟩
    omega
  · exact fun h => ⟨n - 1, by omega, by omega⟩

/-- Writing a slot changes the jobs only. -/
theorem State.setJob_onlyParts (s : State) (n : Nat) (j : Job) : onlyParts [.jobs] s (s.setJob n j) := by
  intro p hp
  cases p <;> simp_all [Part.same, State.setJob]

/-- A slot that returns to FREE keeps its SEQ and nothing else (R98). -/
theorem State.freeJobSlot_spec (s : State) (n : Nat) :
    (s.freeJobSlot n).job n = { Job.free with seq := (s.job n).seq } ∧
      (∀ m, m ≠ n → (s.freeJobSlot n).job m = s.job m) ∧ onlyParts [.jobs] s (s.freeJobSlot n) :=
  ⟨s.job_setJob_same n _, fun _ hm => s.job_setJob_other _ hm, s.setJob_onlyParts n _⟩

/-- Settles O19: both ways free the slot that they name. -/
theorem finishedJobsFreeTheirSlot : Obligations.FinishedJobsFreeTheirSlot := by
  intro s n h1 h16 hf
  obtain ⟨hjob, hother, hparts⟩ := s.freeJobSlot_spec n
  refine ⟨fun ht => ⟨s.freeJobSlot n, ?_, hjob, hother, hparts⟩, fun v hv hn => ?_, fun v hv => ?_⟩
  · have harm : exec (.jobRetentionExpiry n) s = execJobRetentionExpiry n s := rfl
    have hc := (jobSlots_contains_iff n).2 ⟨h1, h16⟩
    rw [harm, execJobRetentionExpiry, hc, hf, reached, decide_eq_true ht]
    rfl
  · have hack : s.ackJob v = s.freeJobSlot n := by simp [State.ackJob, hv, hn, hf]
    rw [hack]
    exact ⟨hjob, hother⟩
  · unfold State.ackJob
    rcases hv with hv | hv <;> simp [hv]

/-- Settles O20: the round is searched in its order. -/
theorem jobStepRunsTheNextJobOnce : Obligations.JobStepRunsTheNextJobOnce := by
  intro s input
  have harm : exec (.jobStep input) s = execJobStep input s := rfl
  refine ⟨fun n hn => ?_, fun hnone => ?_⟩
  · rw [harm, execJobStep, hn]
  · have hfind : s.jobs.round.find? (fun m => s.canStep m) = none := by simpa using hnone
    rw [harm, execJobStep, hfind]

/-! ### The end of a job -/

/-- What resuming the waiting jobs leaves of a job that does not wait. -/
def KeepsFinished (n : Nat) (s t : State) : Prop :=
  t.job n = s.job n ∧ (n ∉ s.jobs.round → n ∉ t.jobs.round) ∧ onlyParts [.jobs] s t

/-- Resuming jobs other than `n` leaves job `n` and keeps it out of the round. -/
theorem KeepsFinished.resume {n : Nat} (l : List Nat) (s : State) (hl : n ∉ l) :
    KeepsFinished n s (l.foldl (fun s n =>
      if s.resourceHeld (s.job n).kind (s.job n).resource (s.job n).order then s
      else
        let s := s.setJob n { s.job n with state := .running }
        { s with jobs := { s.jobs with round := s.jobs.round ++ [n] } }) s) := by
  induction l generalizing s with
  | nil => exact ⟨rfl, id, onlyParts_refl _ _⟩
  | cons m ms ih =>
    obtain ⟨hm, hms⟩ : n ≠ m ∧ n ∉ ms := by simpa using hl
    rw [List.foldl_cons]
    split
    · exact ih s hms
    · obtain ⟨hjob, hround, hparts⟩ := ih _ hms
      refine ⟨hjob.trans (s.job_setJob_other _ hm), fun hn => hround (by simpa [State.setJob, hm] using hn), ?_⟩
      refine onlyParts_mono (onlyParts_trans (ps := [.jobs]) ?_ hparts) (by simp)
      intro p hp
      cases p <;> simp_all [Part.same, State.setJob]

/-- The slots of waiting jobs hold no job in another state. -/
theorem State.resumeWaiting_keepsFinished {s : State} {n : Nat} (h : (s.job n).state ≠ .waiting) :
    KeepsFinished n s s.resumeWaiting := by
  refine KeepsFinished.resume _ s fun hm => h ?_
  have hm' := (sortBy_perm _ _).mem_iff.1 hm
  simpa using (List.mem_filter.1 hm').2

/-- Settles O22: the job is written, leaves the round and raises its event; resuming the others does not touch it. -/
theorem finishedJobsReportOnce : Obligations.FinishedJobsReportOnce := by
  intro s n st result h1 h16 hst t e
  let j : Job := { s.job n with
    state := st, result := result, progress := if st == .done then 100 else (s.job n).progress, finishedAt := s.now, records := [] }
  let s1 : State := { s.setJob n j with jobs := { (s.setJob n j).jobs with round := (s.setJob n j).jobs.round.filter (· != n) } }
  let s2 : State := s1.raise e (n * 2 ^ 24 + (s.job n).seq * 2 ^ 16)
  have ht : t = s2.resumeWaiting := rfl
  have hj : s2.job n = j := s.job_setJob_same n j
  have hw : (s2.job n).state ≠ .waiting := by
    rw [hj]
    rcases hst with rfl | rfl | rfl <;> simp [j]
  have hround : n ∉ s2.jobs.round := by simp [s2, s1]
  have hparts : onlyParts [.jobs, .ev] s s2 := by
    intro p hp
    cases p <;> simp_all [Part.same, s2, s1, State.setJob]
  have hraised : raisedCount s2 e = raisedCount s e + 1 := raisedCount_raise_same s1 e _
  obtain ⟨hjob, hout, honly⟩ := State.resumeWaiting_keepsFinished hw
  rw [ht, hjob, hj]
  refine ⟨rfl, rfl, rfl, rfl, fun hd => by simp [j, hd], hout hround, ?_, ?_⟩
  · rw [← hraised]
    exact raisedCount_congr (honly .ev (by simp)) e
  · exact onlyParts_mono (onlyParts_trans hparts honly) (by simp [reporting])

/-! ### Segments and responses -/

/-- Where no value waits behind the response, emptying the place brings a waiting BUSY response to it. -/
theorem State.emptyResponse_of_later_nil {s : State} (h : s.i3c.later = []) :
    s.emptyResponse = { s with i3c := { s.i3c with
      later := [], response := s.i3c.busyResponse.map (fun r => (r, s.now)), busyResponse := none,
      ibiResponse := s.i3c.busyResponse.isSome } } := by
  simp [State.emptyResponse, State.applyI3cLater, h]

/-- What an expiry does where something of the owner is idle. -/
theorem execSegmentExpired_of_idle {s : State} {owner : Requester} {key : Nat}
    (h : (∃ x ∈ s.koa.sessions, x.owner = owner ∧ x.key = key ∧ s.now ≥ x.last + ms 100) ∨
      ∃ x ∈ s.koa.snapshots, x.owner = owner ∧ x.key = key ∧ s.now ≥ x.last + ms 100) :
    ∃ t, exec (.segmentExpired owner key) s = .next t ∧ t.hasExpired owner key = true ∧
      raisedCount t 0x165 = raisedCount s 0x165 + 1 ∧
      (∀ x ∈ t.koa.sessions, ¬ (x.owner = owner ∧ x.key = key ∧ s.now ≥ x.last + ms 100)) ∧
      (∀ x ∈ t.koa.snapshots, ¬ (x.owner = owner ∧ x.key = key ∧ s.now ≥ x.last + ms 100)) := by
  have harm : exec (.segmentExpired owner key) s = execSegmentExpired owner key s := rfl
  rw [harm, execSegmentExpired]
  have hne : (((s.koa.sessions.filter (fun x => x.owner == owner && x.key == key && segmentIdle s.now x.last)).isEmpty &&
      (s.koa.snapshots.filter (fun x => x.owner == owner && x.key == key && segmentIdle s.now x.last)).isEmpty)) = false := by
    rw [Bool.and_eq_false_iff]
    rcases h with ⟨x, hx, ho, hk, hi⟩ | ⟨x, hx, ho, hk, hi⟩
    · refine Or.inl ?_
      simp only [List.isEmpty_eq_false_iff, ne_eq, List.filter_eq_nil_iff, not_forall]
      exact ⟨x, hx, by simp [ho, hk, segmentIdle, reached, hi]⟩
    · refine Or.inr ?_
      simp only [List.isEmpty_eq_false_iff, ne_eq, List.filter_eq_nil_iff, not_forall]
      exact ⟨x, hx, by simp [ho, hk, segmentIdle, reached, hi]⟩
  simp only [hne]
  refine ⟨_, rfl, ?_, ?_, ?_, ?_⟩
  · simp [State.hasExpired, State.loseSegments]
  · rw [raisedCount_raise_same]
    rfl
  · rintro x hx ⟨ho, hk, hi⟩
    exact absurd (List.mem_filter.1 hx) (by simp [ho, hk, segmentIdle, reached, hi])
  · rintro x hx ⟨ho, hk, hi⟩
    exact absurd (List.mem_filter.1 hx) (by simp [ho, hk, segmentIdle, reached, hi])

/-- Settles O18: what is idle goes, and a response in time leaves its place. -/
theorem segmentsAndResponsesTimeOut : Obligations.SegmentsAndResponsesTimeOut := by
  refine ⟨fun s x hx hi => ?_, fun s x hx hi => ?_, fun s r t0 hr hl hi => ?_⟩
  · obtain ⟨t, ht, hexp, hraise, hses, -⟩ := execSegmentExpired_of_idle (Or.inl ⟨x, hx, rfl, rfl, hi⟩)
    exact ⟨t, ht, fun hm => hses x hm ⟨rfl, rfl, hi⟩, hexp, hraise⟩
  · obtain ⟨t, ht, hexp, -, -, hsnap⟩ := execSegmentExpired_of_idle (Or.inr ⟨x, hx, rfl, rfl, hi⟩)
    exact ⟨t, ht, fun hm => hsnap x hm ⟨rfl, rfl, hi⟩, hexp⟩
  · have harm : exec .koaI3cResponseTimeout s = .next (s.emptyResponse.count Obj.KOA_DISCARDS) := by
      change execKoaI3cResponseTimeout s = _
      simp [execKoaI3cResponseTimeout, hr, reached, hi]
    refine ⟨_, harm, ?_⟩
    rw [State.emptyResponse_of_later_nil hl]
    exact ⟨by simp, by simp, State.get_count_same _ _⟩

end Sys2Proof.Machine

/-! ## The object server: PDUs, answers and the rows that write (R61 to R83) -/

namespace Sys2Proof.Machine

open Sys2Proof Sys2Proof.Safety

set_option Elab.async false

/-! ### The fields of a PDU -/

/-- The header's bytes one by one. -/
theorem pduOf_eq (op : Nat) (h : KoaHdr) (p : List Byte) :
    pduOf op h p = [BitVec.ofNat 8 (h.ver % 8 * 16 + op), BitVec.ofNat 8 h.tag, BitVec.ofNat 8 (h.index / 256), BitVec.ofNat 8 h.index,
      BitVec.ofNat 8 h.sub, BitVec.ofNat 8 h.flags, BitVec.ofNat 8 (h.len / 256), BitVec.ofNat 8 h.len] ++ p := by
  simp [pduOf, beBytes]

/-- Settles O11: each field is read from the bytes that it was put into. -/
theorem requestsAreReadFromTheirBytes : Obligations.RequestsAreReadFromTheirBytes := by
  intro op h payload hop ⟨hver, htag, hindex, hsub, hflags, hlen, hlen'⟩ p
  have hp : p = _ := pduOf_eq op h payload
  have hfirst : beAt p 0 1 = 16 + op := by
    simp [hp, beAt, beNat, hver]
    omega
  refine ⟨?_, ?_, ?_, ?_, ?_, ?_, ?_, ?_, ?_⟩
  · rw [pduVer, hfirst]
    omega
  · rw [pduOp, hfirst]
    omega
  · simp [hp, pduTag, beAt, beNat, Nat.mod_eq_of_lt htag]
  · simp [hp, pduIndex, beAt, beNat]
    omega
  · simp [hp, pduSub, beAt, beNat, Nat.mod_eq_of_lt hsub]
  · simp [hp, pduFlags, beAt, beNat]
    omega
  · simp [hp, pduLen, beAt, beNat]
    omega
  · simp [hp, pduBody]
  · rw [pduDiscarded, hfirst]
    have hbit : natBit (16 + op) 7 = false := Nat.testBit_lt_two_pow (by omega)
    simp [hp, hbit]

/-- A WRITE in good form has a header in good form. -/
theorem goodHeader_request {tag k flags : Nat} {bs : List Byte} (ht : tag < 256) (hk : k < 2 ^ 24) (hf : flags < 2)
    (hl : bs.length < 65536) : goodHeader ⟨1, tag, k / 256, k % 256, flags, bs.length⟩ bs :=
  ⟨rfl, ht, by change k / 256 < 65536; omega, by change k % 256 < 256; omega, hf, rfl, hl⟩

/-! ### Serving -/

/-- A request that the server takes is run and its answer served. -/
theorem koaServe_of_takes {s : State} {req : Requester} {pdu : List Byte} (h : takes s req pdu) (run : State → Answer) :
    s.koaServe req pdu run = served s req pdu (run s) := by
  obtain ⟨hopen, henabled, hdisc, hbearer⟩ := h
  unfold State.koaServe served
  by_cases hb : req.bearer = .i3c
  · rw [if_pos hb] at hbearer
    simp only [hdisc, hb, State.i3cServe, hbearer]
    simp [← hb, hopen, henabled]
  · rw [if_neg hb] at hbearer
    obtain ⟨hlimit, hcache⟩ := hbearer
    simp [hopen, henabled, hdisc, hb, State.netServe, Nat.not_le.2 hlimit, hcache]

theorem koaPdu_of_takes {s : State} {req : Requester} {pdu : List Byte} (h : takes s req pdu) :
    s.koaPdu req pdu = served s req pdu (s.koaExec req pdu) :=
  koaServe_of_takes h _

section Exec

variable {s : State} {req : Requester} {op : Nat} {h : KoaHdr} {p : List Byte}

/-- What a request in good form is executed to, by its opcode. -/
theorem State.koaExec_pduOf (hop : op < 16) (hh : goodHeader h p) :
    s.koaExec req (pduOf op h p) =
      if op = 0 ∨ 10 ≤ op then s.fail .badOpcode
      else if op = 9 then (if p.isEmpty then s.done [] else s.fail .length)
      else if op = 3 then s.koaReadRange (s.maxPayload req.bearer) h.index h.sub p
      else if op = 4 then s.koaWriteRange (s.maxPayload req.bearer) h.index h.sub p req.bearer.origin h.tag
      else match s.objectAt h.index h.sub with
        | none => s.fail (s.missing h.index)
        | some d => s.koaObject req (pduOf op h p) d := by
  obtain ⟨hver, hpop, htag, hindex, hsub, hflags, hlen, hbody, -⟩ := requestsAreReadFromTheirBytes op h p hop hh
  obtain ⟨-, -, -, -, hf, hl, -⟩ := hh
  unfold State.koaExec
  rw [hver, hpop, htag, hindex, hsub, hflags, hlen, hbody, if_neg (by simp), if_neg (by omega)] <;> rfl

/-- An operation on one object reaches that object. -/
theorem State.koaExec_object (hop : op ∈ [1, 2, 5, 6, 7, 8]) (hh : goodHeader h p) {d : ObjDesc} (hd : s.objectAt h.index h.sub = some d) :
    s.koaExec req (pduOf op h p) = s.koaObject req (pduOf op h p) d := by
  have hne : ¬ (op = 0 ∨ 10 ≤ op) ∧ op ≠ 9 ∧ op ≠ 3 ∧ op ≠ 4 ∧ op < 16 := by
    simp only [List.mem_cons, List.not_mem_nil, or_false] at hop
    omega
  obtain ⟨hbad, h9, h3, h4, hlt⟩ := hne
  rw [State.koaExec_pduOf hlt hh, if_neg hbad, if_neg h9, if_neg h3, if_neg h4, hd]

/-- What an operation on one object is given: its fields, read from the PDU. -/
theorem State.koaObject_pduOf (hh : goodHeader h p) (d : ObjDesc) : op < 16 →
    s.koaObject req (pduOf op h p) d =
      let k := h.index * 256 + h.sub
      let max := s.maxPayload req.bearer
      match op with
      | 1 => s.koaRead max d k p
      | 2 => s.koaWrite max d k p req.bearer.origin h.tag
      | 5 => s.koaReadSeg req max d k p
      | 6 => s.koaWriteSeg req max d k (natBit h.flags 0) p req.bearer.origin h.tag
      | 7 => s.koaWriteIf d k p req.bearer.origin h.tag
      | _ => if p.isEmpty then s.done (s.describe d k) else s.fail .length := by
  intro hop
  obtain ⟨-, hpop, htag, hindex, hsub, hflags, -, hbody, -⟩ := requestsAreReadFromTheirBytes op h p hop hh
  unfold State.koaObject
  rw [hpop, htag, hindex, hsub, hflags, hbody] <;> rfl

end Exec

/-- A WRITE that no status stands against is accepted. -/
theorem State.koaWrite_of_ok {s : State} {max k origin tag : Nat} {d : ObjDesc} {bs : List Byte}
    (h : s.writeStatus max d k bs = .ok) : s.koaWrite max d k bs origin tag = s.accept d k bs origin tag := by
  simp [State.koaWrite, h]

/-- Settles O12: the server takes the request, its opcode chooses the operation, and the operation reads the PDU's fields. -/
theorem koaOperationsAreExecuted : Obligations.KoaOperationsAreExecuted := by
  intro s req h p hh k max
  refine ⟨fun ht hp d hd hlo hfit => ?_, fun ht d hd hst => ?_, fun ht => ?_, fun ht => ?_, fun ht d hd => ?_, fun ht d hd => ?_,
    fun ht d hd => ?_, fun ht hp d hd => ?_, fun ht hp => ?_, fun op hop ht => ?_⟩
  · change Host.Outcome.next (s.koaPdu req (pduOf 1 h p)) = _
    rw [koaPdu_of_takes ht, State.koaExec_object (op := 1) (by simp) hh hd, State.koaObject_pduOf (op := 1) hh _ (by simp)]
    have hlow : (d.isBlk && d.access != .wo && decide (max < d.lo.toNat)) = false := by
      by_cases hb : d.isBlk = true <;> by_cases ha : d.access = .wo <;> simp_all
    have hread : s.koaRead max d k p = s.done (s.readForm d k) := by
      simp only [State.koaRead, hp, List.isEmpty_nil, Bool.not_true, hlow]
      simp [Nat.not_lt.2 hfit]
    exact congrArg (fun a => Host.Outcome.next (served s req (pduOf 1 h p) a)) hread
  · change Host.Outcome.next (s.koaPdu req (pduOf 2 h p)) = _
    rw [koaPdu_of_takes ht, State.koaExec_object (op := 2) (by simp) hh hd, State.koaObject_pduOf (op := 2) hh _ (by simp)]
    exact congrArg (fun a => Host.Outcome.next (served s req (pduOf 2 h p) a)) (State.koaWrite_of_ok hst)
  · change Host.Outcome.next (s.koaPdu req (pduOf 3 h p)) = _
    rw [koaPdu_of_takes ht, State.koaExec_pduOf (op := 3) (by simp) hh]
    rfl
  · change Host.Outcome.next (s.koaPdu req (pduOf 4 h p)) = _
    rw [koaPdu_of_takes ht, State.koaExec_pduOf (op := 4) (by simp) hh]
    rfl
  · change Host.Outcome.next (s.koaPdu req (pduOf 5 h p)) = _
    rw [koaPdu_of_takes ht, State.koaExec_object (op := 5) (by simp) hh hd, State.koaObject_pduOf (op := 5) hh _ (by simp)]
    rfl
  · change Host.Outcome.next (s.koaPdu req (pduOf 6 h p)) = _
    rw [koaPdu_of_takes ht, State.koaExec_object (op := 6) (by simp) hh hd, State.koaObject_pduOf (op := 6) hh _ (by simp)]
    rfl
  · change Host.Outcome.next (s.koaPdu req (pduOf 7 h p)) = _
    rw [koaPdu_of_takes ht, State.koaExec_object (op := 7) (by simp) hh hd, State.koaObject_pduOf (op := 7) hh _ (by simp)]
    rfl
  · change Host.Outcome.next (s.koaPdu req (pduOf 8 h p)) = _
    rw [koaPdu_of_takes ht, State.koaExec_object (op := 8) (by simp) hh hd, State.koaObject_pduOf (op := 8) hh _ (by simp), hp]
    rfl
  · change Host.Outcome.next (s.koaPdu req (pduOf 9 h p)) = _
    rw [koaPdu_of_takes ht, State.koaExec_pduOf (op := 9) (by simp) hh, hp]
    rfl
  · change (if op.val = 0 ∨ 10 ≤ op.val then Host.Outcome.next (s.koaPdu req (pduOf op h p)) else .next s) = _
    rw [if_pos hop, koaPdu_of_takes ht, State.koaExec_pduOf op.isLt hh, if_pos hop]

/-! ### The rows that write one object -/

/-- A row that writes a scalar object is a write of its value. -/
theorem exec_scalarRow {s : State} {c : Instr} {req : Requester} {tag k : Nat} {v : Int} (h : scalarRow c = some (req, tag, k, v)) :
    exec c s = .next (s.koaSet req tag k v) := by
  cases c
  case fcTrim write tag' value =>
    cases write with
    | none => simp [scalarRow] at h
    | some r =>
      simp only [scalarRow, Option.some.injEq, Prod.mk.injEq] at h
      obtain ⟨rfl, rfl, rfl, rfl⟩ := h
      rfl
  case axisConfigWrite r t key value =>
    simp only [scalarRow, Option.ite_none_right_eq_some, Option.some.injEq, Prod.mk.injEq] at h
    obtain ⟨hkey, rfl, rfl, rfl, rfl⟩ := h
    change (if axisConfigKey key then _ else _) = _
    rw [if_pos hkey]
  all_goals
    simp only [scalarRow, Option.some.injEq, Prod.mk.injEq, reduceCtorEq] at h
    try (obtain ⟨rfl, rfl, rfl, rfl⟩ := h; rfl)

/-- A row that writes an object by its bytes is a write of those bytes. -/
theorem exec_bytesRow {s : State} {c : Instr} {req : Requester} {tag k : Nat} {bs : List Byte} (h : bytesRow c = some (req, tag, k, bs)) :
    exec c s = .next (s.koaWriteOf req tag k bs) := by
  cases c
  case threshWrite | rxEnableWrite | mrevConfigWrite | extrinsicsWrite | gptpConfigWrite | portConfigWrite | canConfigWrite
      | bondConfigWrite | eventMaskWrite =>
    simp only [bytesRow, Option.ite_none_right_eq_some, Option.some.injEq, Prod.mk.injEq] at h
    obtain ⟨hkey, rfl, rfl, rfl, rfl⟩ := h
    exact if_pos hkey
  all_goals
    simp only [bytesRow, Option.some.injEq, Prod.mk.injEq, reduceCtorEq] at h
    try (obtain ⟨rfl, rfl, rfl, rfl⟩ := h; rfl)

/-- Every row that writes an object is a write of its bytes. -/
theorem exec_writeRow {s : State} {c : Instr} {req : Requester} {tag k : Nat} {bs : List Byte} (h : writeRow s c = some (req, tag, k, bs)) :
    exec c s = .next (s.koaWriteOf req tag k bs) := by
  unfold writeRow at h
  split at h
  next r t key v hrow =>
    simp only [Option.some.injEq, Prod.mk.injEq] at h
    obtain ⟨rfl, rfl, rfl, rfl⟩ := h
    exact exec_scalarRow hrow
  next => exact exec_bytesRow h

theorem State.maxPayload_le (s : State) (b : Bearer) : s.maxPayload b ≤ 1024 := by
  unfold State.maxPayload
  split
  · omega
  · split <;> omega
  · omega
  · omega

/-- Settles O14: the row is a WRITE of one object that the server takes and accepts. -/
theorem writeCommandsApplyTheirValue : Obligations.WriteCommandsApplyTheirValue := by
  intro s c req tag k bs d hrow htag hk hd hfit ht hst
  have hmax := s.maxPayload_le req.bearer
  have hh := goodHeader_request (flags := 0) htag hk (by omega) (bs := bs) (by omega)
  have hkey : k / 256 * 256 + k % 256 = k := by omega
  rw [exec_writeRow hrow, State.koaWriteOf, if_pos hfit, koaPdu_of_takes ht, requestPdu, State.koaExec_object (op := 2) (by simp) hh hd,
    State.koaObject_pduOf (op := 2) hh _ (by simp)]
  simp only [hkey, State.koaWrite_of_ok hst]

/-- Settles O15: a long value runs its session, and a key outside the row's set is none of its objects. -/
theorem longWritesRunOneSession : Obligations.LongWritesRunOneSession := by
  refine ⟨fun s c req tag k bs d hrow htag hk hlong hd ht => ?_, fun s req tag k v bs => ?_⟩
  · rw [exec_writeRow hrow, State.koaWriteOf, if_neg (Nat.not_le.2 hlong), koaServe_of_takes ht, hd]
  · have hno : ∀ {b : Bool} {x y : Host.Outcome State Fault Refusal}, b = false → (if b then x else y) = y := by
      rintro _ x y rfl
      rfl
    exact ⟨hno, hno, hno, hno, hno, hno, hno, hno, hno, hno⟩

/-! ### Refused writes -/

/-- What a refusal may note: its result codes and a report. -/
def refusalKey (j : Nat) : Bool := reportKey j || j == Obj.CUE_RESULT || j == Obj.SEAL_RESULT || j / 256 == Obj.KERNEL_RESULT / 256

/-- A refusal touches nothing but result codes and reports. -/
def NotesOnly (s t : State) : Prop := onlyParts reporting s t ∧ onlyKeys refusalKey s t ∧ t.blk = s.blk

theorem NotesOnly.refl (s : State) : NotesOnly s s := ⟨onlyParts_refl _ s, fun _ _ => rfl, rfl⟩

theorem NotesOnly.trans {s t u : State} (h : NotesOnly s t) (g : NotesOnly t u) : NotesOnly s u := by
  obtain ⟨hp, hk, hb⟩ := h
  obtain ⟨gp, gk, gb⟩ := g
  refine ⟨onlyParts_mono (onlyParts_trans hp gp) (by simp), fun j hj => (gk j hj).trans (hk j hj), gb.trans hb⟩

theorem NotesOnly.set {k : Nat} (h : refusalKey k = true) (s : State) (v : Int) : NotesOnly s (s.set k v) := by
  refine ⟨fun p hp => ?_, fun j hj => s.get_set_other v ?_, rfl⟩
  · cases p <;> simp_all [Part.same, reporting, State.set]
  · rintro rfl
    simp [h] at hj

theorem NotesOnly.raise (s : State) (e p : Nat) : NotesOnly s (s.raise e p) :=
  ⟨onlyParts_mono (s.raise_onlyParts e p) (by simp [reporting]), fun _ _ => rfl, rfl⟩

theorem NotesOnly.cueResult (s : State) (c : Nat) : NotesOnly s (s.cueResult c) := by
  unfold State.cueResult
  have hset : NotesOnly s (s.set Obj.CUE_RESULT c) := NotesOnly.set (by simp [refusalKey]) s c
  split
  · exact hset
  · exact hset.trans (NotesOnly.raise _ _ _)

theorem NotesOnly.setSealResult (s : State) (c : Nat) : NotesOnly s (s.setSealResult c) := by
  unfold State.setSealResult
  have hset : NotesOnly s (s.set Obj.SEAL_RESULT c) := NotesOnly.set (by simp [refusalKey]) s c
  split
  · exact hset
  · exact hset.trans (NotesOnly.raise _ _ _)

theorem NotesOnly.seqRefused (s : State) (k : Nat) (v : Int) (st : Status) : NotesOnly s (seqRefused s k v st) := by
  unfold Machine.seqRefused
  split
  · exact NotesOnly.cueResult s _
  · split
    · exact NotesOnly.cueResult s _
    · exact NotesOnly.refl s

theorem NotesOnly.seqBlkRefused (s : State) (k : Nat) (v : List Byte) (st : Status) : NotesOnly s (seqBlkRefused s k v st) := by
  unfold Machine.seqBlkRefused
  repeat' split
  · exact NotesOnly.cueResult s _
  · exact NotesOnly.cueResult s _
  · exact NotesOnly.cueResult s _
  · exact NotesOnly.refl s

theorem NotesOnly.safetyRefused (s : State) (k : Nat) (st : Status) : NotesOnly s (safetyRefused s k st) := by
  unfold Machine.safetyRefused
  repeat' split
  · exact NotesOnly.raise s _ _
  · exact NotesOnly.refl s
  · exact NotesOnly.setSealResult s _
  · exact NotesOnly.setSealResult s _
  · exact NotesOnly.setSealResult s _
  · exact NotesOnly.refl s
  · exact NotesOnly.refl s

theorem NotesOnly.refused (s : State) (d : ObjDesc) (k : Nat) (bs : List Byte) (st : Status) : NotesOnly s (s.refused d k bs st) := by
  unfold State.refused
  split
  · have hblk := NotesOnly.seqBlkRefused s k bs st
    dsimp only
    split
    next => exact hblk.trans (NotesOnly.set (by simp [refusalKey]) _ _)
    next => exact hblk
  · exact (NotesOnly.seqRefused s k _ st).trans (NotesOnly.safetyRefused _ k st)

/-- Settles O16: a refusal runs the owners' side effects of the refusal and nothing else. -/
theorem refusedWritesChangeNoObject : Obligations.RefusedWritesChangeNoObject := by
  intro s max d k bs origin tag hst t
  have hw : s.koaWrite max d k bs origin tag = (s.refused d k bs (s.writeStatus max d k bs)).fail (s.writeStatus max d k bs) :=
    if_neg hst
  obtain ⟨hparts, hkeys, hblk⟩ := NotesOnly.refused s d k bs (s.writeStatus max d k bs)
  have ht : t = s.refused d k bs (s.writeStatus max d k bs) := congrArg Answer.st hw
  rw [ht]
  exact ⟨hparts, hkeys, fun j _ _ => State.getBlk_congr hblk j, congrArg Answer.status hw⟩

end Sys2Proof.Machine

/-! ## Ranges, segments, WRITE_IF, retransmissions and the limit of outstanding requests (R67, R76 to R82) -/

namespace Sys2Proof.Machine

open Sys2Proof Sys2Proof.Safety

set_option Elab.async false

/-! ### Ranges -/

/-- A range of fixed-length objects that exist meets no status of its own. -/
theorem State.rangeChecks_of_fixed {s : State} {index : Nat} {os : List (Option ObjDesc)}
    (h : os.all (fun o => o.isSome && !variable_ o) = true) : s.rangeChecks index os = [] := by
  have hall : ∀ o ∈ os, o.isSome = true ∧ variable_ o = false := by simpa using h
  have hvar : os.any variable_ = false := List.any_eq_false.2 fun o ho => by simp [(hall o ho).2]
  have hnone : os.any (fun o => o.isNone) = false := List.any_eq_false.2 fun o ho => by
    simpa [Option.isSome_iff_ne_none] using (hall o ho).1
  simp [State.rangeChecks, hvar, hnone, statusIf]

theorem rangeCount_mod {n : Nat} (h : 0 < n) (h' : n ≤ 256) : rangeCount (n % 256) = n := by
  unfold rangeCount
  split <;> omega

theorem beNat_beBytes_one (n : Nat) : beNat (beBytes 1 n) = n % 256 := by simp [beNat, beBytes]

theorem firstStatus_nil : firstStatus [] = .ok := rfl

/-- A READ_RANGE of fixed-length objects that fits answers their values. -/
theorem State.koaReadRange_of_fixed {s : State} {max index sub n : Nat} (h0 : 0 < n) (hn : n ≤ 256)
    (hos : (s.rangeObjects index sub n).all (fun o => o.isSome && !variable_ o) = true)
    (hsize : ((s.rangeObjects index sub n).map (fun o => (o.map (·.readSize)).getD 0)).sum ≤ max) :
    s.koaReadRange max index sub (beBytes 1 n) = s.done (((s.rangeObjects index sub n).zip (List.range n)).flatMap (fun x =>
      match x.1 with | some e => s.readForm e (index * 256 + sub + x.2) | none => [])) := by
  have hlen : (s.rangeObjects index sub n).length = n := by simp [State.rangeObjects]
  have hone : (beBytes 1 n).length = 1 := rfl
  unfold State.koaReadRange
  simp only [hone, if_true, beNat_beBytes_one, rangeCount_mod h0 hn, State.rangeChecks_of_fixed hos, hlen]
  simp only [statusIf, bne_self_eq_false, Bool.false_eq_true, if_false, List.append_nil, firstStatus_nil, ne_eq, not_true_eq_false,
    Nat.not_lt.2 hsize] <;> rfl

/-- A WRITE_RANGE that no check stands against writes every value. -/
theorem State.koaWriteRange_of_ok {s : State} {max index sub n origin tag : Nat} {p : List Byte} (h0 : 0 < n) (hn : n ≤ 256)
    (hp : p ≠ []) (hcount : beAt p 0 1 = n % 256)
    (hos : (s.rangeObjects index sub n).all (fun o => o.isSome && !variable_ o) = true)
    (hacc : ((s.rangeObjects index sub n).filterMap id).flatMap s.accessChecks = [])
    (hlen : p.length = (((s.rangeObjects index sub n).filterMap id).map (fun e => e.elemSize.getD 0)).sum + 1) (hmax : p.length ≤ max)
    (hst : (s.rangeStatuses (rangeValues (index * 256 + sub) ((s.rangeObjects index sub n).filterMap id) (p.drop 1))).flatten = [])
    (hjobs : ((rangeValues (index * 256 + sub) ((s.rangeObjects index sub n).filterMap id) (p.drop 1)).filter
      (fun v => (s.jobOf v.2.1 (beNat v.2.2)).isSome)).length ≤ (jobSlots.filter (fun m => (s.job m).state == .free)).length) :
    s.koaWriteRange max index sub p origin tag =
      s.acceptAll (rangeValues (index * 256 + sub) ((s.rangeObjects index sub n).filterMap id) (p.drop 1)) origin tag := by
  have hempty : p.isEmpty = false := by simpa using hp
  have hmax' : decide (max < p.length) = false := by simpa using hmax
  have hjobs' := decide_eq_false (Nat.not_lt.2 hjobs)
  unfold State.koaWriteRange
  simp only [hempty, Bool.false_eq_true, if_false, hcount, rangeCount_mod h0 hn, State.rangeChecks_of_fixed hos, hacc, ← hlen, hmax',
    hst, hjobs', bne_self_eq_false, Bool.or_self, statusIf, List.append_nil, firstStatus_nil, ne_eq, not_true_eq_false, if_true]

/-! ### Segments -/

/-- A segment that is not the last and meets no status keeps its bytes. -/
theorem State.koaWriteSeg_of_ok {s : State} {req : Requester} {max k origin tag : Nat} {d : ObjDesc} {p : List Byte}
    (h : s.segStatus req max d k false p = .ok) :
    (s.koaWriteSeg req max d k false p origin tag).status = .ok ∧
      (s.koaWriteSeg req max d k false p origin tag).st.session k =
        some ⟨req, k, ((s.session k).map (·.data)).getD [] ++ p.drop 4, s.now⟩ := by
  unfold State.koaWriteSeg
  simp only [h, if_true, Bool.false_eq_true, if_false]
  refine ⟨rfl, ?_⟩
  have hold : (s.koa.sessions.filter (fun x => x.key != k)).find? (fun x => x.key == k) = none := by simp
  simp only [State.session, State.done, State.dropSession, List.find?_append, hold]
  simp

/-- The owner's snapshot of an object is the one put last. -/
theorem State.snapshot_putSnapshot (s : State) (x : Snapshot) : (s.putSnapshot x).snapshot x.owner x.key = some x := by
  have hold : (s.koa.snapshots.filter (fun y => !(y.owner == x.owner && y.key == x.key))).find?
      (fun y => y.owner == x.owner && y.key == x.key) = none := by
    rw [List.find?_eq_none]
    intro y hy
    have hother : (y.owner == x.owner && y.key == x.key) = false := by simpa only [Bool.not_eq_eq_eq_not, Bool.not_true] using (List.mem_filter.1 hy).2
    rw [hother]
    exact Bool.false_ne_true
  simp only [State.snapshot, State.putSnapshot, List.find?_append, hold]
  simp

/-- A READ_SEG at offset 0 that has its room takes a snapshot and answers its start. -/
theorem State.koaReadSeg_of_start {s : State} {req : Requester} {max k : Nat} {d : ObjDesc} {p : List Byte} (hty : d.ty = .block)
    (hlen : p.length = 6) (hmax : 4 ≤ max) (hoff : beAt p 0 4 = 0) (hexp : s.hasExpired req k = false)
    (hroom : s.snapshot req k = none → s.koa.snapshots.length < 8 ∧ s.ddrHas ddrSessions = true) :
    s.koaReadSeg req max d k p = (s.putSnapshot ⟨req, k, s.liveBlock d k, s.now⟩).done
      (beBytes 4 (s.liveBlock d k).length ++ (s.liveBlock d k).take (min (beAt p 4 2) (max - 4))) := by
  have hfull : ((s.snapshot req k).isNone && (decide (8 ≤ s.koa.snapshots.length) || !s.ddrHas ddrSessions)) = false := by
    cases hx : s.snapshot req k with
    | some x => rfl
    | none =>
      obtain ⟨h8, hddr⟩ := hroom hx
      simp [hddr, h8]
  unfold State.koaReadSeg
  simp only [hty, hlen, hoff, hexp, hfull]
  simp [statusIf, firstStatus_nil, Nat.not_lt.2 hmax]

/-! ### WRITE_IF -/

section WriteIf

variable {s : State} {d : ObjDesc} {k origin tag : Nat} {p : List Byte}

/-- What a WRITE_IF of a scalar answers where no check stands against it: the write, or MISMATCH with the value. -/
theorem State.koaWriteIf_of_ok (hblk : d.isBlk = false) (hlen : p.length = 2 * typeSize d.ty) (hacc : s.accessChecks d = [])
    (hses : s.inSession k = false) (hsh : s.shadowed d k = false) (hval : s.valueChecks d k (p.drop (typeSize d.ty)) = []) :
    s.koaWriteIf d k p origin tag =
      if s.liveValue d k = decodeValue d.ty (p.take (typeSize d.ty)) then
        { s.accept d k (p.drop (typeSize d.ty)) origin tag with payload := [] }
      else ⟨s, .mismatch, s.readForm d k, []⟩ := by
  unfold State.koaWriteIf
  simp only [hblk, hlen, hacc, hses, hsh, hval]
  by_cases heq : s.liveValue d k = decodeValue d.ty (p.take (typeSize d.ty))
  · simp [heq, statusIf, firstStatus_nil]
  · have hfirst : firstStatus [Status.mismatch] = .mismatch := rfl
    simp [heq, statusIf, hfirst]

end WriteIf

/-- Settles O13: each operation's answer under its conditions. -/
theorem rangesAndSegmentsKeepTheirRules : Obligations.RangesAndSegmentsKeepTheirRules := by
  intro s req max index sub k p origin tag d
  refine ⟨fun n h0 hn hp hos hsize => ?_, State.koaWriteSeg_of_ok, fun n h0 hn hp hcount hos => ?_, fun hty hlen hmax hoff hexp hroom => ?_, fun hblk hlen hacc hses hsh hval => ?_⟩
  · rw [hp]
    exact State.koaReadRange_of_fixed h0 hn hos hsize
  · intro ds vs hacc hlen hmax hst hjobs
    exact State.koaWriteRange_of_ok h0 hn hp hcount hos hacc hlen hmax hst hjobs
  · rw [State.koaReadSeg_of_start hty hlen hmax hoff hexp hroom]
    exact ⟨rfl, s.snapshot_putSnapshot _, rfl⟩
  · have hans := State.koaWriteIf_of_ok (origin := origin) (tag := tag) hblk hlen hacc hses hsh hval
    exact ⟨fun heq => hans.trans (if_pos heq), fun hne => hans.trans (if_neg hne)⟩

/-! ### Retransmissions and the limit -/

/-- A response on its network reports only. -/
theorem State.sendResponse_onlyParts (s : State) (req : Requester) (r : List Byte) : onlyParts reporting s (s.sendResponse req r) := by
  unfold State.sendResponse
  intro p hp
  split <;> cases p <;> simp_all [Part.same, reporting]

/-- Counting a response reports only. -/
theorem State.countResponse_onlyParts (s : State) (r : List Byte) : onlyParts reporting s (s.countResponse r) := by
  unfold State.countResponse
  intro p hp
  dsimp only
  split <;> split <;> cases p <;> simp_all [Part.same, reporting]

/-- A network's response reports, and what it caches is the server's. -/
theorem State.netRespond_onlyParts (s : State) (req : Requester) (pdu r : List Byte) :
    onlyParts (.koa :: reporting) s (s.netRespond req pdu r) := by
  have hout := onlyParts_trans (s.sendResponse_onlyParts req r) (State.countResponse_onlyParts _ r)
  unfold State.netRespond
  dsimp only
  split
  · exact onlyParts_mono hout (by simp [reporting])
  · refine onlyParts_mono (onlyParts_trans (qs := [.koa]) hout ?_) (by simp [reporting])
    intro p hp
    cases p <;> simp_all [Part.same, State.cacheAdd]

theorem pduOf_length (op : Nat) (h : KoaHdr) (p : List Byte) : (pduOf op h p).length = 8 + p.length := by
  rw [pduOf_eq]
  simp
  omega

/-- The status of a response is read from its byte. -/
theorem responseStatus_koaResponse {pdu : List Byte} (h : 8 ≤ pdu.length) (st : Status) (payload : List Byte) :
    responseStatus (koaResponse pdu st payload) = st.code := by
  have hmid : ((pdu.drop 1).take 4).length = 4 := by
    simp
    omega
  have hcode : st.code < 256 := by cases st <;> simp [Status.code]
  simp only [responseStatus, beAt, koaResponse, beBytes]
  match h4 : (pdu.drop 1).take 4, hmid with
  | [_, _, _, _], _ =>
    simp [beNat]
    omega

/-- A BUSY response is not cached: the server's own state stays. -/
theorem State.netRespond_busy {s : State} {req : Requester} {pdu r : List Byte} (h : responseStatus r = Status.busy.code) :
    (s.netRespond req pdu r).koa = s.koa ∧ onlyParts reporting s (s.netRespond req pdu r) := by
  have hout : onlyParts reporting s ((s.sendResponse req r).countResponse r) :=
    onlyParts_mono (onlyParts_trans (s.sendResponse_onlyParts req r) (State.countResponse_onlyParts _ r)) (by simp)
  have heq : s.netRespond req pdu r = (s.sendResponse req r).countResponse r := if_pos h
  rw [heq]
  exact ⟨hout .koa (by simp [reporting]), hout⟩

/-- A WRITE on an open network is served there. -/
theorem exec_koaWrite_net {s : State} {req : Requester} {h : KoaHdr} {p : List Byte} (hh : goodHeader h p) (hb : req.bearer ≠ .i3c)
    (hopen : s.bearerOpen req.bearer = true) (henabled : s.bearerEnabled req.bearer = true) :
    exec (.koaWrite req h p) s = .next (s.netServe req (pduOf 2 h p) (fun s => s.koaExec req (pduOf 2 h p))) := by
  obtain ⟨-, -, -, -, -, -, -, -, hdisc⟩ := requestsAreReadFromTheirBytes 2 h p (by simp) hh
  change Host.Outcome.next (s.koaPdu req (pduOf 2 h p)) = _
  simp [State.koaPdu, State.koaServe, hopen, henabled, hdisc, hb]

/-- Settles O17: the limit is judged first, then the cache; both answer without running the request. -/
theorem repeatedAndCrowdedRequestsAreNotExecuted : Obligations.RepeatedAndCrowdedRequestsAreNotExecuted := by
  intro s req h p hh hb hopen henabled
  rw [exec_koaWrite_net hh hb hopen henabled]
  refine ⟨fun r hlimit hcached => ?_, fun hlimit => ?_⟩
  · have hserve : s.netServe req (pduOf 2 h p) (fun s => s.koaExec req (pduOf 2 h p)) =
        (s.holdRequest req.bearer (pduOf 2 h p)).netRespond req (pduOf 2 h p) r := by
      simp [State.netServe, Nat.not_le.2 hlimit, hcached]
    refine ⟨congrArg _ hserve, _, congrArg _ hserve, ?_⟩
    have hhold : onlyParts [.koa, .freeCtr] s (s.holdRequest req.bearer (pduOf 2 h p)) := by
      intro q hq
      cases q <;> simp_all [Part.same, State.holdRequest]
    exact onlyParts_mono (onlyParts_trans hhold (State.netRespond_onlyParts _ req _ r)) (by simp [reporting])
  · have hserve : s.netServe req (pduOf 2 h p) (fun s => s.koaExec req (pduOf 2 h p)) =
        s.netRespond req (pduOf 2 h p) (koaResponse (pduOf 2 h p) .busy []) := if_pos hlimit
    have hlen : 8 ≤ (pduOf 2 h p).length := by
      rw [pduOf_length]
      omega
    obtain ⟨hkoa, hparts⟩ := State.netRespond_busy (s := s) (req := req) (pdu := pduOf 2 h p)
      (responseStatus_koaResponse hlen .busy [])
    exact ⟨_, congrArg _ hserve, hkoa, hparts, congrArg _ hserve⟩

end Sys2Proof.Machine

/-! ## Frames: what an operation may touch

`Touches F s t` says that `t` differs from `s` in no part, no scalar object and no count of raised events but those that the frame `F`
names. Each operation of the safety island, the sequencer's state and the axes' states has one lemma with its frame. -/

namespace Sys2Proof.Machine

open Sys2Proof Sys2Proof.Safety

set_option Elab.async false

/-- The parts, the spans of scalar objects (first and last key), the objects from a key on, and the events that may change. -/
structure Frame where
  parts : List Part := []
  keys : List (Nat × Nat) := []
  above : Option Nat := none
  events : List Nat := []

/-- The frame names the object. -/
def Frame.key (F : Frame) (k : Nat) : Bool := F.keys.any (fun r => decide (r.1 ≤ k) && decide (k ≤ r.2)) || F.above.any (fun n => decide (n ≤ k))

/-- All that the first frame names, the second names too. -/
def Frame.le (G F : Frame) : Bool :=
  G.parts.all (fun p => F.parts.contains p) && G.events.all (fun e => F.events.contains e) &&
    G.keys.all (fun r => F.keys.any (fun q => decide (q.1 ≤ r.1) && decide (r.2 ≤ q.2)) || F.above.any (fun n => decide (n ≤ r.1))) &&
    G.above.all (fun n => F.above.any (fun m => decide (m ≤ n)))

structure Touches (F : Frame) (s t : State) : Prop where
  parts : onlyParts F.parts s t
  keys : ∀ k, F.key k = false → t.get k = s.get k
  events : ∀ e, F.events.contains e = false → raisedCount t e = raisedCount s e

theorem Frame.key_of_le {G F : Frame} (h : G.le F = true) {k : Nat} (hk : F.key k = false) : G.key k = false := by
  obtain ⟨⟨⟨-, -⟩, hspans⟩, habove⟩ : ((_ ∧ _) ∧ _) ∧ _ := by simpa only [Frame.le, Bool.and_eq_true] using h
  simp only [Frame.key, Bool.or_eq_false_iff, List.any_eq_false] at hk ⊢
  obtain ⟨hnone, hbelow⟩ := hk
  refine ⟨fun r hr => ?_, ?_⟩
  · have hcover := List.all_eq_true.1 hspans r hr
    simp only [Bool.or_eq_true, List.any_eq_true, Bool.and_eq_true, decide_eq_true_eq] at hcover
    rcases hcover with ⟨q, hq, hlo, hhi⟩ | hcover
    · have := hnone q hq
      simp only [Bool.and_eq_true, decide_eq_true_eq, not_and, not_le] at this ⊢
      omega
    · cases ha : F.above with
      | none => simp [ha] at hcover
      | some n =>
        simp only [ha, Option.any_some, decide_eq_true_eq, decide_eq_false_iff_not] at hcover hbelow
        simp only [Bool.and_eq_true, decide_eq_true_eq, not_and, not_le]
        omega
  · cases hg : G.above with
    | none => rfl
    | some m =>
      cases ha : F.above with
      | none => simp [hg, ha] at habove
      | some n =>
        simp only [hg, ha, Option.any_some, Option.all_some, decide_eq_true_eq, decide_eq_false_iff_not] at habove hbelow ⊢
        omega

namespace Touches

variable {F G : Frame} {s t u : State}

theorem refl : Touches F s s := ⟨onlyParts_refl _ s, fun _ _ => rfl, fun _ _ => rfl⟩

theorem mono (h : Touches G s t) (hle : G.le F = true := by decide) : Touches F s t := by
  obtain ⟨⟨⟨hparts, hevents⟩, -⟩, -⟩ : ((_ ∧ _) ∧ _) ∧ _ := by simpa only [Frame.le, Bool.and_eq_true] using hle
  refine ⟨onlyParts_mono h.parts fun p hp => by simpa using List.all_eq_true.1 hparts p hp, fun k hk => h.keys k (Frame.key_of_le hle hk),
    fun e he => h.events e ?_⟩
  by_contra hc
  have hmem : e ∈ G.events := by simpa using hc
  have := List.all_eq_true.1 hevents e hmem
  simp_all

theorem trans (h : Touches F s t) (g : Touches F t u) : Touches F s u :=
  ⟨onlyParts_mono (onlyParts_trans h.parts g.parts) (by simp), fun k hk => (g.keys k hk).trans (h.keys k hk),
    fun e he => (g.events e he).trans (h.events e he)⟩

/-- A further update in the frame. -/
theorem andThen (h : Touches F s t) (g : Touches G t u) (hle : G.le F = true := by decide) : Touches F s u := h.trans (g.mono hle)

/-- An update of the other parts. -/
theorem of_parts (h : onlyParts F.parts s t) (hr : t.reg = s.reg := by rfl) (he : t.ev.raised = s.ev.raised := by rfl) : Touches F s t :=
  ⟨h, fun k _ => State.get_congr hr k, fun e _ => by simp [raisedCount, he]⟩

theorem ite {c : Prop} [Decidable c] (ht : Touches F s t) (hu : Touches F s u) : Touches F s (if c then t else u) := by
  split
  · exact ht
  · exact hu

theorem cond {c : Bool} (ht : Touches F s t) (hu : Touches F s u) : Touches F s (bif c then t else u) := by
  cases c
  · exact hu
  · exact ht

theorem foldl {α : Type} (h : Touches F s t) {f : State → α → State} {l : List α} (hf : ∀ s x, Touches F s (f s x)) :
    Touches F s (l.foldl f t) := by
  induction l generalizing t with
  | nil => exact h
  | cons x l ih => exact ih (h.trans (hf t x))

theorem part (h : Touches F s t) (p : Part) (hp : F.parts.contains p = false := by decide) : p.same s t :=
  h.parts p (by simpa using hp)

theorem get (h : Touches F s t) (k : Nat) (hk : F.key k = false := by decide) : t.get k = s.get k := h.keys k hk

theorem raised (h : Touches F s t) (e : Nat) (he : F.events.contains e = false := by decide) : raisedCount t e = raisedCount s e :=
  h.events e he

end Touches

theorem raisedCount_raise (s : State) (e p x : Nat) : raisedCount (s.raise e p) x = raisedCount s x + (if e = x then 1 else 0) := by
  by_cases h : e = x
  · simp [raisedCount, State.raise, List.filter_append, h]
  · simp [raisedCount, State.raise, List.filter_append, h]

theorem State.set_touches (s : State) (k : Nat) (v : Int) : Touches { parts := [.reg], keys := [(k, k)] } s (s.set k v) := by
  refine ⟨fun p hp => ?_, fun j hj => s.get_set_other v ?_, fun e _ => rfl⟩
  · cases p <;> simp_all [Part.same, State.set]
  · rintro rfl
    simp [Frame.key] at hj

theorem State.count_touches (s : State) (k : Nat) : Touches { parts := [.reg], keys := [(k, k)] } s (s.count k) := s.set_touches k _

theorem State.raise_touches (s : State) (e p : Nat) : Touches { parts := [.ev], events := [e] } s (s.raise e p) := by
  refine ⟨s.raise_onlyParts e p, fun _ _ => rfl, fun x hx => ?_⟩
  have hne : e ≠ x := by simpa [eq_comm] using hx
  simp [raisedCount_raise, hne]

/-- An update that leaves the store and the matrix touches its parts. -/
theorem touches_of_same {ps : List Part} {s t : State} (h : onlyParts ps s t) (hr : .reg ∉ ps := by simp) (he : .ev ∉ ps := by simp) :
    Touches { parts := ps } s t :=
  Touches.of_parts h (h .reg hr) (by rw [show t.ev = s.ev from h .ev he])

theorem State.withSafety_touches (s : State) (x : SafetyIsland) : Touches { parts := [.safety] } s { s with safety := x } :=
  touches_of_same fun p hp => by cases p <;> simp_all [Part.same]

/-! ### Jobs and calibration -/

theorem State.setJob_touches (s : State) (n : Nat) (j : Job) : Touches { parts := [.jobs] } s (s.setJob n j) :=
  touches_of_same (s.setJob_onlyParts n j)

theorem State.resumeWaiting_touches (s : State) : Touches { parts := [.jobs] } s s.resumeWaiting := by
  refine Touches.refl.foldl fun s n => ?_
  split
  · exact Touches.refl
  · exact touches_of_same fun p hp => by cases p <;> simp_all [Part.same, State.setJob]

theorem State.finishJob_touches (s : State) (n : Nat) (st : JobState) (result : Nat) :
    Touches { parts := [.jobs, .ev], events := [0x160, 0x161, 0x162] } s (s.finishJob n st result) := by
  unfold State.finishJob
  extract_lets j s1 _ s2 e
  have h2 : Touches { parts := [.jobs, .ev], events := [0x160, 0x161, 0x162] } s s2 :=
    Touches.of_parts fun p hp => by cases p <;> simp_all [Part.same, s2, s1, State.setJob]
  have he : e = 0x160 ∨ e = 0x161 ∨ e = 0x162 := by
    simp only [e]
    split
    · exact .inl rfl
    · split
      · exact .inr (.inl rfl)
      · exact .inr (.inr rfl)
  refine (h2.andThen (State.raise_touches _ _ _) ?_).andThen (State.resumeWaiting_touches _)
  rcases he with he | he | he <;> simp [Frame.le, he]

/-- The objects of calibration and those above them. -/
theorem calKey_ge (u : Nat) : Obj.CAL_STATUS ≤ calKey u := by
  unfold calKey
  split
  · omega
  · change 0x281000 ≤ 0x281100 + _
    omega

theorem State.setOutcome_touches (s : State) (u kind code : Nat) :
    Touches { parts := [.reg], above := some Obj.CAL_STATUS } s (s.setOutcome u kind code) := by
  refine (s.set_touches _ _).mono ?_
  simp [Frame.le, calKey_ge]

/-- What the calibration jobs touch when they end. -/
def calEndFrame : Frame :=
  { parts := [.jobs, .cal, .reg, .ev], above := some Obj.CAL_STATUS, events := [0x160, 0x161, 0x162, 0x101] }

theorem State.rejectBusy_touches (s : State) (n : Nat) : Touches { parts := [.ev], events := [0x101] } s (s.rejectBusy n) :=
  Touches.refl.foldl fun s _ => s.raise_touches _ _

theorem State.dropJobRuns_touches (s : State) (n code : Nat) : Touches calEndFrame s (s.dropJobRuns n code) := by
  unfold State.dropJobRuns
  refine Touches.foldl ?_ fun s u => (s.setOutcome_touches _ _ _).mono
  exact Touches.of_parts fun p hp => by cases p <;> simp_all [Part.same, calEndFrame]

theorem State.calEnd_touches (s : State) (p : JobKind → Bool) : Touches calEndFrame s (s.calEnd p) := by
  refine Touches.refl.foldl fun s n => .ite ?_ Touches.refl
  exact (((s.rejectBusy_touches n).mono).andThen (State.dropJobRuns_touches _ n 0x24)).andThen (State.finishJob_touches _ n _ _)

/-! ### The safety island -/

theorem State.setEnA_touches (s : State) (x : Bool) : Touches { parts := [.safety] } s (s.setEnA x) :=
  .ite Touches.refl (s.withSafety_touches _)

theorem State.setEnB_touches (s : State) (x : Bool) : Touches { parts := [.safety] } s (s.setEnB x) :=
  .ite Touches.refl (s.withSafety_touches _)

theorem State.abandonOffTest_touches (s : State) :
    Touches { parts := [.safety, .reg, .ev], keys := [(Obj.OFFTEST_ABANDONED, Obj.OFFTEST_ABANDONED)], events := [0x00F] } s s.abandonOffTest := by
  unfold State.abandonOffTest
  split
  · exact Touches.refl
  · exact (((s.withSafety_touches _).mono).andThen (State.count_touches _ _)).andThen (State.raise_touches _ _ _)

theorem State.renewRequest_touches (s : State) : Touches { parts := [.safety, .ev], events := [0x00B] } s s.renewRequest := by
  unfold State.renewRequest
  extract_lets was _ s1
  have h1 : Touches { parts := [.safety, .ev], events := [0x00B] } s s1 := (s.withSafety_touches _).mono
  exact .ite (h1.andThen (State.raise_touches _ _ _)) h1

/-- What darkening the emitter touches. -/
def darkenFrame : Frame :=
  { parts := [.safety, .reg, .ev], keys := [(Obj.OFFTEST_ABANDONED, Obj.OFFTEST_ABANDONED)], events := [0x00F, 0x00B] }

theorem State.darken_touches (s : State) : Touches darkenFrame s s.darken :=
  (((s.abandonOffTest_touches.mono).andThen (State.setEnA_touches _ _)).andThen (State.setEnB_touches _ _)).andThen
    (State.renewRequest_touches _)

theorem State.cutPulses_touches (s : State) : Touches { parts := [.seq, .emit] } s s.cutPulses :=
  touches_of_same fun p hp => by cases p <;> simp_all [Part.same, State.cutPulses]

/-- What a change of SAFETY_STATE touches. -/
def safetyStateFrame : Frame :=
  { parts := [.safety, .seq, .emit, .jobs, .cal, .reg, .ev], above := some Obj.CAL_STATUS
    events := [0x000, 0x015, 0x160, 0x161, 0x162, 0x101] }

theorem State.setSafetyState_touches (s : State) (x : SafetyState) : Touches safetyStateFrame s (s.setSafetyState x) := by
  refine .ite Touches.refl ?_
  extract_lets old _ s1 s2
  have h1 : Touches safetyStateFrame s s1 := ((s.withSafety_touches _).mono).andThen (State.raise_touches _ _ _)
  have h2 : Touches safetyStateFrame s s2 := .ite (h1.andThen (State.raise_touches _ _ _)) h1
  exact .ite ((h2.andThen (State.cutPulses_touches _)).andThen (State.calEnd_touches _ _)) h2

/-- What a stop touches. -/
def stopFrame : Frame :=
  { parts := [.safety, .seq, .emit, .jobs, .cal, .reg, .ev], keys := [(Obj.OFFTEST_ABANDONED, Obj.OFFTEST_ABANDONED)]
    above := some Obj.CAL_STATUS, events := [0x000, 0x015, 0x160, 0x161, 0x162, 0x101, 0x00F, 0x00B] }

theorem State.stop_touches (s : State) : Touches stopFrame s s.stop :=
  .ite (s.darken_touches.mono.andThen (State.setSafetyState_touches _ _)) Touches.refl

theorem State.recheck_touches (s : State) : Touches stopFrame s s.recheck := .ite Touches.refl s.stop_touches

end Sys2Proof.Machine

/-! ## Trips and stops (R300 to R302, R325, R337) -/

namespace Sys2Proof.Machine

open Sys2Proof Sys2Proof.Safety

set_option Elab.async false

/-! ### Frames of the pair and of a trip -/

theorem State.sendFarlu_touches (s : State) (type : Nat) (payload : List Byte) : Touches { parts := [.lanes] } s (s.sendFarlu type payload) := by
  refine .ite ?_ Touches.refl
  unfold State.sendFrame State.setBond
  exact .ite (touches_of_same fun p hp => by cases p <;> simp_all [Part.same])
    (touches_of_same fun p hp => by cases p <;> simp_all [Part.same])

theorem State.withPair_touches (s : State) (x : PairState) : Touches { parts := [.pair] } s { s with pair := x } :=
  touches_of_same fun p hp => by cases p <;> simp_all [Part.same]

/-- What a change of the pair's role touches. -/
def roleFrame : Frame := { parts := [.pair, .lanes, .ev], events := [0x140, 0x14B] }

theorem State.setMirrorSync_touches (s : State) (x : Bool) : Touches { parts := [.pair, .ev], events := [0x14B] } s (s.setMirrorSync x) :=
  .ite Touches.refl (((s.withPair_touches _).mono).andThen (State.raise_touches _ _ _))

theorem State.requestResync_touches (s : State) (reason : Nat) : Touches roleFrame s (s.requestResync reason) :=
  (((s.withPair_touches _).mono).andThen (State.setMirrorSync_touches _ _)).andThen (State.sendFarlu_touches _ _ _)

theorem State.setRole_touches (s : State) (x : PairRole) : Touches roleFrame s (s.setRole x) := by
  refine .ite Touches.refl ?_
  extract_lets _ s1
  have h1 : Touches roleFrame s s1 := ((s.withPair_touches _).mono).andThen (State.raise_touches _ _ _)
  exact .ite (h1.trans (State.requestResync_touches _ _)) h1

theorem State.releasePins_touches (s : State) : Touches { parts := [.pair, .safety] } s s.releasePins :=
  (((s.withPair_touches _).mono).andThen (State.setEnA_touches _ _)).andThen (State.setEnB_touches _ _)

/-- What closing the open reel sets touches. -/
def closeFrame : Frame := { parts := [.hist, .reg, .ev], keys := [(Obj.SHORT_REELS, Obj.SHORT_REELS)], events := [0x047] }

theorem State.withHist_touches (s : State) (x : HistState) : Touches { parts := [.hist] } s { s with hist := x } :=
  touches_of_same fun p hp => by cases p <;> simp_all [Part.same]

theorem State.closeEarly_touches (s : State) (g : Nat) : Touches closeFrame s (s.closeEarly g) :=
  .ite ((((s.withHist_touches _).mono).andThen (State.count_touches _ _)).andThen (State.raise_touches _ _ _)) Touches.refl

theorem State.closeAllEarly_touches (s : State) : Touches closeFrame s s.closeAllEarly := by
  refine Touches.refl.foldl fun s g => ?_
  unfold State.closeAfterWindow
  split
  · exact .ite (s.closeEarly_touches g) (s.withHist_touches _).mono
  · exact Touches.refl

/-- What giving up the pulses touches beside a stop. -/
def yieldFrame : Frame :=
  { parts := [.pair, .lanes, .hist, .safety, .seq, .emit, .jobs, .cal, .reg, .ev]
    keys := [(Obj.SHORT_REELS, Obj.SHORT_REELS), (Obj.OFFTEST_ABANDONED, Obj.OFFTEST_ABANDONED)]
    above := some Obj.CAL_STATUS, events := [0x000, 0x015, 0x160, 0x161, 0x162, 0x101, 0x00F, 0x00B, 0x047, 0x140, 0x14B] }

theorem State.yieldRole_touches (s : State) (reason : Nat) : Touches yieldFrame s (s.yieldRole reason) :=
  ((((s.stop_touches.mono).andThen (State.closeAllEarly_touches _)).andThen (State.sendFarlu_touches _ _ _)).andThen
    (State.releasePins_touches _)).andThen (State.setRole_touches _ _)

theorem State.enterLockout_touches (s : State) (hard : Bool) : Touches yieldFrame s (s.enterLockout hard) := by
  have h1 : Touches yieldFrame s (s.darken.setSafetyState .lockout) := s.darken_touches.mono.andThen (State.setSafetyState_touches _ _)
  exact .cond (h1.trans (State.yieldRole_touches _ _)) h1

/-- What noting a cause touches. -/
def causeFrame : Frame := { parts := [.safety, .reg], keys := [(Obj.LOCKOUT_CAUSE, Obj.LOCKOUT_CAUSE), (Obj.LOCKOUT_FIRST, Obj.LOCKOUT_FIRST)] }

theorem State.recordCause_touches (s : State) (bit : Nat) : Touches causeFrame s (s.recordCause bit) := by
  unfold State.recordCause
  extract_lets first fresh s1 s2
  have h1 : Touches causeFrame s s1 := (s.set_touches _ _).mono
  have h2 : Touches causeFrame s s2 := .cond (h1.andThen (State.set_touches _ _ _)) h1
  exact .cond (h2.andThen (State.withSafety_touches _ _)) h2

theorem State.latchGate_touches (s : State) : Touches { parts := [.safety, .seq, .emit] } s s.latchGate :=
  ((s.withSafety_touches _).mono).andThen (State.cutPulses_touches _)

/-- What a trip touches. -/
def tripFrame : Frame :=
  { yieldFrame with
    keys := [(Obj.LOCKOUT_CAUSE, Obj.LOCKOUT_CAUSE), (Obj.LOCKOUT_FIRST, Obj.LOCKOUT_FIRST), (Obj.TRIPS, Obj.TRIPS)] ++ yieldFrame.keys
    events := 0x001 :: yieldFrame.events }

/-- The notes of a trip: its cause, the closed gate, the count and the event. -/
def State.tripNotes (s : State) (c : Cause) : State := (((s.recordCause c.bit).latchGate).count Obj.TRIPS).raise 0x001 (c.bit * 2 ^ 24)

theorem State.trip_eq (s : State) (c : Cause) :
    s.trip c = bif (s.tripNotes c).safety.state.trips then (s.tripNotes c).enterLockout c.hard else (s.tripNotes c).darken := rfl

theorem State.tripNotes_touches (s : State) (c : Cause) : Touches tripFrame s (s.tripNotes c) :=
  ((((s.recordCause_touches _).mono).andThen (State.latchGate_touches _)).andThen (State.count_touches _ _)).andThen
    (State.raise_touches _ _ _)

theorem State.trip_touches (s : State) (c : Cause) : Touches tripFrame s (s.trip c) :=
  .cond ((s.tripNotes_touches c).andThen (State.enterLockout_touches _ _)) ((s.tripNotes_touches c).andThen (State.darken_touches _))

/-! ### What a trip and a stop do to the safety island -/

@[simp] theorem State.setEnA_enA (s : State) (x : Bool) : (s.setEnA x).safety.enA = x := by
  unfold State.setEnA
  split
  · assumption
  · rfl

@[simp] theorem State.setEnB_enB (s : State) (x : Bool) : (s.setEnB x).safety.enB = x := by
  unfold State.setEnB
  split
  · assumption
  · rfl

@[simp] theorem State.setEnA_safety (s : State) (x : Bool) :
    (s.setEnA x).safety.enB = s.safety.enB ∧ (s.setEnA x).safety.state = s.safety.state ∧
      (s.setEnA x).safety.latch = s.safety.latch ∧ (s.setEnA x).safety.offTest = s.safety.offTest := by
  unfold State.setEnA
  split <;> simp

@[simp] theorem State.setEnB_safety (s : State) (x : Bool) :
    (s.setEnB x).safety.enA = s.safety.enA ∧ (s.setEnB x).safety.state = s.safety.state ∧
      (s.setEnB x).safety.latch = s.safety.latch ∧ (s.setEnB x).safety.offTest = s.safety.offTest := by
  unfold State.setEnB
  split <;> simp

theorem State.abandonOffTest_safety (s : State) : s.abandonOffTest.safety = { s.safety with offTest := none } := by
  unfold State.abandonOffTest
  cases h : s.safety.offTest with
  | none =>
    conv_rhs => rw [← h]
  | some o => simp

@[simp] theorem State.renewRequest_safety (s : State) :
    s.renewRequest.safety.enA = s.safety.enA ∧ s.renewRequest.safety.enB = s.safety.enB ∧
      s.renewRequest.safety.state = s.safety.state ∧ s.renewRequest.safety.latch = s.safety.latch ∧
      s.renewRequest.safety.offTest = s.safety.offTest := by
  unfold State.renewRequest
  extract_lets was _ s1
  split <;> exact ⟨rfl, rfl, rfl, rfl, rfl⟩

/-- Darkening lowers both enables and gives a test up; state and latch stay (R301). -/
theorem State.darken_safety (s : State) :
    s.darken.safety.enA = false ∧ s.darken.safety.enB = false ∧ s.darken.safety.offTest = none ∧
      s.darken.safety.state = s.safety.state ∧ s.darken.safety.latch = s.safety.latch := by
  simp [State.darken, State.abandonOffTest_safety]

@[simp] theorem State.cutPulses_safety (s : State) : s.cutPulses.safety = s.safety := rfl

@[simp] theorem State.calEnd_safety (s : State) (p : JobKind → Bool) : (s.calEnd p).safety = s.safety := (s.calEnd_touches p).part .safety

/-- A change of SAFETY_STATE leaves the outputs, the latch and the test. -/
theorem State.setSafetyState_safety (s : State) (x : SafetyState) :
    (s.setSafetyState x).safety.state = x ∧ (s.setSafetyState x).safety.enA = s.safety.enA ∧
      (s.setSafetyState x).safety.enB = s.safety.enB ∧ (s.setSafetyState x).safety.latch = s.safety.latch ∧
      (s.setSafetyState x).safety.offTest = s.safety.offTest := by
  unfold State.setSafetyState
  by_cases h : s.safety.state = x
  · simp [h]
  · rw [if_neg h]
    dsimp only
    split <;> split <;> simp

/-- A stop outside ARMING and ARMED is none. -/
theorem State.stop_of_off {s : State} (h : ¬ (s.safety.state = .arming ∨ s.safety.state = .armed)) : s.stop = s := if_neg h

theorem State.stop_of_on {s : State} (h : s.safety.state = .arming ∨ s.safety.state = .armed) :
    s.stop = s.darken.setSafetyState .inhibited := if_pos h

theorem dark_of_not_armed {s : State} (h : s.safety.state ≠ .armed) (ha : s.safety.enA = false) (hb : s.safety.enB = false) :
    dark s = true := by
  simp [dark, State.gateOpen, h, ha, hb]

/-- Giving up the pulses in LOCKOUT keeps the island dark. -/
theorem State.yieldRole_safety_of_lockout {s : State} {reason : Nat} (h : s.safety.state = .lockout) :
    (s.yieldRole reason).safety.enA = false ∧ (s.yieldRole reason).safety.enB = false ∧
      (s.yieldRole reason).safety.state = .lockout ∧ (s.yieldRole reason).safety.latch = s.safety.latch ∧
      (s.yieldRole reason).safety.offTest = s.safety.offTest := by
  have hstop : s.stop = s := State.stop_of_off (by simp [h])
  unfold State.yieldRole
  rw [hstop]
  have hclose : s.closeAllEarly.safety = s.safety := s.closeAllEarly_touches.part .safety
  have hsend : ∀ p, (s.closeAllEarly.sendFarlu 0x18 p).safety = s.safety := fun p =>
    ((State.sendFarlu_touches _ _ p).part .safety).trans hclose
  have hrole : ∀ t : State, (t.setRole .shadow).safety = t.safety := fun t => (t.setRole_touches _).part .safety
  dsimp only
  rw [hrole]
  simp [State.releasePins, hsend, h]

/-- Entering LOCKOUT darkens (R301). -/
theorem State.enterLockout_safety (s : State) (hard : Bool) :
    (s.enterLockout hard).safety.enA = false ∧ (s.enterLockout hard).safety.enB = false ∧
      (s.enterLockout hard).safety.state = .lockout ∧ (s.enterLockout hard).safety.latch = s.safety.latch ∧
      (s.enterLockout hard).safety.offTest = none := by
  obtain ⟨hA, hB, hT, -, hL⟩ := s.darken_safety
  obtain ⟨gS, gA, gB, gL, gT⟩ := s.darken.setSafetyState_safety .lockout
  have heq : s.enterLockout hard = bif hard && ((s.darken.setSafetyState .lockout).pair.role == .active) &&
      (s.darken.setSafetyState .lockout).beatFresh then (s.darken.setSafetyState .lockout).yieldRole 2
    else s.darken.setSafetyState .lockout := rfl
  rw [heq]
  generalize s.darken.setSafetyState .lockout = t at gS gA gB gL gT
  generalize (hard && (t.pair.role == .active) && t.beatFresh) = b
  cases b
  · exact ⟨gA.trans hA, gB.trans hB, gS, gL.trans hL, gT.trans hT⟩
  · obtain ⟨yA, yB, yS, yL, yT⟩ := State.yieldRole_safety_of_lockout (reason := 2) gS
    simp only [cond_true]
    exact ⟨yA, yB, yS, yL.trans (gL.trans hL), yT.trans (gT.trans hT)⟩

theorem State.tripNotes_safety (s : State) (c : Cause) :
    (s.tripNotes c).safety.latch = true ∧ (s.tripNotes c).safety.state = s.safety.state := by
  have hcause : (s.recordCause c.bit).safety.state = s.safety.state := by
    unfold State.recordCause
    dsimp only
    generalize (s.getN Obj.LOCKOUT_FIRST == 0xFF) = fresh
    cases fresh <;> simp [Bool.cond_eq_ite, apply_ite State.safety]
  simp [State.tripNotes, State.latchGate, hcause]

/-- A trip darkens, latches the gate and, from the first four states, locks out (R301, R302). -/
theorem State.trip_safety (s : State) (c : Cause) :
    dark (s.trip c) = true ∧ (s.trip c).safety.latch = true ∧ (s.trip c).safety.offTest = none ∧
      (s.trip c).safety.state = (if s.safety.state.trips then .lockout else s.safety.state) := by
  obtain ⟨hlatch, hstate⟩ := s.tripNotes_safety c
  rw [State.trip_eq, hstate]
  cases htrips : s.safety.state.trips
  · obtain ⟨hA, hB, hT, hS, hL⟩ := (s.tripNotes c).darken_safety
    simp [dark, State.gateOpen, hA, hB, hT, hS, hL, hlatch, hstate]
  · obtain ⟨hA, hB, hS, hL, hT⟩ := (s.tripNotes c).enterLockout_safety c.hard
    simp [dark, State.gateOpen, hA, hB, hT, hS, hL, hlatch]

/-! ### What a trip does to the takes and the objects -/

theorem State.cutTake_idem (s : State) (k : Take) : s.cutTake (s.cutTake k) = s.cutTake k := by
  unfold State.cutTake
  split
  next h => split <;> rfl
  next => rfl

theorem State.cutTake_congr {s t : State} (h : t.now = s.now) : t.cutTake = s.cutTake := by
  funext k
  rw [State.cutTake, State.nowTaps, h, State.cutTake, State.nowTaps]

/-- The sequencer once the closing gate has cut off what it can. -/
def State.cutSeq (s : State) : SequencerState := { s.seq with takes := s.seq.takes.map s.cutTake, diags := s.seq.diags.map s.cutTake }

theorem State.cutPulses_seq (s : State) : s.cutPulses.seq = s.cutSeq := rfl

/-- Cutting twice in one cycle is cutting once. -/
theorem State.cutSeq_of_cut {s t : State} (hn : t.now = s.now) (h : t.seq = s.cutSeq) : t.cutSeq = s.cutSeq := by
  have hidem : s.cutTake ∘ s.cutTake = s.cutTake := funext s.cutTake_idem
  simp [State.cutSeq, h, State.cutTake_congr hn, hidem]

theorem State.setSafetyState_seq (s : State) (x : SafetyState) : (s.setSafetyState x).seq = s.seq ∨ (s.setSafetyState x).seq = s.cutSeq := by
  unfold State.setSafetyState
  by_cases h : s.safety.state = x
  · simp [h]
  · rw [if_neg h]
    extract_lets old _ s1 s2
    have h2 : s2.seq = s.seq ∧ s2.now = s.now := by
      simp only [s2]
      split <;> exact ⟨rfl, rfl⟩
    by_cases harmed : old = .armed
    · right
      rw [if_pos harmed, (s2.cutPulses.calEnd_touches _).part .seq, State.cutPulses_seq]
      simp [State.cutSeq, h2.1, State.cutTake_congr h2.2]
    · left
      rw [if_neg harmed]
      exact h2.1

theorem State.yieldRole_seq_of_lockout {s : State} {reason : Nat} (h : s.safety.state = .lockout) : (s.yieldRole reason).seq = s.seq := by
  have hstop : s.stop = s := State.stop_of_off (by simp [h])
  have hframe : Touches { yieldFrame with parts := [.pair, .lanes, .hist, .safety, .reg, .ev] } s (s.yieldRole reason) := by
    unfold State.yieldRole
    rw [hstop]
    exact ((s.closeAllEarly_touches.mono.andThen (State.sendFarlu_touches _ _ _)).andThen (State.releasePins_touches _)).andThen
      (State.setRole_touches _ _)
  exact hframe.part .seq

theorem State.enterLockout_seq (s : State) (hard : Bool) : (s.enterLockout hard).seq = s.seq ∨ (s.enterLockout hard).seq = s.cutSeq := by
  have hseq : s.darken.seq = s.seq := s.darken_touches.part .seq
  have hnow : s.darken.now = s.now := s.darken_touches.part .now
  have hcut : s.darken.cutSeq = s.cutSeq := by simp [State.cutSeq, hseq, State.cutTake_congr hnow]
  have hset := s.darken.setSafetyState_seq .lockout
  rw [hseq, hcut] at hset
  have hyield : ((s.darken.setSafetyState .lockout).yieldRole 2).seq = (s.darken.setSafetyState .lockout).seq :=
    State.yieldRole_seq_of_lockout (s.darken.setSafetyState_safety .lockout).1
  unfold State.enterLockout
  dsimp only
  rw [Bool.cond_eq_ite, apply_ite State.seq, hyield, ite_self]
  exact hset

/-- Of the sequencer a trip changes the takes that the closing gate cuts off (R302). -/
theorem State.trip_seq (s : State) (c : Cause) : (s.trip c).seq = s.cutSeq := by
  have hnotes : (s.tripNotes c).seq = s.cutSeq := by
    have hcause : (s.recordCause c.bit).seq = s.seq ∧ (s.recordCause c.bit).now = s.now :=
      ⟨(s.recordCause_touches _).part .seq, (s.recordCause_touches _).part .now⟩
    change (s.recordCause c.bit).cutSeq = _
    simp [State.cutSeq, hcause.1, State.cutTake_congr hcause.2]
  have hnow : (s.tripNotes c).now = s.now := (s.tripNotes_touches c).part .now
  rw [State.trip_eq]
  cases (s.tripNotes c).safety.state.trips
  · exact ((s.tripNotes c).darken_touches.part .seq).trans hnotes
  · rcases (s.tripNotes c).enterLockout_seq c.hard with h | h
    · exact h.trans hnotes
    · exact h.trans (State.cutSeq_of_cut hnow hnotes)

/-- What follows the notes of a trip leaves them. -/
theorem State.trip_touches_notes (s : State) (c : Cause) : Touches yieldFrame (s.tripNotes c) (s.trip c) :=
  .cond ((s.tripNotes c).enterLockout_touches _) (s.tripNotes c).darken_touches.mono

theorem State.recordCause_cause (s : State) (bit : Nat) : (s.recordCause bit).getN Obj.LOCKOUT_CAUSE = s.getN Obj.LOCKOUT_CAUSE ||| 2 ^ bit := by
  unfold State.recordCause
  extract_lets first fresh s1 s2
  have h1 : s1.get Obj.LOCKOUT_CAUSE = ((s.getN Obj.LOCKOUT_CAUSE ||| 2 ^ bit : Nat) : Int) := s.get_set_same _ _
  have h2 : s2.get Obj.LOCKOUT_CAUSE = s1.get Obj.LOCKOUT_CAUSE :=
    (Touches.cond (s1.set_touches _ _) Touches.refl : Touches { parts := [.reg], keys := [(Obj.LOCKOUT_FIRST, Obj.LOCKOUT_FIRST)] } s1 s2).get _
  have h3 : ∀ t : State, t.reg = s2.reg → t.getN Obj.LOCKOUT_CAUSE = s.getN Obj.LOCKOUT_CAUSE ||| 2 ^ bit := by
    intro t ht
    rw [State.getN, State.get_congr ht, h2, h1, Int.toNat_natCast]
  refine h3 _ ?_
  cases fresh <;> rfl

theorem State.recordCause_first {s : State} {bit : Nat} (h : s.getN Obj.LOCKOUT_FIRST = 0xFF) : (s.recordCause bit).getN Obj.LOCKOUT_FIRST = bit := by
  have hfresh : (s.getN Obj.LOCKOUT_FIRST == 0xFF) = true := by simp [h]
  unfold State.recordCause
  simp only [hfresh, Bool.true_or, cond_true]
  exact congrArg Int.toNat (State.get_set_same _ _ _)

/-- The notes of a trip stand in the objects. -/
theorem State.trip_objects (s : State) (c : Cause) :
    (s.trip c).getN Obj.LOCKOUT_CAUSE = s.getN Obj.LOCKOUT_CAUSE ||| 2 ^ c.bit ∧
      (s.getN Obj.LOCKOUT_FIRST = 0xFF → (s.trip c).getN Obj.LOCKOUT_FIRST = c.bit) ∧
      (s.trip c).get Obj.TRIPS = satAdd 0xFFFFFFFF (s.get Obj.TRIPS) 1 ∧ raisedCount (s.trip c) 0x001 = raisedCount s 0x001 + 1 := by
  have hafter := s.trip_touches_notes c
  have hgate := (s.recordCause c.bit).latchGate_touches
  have hcause := s.recordCause_touches c.bit
  refine ⟨?_, fun hfirst => ?_, ?_, ?_⟩
  · rw [State.getN, hafter.get _, ← s.recordCause_cause c.bit, State.getN, ← hgate.get Obj.LOCKOUT_CAUSE]
    exact congrArg Int.toNat (State.get_count_other _ (by decide))
  · rw [State.getN, hafter.get _, ← State.recordCause_first hfirst (bit := c.bit), State.getN, ← hgate.get Obj.LOCKOUT_FIRST]
    exact congrArg Int.toNat (State.get_count_other _ (by decide))
  · rw [hafter.get _, ← hcause.get Obj.TRIPS, ← hgate.get Obj.TRIPS]
    exact State.get_count_same _ _
  · rw [hafter.raised _, ← hcause.raised 0x001, ← hgate.raised 0x001]
    exact raisedCount_raise_same _ _ _

/-- Settles O36: the notes come first; darkening, the change to LOCKOUT and giving up the pulses leave them. -/
theorem tripsLockTheEmitterOut : Obligations.TripsLockTheEmitterOut := by
  intro s c t
  obtain ⟨hdark, hlatch, htest, hstate⟩ := s.trip_safety c
  obtain ⟨hcause, hfirst, htrips, hraised⟩ := s.trip_objects c
  have hframe := s.trip_touches c
  refine ⟨hdark, hlatch, htest, ?_, fun b hb => ?_, hfirst, htrips, hraised, hstate, s.trip_seq c, hframe.part .now, hframe.part .time,
    hframe.part .crank⟩
  · simp [t, hcause, natBit]
  · rw [natBit] at hb
    simp [t, hcause, natBit, hb]

end Sys2Proof.Machine

/-! ## Detectors, off-pulse tests, stops and the island's bookkeeping (R298 to R330) -/

namespace Sys2Proof.Machine

open Sys2Proof Sys2Proof.Safety

set_option Elab.async false

/-! ### Detectors -/

/-- Settles O37: each detector notes its event and trips; nothing between the two changes what is said of the tripping state. -/
theorem detectorsTripWithTheirCause : Obligations.DetectorsTripWithTheirCause := by
  intro s
  refine ⟨fun hi hp => ?_, fun ball hg hp hs => ?_, fun ball hg => ?_, fun i j hp => ?_, fun hp hreq htrip hdue => ?_, fun out hdue => ?_,
    fun pair hdue => ?_, fun d hd hdue hj => ?_, fun x hh => ?_⟩
  · change execSafetySelfTestDone false s = _
    simp [execSafetySelfTestDone, hi, hp]
  · change execGateLeak ball s = _
    have hball : ¬ ball.val > 64 := by omega
    simp [execGateLeak, hg, hp, hs, hball]
  · change execGateLeak ball s = _
    simp [execGateLeak, hg]
  · have harm : exec (.overEnergy i j) s =
        .next ((({ s with safety := { s.safety with oeAt := some s.now } }).raise 0x004 0).trip .overEnergy) := by
      change execOverEnergy i j s = _
      simp [execOverEnergy, hp]
    exact ⟨_, harm, raisedCount_raise_same _ _ _, rfl⟩
  · have harm : exec .scanMonitor s =
        .next ((({ s with safety := { s.safety with scanTrip := some s.now } }).raise 0x009 0).trip .scanMonitor) := by
      change execScanMonitor s = _
      simp [execScanMonitor, hp, hreq, htrip, hdue]
    exact ⟨_, harm, rfl, raisedCount_raise_same _ _ _⟩
  · refine ⟨_, if_pos hdue, ?_, ?_⟩
    · rw [raisedCount_raise_same]
      split <;> rfl
    · split <;> rfl
  · have hjudge : s.judgeDiscrepancy pair = State.trip ((s.setInputPair pair { s.inputPair pair with judged := true }).raise 0x00A 0)
        (if pair = 0 then .emitReqDiscrepancy else .ilkDiscrepancy) := by
      simp [State.judgeDiscrepancy, hdue]
    refine ⟨_, congrArg Host.Outcome.next hjudge, ?_, ?_⟩
    · rw [raisedCount_raise_same]
      unfold State.setInputPair
      split <;> rfl
    · have hjudged : ∀ x : SafePair, ((s.setInputPair pair x).inputPair pair) = x := by
        intro x
        unfold State.setInputPair State.inputPair
        split <;> rfl
      have hpair : (((s.setInputPair pair { s.inputPair pair with judged := true }).raise 0x00A 0).inputPair pair).judged = true :=
        congrArg SafePair.judged (hjudged _)
      unfold State.discrepancyDue
      rw [hpair]
      split <;> simp
  · have harm : exec .safeMsgDiscrepancy s = .next (({ s with safety := { s.safety with cmdJudged := true } }).trip .safeMsgDiscrepancy) := by
      change Host.Outcome.next s.judgeCommands = _
      simp [State.judgeCommands, hd, hdue, hj]
    exact ⟨_, harm, rfl⟩
  · change execLockstepDivergence x s = _
    simp [execLockstepDivergence, hh]

/-! ### Arming and the off-pulse tests -/

/-- The schedule of the tests is nothing but a schedule. -/
theorem State.withNext_safety (s : State) (x y : Nat) :
    let t : State := { s with safety := { s.safety with nextA := x, nextB := y } }
    t.safety.enA = s.safety.enA ∧ t.safety.enB = s.safety.enB ∧ t.safety.fbA = s.safety.fbA ∧ t.safety.fbB = s.safety.fbB ∧
      t.safety.state = s.safety.state ∧ t.safety.latch = s.safety.latch ∧ t.safety.offTest = s.safety.offTest ∧
      t.safety.passedB = s.safety.passedB ∧ onlyParts [.safety] s t ∧ t.get = s.get :=
  ⟨rfl, rfl, rfl, rfl, rfl, rfl, rfl, rfl, (s.withSafety_touches _).parts, rfl⟩

/-- Scheduling the next test of an output leaves the outputs and the readbacks. -/
theorem State.scheduleNext_safety (s : State) (out : Nat) :
    (s.scheduleNext out).safety.enA = s.safety.enA ∧ (s.scheduleNext out).safety.enB = s.safety.enB ∧
      (s.scheduleNext out).safety.fbA = s.safety.fbA ∧ (s.scheduleNext out).safety.fbB = s.safety.fbB ∧
      onlyParts [.safety] s (s.scheduleNext out) := by
  obtain ⟨hA, hB, hfA, hfB, -, -, -, -, hp, -⟩ := s.withNext_safety (s.safety.nextA + s.offPeriod) s.safety.nextB
  obtain ⟨gA, gB, gfA, gfB, -, -, -, -, gp, -⟩ := s.withNext_safety s.safety.nextA (s.safety.nextB + s.offPeriod)
  unfold State.scheduleNext
  by_cases hs : (s.safety.state != .armed) = true
  · rw [if_pos hs]
    exact ⟨rfl, rfl, rfl, rfl, onlyParts_refl _ _⟩
  · rw [if_neg hs]
    by_cases ho : out = 0
    · rw [if_pos ho]
      exact ⟨hA, hB, hfA, hfB, hp⟩
    · rw [if_neg ho]
      exact ⟨gA, gB, gfA, gfB, gp⟩

@[simp] theorem State.setEnA_fb (s : State) (x : Bool) : (s.setEnA x).safety.fbA = s.safety.fbA ∧ (s.setEnA x).safety.fbB = s.safety.fbB := by
  unfold State.setEnA
  split <;> exact ⟨rfl, rfl⟩

@[simp] theorem State.setEnB_fb (s : State) (x : Bool) : (s.setEnB x).safety.fbA = s.safety.fbA ∧ (s.setEnB x).safety.fbB = s.safety.fbB := by
  unfold State.setEnB
  split <;> exact ⟨rfl, rfl⟩

/-- What setting one of the two outputs does. -/
theorem State.setEn_spec (s : State) (out : Nat) (x : Bool) :
    (if out = 0 then (s.setEn out x).safety.enA = x ∧ (s.setEn out x).safety.enB = s.safety.enB
      else (s.setEn out x).safety.enB = x ∧ (s.setEn out x).safety.enA = s.safety.enA) ∧
    (s.setEn out x).fb out = s.fb out ∧ onlyParts [.safety] s (s.setEn out x) := by
  unfold State.setEn
  split
  · exact ⟨⟨s.setEnA_enA x, (s.setEnA_safety x).1⟩, by simp [State.fb], (s.setEnA_touches x).parts⟩
  · exact ⟨⟨s.setEnB_enB x, (s.setEnB_safety x).1⟩, by simp [State.fb], (s.setEnB_touches x).parts⟩

/-- What the start of a test leaves behind. -/
theorem execOfftestStart_of_due {s : State} {out : Fin 2} (h : s.offTestDue out = true) :
    ∃ t, exec (.offtestStart out) s = .next t ∧ t.safety.offTest = some ⟨out, s.now, none, true, !s.fb out, false⟩ ∧
      (if out.val = 0 then t.safety.enA = false ∧ t.safety.enB = s.safety.enB else t.safety.enB = false ∧ t.safety.enA = s.safety.enA) ∧
      onlyParts [.safety] s t := by
  obtain ⟨hA, hB, hfbA, hfbB, hparts⟩ := s.scheduleNext_safety out
  obtain ⟨hset, hfb, hsetParts⟩ := (s.scheduleNext out).setEn_spec out false
  have hfb' : ((s.scheduleNext out).setEn out false).fb out = s.fb out := by
    rw [hfb, State.fb, State.fb, hfbA, hfbB]
  have hnow : ((s.scheduleNext out).setEn out false).now = s.now := (hsetParts .now (by simp)).trans (hparts .now (by simp))
  rw [hA, hB] at hset
  refine ⟨_, if_pos h, ?_, hset, ?_⟩
  · simp only [hfb', hnow]
  · exact onlyParts_mono (onlyParts_trans (onlyParts_trans hparts hsetParts) (State.withSafety_touches _ _).parts) (by simp)

/-- The test is over and counted. -/
def State.passCounted (s : State) : State := ({ s with safety := { s.safety with offTest := none } }).count Obj.OFFTEST_PASSES

theorem State.passCounted_safety (s : State) : s.passCounted.safety = { s.safety with offTest := none } := by simp [State.passCounted]

theorem State.passCounted_get (s : State) : s.passCounted.get Obj.OFFTEST_PASSES = satAdd 0xFFFFFFFF (s.get Obj.OFFTEST_PASSES) 1 :=
  State.get_count_same _ _

theorem State.offTestPass_eq (s : State) (out : Nat) :
    s.offTestPass out = if s.passCounted.safety.state == .arming then
        (if out = 0 then { s.passCounted with safety := { s.passCounted.safety with passedA := true } }
        else ({ s.passCounted with safety := { s.passCounted.safety with passedB := true } } : State).enterArmed)
      else s.passCounted := rfl

/-- Entering ARMED from ARMING changes the state and the schedule. -/
theorem State.enterArmed_of_arming {s : State} (h : s.safety.state = .arming) :
    s.enterArmed.safety.state = .armed ∧ s.enterArmed.safety.latch = s.safety.latch ∧ s.enterArmed.safety.offTest = s.safety.offTest ∧
      s.enterArmed.safety.passedB = s.safety.passedB ∧ s.enterArmed.get Obj.OFFTEST_PASSES = s.get Obj.OFFTEST_PASSES := by
  obtain ⟨-, -, -, -, hu, hlatch, htest, hpassed, -, hget⟩ := s.withNext_safety (s.now + s.offPeriod) (s.now + s.offPeriod + s.offPeriod / 2)
  unfold State.enterArmed
  dsimp only
  generalize ({ s with safety := { s.safety with
    nextA := s.now + s.offPeriod, nextB := s.now + s.offPeriod + s.offPeriod / 2 } } : State) = u at hu hlatch htest hpassed hget ⊢
  obtain ⟨hst, -, -, hla, hte⟩ := u.setSafetyState_safety .armed
  refine ⟨hst, hla.trans hlatch, hte.trans htest, ?_, ((u.setSafetyState_touches _).get _).trans (congrFun hget _)⟩
  rw [← hpassed]
  rw [h] at hu
  unfold State.setSafetyState
  simp only [hu, reduceCtorEq, if_false]
  split <;> rfl

/-- What a passed test does; passing B in ARMING enters ARMED. -/
theorem State.offTestPass_spec (s : State) (out : Nat) :
    (s.offTestPass out).safety.offTest = none ∧
      (s.offTestPass out).get Obj.OFFTEST_PASSES = satAdd 0xFFFFFFFF (s.get Obj.OFFTEST_PASSES) 1 ∧
      (s.offTestPass out).safety.latch = s.safety.latch ∧
      (s.safety.state = .arming → out = 0 → (s.offTestPass out).safety.passedA = true ∧ (s.offTestPass out).safety.state = .arming) ∧
      (s.safety.state = .arming → out ≠ 0 → (s.offTestPass out).safety.passedB = true ∧ (s.offTestPass out).safety.state = .armed) ∧
      (s.safety.state ≠ .arming → (s.offTestPass out).safety.state = s.safety.state) := by
  rw [State.offTestPass_eq, ← s.passCounted_get]
  have hstate : s.passCounted.safety.state = s.safety.state := by rw [s.passCounted_safety]
  have hlatch : s.passCounted.safety.latch = s.safety.latch := by rw [s.passCounted_safety]
  have htest : s.passCounted.safety.offTest = none := by rw [s.passCounted_safety]
  rw [← hstate, ← hlatch]
  generalize s.passCounted = u at htest
  by_cases hs : u.safety.state = .arming
  · by_cases ho : out = 0
    · rw [if_pos (by simp [hs]), if_pos ho]
      exact ⟨htest, rfl, rfl, fun _ _ => ⟨rfl, hs⟩, fun _ h => absurd ho h, fun h => absurd hs h⟩
    · rw [if_pos (by simp [hs]), if_neg ho]
      obtain ⟨harmed, hla, hte, hpB, hget⟩ :=
        State.enterArmed_of_arming (s := { u with safety := { u.safety with passedB := true } }) hs
      exact ⟨hte.trans htest, hget, hla, fun _ h => absurd h ho, fun _ _ => ⟨hpB, harmed⟩, fun h => absurd hs h⟩
  · rw [if_neg (by simpa using hs)]
    exact ⟨htest, rfl, rfl, fun h => absurd h hs, fun h => absurd h hs, fun _ => rfl⟩

theorem State.offTestFail_eq (s : State) (out : Nat) :
    s.offTestFail out = State.trip ((s.judged out).raise 0x00E 0) (if out = 0 then .offtestA else .offtestB) := rfl

theorem State.judged_raisedCount (s : State) (out e : Nat) : raisedCount (s.judged out) e = raisedCount s e := by
  unfold State.judged
  split <;> rfl

/-- What a failed test comes to. -/
theorem State.offTestFail_trip (s : State) (out : Nat) :
    ∃ u, s.offTestFail out = State.trip u (if out = 0 then .offtestA else .offtestB) ∧ u.safety = (s.judged out).safety ∧
      raisedCount u 0x00E = raisedCount s 0x00E + 1 :=
  ⟨_, s.offTestFail_eq out, rfl, (raisedCount_raise_same _ _ _).trans (congrArg (· + 1) (s.judged_raisedCount out 0x00E))⟩

/-- The outcome of a check is the judgement of its test. -/
theorem execOfftestCheck_of_rose {s : State} {o : OffTest} {r : Nat} (ho : s.safety.offTest = some o) (hr : o.roseAt = some r)
    (hdue : reached s.now r s.fbDelay = true) :
    exec .offtestCheck s = .next (if o.good && o.fbRose then s.offTestPass o.out else s.offTestFail o.out) := by
  change execOfftestCheck s = _
  simp [execOfftestCheck, ho, hr, hdue]

/-- Settles O38: each command under its condition, and the tests' two ends. -/
theorem armingRunsBothOffPulseTests : Obligations.ArmingRunsBothOffPulseTests := by
  intro s
  refine ⟨fun hs hc => ?_, fun h => ?_, fun h => ?_, fun h => ?_, fun o ho hrose hdue => ?_, fun o r ho hr hdue hg hf => ?_,
    fun o r ho hr hdue hbad => ?_, fun o ho hr hdue hbad => ?_⟩
  · obtain ⟨u, hu, harm⟩ : ∃ u : State, u = { s with safety := { s.safety with armingAt := s.now, passedA := false, passedB := false } } ∧
        exec .armingStart s = .next (((u.setSafetyState .arming).setEnA true).setEnB true) :=
      ⟨_, rfl, if_pos (by simp [hs, hc])⟩
    have hkeep : (u.setSafetyState .arming).safety.passedA = false ∧ (u.setSafetyState .arming).safety.passedB = false ∧
        (u.setSafetyState .arming).safety.armingAt = s.now := by
      simp [State.setSafetyState, hu, hs]
    have hsetA : ∀ (t : State) (x : Bool), (t.setEnA x).safety.passedA = t.safety.passedA ∧
        (t.setEnA x).safety.passedB = t.safety.passedB ∧ (t.setEnA x).safety.armingAt = t.safety.armingAt := by
      intro t x
      unfold State.setEnA
      split <;> exact ⟨rfl, rfl, rfl⟩
    have hsetB : ∀ (t : State) (x : Bool), (t.setEnB x).safety.passedA = t.safety.passedA ∧
        (t.setEnB x).safety.passedB = t.safety.passedB ∧ (t.setEnB x).safety.armingAt = t.safety.armingAt := by
      intro t x
      unfold State.setEnB
      split <;> exact ⟨rfl, rfl, rfl⟩
    refine ⟨_, harm, ?_⟩
    simp [hsetA, hsetB, hkeep, State.gateOpen, (u.setSafetyState_safety .arming).1]
  · refine if_neg ?_
    rcases h with h | h <;> simp [h]
  · obtain ⟨t, ht, hoff, hen, hparts⟩ := execOfftestStart_of_due (out := 0) h
    exact ⟨t, ht, hen.1, hen.2, hoff, hparts⟩
  · obtain ⟨t, ht, hoff, hen, hparts⟩ := execOfftestStart_of_due (out := 1) h
    exact ⟨t, ht, hen.1, hen.2, hoff, hparts⟩
  · obtain ⟨hset, -, hparts⟩ := s.setEn_spec o.out true
    have harm : exec .offtestEnRise s = .next { s.setEn o.out true with safety := { (s.setEn o.out true).safety with
        offTest := some { o with roseAt := some (s.setEn o.out true).now, good := o.good && o.fbFell } } } := by
      change execOfftestEnRise s = _
      simp [execOfftestEnRise, ho, hrose, hdue]
    refine ⟨_, harm, ?_, ?_, onlyParts_mono (onlyParts_trans hparts (State.withSafety_touches _ _).parts) (by simp)⟩
    · split
      next h => exact ((if_pos h).mp hset).1
      next h => exact ((if_neg h).mp hset).1
    · rw [show (s.setEn o.out true).now = s.now from hparts .now (by simp)]
  · have harm := execOfftestCheck_of_rose ho hr hdue
    rw [hg, hf] at harm
    exact ⟨_, harm, s.offTestPass_spec o.out⟩
  · have harm := execOfftestCheck_of_rose ho hr hdue
    have hneg : (o.good && o.fbRose) = false := by rcases hbad with h | h <;> simp [h]
    rw [hneg] at harm
    obtain ⟨u, hu, hsaf, hraised⟩ := s.offTestFail_trip o.out
    exact ⟨u, harm.trans (congrArg Host.Outcome.next hu), hsaf, hraised⟩
  · have hneg : (o.good && o.fbFell) = false := by rcases hbad with h | h <;> simp [h]
    have harm : exec .offtestCheck s = .next (s.offTestFail o.out) := by
      change execOfftestCheck s = _
      simp [execOfftestCheck, ho, hr, hdue, hneg]
    obtain ⟨u, hu, hsaf, -⟩ := s.offTestFail_trip o.out
    exact ⟨u, harm.trans (congrArg Host.Outcome.next hu), hsaf⟩

end Sys2Proof.Machine

/-! ## Stops without a lock-out and the island's bookkeeping (R297 to R330) -/

namespace Sys2Proof.Machine

open Sys2Proof Sys2Proof.Safety

set_option Elab.async false

/-! ### Stops -/

/-- A state is the stopped form of another: INHIBITED and dark, with the latch and the causes as they were. -/
def Stopped (s t : State) : Prop :=
  t.safety.state = .inhibited ∧ dark t = true ∧ t.safety.latch = s.safety.latch ∧
    t.get Obj.LOCKOUT_CAUSE = s.get Obj.LOCKOUT_CAUSE ∧ t.get Obj.TRIPS = s.get Obj.TRIPS

/-- The state is one that a stop leaves (R300). -/
def Emitting (s : State) : Prop := s.safety.state = .arming ∨ s.safety.state = .armed

theorem stopped_stop {s : State} (h : Emitting s) : Stopped s s.stop ∧ s.stop.safety.offTest = none := by
  have hframe := s.stop_touches
  rw [State.stop_of_on h] at hframe ⊢
  obtain ⟨hA, hB, hT, -, hL⟩ := s.darken_safety
  obtain ⟨gS, gA, gB, gL, gT⟩ := s.darken.setSafetyState_safety .inhibited
  exact ⟨⟨gS, dark_of_not_armed (by simp [gS]) (gA.trans hA) (gB.trans hB), gL.trans hL, hframe.get _, hframe.get _⟩, gT.trans hT⟩

/-- What keeps the state, the latch and the causes passes a stop on. -/
theorem Stopped.of_same {s u t : State} (h : Stopped u t) (hl : u.safety.latch = s.safety.latch) (hr : u.reg = s.reg) : Stopped s t := by
  obtain ⟨hstate, hdark, hlatch, hcause, htrips⟩ := h
  exact ⟨hstate, hdark, hlatch.trans hl, hcause.trans (State.get_congr hr _), htrips.trans (State.get_congr hr _)⟩

/-- A recheck that misses a condition stops. -/
theorem stopped_recheck {s : State} (h : Emitting s) (hc : s.stayConditions = false) : Stopped s s.recheck := by
  have hstop : s.recheck = s.stop := if_neg (by simp [hc])
  rw [hstop]
  exact (stopped_stop h).1

theorem stayConditions_of_request {s : State} (h : s.requestOn = false) : s.stayConditions = false := by
  simp [State.stayConditions, h]

theorem stayConditions_of_ilk {s : State} (h : s.safety.ilk.on = false) : s.stayConditions = false := by
  simp [State.stayConditions, h]

theorem stayConditions_of_permit {s : State} (h : s.networkPermit = false) : s.stayConditions = false := by
  simp [State.stayConditions, h]

/-- A pair that changes is rechecked. -/
theorem stopped_pairChanged {s : State} (h : Emitting s) (hc : s.stayConditions = false) (was now_ : Bool) (e : Nat) :
    Stopped s (s.pairChanged was now_ e) := by
  unfold State.pairChanged
  split
  · exact stopped_recheck h hc
  · exact (stopped_recheck (s := s.raise e 0) h hc).of_same rfl rfl

/-- A channel that is off takes its pair off. -/
theorem SafePair.accept_off (p : SafePair) (now : Time) (isB : Bool) : (p.accept now isB false).on = false := by
  unfold SafePair.accept SafePair.update
  cases isB <;> simp

/-- A channel of a pair that carries the stop condition, accepted off, stops. -/
theorem stopped_acceptInput {s : State} {p : Nat} {isB : Bool} (h : Emitting s) (hd : s.discrepancyDue p = false)
    (hsrc : p = 0 → s.getN Obj.EMIT_REQ_SOURCE = 0) : Stopped s (s.acceptInput p isB false) := by
  have hjudge : s.judgeDiscrepancy p = s := by simp [State.judgeDiscrepancy, hd]
  have hoff := SafePair.accept_off (s.inputPair p) s.now isB
  unfold State.acceptInput State.takePair
  rw [hjudge, if_neg (by rintro ⟨hp, hs⟩; simp [hsrc hp] at hs)]
  generalize (s.inputPair p).accept s.now isB false = x at hoff
  have hset : Emitting (s.setInputPair p x) ∧ (s.setInputPair p x).safety.latch = s.safety.latch ∧ (s.setInputPair p x).reg = s.reg ∧
      (s.setInputPair p x).stayConditions = false := by
    unfold State.setInputPair
    split
    next hp =>
      refine ⟨h, rfl, rfl, stayConditions_of_request ?_⟩
      have hreg : State.getN { s with safety := { s.safety with req := x } } Obj.EMIT_REQ_SOURCE = 0 := hsrc hp
      rw [State.requestOn, if_pos hreg]
      exact hoff
    next => exact ⟨h, rfl, rfl, stayConditions_of_ilk hoff⟩
  obtain ⟨hon, hlatch, hreg, hstay⟩ := hset
  exact (stopped_pairChanged hon hstay _ _ _).of_same hlatch hreg

/-- What a bearer's copy is set to is read back, and the outputs and objects stay. -/
theorem State.setSafeBearer_spec (s : State) (b : Nat) (x : SafeBearer) :
    (s.setSafeBearer b x).safeBearer b = x ∧ (s.setSafeBearer b x).reg = s.reg ∧ (s.setSafeBearer b x).now = s.now ∧
      (s.setSafeBearer b x).safety.latch = s.safety.latch ∧ (s.setSafeBearer b x).safety.state = s.safety.state := by
  have hnet : ∀ t : State, t.reg = s.reg → t.safeNet (b != 0) = s.safeNet (b != 0) := by
    intro t ht
    simp [State.safeNet, State.getN, State.get_congr ht]
  unfold State.setSafeBearer
  split
  next h => exact ⟨by simp [State.safeBearer, hnet, h], rfl, rfl, rfl, rfl⟩
  next h => exact ⟨by simp [State.safeBearer, hnet, h], rfl, rfl, rfl, rfl⟩
  next h0 h1 =>
    refine ⟨?_, rfl, rfl, rfl, rfl⟩
    unfold State.safeBearer
    split
    next h => exact absurd ((hnet _ rfl).symm.trans h) h0
    next h => exact absurd ((hnet _ rfl).symm.trans h) h1
    next => rfl

/-- A bearer whose copy does not permit takes the network's permit away. -/
theorem networkPermit_of_bearer {s : State} {b : Fin 2} (h : s.bearerPermits (s.safeBearer b) = false)
    (hreq : s.getN Obj.SAFE_CMD_REQUIRED ≠ 0) : s.networkPermit = false := by
  fin_cases b <;> simp_all [State.networkPermit, State.netPermit]

/-- Where the EMIT_REQ balls carry the request, a copy that permits no more stops. -/
theorem stopped_cmdPair {s : State} {b : Fin 2} (h : Emitting s) (hsrc : s.getN Obj.EMIT_REQ_SOURCE = 0)
    (hreq : s.getN Obj.SAFE_CMD_REQUIRED ≠ 0) (hb : s.bearerPermits (s.safeBearer b) = false) : Stopped s s.cmdPair := by
  rw [State.cmdPair, if_neg (by simp [hsrc])]
  exact stopped_recheck h (stayConditions_of_permit (networkPermit_of_bearer hb hreq))

theorem State.safeBearer_congr {s t : State} (hr : t.reg = s.reg) (hc : t.safety.copyCan = s.safety.copyCan)
    (h0 : t.safety.copyE0 = s.safety.copyE0) (h1 : t.safety.copyE1 = s.safety.copyE1) (b : Nat) : t.safeBearer b = s.safeBearer b := by
  have hnet : t.safeNet (b != 0) = s.safeNet (b != 0) := by simp [State.safeNet, State.getN, State.get_congr hr]
  rw [State.safeBearer, State.safeBearer, hnet, hc, h0, h1]

/-- Noting a disagreement leaves the copies and the objects. -/
theorem State.noteDisagreement_spec (s : State) (b : Nat) :
    s.noteDisagreement.safeBearer b = s.safeBearer b ∧ s.noteDisagreement.reg = s.reg ∧ s.noteDisagreement.safety.latch = s.safety.latch ∧
      s.noteDisagreement.safety.state = s.safety.state := by
  unfold State.noteDisagreement
  split <;> exact ⟨State.safeBearer_congr rfl rfl rfl rfl b, rfl, rfl, rfl⟩

/-- What no trip and no stop changes in the island: all but its state, its outputs, its test and its requests. -/
def SafetyIsland.rest (x : SafetyIsland) : SafetyIsland :=
  { x with
    state := .init, latch := false, firstTripAt := 0, enA := false, enB := false, fbDiffA := none, fbDiffB := none, req := x.ilk
    cmd := x.ilk, offTest := none, statusDue := false }

theorem State.rest_setEnA (s : State) (x : Bool) : (s.setEnA x).safety.rest = s.safety.rest := by
  unfold State.setEnA
  split <;> rfl

theorem State.rest_setEnB (s : State) (x : Bool) : (s.setEnB x).safety.rest = s.safety.rest := by
  unfold State.setEnB
  split <;> rfl

theorem State.rest_renewRequest (s : State) : s.renewRequest.safety.rest = s.safety.rest := by
  unfold State.renewRequest
  extract_lets was _ s1
  split <;> rfl

theorem State.rest_darken (s : State) : s.darken.safety.rest = s.safety.rest := by
  unfold State.darken
  rw [State.rest_renewRequest, State.rest_setEnB, State.rest_setEnA, s.abandonOffTest_safety]
  rfl

theorem State.rest_setSafetyState (s : State) (x : SafetyState) : (s.setSafetyState x).safety.rest = s.safety.rest := by
  unfold State.setSafetyState
  by_cases h : s.safety.state = x
  · rw [if_pos h]
  · rw [if_neg h]
    extract_lets old _ s1 s2
    have h2 : s2.safety.rest = s.safety.rest := by
      simp only [s2]
      split <;> rfl
    split
    · rw [State.calEnd_safety, State.cutPulses_safety, h2]
    · exact h2

theorem State.rest_stop (s : State) : s.stop.safety.rest = s.safety.rest := by
  unfold State.stop
  split
  · rw [State.rest_setSafetyState, State.rest_darken]
  · rfl

theorem State.rest_recheck (s : State) : s.recheck.safety.rest = s.safety.rest := by
  unfold State.recheck
  split
  · rfl
  · exact s.rest_stop

theorem State.rest_releasePins (s : State) : s.releasePins.safety.rest = s.safety.rest := by
  unfold State.releasePins
  rw [State.rest_setEnB, State.rest_setEnA]

theorem State.rest_yieldRole (s : State) (reason : Nat) : (s.yieldRole reason).safety.rest = s.safety.rest := by
  unfold State.yieldRole
  dsimp only
  rw [(State.setRole_touches _ _).part .safety, State.rest_releasePins, (State.sendFarlu_touches _ _ _).part .safety,
    (State.closeAllEarly_touches _).part .safety, State.rest_stop]

theorem State.rest_enterLockout (s : State) (hard : Bool) : (s.enterLockout hard).safety.rest = s.safety.rest := by
  unfold State.enterLockout
  dsimp only
  rw [Bool.cond_eq_ite, apply_ite State.safety, apply_ite SafetyIsland.rest, State.rest_yieldRole, ite_self, State.rest_setSafetyState,
    State.rest_darken]

theorem State.rest_recordCause (s : State) (bit : Nat) : (s.recordCause bit).safety.rest = s.safety.rest := by
  unfold State.recordCause
  extract_lets first fresh s1 s2
  have h2 : s2.safety = s.safety := by
    simp only [s2]
    rw [Bool.cond_eq_ite, apply_ite State.safety]
    exact ite_self _
  rw [Bool.cond_eq_ite]
  split <;> exact (congrArg SafetyIsland.rest h2 :)

/-- A trip leaves the rest of the island. -/
theorem State.rest_trip (s : State) (c : Cause) : (s.trip c).safety.rest = s.safety.rest := by
  have hnotes : (s.tripNotes c).safety.rest = s.safety.rest := s.rest_recordCause c.bit
  rw [State.trip_eq, Bool.cond_eq_ite, apply_ite State.safety, apply_ite SafetyIsland.rest, State.rest_enterLockout, State.rest_darken,
    ite_self, hnotes]

/-- Stopping leaves what the bearers' copies hold. -/
theorem State.recheck_safeBearer (s : State) (b : Nat) : s.recheck.safeBearer b = s.safeBearer b := by
  have hnet : ∀ b, s.recheck.safeNet b = s.safeNet b := by
    intro b
    simp [State.safeNet, State.getN, s.recheck_touches.get Obj.SAFE_NETS]
  have hrest := s.rest_recheck
  have hcan : s.recheck.safety.copyCan = s.safety.copyCan := (congrArg SafetyIsland.copyCan hrest :)
  have h0 : s.recheck.safety.copyE0 = s.safety.copyE0 := (congrArg SafetyIsland.copyE0 hrest :)
  have h1 : s.recheck.safety.copyE1 = s.safety.copyE1 := (congrArg SafetyIsland.copyE1 hrest :)
  rw [State.safeBearer, State.safeBearer, hnet, hcan, h0, h1]

/-- Settles O39: each loss is a condition that the recheck misses, and the recheck stops. -/
theorem lostConditionsStopTheEmitter : Obligations.LostConditionsStopTheEmitter := by
  intro s on stopped
  refine ⟨fun hon => stopped_stop hon, fun hoff => State.stop_of_off hoff, fun ch lv hon hp hch hd hlv => ?_,
    fun ch lv hon hp hch hsrc hd hlv => ?_, fun b d hon hp hv hj hd hsrc hreq => ?_, fun b d hp hv => ?_,
    fun b hon hperm haged hdue hsrc hreq => ?_⟩
  · have hpair : ch.val / 2 = 1 := by omega
    have hlow : ¬ ch.val < 2 := by omega
    have harm : exec (.safeInputAccept ch lv) s = .next (s.acceptInput 1 (ch.val % 2 == 1) false) := by
      change execSafeInputAccept ch lv s = _
      simp [execSafeInputAccept, hp, hlow, hpair, hlv]
    exact ⟨_, harm, stopped_acceptInput hon hd (by simp)⟩
  · have hpair : ch.val / 2 = 0 := by omega
    have harm : exec (.safeInputAccept ch lv) s = .next (s.acceptInput 0 (ch.val % 2 == 1) false) := by
      change execSafeInputAccept ch lv s = _
      simp [execSafeInputAccept, hp, hsrc, hpair, hlv]
    exact ⟨_, harm, stopped_acceptInput hon hd fun _ => hsrc⟩
  · have hcmd : (beAt d 4 1 == 0xA5) = false := by simp [hd]
    have harm : exec (.safeCmdReceive b d) s =
        .next ((s.setSafeBearer b ⟨some false, some (beAt d 3 1), s.now, false⟩).noteDisagreement.cmdPair) := by
      change execSafeCmdReceive b d s = _
      simp [execSafeCmdReceive, hp, hv, hj, hcmd]
    refine ⟨_, harm, ?_⟩
    generalize hx : (⟨some false, some (beAt d 3 1), s.now, false⟩ : SafeBearer) = x
    obtain ⟨hset, hreg, -, hlatch, hstate⟩ := s.setSafeBearer_spec b x
    obtain ⟨hnote, hreg', hlatch', hstate'⟩ := (s.setSafeBearer b x).noteDisagreement_spec b
    have hget : ∀ k, (s.setSafeBearer b x).noteDisagreement.getN k = s.getN k := fun k => by
      rw [State.getN, State.get_congr (hreg'.trans hreg), State.getN]
    refine (stopped_cmdPair (b := b) ?_ ((hget _).trans hsrc) (by rwa [hget]) ?_).of_same (hlatch'.trans hlatch) (hreg'.trans hreg)
    · rw [Emitting, hstate', hstate]
      exact hon
    · rw [hnote, hset, ← hx]
      rfl
  · have harm : exec (.safeCmdReceive b d) s = .next ((s.count (Obj.SAFE_MSG_INVALID + b)).raise 0x012 0) := by
      change execSafeCmdReceive b d s = _
      simp [execSafeCmdReceive, hp, hv]
    refine ⟨_, harm, by simp, ?_, State.get_count_same _ _, raisedCount_raise_same _ _ _⟩
    exact onlyParts_mono (onlyParts_trans (s.count_touches _).parts (State.raise_touches _ _ _).parts) (by simp [reporting])
  · have harm : exec (.safeMsgTimeout b) s = .next (((s.setSafeBearer b { s.safeBearer b with aged := true }).raise 0x010 0).cmdPair) := by
      change execSafeMsgTimeout b s = _
      simp [execSafeMsgTimeout, hperm, haged, hdue]
    refine ⟨_, harm, ?_⟩
    generalize hx : ({ s.safeBearer b with aged := true } : SafeBearer) = x
    obtain ⟨hset, hreg, -, hlatch, hstate⟩ := s.setSafeBearer_spec b x
    generalize s.setSafeBearer b x = u at hset hreg hlatch hstate
    have hget : ∀ k, (u.raise 0x010 0).getN k = s.getN k := fun k => by
      rw [State.getN, State.get_raise, State.get_congr hreg, State.getN]
    have hbearer : (u.raise 0x010 0).safeBearer b = x := hset
    have haged' : x.aged = true := by rw [← hx]
    have hon' : Emitting (u.raise 0x010 0) := by
      change u.safety.state = .arming ∨ u.safety.state = .armed
      rw [hstate]
      exact hon
    refine ⟨(stopped_cmdPair (b := b) hon' ((hget _).trans hsrc) (by rwa [hget]) ?_).of_same hlatch hreg, ?_⟩
    · simp [hbearer, State.bearerPermits, haged']
    · rw [State.cmdPair, if_neg (by simp [hget, hsrc]), State.recheck_safeBearer, hbearer]
      exact haged'

end Sys2Proof.Machine

/-! ## The island's bookkeeping: self-test, hold, readbacks, status, windows and audit boundaries -/

namespace Sys2Proof.Machine

open Sys2Proof Sys2Proof.Safety

set_option Elab.async false

theorem State.sendSafe_onlyParts (s : State) (net : Nat) (m : List Byte) : onlyParts reporting s (s.sendSafe net m) := by
  unfold State.sendSafe
  intro p hp
  split <;> cases p <;> simp_all [Part.same, reporting]

/-- The end of a self-test in time enters INHIBITED and keeps the outputs. -/
theorem execSafetySelfTestDone_of_pass {s : State} (hs : s.safety.state = .init)
    (hp : s.reset_.phase = .firmware ∨ s.reset_.phase = .running) (ht : s.selfTestInTime = true) :
    exec (.safetySelfTestDone true) s =
      .next (({ s with safety := { s.safety with selfTestPassed := true } } : State).setSafetyState .inhibited) := by
  change execSafetySelfTestDone true s = _
  rcases hp with hp | hp <;> simp [execSafetySelfTestDone, hs, hp, ht]

/-- Changing the state from INIT leaves the self-test's result. -/
theorem State.setSafetyState_selfTestPassed (s : State) (x : SafetyState) :
    (s.setSafetyState x).safety.selfTestPassed = s.safety.selfTestPassed :=
  (congrArg SafetyIsland.selfTestPassed (s.rest_setSafetyState x) :)

/-- What the change of a readback does: the readback follows, and a test of its output sees it. -/
theorem execSupplyFbChange_of_ne {s : State} {o : Fin 2} {lv : Bool} (h : s.fb o ≠ lv) :
    ∃ t, exec (.supplyFbChange o lv) s = .next t ∧ t.fb o = lv ∧ t.safety.state = s.safety.state ∧ t.safety.enA = s.safety.enA ∧
      t.safety.enB = s.safety.enB ∧ onlyParts [.safety] s t := by
  have hset : (s.setFb o lv).fb o = lv ∧ (s.setFb o lv).safety.state = s.safety.state ∧ (s.setFb o lv).safety.enA = s.safety.enA ∧
      (s.setFb o lv).safety.enB = s.safety.enB ∧ onlyParts [.safety] s (s.setFb o lv) := by
    unfold State.setFb
    split
    next ho => exact ⟨by simp [State.fb, ho], rfl, rfl, rfl, (s.withSafety_touches _).parts⟩
    next ho => exact ⟨by simp [State.fb, ho], rfl, rfl, rfl, (s.withSafety_touches _).parts⟩
  have harm : exec (.supplyFbChange o lv) s = match (s.setFb o lv).safety.offTest with
      | some t => if t.out = o then .next { s.setFb o lv with safety := { (s.setFb o lv).safety with
          offTest := some (t.saw lv (s.setFb o lv).now (s.setFb o lv).fbDelay) } } else .next (s.setFb o lv)
      | none => .next (s.setFb o lv) := if_neg h
  generalize s.setFb o lv = u at hset harm
  obtain ⟨hfb, hstate, hA, hB, hparts⟩ := hset
  cases hoff : u.safety.offTest with
  | none =>
    rw [hoff] at harm
    exact ⟨u, harm, hfb, hstate, hA, hB, hparts⟩
  | some t =>
    rw [hoff] at harm
    by_cases ho : t.out = o
    · refine ⟨_, harm.trans (if_pos ho), hfb, hstate, hA, hB, ?_⟩
      exact onlyParts_mono (onlyParts_trans hparts (u.withSafety_touches _).parts) (by simp)
    · exact ⟨u, harm.trans (if_neg ho), hfb, hstate, hA, hB, hparts⟩

/-- The account's boundary without its verdict. -/
def State.boundary (s : State) : State := s.freeze.setPeaks.sendAccount

/-- What a boundary leaves in the island: the frozen account. -/
theorem State.boundary_safety (s : State) : s.boundary.safety = { s.freeze.safety with peakW0 := 0 } := by
  have hsend : ∀ u : State, u.sendAccount.safety = u.safety := by
    intro u
    unfold State.sendAccount
    split
    · exact (u.sendFarlu_touches _ _).part .safety
    · rfl
  have hfold : ∀ (l : List Nat) (u : State), (l.foldl (fun s w => s.set (Obj.ACC_PEAK + 1 + w) (s.peakOf w)) u).safety = u.safety := by
    intro l
    induction l with
    | nil => exact fun _ => rfl
    | cons w ws ih => exact fun u => ih _
  rw [State.boundary, hsend, State.setPeaks]
  dsimp only
  rw [hfold]
  rfl

/-- Settles O40: each bookkeeping command is one update of the safety island, read off its definition. -/
theorem safetyBookkeepingCompletes : Obligations.SafetyBookkeepingCompletes := by
  intro s
  refine ⟨fun hs hp ht => ?_, fun hp hr => ?_, fun o lv h => execSupplyFbChange_of_ne h, fun hr hsh hd => ?_, fun w hp hlen hb => ?_,
    fun hp hw hr h0 h1 hb0 hb1 hst => ?_, fun hp hw hr hlate => ?_⟩
  · obtain ⟨hst, hA, hB, hL, -⟩ :=
      ({ s with safety := { s.safety with selfTestPassed := true } } : State).setSafetyState_safety .inhibited
    exact ⟨_, execSafetySelfTestDone_of_pass hs hp ht, hst, State.setSafetyState_selfTestPassed _ _, hL, hA, hB⟩
  · have harm : exec .rearmHoldElapsed s = .next { s with safety := { s.safety with holdDone := true } } := by
      change execRearmHoldElapsed s = _
      simp [execRearmHoldElapsed, hp, hr]
    exact ⟨_, harm, rfl, (s.withSafety_touches _).parts⟩
  · obtain ⟨u, hu, hsend⟩ : ∃ u, u = (s.sendSafe (s.safeNet false) s.safeStatus).sendSafe (s.safeNet true) s.safeStatus ∧ onlyParts reporting s u :=
      ⟨_, rfl, onlyParts_mono (onlyParts_trans (s.sendSafe_onlyParts _ _) (State.sendSafe_onlyParts _ _ _)) (by simp)⟩
    have harm : exec .safeStatusSend s = .next { u with
        safety := { u.safety with statusDue := false, statusAt := u.now, statusCounter := (u.safety.statusCounter + 1) % 256 } } := by
      have hc : (s.running && !s.isShadow &&
          (s.safety.statusDue || reached s.now s.safety.statusAt (ms (s.getN Obj.SAFE_MSG_PERIOD)))) = true := by simp [hr, hsh, hd]
      rw [hu]
      exact if_pos hc
    refine ⟨_, harm, ?_, onlyParts_mono (onlyParts_trans hsend (u.withSafety_touches _).parts) (by simp [reporting])⟩
    have hsafety : u.safety = s.safety := hsend .safety (by simp [reporting])
    have hnow : u.now = s.now := hsend .now (by simp [reporting])
    simp only [hsafety, hnow]
  · have harm : exec (.accBucketRoll w) s = .next { s with safety := { s.safety with
        buckets := s.safety.buckets.set w (s.now / bucketSpan w), sums := sumsDrop s.safety.sums w (s.now / bucketSpan w - 16) } } :=
      if_pos ⟨hb, hp⟩
    refine ⟨_, harm, ?_, fun e he => (List.mem_filter.1 he).1, (s.withSafety_touches _).parts⟩
    have hw : w.val < s.safety.buckets.length := by omega
    simp [State.bucket, hw]
  · have hlate : s.auditLate = false := by simp [State.auditLate, h0, h1, hb0, hb1, hst]
    have harm : exec .auditBoundary s = .next s.boundary := by
      change execAuditBoundary s = _
      simp [execAuditBoundary, hr, hp, hw, hlate, State.boundary]
    refine ⟨_, harm, ?_⟩
    rw [State.boundary_safety]
    exact ⟨rfl, rfl, rfl, rfl, rfl⟩
  · have hlate' : s.auditLate = true := by
      rcases hlate with h | h | h | h | h <;> simp [State.auditLate, h]
    have harm : exec .auditBoundary s = .next ((s.boundary.raise 0x008 0).trip .auditOverrun) := by
      change execAuditBoundary s = _
      simp [execAuditBoundary, hr, hp, hw, hlate', State.boundary]
    obtain ⟨hdark, -, -, -⟩ := (s.boundary.raise 0x008 0).trip_safety .auditOverrun
    obtain ⟨hcause, -, -, -⟩ := (s.boundary.raise 0x008 0).trip_objects .auditOverrun
    have hsnap : s.boundary.safety.snapshot = s.safety.sums := by rw [State.boundary_safety]; rfl
    refine ⟨_, harm, hdark, ?_, by simp [hcause, natBit]⟩
    rw [← hsnap]
    exact (congrArg SafetyIsland.snapshot ((s.boundary.raise 0x008 0).rest_trip .auditOverrun) :)

end Sys2Proof.Machine

/-! ## The crank: input filters, lost edges, revolutions, facets and steps of local time -/

namespace Sys2Proof.Machine

open Sys2Proof Sys2Proof.Safety

set_option Elab.async false

/-! ### Axes -/

@[simp] theorem State.axis_setAxis_same (s : State) (a : Nat) (x : Axis) : (s.setAxis a x).axis a = x := by
  unfold State.setAxis State.axis
  split <;> rfl

theorem State.axis_congr {s t : State} (h : t.crank = s.crank) (a : Nat) : t.axis a = s.axis a := by
  unfold State.axis
  rw [h]

theorem State.setAxis_touches (s : State) (a : Nat) (x : Axis) : Touches { parts := [.crank] } s (s.setAxis a x) :=
  touches_of_same fun p hp => by cases p <;> simp_all [Part.same]

theorem State.withSeq_touches (s : State) (x : SequencerState) : Touches { parts := [.seq] } s { s with seq := x } :=
  touches_of_same fun p hp => by cases p <;> simp_all [Part.same]

theorem State.withEmit_touches (s : State) (x : EmitterState) : Touches { parts := [.emit] } s { s with emit := x } :=
  touches_of_same fun p hp => by cases p <;> simp_all [Part.same]

/-- What emptying the multi-revolution sums touches. -/
def mrevFrame : Frame := { parts := [.hist, .reg, .ev], keys := [(Obj.MREV_RESETS, Obj.MREV_RESETS)], events := [0x0A8] }

theorem State.emptyAllMrev_touches (s : State) : Touches mrevFrame s s.emptyAllMrev :=
  Touches.refl.foldl fun s _ => (((s.withHist_touches _).mono).andThen (State.count_touches _ _)).andThen (State.raise_touches _ _ _)

theorem State.loseRevolution_touches (s : State) : Touches mrevFrame s s.loseRevolution :=
  .ite Touches.refl ((s.withHist_touches _).mono.andThen (State.emptyAllMrev_touches _))

/-- What a change of the sequencer's state touches. -/
def seqStateFrame : Frame :=
  { parts := [.seq, .emit, .hist, .jobs, .cal, .reg, .ev], keys := [(Obj.SHORT_REELS, Obj.SHORT_REELS)], above := some Obj.CAL_STATUS
    events := [0x040, 0x046, 0x047, 0x160, 0x161, 0x162, 0x101] }

theorem State.seqPoint_touches (s : State) : Touches { parts := [.seq, .ev], events := [0x046] } s s.seqPoint :=
  .ite ((s.withSeq_touches _).mono.andThen (State.raise_touches _ _ _)) (s.withSeq_touches _).mono

theorem State.chargeColumns_touches (s : State) : Touches { parts := [.emit] } s s.chargeColumns :=
  Touches.refl.foldl fun s _ => .ite (.ite (s.withEmit_touches _) Touches.refl) Touches.refl

theorem State.setSeqState_touches (s : State) (x : SeqState) : Touches seqStateFrame s (s.setSeqState x) := by
  refine .ite Touches.refl ?_
  extract_lets old _ s1 s2 s3 s4
  have h1 : Touches seqStateFrame s s1 := (s.withSeq_touches _).mono.andThen (State.raise_touches _ _ _)
  have h2 : Touches seqStateFrame s s2 := .ite ((h1.andThen (State.seqPoint_touches _)).andThen (State.withEmit_touches _ _)) h1
  have h3 : Touches seqStateFrame s s3 := .ite ((h2.andThen (State.withSeq_touches _ _)).andThen (State.chargeColumns_touches _)) h2
  have h4 : Touches seqStateFrame s s4 := .ite (h3.andThen (State.closeAllEarly_touches _)) h3
  exact .ite (h4.andThen (State.calEnd_touches _ _)) h4

theorem State.seqFollowAxis_touches (s : State) : Touches seqStateFrame s s.seqFollowAxis :=
  .ite (s.setSeqState_touches _) (.ite (s.setSeqState_touches _) Touches.refl)

/-- What the sequencer and the sums make of a change of an axis' state. -/
def followFrame : Frame :=
  { parts := [.seq, .emit, .hist, .jobs, .cal, .reg, .ev]
    keys := [(Obj.SHORT_REELS, Obj.SHORT_REELS), (Obj.MREV_RESETS, Obj.MREV_RESETS)], above := some Obj.CAL_STATUS
    events := [0x040, 0x046, 0x047, 0x0A8, 0x160, 0x161, 0x162, 0x101, 0x020, 0x021] }

/-- A change of an axis' state writes the state; the rest is the sequencer's and the sums' answer. -/
theorem State.setAxisState_spec (s : State) (a : Fin 2) (x : AxisSt) :
    ((s.setAxisState a x).axis a) = { s.axis a with st := x } ∧ ∀ k, followFrame.key k = false → (s.setAxisState a x).get k = s.get k := by
  unfold State.setAxisState
  by_cases h : (s.axis a).st = x
  · rw [if_pos h]
    exact ⟨by rw [← h], fun _ _ => rfl⟩
  · rw [if_neg h]
    extract_lets _ u
    have hu : u.axis a = { s.axis a with st := x } := s.axis_setAxis_same a _
    have hget : ∀ k, u.get k = s.get k := fun k => State.get_congr (by simp [u]) k
    have hlose : Touches followFrame u u.loseRevolution := u.loseRevolution_touches.mono
    have hif : Touches followFrame u (if x = .freewheel ∨ x = .stall then u.loseRevolution else u) := .ite hlose Touches.refl
    have hall := hif.andThen (State.seqFollowAxis_touches _)
    have hone : Touches followFrame u (if (a : Nat) = u.cueAxis then
        (if x = .freewheel ∨ x = .stall then u.loseRevolution else u).seqFollowAxis else u) := .ite hall Touches.refl
    exact ⟨(State.axis_congr (hone.part .crank) a).trans hu, fun k hk => (hone.keys k hk).trans (hget k)⟩

/-! ### Lost edges -/

theorem freewheelKey_free (a : Fin 2) : followFrame.key (Obj.FREEWHEEL_ENTRIES + 256 * a) = false := by
  fin_cases a <;> decide

theorem stallKey_free (a : Fin 2) : followFrame.key (Obj.STALLS + 256 * a) = false ∧ tripFrame.key (Obj.STALLS + 256 * a) = false := by
  fin_cases a <;> exact ⟨by decide, by decide⟩

/-- Settles O26: both commands write the axis, and what follows leaves the axis and its counter. -/
theorem lostEdgesFreewheelThenStall : Obligations.LostEdgesFreewheelThenStall := by
  intro s a
  refine ⟨fun hdue => ?_, fun hst hlimit => ?_⟩
  · have harm : exec (.freewheelEntry a) s = .next (s.freewheelEntry a) := if_pos hdue
    obtain ⟨u, hu, hentry⟩ : ∃ u, u = ((s.setAxis a { s.axis a with fwAt := s.now, fwHeld := 0, core := { (s.axis a).core with since := 0 } }).axisCount
        a Obj.FREEWHEEL_ENTRIES).axisRaise a 0x022 ∧ s.freewheelEntry a = u.setAxisState a .freewheel := ⟨_, rfl, rfl⟩
    obtain ⟨haxis, hget⟩ := u.setAxisState_spec a .freewheel
    have huaxis : u.axis a = { s.axis a with fwAt := s.now, fwHeld := 0, core := { (s.axis a).core with since := 0 } } := by
      rw [hu]
      exact s.axis_setAxis_same a _
    refine ⟨_, harm, ?_⟩
    rw [hentry, haxis, huaxis, hget _ (freewheelKey_free a), hu]
    refine ⟨rfl, rfl, rfl, (State.get_count_same _ _).trans ?_⟩
    rw [State.get_congr (State.setAxis_reg _ _ _)]
  · have hdue : s.limitDue a = true := by
      simp [State.limitDue, hst, reached, hlimit]
    have harm : exec (.freewheelLimitReached a) s = .next (s.enterStall a) := if_pos hdue
    obtain ⟨u, v, hv, hu, hreg⟩ : ∃ u v, u = ((State.setAxisState v a .stall).axisCount a Obj.STALLS).axisRaise a 0x024 ∧
        s.enterStall a = u.trip .scanStall ∧ v.reg = s.reg := ⟨_, _, rfl, rfl, State.setAxis_reg _ _ _⟩
    obtain ⟨haxis, hget⟩ := v.setAxisState_spec a .stall
    have huaxis : u.axis a = (v.setAxisState a .stall).axis a := by rw [hv]; rfl
    have htrip := u.trip_touches .scanStall
    obtain ⟨hdark, -, -, -⟩ := u.trip_safety .scanStall
    obtain ⟨hcause, -, -, -⟩ := u.trip_objects .scanStall
    refine ⟨_, harm, ?_⟩
    rw [hu]
    refine ⟨?_, hdark, ?_, by simp [hcause, natBit]⟩
    · rw [State.axis_congr (htrip.part .crank), huaxis, haxis]
    · rw [htrip.keys _ (stallKey_free a).2, hv]
      refine (State.get_count_same _ _).trans ?_
      rw [hget _ (stallKey_free a).1, State.get_congr hreg]

/-! ### Steps of local time -/

theorem State.withTime_touches (s : State) (x : TimeState) : Touches { parts := [.time] } s { s with time := x } :=
  touches_of_same fun p hp => by cases p <;> simp_all [Part.same]

end Sys2Proof.Machine

/-! ## Revolutions, facets, boundaries and steps of local time; the filters of the event inputs -/

namespace Sys2Proof.Machine

open Sys2Proof Sys2Proof.Safety

set_option Elab.async false

/-! ### Steps of local time -/

theorem State.withPipe_touches (s : State) (x : PipeState) : Touches { parts := [.pipe] } s { s with pipe := x } :=
  touches_of_same fun p hp => by cases p <;> simp_all [Part.same]

theorem State.withHk_touches (s : State) (x : HkState) : Touches { parts := [.hk] } s { s with hk := x } :=
  touches_of_same fun p hp => by cases p <;> simp_all [Part.same]

/-- What a change of CLOCK_STATE touches. -/
def clockFrame : Frame := { parts := [.time, .reg, .ev], keys := [(Obj.CLOCK_STATE, Obj.CLOCK_STATE)], events := [0x120] }

theorem State.setClock_touches (s : State) (x : Nat) : Touches clockFrame s (s.setClock x) := by
  refine .ite Touches.refl ?_
  have h1 : Touches clockFrame s ((s.set Obj.CLOCK_STATE x).raise 0x120 0) := (s.set_touches _ _).mono.andThen (State.raise_touches _ _ _)
  exact .ite (h1.andThen (State.withTime_touches _ _)) (.ite (h1.andThen (State.withTime_touches _ _)) h1)

/-- CLOCK_STATE is what it is set to. -/
theorem State.setClock_state (s : State) (x : Nat) : (s.setClock x).getN Obj.CLOCK_STATE = x := by
  unfold State.setClock
  by_cases h : s.getN Obj.CLOCK_STATE = x
  · rw [if_pos h, h]
  · rw [if_neg h]
    have hset : ((s.set Obj.CLOCK_STATE x).raise 0x120 0).getN Obj.CLOCK_STATE = x := by
      simp [State.getN]
    dsimp only
    split
    · exact hset
    · split
      · exact hset
      · exact hset

/-- The total and the pending step of local time. -/
def TimeState.shown (t : TimeState) : Nat × Nat × Nat × PendingStep := (t.sec, t.ns, t.frac, t.step)

theorem TimeState.total_of_shown {t u : TimeState} (h : t.shown = u.shown) : t.total = u.total ∧ t.step = u.step := by
  simp only [TimeState.shown, Prod.mk.injEq] at h
  obtain ⟨hs, hn, hf, hst⟩ := h
  exact ⟨by rw [TimeState.total, hs, hn, hf, TimeState.total], hst⟩

theorem State.shown_setClock (s : State) (x : Nat) : (s.setClock x).time.shown = s.time.shown := by
  unfold State.setClock
  split
  · rfl
  · dsimp only
    split
    · rfl
    · split <;> rfl

theorem State.markHour_shown (s : State) (sum mark : Nat) :
    ({ s with time := { s.time with hourSum := sum, hourMark := mark } } : State).time.shown = s.time.shown := rfl

theorem State.shown_lateIncrement (s : State) : s.lateIncrement.time.shown = s.time.shown := by
  unfold State.lateIncrement
  split
  · split
    · exact s.markHour_shown _ _
    · rfl
  · rfl

/-- What an increment written late touches. -/
def incrementFrame : Frame := { parts := [.time, .reg], keys := [(Obj.CLOCK_INCREMENT, Obj.CLOCK_INCREMENT)] }

theorem State.lateIncrement_touches (s : State) : Touches incrementFrame s s.lateIncrement := by
  unfold State.lateIncrement
  split
  · exact .ite ((s.withTime_touches _).mono.andThen (State.set_touches _ _ _)) Touches.refl
  · exact Touches.refl

/-- What a step of local time touches. -/
def stepFrame : Frame :=
  { parts := [.time, .reg, .ev, .hist, .pipe]
    keys := [(Obj.TIME_EPOCH, Obj.TIME_EPOCH), (Obj.CLOCK_STATE, Obj.CLOCK_STATE), (Obj.CLOCK_INCREMENT, Obj.CLOCK_INCREMENT),
      (Obj.MREV_RESETS, Obj.MREV_RESETS)]
    events := [0x122, 0x120, 0x0A8] }

/-- The step itself: the time is set and the epoch goes up. -/
def State.steppedTo (s : State) : State :=
  ({ s with time := { (s.time.withTotal s.stepTarget).stepped ((s.stepTarget : Int) - s.time.total) with step := .none } }).set
    Obj.TIME_EPOCH ((s.getN Obj.TIME_EPOCH + 1) % 65536 : Nat)

theorem State.applyStep_eq (s : State) :
    s.applyStep = { (((s.steppedTo.raise 0x122 ((s.getN Obj.TIME_EPOCH + 1) % 65536 * 2 ^ 16)).setClock 2).lateIncrement).emptyAllMrev with
      pipe := { (((s.steppedTo.raise 0x122 ((s.getN Obj.TIME_EPOCH + 1) % 65536 * 2 ^ 16)).setClock 2).lateIncrement).emptyAllMrev.pipe with
        restep := List.range (((s.steppedTo.raise 0x122 ((s.getN Obj.TIME_EPOCH + 1) % 65536 * 2 ^ 16)).setClock 2).lateIncrement).emptyAllMrev.groups } } :=
  rfl

theorem State.steppedTo_touches (s : State) : Touches stepFrame s s.steppedTo :=
  (s.withTime_touches _).mono.andThen (State.set_touches _ _ _)

theorem State.applyStep_touches (s : State) : Touches stepFrame s s.applyStep := by
  rw [State.applyStep_eq]
  exact ((((s.steppedTo_touches.andThen (State.raise_touches _ _ _)).andThen (State.setClock_touches _ _)).andThen
    (State.lateIncrement_touches _)).andThen (State.emptyAllMrev_touches _)).andThen (State.withPipe_touches _ _)

theorem TimeState.withTotal_shown (t : TimeState) (x : Nat) (d : Int) :
    ({ (t.withTotal x).stepped d with step := .none } : TimeState).shown =
      (x / 16777216 / 1000000000 % 2 ^ 48, x / 16777216 % 1000000000, x % 16777216, .none) := rfl

/-- What a step of local time leaves: the target, no pending step, the next epoch, LOCKING. -/
theorem State.applyStep_spec (s : State) :
    s.applyStep.time.step = .none ∧ s.applyStep.time.total = s.stepTarget % (2 ^ 48 * 1000000000 * 16777216) ∧
      s.applyStep.get Obj.TIME_EPOCH = (((s.getN Obj.TIME_EPOCH + 1) % 65536 : Nat) : Int) ∧ s.applyStep.get Obj.CLOCK_STATE = 2 := by
  generalize hv : (s.steppedTo.raise 0x122 ((s.getN Obj.TIME_EPOCH + 1) % 65536 * 2 ^ 16)) = v
  have heq : s.applyStep = { ((v.setClock 2).lateIncrement).emptyAllMrev with
      pipe := { ((v.setClock 2).lateIncrement).emptyAllMrev.pipe with restep := List.range ((v.setClock 2).lateIncrement).emptyAllMrev.groups } } := by
    rw [← hv]
    exact s.applyStep_eq
  have hclock := v.setClock_touches 2
  have hlate := (v.setClock 2).lateIncrement_touches
  have hmrev := (v.setClock 2).lateIncrement.emptyAllMrev_touches
  have htime : s.applyStep.time.shown = v.time.shown := by
    rw [heq]
    dsimp only
    rw [hmrev.part .time, State.shown_lateIncrement, State.shown_setClock]
  have hshown : v.time.shown = (s.stepTarget / 16777216 / 1000000000 % 2 ^ 48, s.stepTarget / 16777216 % 1000000000,
      s.stepTarget % 16777216, PendingStep.none) := by
    rw [← hv]
    exact s.time.withTotal_shown _ _
  rw [hshown] at htime
  simp only [TimeState.shown, Prod.mk.injEq] at htime
  obtain ⟨hsec, hns, hfrac, hstep⟩ := htime
  have hget : ∀ k, s.applyStep.get k = ((v.setClock 2).lateIncrement).emptyAllMrev.get k := fun k => by rw [heq]; rfl
  refine ⟨hstep, ?_, ?_, ?_⟩
  · rw [TimeState.total, hsec, hns, hfrac]
    generalize s.stepTarget = x
    omega
  · rw [hget, hmrev.get _, hlate.get _, hclock.get _, ← hv]
    exact State.get_set_same _ _ _
  · rw [hget, hmrev.get _, hlate.get _]
    have hn := v.setClock_state 2
    rw [State.getN] at hn
    omega

/-! ### Revolutions -/

theorem State.blockFraction_touches (s : State) :
    Touches { parts := [.pipe, .reg, .ev], keys := [(Obj.BLOCK_FRACTION, Obj.BLOCK_FRACTION)], events := [0x0E3] } s s.blockFraction := by
  unfold State.blockFraction
  extract_lets cs n f s1 alarm
  have h1 : Touches { parts := [.pipe, .reg, .ev], keys := [(Obj.BLOCK_FRACTION, Obj.BLOCK_FRACTION)], events := [0x0E3] } s s1 :=
    (s.set_touches _ _).mono
  exact .ite h1 ((h1.andThen (State.withPipe_touches _ _)).andThen (State.raise_touches _ _ _))

/-- A forward pass leaves the axis as the turn, the pending linearisation and nothing else made it. -/
theorem State.passA_axis (s : State) (a : Nat) : s.passA.axis a = s.axis a := by
  unfold State.passA
  extract_lets _ _ u
  have hu : u.crank = s.crank := (State.blockFraction_touches _).part .crank
  split
  · rw [State.axis_congr (u.applyStep_touches.part .crank), State.axis_congr hu]
  · exact State.axis_congr hu a

theorem State.forwardPass_axis (s : State) (a : Nat) :
    ((s.forwardPass a).axis a).revolution = ((s.axis a).revolution + 1) % 2 ^ 40 ∧ ((s.forwardPass a).axis a).turn = (s.axis a).turn + 1 := by
  unfold State.forwardPass
  extract_lets x floor u v
  have hu : (u.axis a).revolution = (x.revolution + 1) % 2 ^ 40 ∧ (u.axis a).turn = x.turn + 1 := by
    simp only [u, State.axis_setAxis_same]
    exact ⟨trivial, trivial⟩
  have hlin : ((u.applyLin a).axis a).revolution = (u.axis a).revolution ∧ ((u.applyLin a).axis a).turn = (u.axis a).turn := by
    unfold State.applyLin
    split
    · change (((u.setAxis a _).axis a).revolution = _) ∧ (((u.setAxis a _).axis a).turn = _)
      simp only [State.axis_setAxis_same]
      exact ⟨trivial, trivial⟩
    · exact ⟨rfl, rfl⟩
  have hv : v.axis a = (u.applyLin a).axis a := by
    simp only [v, State.endRevolution]
    split <;> rfl
  have hall : (if a = 0 then v.passA else v).axis a = v.axis a := by
    split
    · exact v.passA_axis a
    · rfl
  rw [hall, hv]
  exact ⟨hlin.1.trans hu.1, hlin.2.trans hu.2⟩

/-- Settles O27: the turn follows the published position by one revolution at a time. -/
theorem revolutionFollowsThePosition : Obligations.RevolutionFollowsThePosition := by
  intro s a
  have harm : exec (.revolutionA a) s = execRevolutionA a s := rfl
  refine ⟨fun h => ⟨s.forwardPass a, ?_, s.forwardPass_axis a⟩, fun h => ⟨s.backwardPass a, ?_, ?_, ?_, ?_⟩, fun h => ?_, fun h => if_neg h⟩
  · rw [harm]
    exact if_pos h
  · rw [harm]
    exact (if_neg (by omega)).trans (if_pos h)
  · simp only [State.backwardPass, State.axis_setAxis_same]
  · simp only [State.backwardPass, State.axis_setAxis_same]
  · exact (s.setAxis_touches a _).parts
  · rw [harm]
    exact (if_neg (by omega)).trans (if_neg (by omega))

/-! ### Facets and boundaries -/

/-- What the end of a turnaround touches. -/
def turnFrame : Frame := { parts := [.seq, .reg, .ev], keys := [(Obj.DIAG_DEFERRED, Obj.DIAG_DEFERRED)], events := [0x04A] }

theorem State.endTurnaround_touches (s : State) : Touches turnFrame s s.endTurnaround := by
  unfold State.endTurnaround
  split
  · refine Touches.foldl (s.withSeq_touches _).mono fun s _ => (s.count_touches _).mono.andThen (State.raise_touches _ _ _)
  · exact Touches.refl

theorem State.beginTurnaround_spec (s : State) :
    s.beginTurnaround.seq.turnAt = (if s.getN Obj.TURN_SPAN = 0 then none else some s.now) ∧ s.beginTurnaround.seq.turnServed = 0 ∧
      Touches turnFrame s s.beginTurnaround := by
  have hend := s.endTurnaround_touches
  have hspan : s.endTurnaround.getN Obj.TURN_SPAN = s.getN Obj.TURN_SPAN := congrArg Int.toNat (hend.get _)
  have hnow : s.endTurnaround.now = s.now := hend.part .now
  refine ⟨?_, rfl, hend.andThen (State.withSeq_touches _ _)⟩
  unfold State.beginTurnaround
  dsimp only
  rw [hspan, hnow]

/-- Noting a correction leaves the virtual grid and everything outside the crank. -/
theorem State.noteCorrection_spec (old s : State) :
    ((State.noteCorrection old s 0).axis 0).vPeriod = (s.axis 0).vPeriod ∧ ((State.noteCorrection old s 0).axis 0).vTurn = (s.axis 0).vTurn ∧
      (State.noteCorrection old s 0).time = s.time := by
  unfold State.noteCorrection
  split
  · extract_lets p0 l0 l1 _ u
    have hu : (u.axis 0).vPeriod = (s.axis 0).vPeriod ∧ (u.axis 0).vTurn = (s.axis 0).vTurn ∧ u.time = s.time := by
      simp only [u]
      split
      · simp only [State.axis_setAxis_same, State.setAxis_time]
        exact ⟨rfl, rfl, trivial⟩
      · exact ⟨rfl, rfl, rfl⟩
    split
    · simp only [State.axis_setAxis_same, State.setAxis_time]
      exact hu
    · exact hu
  · exact ⟨rfl, rfl, rfl⟩

theorem State.virtualBoundary_spec (s : State) :
    (s.virtualBoundary.axis 0).vPeriod = s.getN Obj.VIRTUAL_PERIOD ∧ (s.virtualBoundary.axis 0).vTurn = s.predict 0 s.nowTaps / revTu ∧
      s.virtualBoundary.time.step = .none := by
  unfold State.virtualBoundary
  extract_lets turn u period phase raw _ v
  have hu : u.get Obj.VIRTUAL_PERIOD = s.get Obj.VIRTUAL_PERIOD ∧ u.time.step = .none := by
    simp only [u]
    split
    · exact ⟨s.applyStep_touches.get _, s.applyStep_spec.1⟩
    next h => exact ⟨rfl, by simpa [State.stepPending] using h⟩
  obtain ⟨hperiod, hturn, htime⟩ := State.noteCorrection_spec s v
  refine ⟨hperiod.trans ?_, hturn.trans ?_, ?_⟩
  · simp only [v, State.axis_setAxis_same, period, State.getN, hu.1]
  · simp only [v, State.axis_setAxis_same, turn]
  · rw [htime]
    simp only [v, State.setAxis_time, hu.2]

/-- Settles O28: a crossed facet, a virtual boundary and a step of local time each change what their own lemma names. -/
theorem facetsAndBoundariesAreDelivered : Obligations.FacetsAndBoundariesAreDelivered := by
  intro s
  refine ⟨fun f p hf hp => ⟨fun hle => ?_, ?_⟩, fun h => ⟨s.virtualBoundary, if_pos h, s.virtualBoundary_spec⟩, fun h hpass => ?_⟩
  · rw [State.facetCrossed, if_pos hle] at hp
    exact (Option.some.inj hp).symm
  · obtain ⟨u, hu, hau, htu⟩ : ∃ u, u = s.setAxis 0 { s.axis 0 with facetAt := p } ∧ (u.axis 0).facetAt = p ∧ Touches { parts := [.crank] } s u :=
      ⟨_, rfl, by rw [State.axis_setAxis_same], s.setAxis_touches 0 _⟩
    obtain ⟨hturn, hserved, htouch⟩ := u.beginTurnaround_spec
    have harm : exec (.facetStart f) s =
        .next (({ u.beginTurnaround with hk := { u.beginTurnaround.hk with facetAt := some u.beginTurnaround.now } } : State).raise 0x030 0) := by
      change execFacetStart f s = _
      simp only [execFacetStart, hp, hf, if_true, hu]
    have hall : Touches { turnFrame with parts := [.crank, .hk] ++ turnFrame.parts, events := 0x030 :: turnFrame.events } s
        (({ u.beginTurnaround with hk := { u.beginTurnaround.hk with facetAt := some u.beginTurnaround.now } } : State).raise 0x030 0) :=
      ((htu.mono.andThen htouch).andThen (State.withHk_touches _ _)).andThen (State.raise_touches _ _ _)
    have hnow : u.now = s.now := htu.part .now
    have hspan : u.getN Obj.TURN_SPAN = s.getN Obj.TURN_SPAN := congrArg Int.toNat (htu.get _)
    refine ⟨_, harm, ?_, ?_, hserved, ?_, ?_, ?_⟩
    · exact (congrArg Axis.facetAt (State.axis_congr (htouch.part .crank) 0)).trans hau
    · rw [hspan, hnow] at hturn
      exact hturn
    · exact congrArg some ((htouch.part .now).trans hnow)
    · exact onlyParts_mono hall.parts (by decide)
    · rw [raisedCount_raise_same]
      exact congrArg (· + 1) ((htouch.raised 0x030).trans (htu.raised 0x030))
  · have harm : exec .timeStepped s = .next s.applyStep := by
      change execTimeStepped s = _
      simp [execTimeStepped, h, hpass]
    exact ⟨_, harm, s.applyStep_spec⟩

end Sys2Proof.Machine

/-! ## The filters of the event inputs (R118 to R122, R316) -/

namespace Sys2Proof.Machine

open Sys2Proof Sys2Proof.Safety

set_option Elab.async false

/-! ### Writing an entry twice -/

section Tables

variable {α : Type}

theorem tabErase_tabErase (k : Nat) (t : Tab α) : tabErase k (tabErase k t) = tabErase k t := by
  simp [tabErase]

theorem tabErase_tabInsert (k : Nat) (v : α) (t : Tab α) : tabErase k (tabInsert k v t) = tabErase k t := by
  induction t with
  | nil => simp [tabErase, tabInsert]
  | cons e t ih =>
    unfold tabInsert
    split
    · simp [tabErase]
    · simp only [tabErase, List.filter_cons] at ih ⊢
      rw [ih]

theorem tabErase_tabPut [DecidableEq α] (d : Nat → α) (t : Tab α) (k : Nat) (v : α) : tabErase k (tabPut d t k v) = tabErase k t := by
  unfold tabPut
  split
  · exact tabErase_tabErase k t
  · rw [tabErase_tabInsert, tabErase_tabErase]

/-- The later write of an entry is the one that stays. -/
theorem tabPut_tabPut [DecidableEq α] (d : Nat → α) (t : Tab α) (k : Nat) (v w : α) : tabPut d (tabPut d t k v) k w = tabPut d t k w := by
  rw [tabPut, tabErase_tabPut, tabPut]

end Tables

theorem State.setEvIn_setEvIn (s : State) (i : Nat) (x y : EvInput) : (s.setEvIn i x).setEvIn i y = s.setEvIn i y := by
  simp [State.setEvIn, tabPut_tabPut]

theorem State.setEvIn_onlyParts (s : State) (i : Nat) (x : EvInput) : onlyParts [.crank] s (s.setEvIn i x) := by
  intro p hp
  cases p <;> simp_all [Part.same]

/-! ### Level changes -/

section Levels

variable {s : State} {i : Nat} {level : Bool} {stamp : Nat}

theorem State.levelChange_of_same (h : level = (s.evIn i).filt) :
    s.levelChange i level stamp = ((s.setEvIn i { s.evIn i with pend := none }).releaseChannels 0).releaseChannels 1 := by
  simp [State.levelChange, h]

theorem State.levelChange_of_start (h : level ≠ (s.evIn i).filt) (hp : (s.evIn i).pend = none) :
    s.levelChange i level stamp = s.setEvIn i { s.evIn i with pend := some (level, stamp, s.getN (Obj.EV_FILTER + i)) } := by
  simp [State.levelChange, h, hp]

theorem State.monitorLevel_of_same (h : level = (s.evIn i).filt) :
    s.monitorLevel i level stamp = s.setEvIn i { s.evIn i with pend := none } := by
  simp [State.monitorLevel, h]

theorem State.monitorLevel_of_start (h : level ≠ (s.evIn i).filt) (hp : (s.evIn i).pend = none) :
    s.monitorLevel i level stamp = s.setEvIn i { s.evIn i with pend := some (level, stamp, s.getN (Obj.EV_FILTER + i)) } := by
  simp [State.monitorLevel, h, hp]

end Levels

/-- Settles O23: the ball moves first, and the filter works on the input as it then is. -/
theorem eventInputsAreFiltered : Obligations.EventInputsAreFiltered := by
  intro s i lv tap x
  obtain ⟨u, hu, hin, hput, hparts⟩ : ∃ u : State, u = s.setEvIn i { s.evIn i with ball := lv } ∧ u.evIn i = { s.evIn i with ball := lv } ∧
      (∀ y, u.setEvIn i y = s.setEvIn i y) ∧ onlyParts [.crank] s u :=
    ⟨_, rfl, s.evIn_set_same i _, fun y => s.setEvIn_setEvIn i _ y, s.setEvIn_onlyParts i _⟩
  have hget : ∀ k, u.getN k = s.getN k := fun k => by rw [hu]; rfl
  have hnow : u.now = s.now := hparts .now (by simp)
  have harm : exec (.evRawTransition i lv tap) s = if s.running then .next (u.levelChange i x (64 * s.now + tap))
      else if s.reset_.phase = .held then .next u else .next (u.monitorLevel i x (64 * s.now + tap)) := by
    rw [hu]
    rfl
  have hfilt : (u.evIn i).filt = (s.evIn i).filt := by rw [hin]
  have hpend : (u.evIn i).pend = (s.evIn i).pend := by rw [hin]
  refine ⟨fun hheld => ?_, fun hr hheld hne hp => ?_, fun hr hheld heq => ?_, fun hr hne hp => ?_, fun hr heq => ?_,
    fun level at_ filter hp hdue => ⟨fun hr => ?_, fun hr => ?_⟩, fun hg => ?_, fun hg => ?_⟩
  · have hr : s.running = false := by simp [State.running, hheld]
    rw [harm, hr, if_neg Bool.false_ne_true, if_pos hheld, hu]
  · rw [harm, hr, if_neg Bool.false_ne_true, if_neg hheld,
      State.monitorLevel_of_start (by rwa [hfilt]) (by rwa [hpend]), hput, hin, hget]
  · rw [harm, hr, if_neg Bool.false_ne_true, if_neg hheld, State.monitorLevel_of_same (by rwa [hfilt]), hput, hin]
  · rw [harm, hr, if_pos rfl, State.levelChange_of_start (by rwa [hfilt]) (by rwa [hpend]), hput, hin, hget]
    exact ⟨_, rfl, s.setEvIn_onlyParts i _, s.evIn_set_same i _⟩
  · rw [harm, hr, if_pos rfl, State.levelChange_of_same (by rwa [hfilt]), hput, hin]
  · change execEvEdgeAccepted i s = _
    simp [execEvEdgeAccepted, hp, hdue, hr]
  · have hacc : exec (.evEdgeAccepted i) s = .next (s.monitorAccept i level) := by
      change execEvEdgeAccepted i s = _
      simp [execEvEdgeAccepted, hp, hdue, hr]
    obtain ⟨v, hv, hvin, hvparts⟩ : ∃ v : State, v = s.setEvIn i { s.evIn i with filt := level, pend := none } ∧
        v.evIn i = { s.evIn i with filt := level, pend := none } ∧ onlyParts [.crank] s v :=
      ⟨_, rfl, s.evIn_set_same i _, s.setEvIn_onlyParts i _⟩
    have hedge : s.monitorAccept i level = if level && v.getN Obj.SCAN_MONITOR_INPUT == i then
        { v with safety := { v.safety with scanEdge := v.now, scanSeen := true } } else v := by
      rw [hv]
      rfl
    have hmon : v.getN Obj.SCAN_MONITOR_INPUT = s.getN Obj.SCAN_MONITOR_INPUT := by rw [hv]; rfl
    have hvnow : v.now = s.now := hvparts .now (by simp)
    have hvsaf : v.safety = s.safety := hvparts .safety (by simp)
    rw [hmon] at hedge
    refine ⟨_, hacc, ?_⟩
    by_cases hscan : level = true ∧ s.getN Obj.SCAN_MONITOR_INPUT = i
    · rw [hedge, if_pos (by simp [hscan]), if_pos hscan, ← hvnow, ← hvsaf]
      exact ⟨hvin, rfl, onlyParts_mono (onlyParts_trans hvparts (v.withSafety_touches _).parts) (by simp)⟩
    · have hoff : ¬ (level && s.getN Obj.SCAN_MONITOR_INPUT == i) = true := by simpa using hscan
      rw [hedge, if_neg hoff, if_neg hscan]
      exact ⟨hvin, hvsaf, onlyParts_mono hvparts (by simp)⟩
  · have hend : exec (.evBankGapEnd 0) s = .next { s with crank := { s.crank with gap0 := none } } := by
      change execEvBankGapEnd 0 s = _
      simp [execEvBankGapEnd, hg]
    refine ⟨_, hend, rfl, rfl, rfl, fun p hp => ?_⟩
    cases p <;> simp_all [Part.same]
  · have hend : exec (.evBankGapEnd 1) s = .next { s with crank := { s.crank with gap1 := none } } := by
      change execEvBankGapEnd 1 s = _
      simp [execEvBankGapEnd, hg]
    refine ⟨_, hend, rfl, rfl, rfl, fun p hp => ?_⟩
    cases p <;> simp_all [Part.same]

end Sys2Proof.Machine

/-! ## The cue banks (R193 to R195) -/

namespace Sys2Proof.Machine

open Sys2Proof Sys2Proof.Safety

set_option Elab.async false

/-- What a swap of the banks leaves in the sequencer. -/
def State.swappedSeq (s : State) (lookAt : Int) : SequencerState :=
  { s.finishCopy.seq with
    active := s.finishCopy.seq.staging, staging := s.finishCopy.seq.active, void_ := s.finishCopy.stagedVoid, next := 0
    lookAt := some lookAt, latched := [], pending := false, copying := some s.finishCopy.now, heldWindow := [] }

theorem State.swapBanks_eq (s : State) (lookAt : Int) :
    s.swapBanks lookAt = (({ s.finishCopy with seq := s.swappedSeq lookAt } : State).raise 0x044 0).noteEmptyList.sendCues := rfl

/-- What a swap reports: its event, an empty list, the new list to the partner. -/
theorem State.swapBanks_touches (s : State) (lookAt : Int) :
    Touches { parts := [.seq, .ev, .lanes], events := [0x044, 0x046] } s (s.swapBanks lookAt) ∧ (s.swapBanks lookAt).seq = s.swappedSeq lookAt ∧
      raisedCount (s.swapBanks lookAt) 0x044 = raisedCount s 0x044 + 1 := by
  rw [State.swapBanks_eq]
  obtain ⟨u, hu, hseq, htouch, hraised⟩ : ∃ u : State, u = ({ s.finishCopy with seq := s.swappedSeq lookAt } : State).raise 0x044 0 ∧
      u.seq = s.swappedSeq lookAt ∧ Touches { parts := [.seq, .ev, .lanes], events := [0x044, 0x046] } s u ∧
      raisedCount u 0x044 = raisedCount s 0x044 + 1 :=
    ⟨_, rfl, rfl, ((s.withSeq_touches _).mono.andThen (State.withSeq_touches _ _)).andThen (State.raise_touches _ _ _),
      raisedCount_raise_same _ _ _⟩
  rw [← hu]
  have hnote : Touches { parts := [.ev], events := [0x046] } u u.noteEmptyList := .ite (u.raise_touches _ _) Touches.refl
  have hsend : Touches { parts := [.lanes] } u.noteEmptyList u.noteEmptyList.sendCues := .ite (State.sendFarlu_touches _ _ _) Touches.refl
  exact ⟨(htouch.andThen hnote).andThen hsend, (hsend.part .seq).trans ((hnote.part .seq).trans hseq),
    (hsend.raised _).trans ((hnote.raised _).trans hraised)⟩

/-- Settles O29: a swap runs when its condition holds, and the copy's end fills the staging bank. -/
theorem cueSwapExchangesTheBanks : Obligations.CueSwapExchangesTheBanks := by
  intro s
  have harm : exec .cueSwap s = .next s.trySwap := rfl
  refine ⟨fun hp => ?_, fun hp hn hlt => ?_, fun hp hwhen => ?_, fun c hc => ⟨s.finishCopy, ?_, ?_, (s.withSeq_touches _).parts⟩⟩
  · rw [harm]
    simp [State.trySwap, hp]
  · rw [harm]
    simp [State.trySwap, hp, hn, Int.not_le.2 hlt]
  · have hswap : s.trySwap = s.swapBanks (if s.swapNow then s.lookAhead s.cueAxis else s.swapZero) := by
      cases hn : s.swapNow
      · have hle : s.swapZero ≤ s.lookAhead s.cueAxis := hwhen.resolve_left (by simp [hn])
        simp [State.trySwap, hp, hn, hle]
      · simp [State.trySwap, hp, hn]
    obtain ⟨htouch, hseq, hraised⟩ := s.swapBanks_touches (if s.swapNow then s.lookAhead s.cueAxis else s.swapZero)
    rw [harm, hswap]
    refine ⟨_, rfl, ?_⟩
    rw [hseq]
    exact ⟨rfl, rfl, rfl, rfl, rfl, rfl, rfl, rfl, hraised, onlyParts_mono htouch.parts (by decide)⟩
  · change execStagingCopyDone s = _
    simp [execStagingCopyDone, hc]
  · simp [State.finishCopy, State.stagedFor, hc]

end Sys2Proof.Machine

/-! ## Firings: issue, block, missing starts and window ends (R50, R254, R270, R377, R379) -/

namespace Sys2Proof.Machine

open Sys2Proof Sys2Proof.Safety

set_option Elab.async false

/-! ### Frames of the receiver -/

theorem State.withRx_touches (s : State) (x : RxState) : Touches { parts := [.rx] } s { s with rx := x } :=
  touches_of_same fun p hp => by cases p <;> simp_all [Part.same]

theorem State.withCal_touches (s : State) (x : CalState) : Touches { parts := [.cal] } s { s with cal := x } :=
  touches_of_same fun p hp => by cases p <;> simp_all [Part.same]

theorem State.setRxChan_touches (s : State) (c : Nat) (x : RxChan) : Touches { parts := [.rx] } s (s.setRxChan c x) := s.withRx_touches _

theorem State.raiseLow_touches (s : State) (e c : Nat) : Touches { parts := [.ev] } s (s.raiseLow e c) :=
  Touches.of_parts fun p hp => by cases p <;> simp_all [Part.same, State.raiseLow]

theorem State.raiseLimited_touches (s : State) (e o p : Nat) : Touches { parts := [.ev], events := [e] } s (s.raiseLimited e o p) := by
  refine .ite ?_ Touches.refl
  have hstart : Touches { parts := [.ev], events := [e] } s (s.limiterStart (e + 512 * o)) :=
    Touches.of_parts fun p hp => by cases p <;> simp_all [Part.same]
  exact hstart.trans (State.raise_touches _ _ _)

/-- The counters of the channels' edges. -/
def edgeKeys : Nat × Nat := (Obj.HITS, Obj.HITS_EXCESS + 255)

/-- What the classification of edges touches. -/
def edgeFrame : Frame :=
  { parts := [.rx, .hist, .eng, .reg, .ev], keys := [edgeKeys, (Obj.HIT_INGEST_DROPS, Obj.HIT_INGEST_DROPS)], events := [0x0A5] }

/-- A counter of a channel's edges counts. -/
theorem State.countEdge_touches (s : State) (b : Nat) {c : Nat} (hc : c < 256) (h : Obj.HITS ≤ b ∧ b ≤ Obj.HITS_EXCESS := by decide) :
    Touches edgeFrame s (s.countWrap (b + c) 1) := by
  refine (s.set_touches _ _).mono ?_
  have hlo : Obj.HITS ≤ b + c := by omega
  have hhi : b + c ≤ Obj.HITS_EXCESS + 255 := by omega
  simp [Frame.le, edgeFrame, edgeKeys, hlo, hhi]

theorem State.mapOpen_touches (s : State) (c : Nat) (p : Nat → Bool) (f : Reel → Reel) : Touches { parts := [.hist] } s (s.mapOpen c p f) := by
  unfold State.mapOpen
  extract_lets u
  have hu : Touches { parts := [.hist] } s u := Touches.refl.foldl fun s b => .ite (s.withHist_touches _) Touches.refl
  exact .ite hu (hu.trans (State.withHist_touches _ _))

theorem State.degradeReel_touches (s : State) (c set_ : Nat) : Touches { parts := [.hist, .eng] } s (s.degradeReel c set_) := by
  unfold State.degradeReel
  extract_lets u
  have hu : Touches { parts := [.hist, .eng] } s u := (s.mapOpen_touches _ _ _).mono
  split
  · refine hu.trans (touches_of_same fun p hp => ?_)
    cases p <;> simp_all [Part.same, State.degradePosted, State.setReel]
  · exact hu

theorem State.ingestDrop_touches (s : State) (c set_ : Nat) : Touches edgeFrame s (s.ingestDrop c set_) :=
  ((s.degradeReel_touches _ _).mono.andThen (State.count_touches _ _)).andThen (State.raiseLimited_touches _ _ _ _)

theorem State.countHit_touches (s : State) (c : Nat) (h : Hit) : Touches { parts := [.hist] } s (s.countHit c h) := by
  unfold State.countHit
  split
  · exact s.mapOpen_touches _ _ _
  · exact Touches.refl

section Channel

variable {c : Nat} (hc : c < 256)
include hc

theorem State.background_touches (s : State) : Touches edgeFrame s (s.background c) :=
  s.countEdge_touches _ hc

theorem State.preStart_touches (s : State) (p : RxPulse) : Touches edgeFrame s (s.preStart c p) :=
  .ite Touches.refl ((s.countEdge_touches _ hc).andThen (State.raiseLow_touches _ _ _))

theorem State.windowEdge_touches (s : State) (p : RxPulse) (t : Take) (d : Int) : Touches edgeFrame s (s.windowEdge c p t d).1 := by
  unfold State.windowEdge
  dsimp only
  split
  · exact Touches.refl
  · split
    · exact (s.degradeReel_touches _ _).mono
    · generalize (if (s.rxChan c).hitSeq == t.seq && (s.rxChan c).hitSet == t.set_ then (s.rxChan c).hits else 0) = n
      split
      · exact (s.countEdge_touches _ hc).andThen (State.raiseLow_touches _ _ _)
      · split
        · exact (s.setRxChan_touches _ _).mono.andThen (State.raiseLow_touches _ _ _)
        · exact (s.setRxChan_touches _ _).mono

theorem State.classify_touches (s : State) (p : RxPulse) : Touches edgeFrame s (s.classify c p).1 := by
  unfold State.classify
  split
  · exact s.background_touches hc
  · split
    · exact s.preStart_touches hc p
    · split
      · exact s.windowEdge_touches hc p _ _
      · exact s.background_touches hc

theorem State.tryClassify_touches (s : State) (p : RxPulse) : Touches edgeFrame s (s.tryClassify c p).1 := by
  unfold State.tryClassify
  split
  · split
    · exact Touches.refl
    · exact s.classify_touches hc p
  · exact Touches.refl

theorem State.recordHit_touches (s : State) (h : Hit) : Touches edgeFrame s (s.recordHit c h) := by
  unfold State.recordHit
  extract_lets s1 s2 s3 x
  have h1 : Touches edgeFrame s s1 := (s.countEdge_touches _ hc).andThen (State.countHit_touches _ _ _)
  have h2 : Touches edgeFrame s s2 := .ite (h1.trans (State.countEdge_touches _ _ hc)) h1
  have h3 : Touches edgeFrame s s3 := .ite (h2.andThen (State.raiseLow_touches _ _ _)) h2
  exact .ite (h3.andThen (State.setRxChan_touches _ _ _)) (h3.trans (State.ingestDrop_touches _ _ _))

theorem State.finishPulse_touches (s : State) (p : RxPulse) : Touches edgeFrame s (s.finishPulse c p) := by
  unfold State.finishPulse
  split
  · exact s.recordHit_touches hc _
  · exact Touches.refl

theorem State.settleChannel_touches (s : State) : Touches edgeFrame s (s.settleChannel c) := by
  unfold State.settleChannel
  extract_lets ps _ u v
  have hu : Touches edgeFrame s u := (s.setRxChan_touches _ _).mono
  have hv : Touches edgeFrame s v := by
    refine hu.foldl fun s p => ?_
    have hr := s.tryClassify_touches hc p
    dsimp only
    split
    · exact hr.andThen (State.setRxChan_touches _ _ _)
    · exact hr.trans (State.finishPulse_touches hc _ _)
  split
  · exact (hv.trans (v.tryClassify_touches hc _)).andThen (State.setRxChan_touches _ _ _)
  · exact hv

end Channel

/-- A group's channels are channels. -/
theorem State.lt_of_mem_groupChannels {s : State} {g c : Nat} (h : c ∈ s.groupChannels g) : c < 256 := by
  unfold State.groupChannels at h
  split at h
  next hg =>
    simp only [List.mem_map, List.mem_range] at h
    obtain ⟨a, ha, rfl⟩ := h
    have hprod : (g + 1) * (256 / s.groups) ≤ s.groups * (256 / s.groups) := Nat.mul_le_mul_right _ hg
    have hle : s.groups * (256 / s.groups) ≤ 256 := Nat.mul_div_le 256 s.groups
    rw [Nat.add_mul, Nat.one_mul] at hprod
    omega
  next => simp at h

/-- A fold over channels whose steps stay in a frame. -/
theorem Touches.foldl_mem {F : Frame} {α : Type} {s t : State} (h : Touches F s t) {f : State → α → State} {l : List α}
    (hf : ∀ s, ∀ x ∈ l, Touches F s (f s x)) : Touches F s (l.foldl f t) := by
  induction l generalizing t with
  | nil => exact h
  | cons x l ih => exact ih (h.trans (hf t x (by simp))) fun s y hy => hf s y (by simp [hy])

theorem State.startDecided_touches (s : State) (g : Nat) : Touches edgeFrame s (s.startDecided g) :=
  Touches.refl.foldl_mem fun s _ hc => .ite Touches.refl (s.settleChannel_touches (State.lt_of_mem_groupChannels hc))

theorem State.applyDacs_touches (s : State) (g : Nat) : Touches { parts := [.rx] } s (s.applyDacs g) :=
  .ite Touches.refl (Touches.refl.foldl fun s _ => .ite (s.setRxChan_touches _ _) Touches.refl)

theorem State.keptSettings_touches (s : State) (at_ : Int) (c : Nat) : Touches { parts := [.rx] } s (s.keptSettings at_ c) := by
  unfold State.keptSettings
  extract_lets u x
  have hu : Touches { parts := [.rx] } s u := by
    unfold u State.takeTable
    exact .ite Touches.refl (s.withRx_touches _)
  split
  · exact hu.trans (State.setRxChan_touches _ _ _)
  · exact hu

/-! ### Issue and block -/

theorem State.mapTake_touches (s : State) (k : Take) (f : Take → Take) : Touches { parts := [.seq] } s (s.mapTake k f) := s.withSeq_touches _

/-- What the notes of an issue touch. -/
def issueNotesFrame : Frame :=
  { parts := [.seq, .reg, .ev, .pipe], keys := [(Obj.COL_UNDERCHARGE, Obj.CHAIN_STALE)], events := [0x062, 0x063] }

/-- The notes of an issue: undercharge, a stale chain, the first take after a takeover. -/
def State.issueNotes (s : State) (k : Take) : State := ((s.noteUndercharge k).noteStale k).firstFired k

theorem State.issueNotes_touches (s : State) (k : Take) : Touches issueNotesFrame s (s.issueNotes k) := by
  have h1 : Touches issueNotesFrame s (s.noteUndercharge k) :=
    .ite (((s.count_touches _).mono.andThen (State.raise_touches _ _ _)).andThen (State.mapTake_touches _ _ _)) Touches.refl
  have h2 : ∀ u : State, Touches issueNotesFrame u (u.noteStale k) := fun u =>
    .ite (((u.count_touches _).mono.andThen (State.raise_touches _ _ _)).andThen (State.mapTake_touches _ _ _)) Touches.refl
  have h3 : ∀ u : State, Touches issueNotesFrame u (u.firstFired k) := fun u =>
    .ite ((u.withPipe_touches _).mono.andThen (State.withPipe_touches _ _)) Touches.refl
  exact (h1.trans (h2 _)).trans (h3 _)

/-- The pulses leave, and the channels of the group keep their settings. -/
def State.issuePulses (s : State) (k : Take) : State :=
  let u : State := { s with emit := { s.emit with pulses := s.pulsesOf k ++ s.emit.pulses.filter (fun p => decide (s.nowTaps < p.fall + 64000)) } }
  if k.diag then u else (u.groupChannels k.group).foldl (fun s c => s.holdSettings (16 * k.trig) c) u

theorem State.issueTake_eq (s : State) (k : Take) :
    s.issueTake k =
      let u := (s.issueNotes k).issuePulses k
      let v := (u.mapTake k (fun x => { x with issued := true, setting := u.settingInUse k })).scheduleCapture k
      if v.matrixMode then v else v.rechargeAt (columnOf k.zone) k.lastFall := rfl

/-- The receiver's settings are kept for the start; the pulses are those before and the firing's. -/
theorem State.issuePulses_spec (s : State) (k : Take) :
    (s.issuePulses k).emit = { s.emit with pulses := s.pulsesOf k ++ s.emit.pulses.filter (fun p => decide (s.nowTaps < p.fall + 64000)) } ∧
      Touches { parts := [.emit, .rx] } s (s.issuePulses k) := by
  unfold State.issuePulses
  extract_lets _ u
  have hu : Touches { parts := [.emit, .rx] } s u := (s.withEmit_touches _).mono
  have hfold : Touches { parts := [.rx] } u ((u.groupChannels k.group).foldl (fun s c => s.holdSettings (16 * k.trig) c) u) :=
    Touches.refl.foldl fun s c => .ite Touches.refl (s.setRxChan_touches _ _)
  split
  · exact ⟨rfl, hu⟩
  · exact ⟨hfold.part .emit, hu.andThen hfold⟩

/-- The frame of the capture window's decision. -/
def captureFrame : Frame :=
  { parts := [.emit, .seq, .reg, .ev], keys := [(Obj.CAPTURE_CONFLICTS, Obj.CAPTURE_CONFLICTS)], events := [0x066] }

/-- A capture window that opens before the last one ends is given up and counted (R270). -/
theorem State.scheduleCapture_spec (s : State) (k : Take) :
    (s.scheduleCapture k).emit.pulses = s.emit.pulses ∧
      (s.scheduleCapture k).emit.captureEnd = (if k.capOpen < s.emit.captureEnd then s.emit.captureEnd else k.capEnd) ∧
      (s.scheduleCapture k).get Obj.CAPTURE_CONFLICTS = (if k.capOpen < s.emit.captureEnd then
        satAdd 0xFFFFFFFF (s.get Obj.CAPTURE_CONFLICTS) 1 else s.get Obj.CAPTURE_CONFLICTS) ∧
      Touches captureFrame s (s.scheduleCapture k) := by
  unfold State.scheduleCapture
  by_cases h : k.capOpen < s.emit.captureEnd
  · simp only [if_pos h]
    exact ⟨by simp, by simp, State.get_count_same _ _, (s.count_touches _).mono.andThen (State.raise_touches _ _ _)⟩
  · simp only [if_neg h]
    exact ⟨rfl, rfl, rfl, (s.withEmit_touches _).mono.andThen (State.mapTake_touches _ _ _)⟩

/-- A recharge starts without touching pulses or windows. -/
theorem State.rechargeAt_spec (s : State) (c : Nat) (from_ : Int) :
    (s.rechargeAt c from_).emit.pulses = s.emit.pulses ∧ (s.rechargeAt c from_).emit.captureEnd = s.emit.captureEnd ∧
      Touches { parts := [.emit] } s (s.rechargeAt c from_) := by
  unfold State.rechargeAt
  split
  · exact ⟨rfl, rfl, s.withEmit_touches _⟩
  · exact ⟨rfl, rfl, Touches.refl⟩

/-- What an issue touches. -/
def issueFrame : Frame :=
  { parts := [.emit, .seq, .rx, .pipe, .reg, .ev]
    keys := [(Obj.COL_UNDERCHARGE, Obj.CHAIN_STALE), (Obj.CAPTURE_CONFLICTS, Obj.CAPTURE_CONFLICTS)], events := [0x062, 0x063, 0x066] }

theorem State.issueTake_spec (s : State) (k : Take) :
    (s.issueTake k).emit.pulses = s.pulsesOf k ++ s.emit.pulses.filter (fun p => decide (s.nowTaps < p.fall + 64000)) ∧
      (s.issueTake k).emit.captureEnd = (if k.capOpen < s.emit.captureEnd then s.emit.captureEnd else k.capEnd) ∧
      (s.issueTake k).get Obj.CAPTURE_CONFLICTS = (if k.capOpen < s.emit.captureEnd then
        satAdd 0xFFFFFFFF (s.get Obj.CAPTURE_CONFLICTS) 1 else s.get Obj.CAPTURE_CONFLICTS) ∧
      Touches issueFrame s (s.issueTake k) := by
  have hnotes := s.issueNotes_touches k
  obtain ⟨hemit, hpulses⟩ := (s.issueNotes k).issuePulses_spec k
  have hnemit : (s.issueNotes k).emit = s.emit := hnotes.part .emit
  have hnnow : (s.issueNotes k).now = s.now := hnotes.part .now
  have hnget : (s.issueNotes k).get Obj.EMIT_MODE = s.get Obj.EMIT_MODE := hnotes.get _
  have hof : (s.issueNotes k).pulsesOf k = s.pulsesOf k := by
    simp [State.pulsesOf, State.trigOf, State.matrixMode, State.getN, hnget]
  have htaps : (s.issueNotes k).nowTaps = s.nowTaps := by rw [State.nowTaps, hnnow, State.nowTaps]
  rw [hnemit, hof, htaps] at hemit
  rw [State.issueTake_eq]
  generalize hu : (s.issueNotes k).issuePulses k = u at hemit hpulses
  have hutouch : Touches issueFrame s u := hnotes.mono.andThen hpulses
  extract_lets _ v
  obtain ⟨hvp, hve, hvc, hvt⟩ := (u.mapTake k (fun x => { x with issued := true, setting := u.settingInUse k })).scheduleCapture_spec k
  have hconf : u.get Obj.CAPTURE_CONFLICTS = s.get Obj.CAPTURE_CONFLICTS := (hpulses.get _).trans (hnotes.get _)
  have hv : v.emit.pulses = s.pulsesOf k ++ s.emit.pulses.filter (fun p => decide (s.nowTaps < p.fall + 64000)) ∧
      v.emit.captureEnd = (if k.capOpen < s.emit.captureEnd then s.emit.captureEnd else k.capEnd) ∧
      v.get Obj.CAPTURE_CONFLICTS = (if k.capOpen < s.emit.captureEnd then
        satAdd 0xFFFFFFFF (s.get Obj.CAPTURE_CONFLICTS) 1 else s.get Obj.CAPTURE_CONFLICTS) := by
    refine ⟨hvp.trans ?_, hve.trans ?_, hvc.trans ?_⟩
    · exact congrArg EmitterState.pulses hemit
    · simp only [State.mapTake, hemit]
    · change (if k.capOpen < u.emit.captureEnd then satAdd 0xFFFFFFFF (u.get Obj.CAPTURE_CONFLICTS) 1 else u.get Obj.CAPTURE_CONFLICTS) = _
      simp only [hemit, hconf]
  have hvtouch : Touches issueFrame s v := (hutouch.andThen (State.mapTake_touches _ _ _)).andThen hvt
  obtain ⟨hvpulses, hvend, hvconf⟩ := hv
  obtain ⟨hrp, hre, hrt⟩ := v.rechargeAt_spec (columnOf k.zone) k.lastFall
  split
  · exact ⟨hvpulses, hvend, hvconf, hvtouch⟩
  · exact ⟨hrp.trans hvpulses, hre.trans hvend, (hrt.get _).trans hvconf, hvtouch.andThen hrt⟩

/-- A withdrawn charge is none any more. -/
theorem State.uncharge_spec (s : State) (seq epoch group : Nat) (trig : Int) :
    (∀ c ∈ (s.uncharge seq epoch group trig).safety.charges, c.isOf seq epoch group trig = false) ∧
      Touches { parts := [.safety] } s (s.uncharge seq epoch group trig) := by
  unfold State.uncharge
  extract_lets mine u
  have hu : Touches { parts := [.safety] } s u := Touches.refl.foldl fun s _ => s.withSafety_touches _
  refine ⟨fun c hc => ?_, hu.trans (State.withSafety_touches _ _)⟩
  simpa using (List.mem_filter.1 hc).2

/-- What a block touches. -/
def blockFrame : Frame := { edgeFrame with parts := [.seq, .safety] ++ edgeFrame.parts }

/-- A blocked firing has no charge, and no pulse leaves (R50, R312). -/
theorem State.blockTake_spec (s : State) (k : Take) :
    (∀ c ∈ (s.blockTake k).safety.charges, c.isOf k.seq k.epoch k.group k.trig = false) ∧ Touches blockFrame s (s.blockTake k) := by
  unfold State.blockTake
  extract_lets u v
  have hu : Touches blockFrame s u := (s.mapTake_touches _ _).mono
  obtain ⟨hcharges, hun⟩ := u.uncharge_spec k.seq k.epoch k.group k.trig
  have hdrop : Touches { parts := [.seq] } (u.uncharge k.seq k.epoch k.group k.trig) v := .ite (State.withSeq_touches _ _) Touches.refl
  have hv : Touches blockFrame s v := (hu.andThen hun).andThen hdrop
  have hvsafe : ∀ c ∈ v.safety.charges, c.isOf k.seq k.epoch k.group k.trig = false := by
    rw [hdrop.part .safety]
    exact hcharges
  have hsettle : Touches edgeFrame v ((v.startDecided k.group).applyDacs k.group) :=
    (v.startDecided_touches _).andThen (State.applyDacs_touches _ _)
  split
  · exact ⟨hvsafe, hv⟩
  · refine ⟨?_, hv.andThen hsettle⟩
    rw [hsettle.part .safety]
    exact hvsafe

/-! ### The firings of a cycle -/

/-- What a missing start touches. -/
def missingFrame : Frame :=
  { edgeFrame with
    parts := .seq :: edgeFrame.parts, keys := (Obj.START_MISSING, Obj.START_MISSING) :: edgeFrame.keys, events := 0x060 :: edgeFrame.events }

theorem execStartMissing_of_some {s : State} {k : Take}
    (h : s.firstFiring (fun t => !t.diag && t.issued && t.drives && t.start.isNone && decide (t.trig + 128 < s.cycleEnd)) = some k) :
    ∃ t, exec .startMissing s = .next t ∧ t.get Obj.START_MISSING = satAdd 0xFFFFFFFF (s.get Obj.START_MISSING) 1 ∧
      raisedCount t 0x060 = raisedCount s 0x060 + 1 ∧ Touches missingFrame s t := by
  have harm : exec .startMissing s = .next
      (let u := (((s.mapTake k (fun x => { x with start := some (16 * k.trig) })).count Obj.START_MISSING).raise 0x060 0).degradeTake k
       ((u.groupChannels k.group).foldl (fun s c => s.keptSettings (16 * k.trig) c) u).startDecided k.group) := by
    change execStartMissing s = _
    unfold execStartMissing
    rw [h]
  refine ⟨_, harm, ?_⟩
  extract_lets u
  have hu : u.get Obj.START_MISSING = satAdd 0xFFFFFFFF (s.get Obj.START_MISSING) 1 ∧ raisedCount u 0x060 = raisedCount s 0x060 + 1 ∧
      Touches missingFrame s u :=
    ⟨State.get_count_same _ _, raisedCount_raise_same _ _ _,
      (((s.mapTake_touches _ _).mono.andThen (State.count_touches _ _)).andThen (State.raise_touches _ _ _)).andThen (State.withHist_touches _ _)⟩
  have hrest : Touches edgeFrame u (((u.groupChannels k.group).foldl (fun s c => s.keptSettings (16 * k.trig) c) u).startDecided k.group) :=
    (Touches.refl.foldl fun s c => (s.keptSettings_touches _ c).mono).trans (State.startDecided_touches _ _)
  exact ⟨(hrest.get _).trans hu.1, (hrest.raised _).trans hu.2.1, hu.2.2.andThen hrest⟩

/-- What the end of a window touches beside the takes. -/
def windowFrame : Frame := { parts := [.hist, .cal, .rx, .reg, .ev], keys := [(Obj.SHORT_REELS, Obj.SHORT_REELS)], events := [0x047] }

theorem execTakeWindowClose_of_some {s : State} {k : Take}
    (h : s.firstFiring (fun t => !t.diag && !t.closed && (t.start.isSome || !t.drives) && decide (t.windowEnd < s.cycleEnd)) = some k) :
    ∃ t, exec .takeWindowClose s = .next t ∧ Touches windowFrame (s.mapTake k (fun x => { x with closed := true })) t := by
  have harm : exec .takeWindowClose s = .next
      (let opened := k.drives && k.start.isSome
       let u := (s.mapTake k (fun x => { x with closed := true })).mapSet k.set_ (fun r => r.windowEnded opened k.window k.windowEnd)
       let v := if opened then
         { u with cal := { u.cal with windowEnd := tabPut (fun _ => -320) u.cal.windowEnd k.group k.windowEnd } } else u
       (v.closeIfDue k.group).applyDacs k.group) := by
    change execTakeWindowClose s = _
    unfold execTakeWindowClose
    rw [h]
  refine ⟨_, harm, ?_⟩
  extract_lets opened u _ v
  have hu : Touches windowFrame (s.mapTake k (fun x => { x with closed := true })) u := (State.withHist_touches _ _).mono
  have hv : Touches windowFrame (s.mapTake k (fun x => { x with closed := true })) v := .ite (hu.andThen (State.withCal_touches _ _)) hu
  have hclose : Touches windowFrame v (v.closeIfDue k.group) := by
    unfold State.closeIfDue
    split
    · exact .ite (v.closeEarly_touches _).mono Touches.refl
    · exact Touches.refl
  exact (hv.trans hclose).andThen (State.applyDacs_touches _ _)

/-- Settles O32: the due firing leaves by `issueNotes` and the closing of its conflicts, or its charge goes. -/
theorem firingsFollowTheGate : Obligations.FiringsFollowTheGate := by
  intro s due silent past
  refine ⟨fun h => ?_, fun k h hg hs => ?_, fun k h hg => ?_, fun h => ?_, fun k h => ?_, fun h => ?_, fun k h => ?_⟩
  · change execTriggerIssue s = _
    unfold execTriggerIssue
    rw [show s.firstFiring _ = none from h]
  · have harm : exec .triggerIssue s = .next (s.issueTake k) := by
      change execTriggerIssue s = _
      unfold execTriggerIssue
      rw [show s.firstFiring _ = some k from h]
      simp [hg, hs]
    obtain ⟨hpulses, hend, hconf, htouch⟩ := s.issueTake_spec k
    exact ⟨_, harm, hpulses, hend, hconf, htouch.part .safety, onlyParts_mono htouch.parts (by decide)⟩
  · have harm : exec .triggerIssue s = .next (s.blockTake k) := by
      change execTriggerIssue s = _
      unfold execTriggerIssue
      rw [show s.firstFiring _ = some k from h]
      rcases hg with hg | hg <;> simp [hg]
    obtain ⟨hcharges, htouch⟩ := s.blockTake_spec k
    exact ⟨_, harm, congrArg EmitterState.pulses (htouch.part .emit), hcharges, onlyParts_mono htouch.parts (by decide)⟩
  · change execStartMissing s = _
    unfold execStartMissing
    rw [show s.firstFiring _ = none from h]
  · obtain ⟨t, ht, hcount, hraised, htouch⟩ := execStartMissing_of_some h
    exact ⟨t, ht, hcount, hraised, onlyParts_mono htouch.parts (by decide)⟩
  · change execTakeWindowClose s = _
    unfold execTakeWindowClose
    rw [show s.firstFiring _ = none from h]
  · obtain ⟨t, ht, htouch⟩ := execTakeWindowClose_of_some h
    refine ⟨t, ht, congrArg SequencerState.takes (htouch.part .seq), ?_⟩
    exact onlyParts_mono (onlyParts_trans (s.mapTake_touches _ _).parts htouch.parts) (by decide)

end Sys2Proof.Machine

/-! ## Line scan, column sinks, the chain and its pins (R256 to R265) -/

namespace Sys2Proof.Machine

open Sys2Proof Sys2Proof.Safety

set_option Elab.async false

/-! ### Matrix intervals -/

theorem tabGet_map_snd {α : Type} (d : Nat → α) (f : α → α) (hf : ∀ k, f (d k) = d k) (t : Tab α) (k : Nat) :
    tabGet d (t.map fun e => (e.1, f e.2)) k = f (tabGet d t k) := by
  induction t with
  | nil => exact (hf k).symm
  | cons e rest ih =>
    by_cases h : e.1 = k
    · simp [tabGet, h]
    · simpa [tabGet, h] using ih

/-- What an interval does to a column's recharge. -/
def Column.paused (m : MatrixInterval) (x : Column) : Column :=
  { x with endAt := x.endAt.map (fun t => if m.start < t then t + (m.stop - m.start) else t) }

theorem State.column_pauseRecharge (s : State) (m : MatrixInterval) (c : Nat) : (s.pauseRecharge m).column c = (s.column c).paused m :=
  tabGet_map_snd (fun _ => Column.init) (Column.paused m) (fun _ => rfl) s.emit.columns c

theorem State.column_setColumn_same (s : State) (c : Nat) (x : Column) : (s.setColumn c x).column c = x :=
  tabGet_put_same _ _ _ _

theorem State.column_setColumn_other (s : State) {c d : Nat} (x : Column) (h : d ≠ c) : (s.setColumn c x).column d = s.column d :=
  tabGet_put_other _ _ _ h

theorem State.setColumn_touches (s : State) (c : Nat) (x : Column) : Touches { parts := [.emit] } s (s.setColumn c x) :=
  s.withEmit_touches _

theorem State.recharge_touches (s : State) (c : Nat) (start : Int) (step : Nat) :
    Touches { parts := [.emit] } s (s.recharge c start step) :=
  .ite (s.setColumn_touches _ _) .refl

/-- The state as a matrix interval ends, before the recharge of its column. -/
def State.lowered (s : State) (m : MatrixInterval) : State :=
  { s with emit := { s.emit with matrixNow := none, rowHigh := none, matrix := s.emit.matrix.filter (· != m) } }

theorem State.recharge_column (s : State) (m : MatrixInterval) :
    let t := (s.lowered m).recharge m.col m.stop ((s.lowered m).columnStep m.col)
    (s.energySource = 0 → (t.column m.col).endAt = some (m.stop + 64 * s.get Obj.COL_CHARGE_TIME) ∧
      (t.column m.col).drive = s.getN (Obj.COL_SINK_GLOBAL + (t.column m.col).step) * (s.columnSetting m.col).toNat) ∧
    (∀ c, c ≠ m.col → t.column c = s.column c) := by
  intro t
  constructor
  · intro h
    have ht : t = (s.lowered m).setColumn m.col _ := if_pos h
    rw [ht, State.column_setColumn_same]
    exact ⟨rfl, rfl⟩
  · intro c hc
    change (State.recharge _ _ _ _).column c = _
    unfold State.recharge
    split
    · rw [State.column_setColumn_other _ _ hc]
      rfl
    · rfl

theorem State.recharge_rows (s : State) (c : Nat) (start : Int) (step : Nat) :
    (s.recharge c start step).emit.rowHigh = s.emit.rowHigh ∧ (s.recharge c start step).emit.matrixNow = s.emit.matrixNow ∧
      (s.recharge c start step).emit.matrix = s.emit.matrix := by
  unfold State.recharge
  split <;> exact ⟨rfl, rfl, rfl⟩

/-! ### The pins -/

theorem State.pins_released {s : State} (h : s.pinsReleased = true) (i : Nat) (t : Int) :
    s.trigPin i t = .hiZ ∧ s.rowPin i = .hiZ ∧ s.colPin i = .hiZ ∧ s.chainClk = .hiZ ∧ s.chainDout = .hiZ ∧ s.chainLat = .hiZ :=
  ⟨if_pos h, if_pos h, if_pos h, if_pos h, if_pos h, if_pos h⟩

theorem State.trigPin_high {s : State} (h : s.pinsReleased = false) {p : TrigPulse} (hp : p ∈ s.emit.pulses) {t : Int} (hrise : p.rise ≤ t)
    (hfall : t < p.fall) : s.trigPin p.out t = .high := by
  have hany : s.emit.pulses.any (fun q => q.out == p.out && decide (q.rise ≤ t ∧ t < q.fall)) = true :=
    List.any_eq_true.2 ⟨p, hp, by simp [hrise, hfall]⟩
  rw [State.trigPin, h, hany]
  rfl

theorem State.trigPin_low {s : State} (h : s.pinsReleased = false) {i : Nat} {t : Int}
    (hout : ∀ p ∈ s.emit.pulses, p.out = i → t < p.rise ∨ p.fall ≤ t) : s.trigPin i t = .low := by
  have hany : s.emit.pulses.any (fun q => q.out == i && decide (q.rise ≤ t ∧ t < q.fall)) = false := by
    refine List.any_eq_false.2 fun p hp hin => ?_
    obtain ⟨heq, hrise, hfall⟩ : p.out = i ∧ p.rise ≤ t ∧ t < p.fall := by simpa using hin
    have := hout p hp heq
    omega
  rw [State.trigPin, h, hany]
  rfl

theorem State.rowPin_of_some {s : State} (h : s.pinsReleased = false) {m : MatrixInterval} (hm : s.emit.rowHigh = some m) (r : Nat) :
    s.rowPin r = if m.row = r then .high else .low := by
  simp [State.rowPin, h, hm]

/-- Settles O33: the intervals by their commands, the pins by the branches of their definitions. -/
theorem lineScanAndColumnsKeepTheirIntervals : Obligations.LineScanAndColumnsKeepTheirIntervals := by
  intro s
  refine ⟨fun m rest hnow hm hlt => ?_, fun m hm hlt => ?_, fun c e he hlt => ?_, fun c e he hle => ?_,
    fun h i t => State.pins_released h i t, fun h => ⟨fun p hp t => State.trigPin_high h hp, fun i t => State.trigPin_low h, fun hr r => ?_,
      fun m hm => ⟨?_, fun r hr => ?_⟩, fun hg => ⟨?_, fun c => ?_⟩, fun m hg hm c => ?_, fun hg hm he c e hc => ?_⟩⟩
  · have harm : exec .prechargeStart s =
        .next (({ s with emit := { s.emit with matrixNow := some m, rowHigh := if s.gateOpen then some m else none } } : State).pauseRecharge m) := by
      change execPrechargeStart s = _
      simp [execPrechargeStart, hnow, hm, hlt]
    refine ⟨_, harm, rfl, rfl, rfl, fun c e he => ?_, (s.withEmit_touches _).parts⟩
    rw [State.column_pauseRecharge]
    exact congrArg (Option.map _) he
  · have harm : exec .matrixIntervalEnd s = .next ((s.lowered m).recharge m.col m.stop ((s.lowered m).columnStep m.col)) := by
      change execMatrixIntervalEnd s = _
      simp [execMatrixIntervalEnd, hm, hlt, State.lowered]
    obtain ⟨hrow, hnow, hmatrix⟩ := (s.lowered m).recharge_rows m.col m.stop ((s.lowered m).columnStep m.col)
    refine ⟨_, harm, hrow, hnow, ?_, ((s.withEmit_touches _).trans (State.recharge_touches _ _ _ _)).parts, s.recharge_column m⟩
    rw [hmatrix]
    simp [State.lowered]
  · have harm : exec (.colRechargeEnd c) s = .next (s.setColumn c { s.column c with endAt := none }) := by
      change execColRechargeEnd c s = _
      simp [execColRechargeEnd, he, hlt]
    refine ⟨_, harm, ?_, ?_, fun d hd => s.column_setColumn_other _ hd, (s.setColumn_touches _ _).parts⟩ <;>
      rw [State.column_setColumn_same]
  · change execColRechargeEnd c s = _
    simp [execColRechargeEnd, he, Int.not_lt.2 hle]
  · simp [State.rowPin, h, hr]
  · rw [State.rowPin_of_some h hm, if_pos rfl]
  · rw [State.rowPin_of_some h hm, if_neg (Ne.symm hr)]
  · simp [State.chainLat, State.chainPin, h, hg]
  · simp [State.colPin, State.colIdle, h, hg]
  · simp [State.colPin, h, hg, hm]
  · simp [State.colPin, State.colOpen, h, hg, hm, he, hc]

/-! ### The chain -/

theorem tabGet_foldl_range_put {α : Type} [DecidableEq α] (d : Nat → α) (f : Nat → α) (t : Tab α) {i n : Nat} (h : i < n) :
    tabGet d ((List.range n).foldl (fun t i => tabPut d t i (f i)) t) i = f i := by
  induction n with
  | zero => omega
  | succ n ih =>
    rw [List.range_succ, List.foldl_append, List.foldl_cons, List.foldl_nil]
    by_cases hin : i = n
    · rw [hin, tabGet_put_same]
    · rw [tabGet_put_other _ _ _ hin, ih (by omega)]

theorem State.startFrame_touches (s : State) : Touches { parts := [.emit] } s s.startFrame := .ite (s.withEmit_touches _) .refl

/-- Settles O34: the branches of the three chain commands. -/
theorem chainFramesLatchAndReadBack : Obligations.ChainFramesLatchAndReadBack := by
  intro s f hf
  refine ⟨fun got hs hr hbad => ?_, fun got hs => ?_, fun hs hl hr hb hg => ?_, fun w hw hr => ?_, fun h => ?_⟩
  · have harm : exec (.chainFrameShiftDone got) s =
        .next { s with emit := { s.emit with frame := some { f with shifted := true }, previous := f.words, badFrames := 0 } } := by
      change execChainFrameShiftDone got s = _
      simp [execChainFrameShiftDone, hf, hs, hr, hbad, State.readbackErrors]
    exact ⟨_, harm, rfl, (s.withEmit_touches _).parts⟩
  · change execChainFrameShiftDone got s = _
    simp [execChainFrameShiftDone, hf, hs]
  · have harm : exec .chainLatch s = .next { s with emit := { s.emit with
        latched := (List.range f.words.length).foldl (fun t i =>
          tabPut (fun _ => ChainWord.zero) t i (f.words.getD i ChainWord.zero)) s.emit.latched,
        frame := some { f with latAt := some s.now } } } := by
      change execChainLatch s = _
      simp [execChainLatch, hf, hs, hl, hr, hb, hg]
    exact ⟨_, harm, rfl, fun i hi => tabGet_foldl_range_put _ _ _ hi, (s.withEmit_touches _).parts⟩
  · have hfall : s.chainFall = (({ s with emit := { s.emit with frame := none } } : State).countWrap Obj.CHAIN_FRAMES 1).startFrame := by
      simp [State.chainFall, hf, hw, hr]
    rw [hfall, (State.startFrame_touches _).get Obj.CHAIN_FRAMES, State.countWrap, State.get_set_same]
    rfl
  · change execChainLatch s = _
    rcases h with h | h <;> simp [execChainLatch, hf, h]

end Sys2Proof.Machine

/-! ## Captures (R269): a discarded capture is not always one more in its count

A run of a calibration job names its unit by a number. In a state whose run names a unit that no device has, the outcome that the job's end
writes lands on another object; a discarded capture whose provisional charge reaches a limit trips, and the trip ends the job. -/

namespace Sys2Proof.Machine

open Sys2Proof Sys2Proof.Safety

set_option Elab.async false

/-- A firing whose capture window has closed within the settling of a gain switch. -/
def settlingTake : Take :=
  { State.reset.takeRecord ⟨0, 0, 0, false, 0, 0, 0, 0⟩ 0 0 0 with capOpen := 0, capEnd := 0, captured := true }

/-- An armed device without limits; its RANGE_OFFSET job has a run whose unit's outcome would be at FC_GAIN_DISCARDS. -/
def settlingState : State :=
  let s := State.reset.setJob 1 { State.reset.job 1 with kind := .calOffset, state := .running }
  { s with
    blk := [(Obj.ACC_LIMITS, [])]
    seq := { s.seq with takes := [settlingTake] }
    safety := { s.safety with
      state := .armed
      charges := [⟨settlingTake.seq, settlingTake.epoch, settlingTake.group, 0, settlingTake.trig, 0, false, []⟩] }
    hk := { s.hk with gainAt := [(2, some 0)] }
    cal := { s.cal with runs := [⟨3, Obj.FC_GAIN_DISCARDS - Obj.AUX_CAL_STATUS + 256, 1, 0, [], false, [], false, [], [], []⟩] } }

/-- The capture is the one that ends, its samples are discarded, and the count does not follow. -/
theorem exec_settlingState :
    settlingState.firstFiring (fun t => t.captured && !t.captureDone && decide (t.capEnd < settlingState.cycleEnd)) = some settlingTake ∧
      settlingTake.blocked = false ∧ settlingState.gainSettling settlingTake = true ∧
      (match exec (.captureComplete ⟨[], [], [], [], false⟩) settlingState with
        | .next t => satAdd 0xFFFFFFFF (settlingState.get Obj.FC_GAIN_DISCARDS) 1 == t.get Obj.FC_GAIN_DISCARDS
        | _ => true) = false := by
  decide +kernel

/-- Refutes O35: where a calibration run names a unit that no device has, the trip of the provisional charge overwrites FC_GAIN_DISCARDS. -/
theorem not_capturesFeedLoopAndVerdicts : ¬ Obligations.CapturesFeedLoopAndVerdicts := by
  intro h
  obtain ⟨hfirst, hblocked, hsettles, hbad⟩ := exec_settlingState
  obtain ⟨-, -, hgain, -⟩ := h settlingState ⟨[], [], [], [], false⟩
  obtain ⟨t, ht, -, hcount⟩ := hgain settlingTake hfirst hblocked hsettles
  rw [ht] at hbad
  simp [hcount] at hbad

end Sys2Proof.Machine

/-! ## The idle step (R663, R765): CLOCK_INCREMENT is read after the cycle's events are handled

An event's counter is found by its number. In a state that holds an event whose number no source has, the counter that handling it
increments is another object; at CLOCK_INCREMENT, local time no longer advances by the increment that stood there before the step. -/

namespace Sys2Proof.Machine

open Sys2Proof Sys2Proof.Safety

set_option Elab.async false

/-- A running device that holds one raised event, whose counter would be at CLOCK_INCREMENT. -/
def strayEventState : State :=
  { State.reset with
    reset_ := { State.reset.reset_ with phase := .running }
    ev := { State.reset.ev with raised := [⟨Obj.CLOCK_INCREMENT - Obj.EVENT_COUNT_HI + 256, 0, false, 0, 0⟩] } }

theorem step_strayEventState :
    (match step strayEventState with
      | .next t => t.time.total == (strayEventState.time.advance (strayEventState.getN Obj.CLOCK_INCREMENT)).total
      | _ => true) = false := by
  decide +kernel

/-- Refutes O2: the event of the cycle increments CLOCK_INCREMENT before local time advances by it. -/
theorem not_emptyQueueIsOneCycle : ¬ Obligations.EmptyQueueIsOneCycle := by
  intro h
  obtain ⟨t, ht, -, -, hrest⟩ := h strayEventState rfl
  obtain ⟨hadvance, -⟩ := hrest rfl
  have hbad := step_strayEventState
  rw [ht] at hbad
  simp [hadvance (by decide)] at hbad

end Sys2Proof.Machine

/-! ## Faults of the receiver, and hits on their way to their bins (R366 to R428) -/

namespace Sys2Proof.Machine

open Sys2Proof Sys2Proof.Safety

set_option Elab.async false

/-! ### A unit's calibration is interrupted -/

/-- What an interrupted calibration touches. -/
def interruptFrame : Frame :=
  { parts := [.cal, .jobs, .reg, .ev], above := some Obj.CAL_STATUS, events := [0x101, 0x160, 0x161, 0x162] }

theorem State.setRunningBit_touches (s : State) (u : Nat) (x : Bool) : Touches interruptFrame s (s.setRunningBit u x) := by
  refine (s.set_touches _ _).mono ?_
  simp [Frame.le, interruptFrame, calKey_ge]

theorem State.rejectUnit_touches (s : State) (r : CalRun) (u code : Nat) : Touches interruptFrame s (s.rejectUnit r u code) := by
  unfold State.rejectUnit
  extract_lets s1 _ s2
  have h1 : Touches interruptFrame s s1 := (s.setOutcome_touches _ _ _).mono
  have h2 : Touches interruptFrame s s2 := .ite (h1.andThen (s1.withCal_touches _)) (h1.andThen (s1.withCal_touches _))
  exact h2.andThen (State.raise_touches _ _ _)

theorem State.startRun_touches (s : State) (kind u slot : Nat) : Touches interruptFrame s (s.startRun kind u slot) := by
  unfold State.startRun
  extract_lets r _ s1
  have h1 : Touches interruptFrame s s1 := (s.withCal_touches _).mono
  exact .ite (h1.foldl fun s u => s.setRunningBit_touches u true) (h1.trans (s1.setRunningBit_touches u true))

theorem State.fillRuns_touches (s : State) (slot kind : Nat) : Touches interruptFrame s (s.fillRuns slot kind) :=
  Touches.foldl (s.withCal_touches _).mono fun s w => s.startRun_touches kind w.2 slot

theorem State.calJobCheck_touches (s : State) (slot : Nat) : Touches interruptFrame s (s.calJobCheck slot) := by
  unfold State.calJobCheck
  extract_lets s1 code _ s2
  have h1 : Touches interruptFrame s s1 := s.fillRuns_touches _ _
  exact .ite .refl (.ite h1 ((h1.andThen (s1.withCal_touches _)).andThen (State.finishJob_touches _ _ _ _)))

theorem State.interruptUnit_touches (s : State) (u : Nat) : Touches interruptFrame s (s.interruptUnit u) := by
  unfold State.interruptUnit
  split
  · unfold State.interruptOffset
    split
    · exact .refl
    · exact .ite (s.rejectUnit_touches _ _ _) .refl
  · exact ((s.withCal_touches _).mono.trans (State.rejectUnit_touches _ _ _ _)).trans (State.calJobCheck_touches _ _)

theorem State.interruptUnits_touches (s : State) (us : List Nat) : Touches interruptFrame s (us.foldl (fun s u => s.interruptUnit u) s) :=
  Touches.refl.foldl fun s u => s.interruptUnit_touches u

theorem State.setDue_touches (s : State) (u bit : Nat) :
    Touches { parts := [.reg, .ev], above := some Obj.CAL_STATUS, events := [0x102] } s (s.setDue u bit) := by
  refine .ite .refl (((s.set_touches _ _).mono ?_).andThen (State.raise_touches _ _ _))
  simp [Frame.le, calKey_ge]

/-- The objects below the calibration's keep their values. -/
theorem Touches.get_below {s t : State} (h : Touches interruptFrame s t) {k : Nat} (hk : k < Obj.CAL_STATUS) : t.get k = s.get k :=
  h.keys k (by simpa [Frame.key, interruptFrame] using hk)

/-- A flag of a block clears, is reported with the lowest block, and its units are interrupted. -/
def State.loseBlock (s : State) (k e b : Nat) (us : List Nat) : State := us.foldl (fun s u => s.interruptUnit u) ((s.set k 0).raiseLow e b)

theorem State.loseBlock_spec (s : State) {k : Nat} (e b : Nat) (us : List Nat) (hk : k < Obj.CAL_STATUS) :
    (s.loseBlock k e b us).get k = 0 ∧ (s.loseBlock k e b us).rx = s.rx ∧ (s.loseBlock k e b us).hist = s.hist ∧
      (s.loseBlock k e b us).safety = s.safety := by
  have h := ((s.set k 0).raiseLow e b).interruptUnits_touches us
  refine ⟨?_, h.part .rx, h.part .hist, h.part .safety⟩
  calc (s.loseBlock k e b us).get k = (s.set k 0).get k := h.get_below hk
    _ = 0 := State.get_set_same _ _ _

/-! ### The background rates -/

/-- The rate of a channel: 100 times what its counter gained since the last interval. -/
def State.bgRateOf (s : State) (c : Nat) : Nat := (s.getN (Obj.BACKGROUND + c) + 2 ^ 32 - (s.rxChan c).bgAt) % 2 ^ 32 * 100

theorem State.bgRate_spec (s : State) (c : Nat) :
    (s.bgRate c).get (Obj.RX_BG_RATE + c) = s.bgRateOf c ∧ (∀ k, k ≠ Obj.RX_BG_RATE + c → (s.bgRate c).get k = s.get k) ∧
      (∀ d, d ≠ c → (s.bgRate c).rxChan d = s.rxChan d) ∧ onlyParts (.rx :: reporting) s (s.bgRate c) ∧
      (s.bgRate c).rx.bgIntervalAt = s.rx.bgIntervalAt := by
  unfold State.bgRate
  extract_lets n x rate u v
  have hu : Touches { parts := [.rx] } s u := .ite .refl (s.setRxChan_touches _ _)
  have hchan : ∀ d, d ≠ c → u.rxChan d = s.rxChan d := fun d hd => by
    simp only [u]
    split
    · rfl
    · exact s.rxChan_set_other _ hd
  have hat : u.rx.bgIntervalAt = s.rx.bgIntervalAt := by
    simp only [u]
    split <;> rfl
  have hw : Touches { parts := [.ev] } v (if v.rxEnabled c && decide (v.getN Obj.RX_BG_ALARM < rate) then v.raiseLow 0x083 c else v) :=
    .ite (v.raiseLow_touches _ _) .refl
  have hparts : onlyParts (([.rx] ++ [.reg]) ++ [.ev]) s _ := onlyParts_trans (onlyParts_trans hu.parts (u.set_touches _ _).parts) hw.parts
  refine ⟨?_, fun k hk => ?_, fun d hd => ?_, onlyParts_mono hparts (by decide), ?_⟩
  · rw [hw.keys _ rfl]
    exact State.get_set_same _ _ _
  · rw [hw.keys _ rfl, State.get_set_other _ _ hk]
    exact hu.keys k rfl
  · exact (congrArg (fun r : RxState => tabGet (fun _ => RxChan.init) r.chans d) (hw.part .rx)).trans (hchan d hd)
  · rw [hw.part .rx]
    exact hat

/-- The rates of the channels below a number. -/
theorem State.bgRates_spec (s : State) {n : Nat} (hn : n ≤ 256) :
    let t := (List.range n).foldl (fun s c => s.bgRate c) s
    (∀ c, c < n → t.get (Obj.RX_BG_RATE + c) = s.bgRateOf c) ∧ (∀ k, k < Obj.RX_BG_RATE → t.get k = s.get k) ∧
      (∀ d, n ≤ d → t.rxChan d = s.rxChan d) ∧ onlyParts (.rx :: reporting) s t ∧ t.rx.bgIntervalAt = s.rx.bgIntervalAt := by
  induction n with
  | zero => exact ⟨fun c hc => absurd hc (by omega), fun _ _ => rfl, fun _ _ => rfl, onlyParts_refl _ _, rfl⟩
  | succ n ih =>
    intro t
    obtain ⟨hrate, hget, hchan, hparts, hat⟩ := ih (by omega)
    have ht : t = ((List.range n).foldl (fun s c => s.bgRate c) s).bgRate n := by simp [t, List.range_succ]
    generalize (List.range n).foldl (fun s c => s.bgRate c) s = u at *
    obtain ⟨hrate', hget', hchan', hparts', hat'⟩ := u.bgRate_spec n
    rw [ht]
    refine ⟨fun c hc => ?_, fun k hk => ?_, fun d hd => ?_, onlyParts_mono (onlyParts_trans hparts hparts') (by decide), hat'.trans hat⟩
    · by_cases hcn : c = n
      · rw [hcn, hrate']
        have hback : u.get (Obj.BACKGROUND + n) = s.get (Obj.BACKGROUND + n) := hget _ (by unfold Obj.BACKGROUND Obj.RX_BG_RATE; omega)
        simp [State.bgRateOf, State.getN, hback, hchan n le_rfl]
      · rw [hget' _ (by omega), hrate c (by omega)]
    · rw [hget' _ (by omega), hget k hk]
    · rw [hchan' d (by omega), hchan d (by omega)]

/-- Settles O46: each rule by its command's branch; an interrupted calibration leaves the receiver as it is. -/
theorem receiverFaultsAreHeldPerBlock : Obligations.ReceiverFaultsAreHeldPerBlock := by
  intro s
  refine ⟨fun b hr hb => ?_, fun b hr => if_pos hr, fun d hr hd => ?_, fun d hr hd => ?_, fun c w hw hlo hst hen hre => ?_,
    fun c w hw hst hre => ?_, fun hr hre => ?_⟩
  · have hb' : b.val < 16 := b.isLt
    obtain ⟨hget, hrx, hhist, hsafety⟩ := s.loseBlock_spec (k := Obj.RXREF_OK + b) 0x085 b (blockChannels b)
      (by unfold Obj.RXREF_OK Obj.CAL_STATUS; omega)
    exact ⟨_, if_pos (by simp [hr, hb]), hget, hrx, hhist, hsafety⟩
  · have hd' : d.val < 18 := d.isLt
    obtain ⟨hget, hrx, hhist, -⟩ := s.loseBlock_spec (k := Obj.TDC_LOCK + d) 0x087 d (dllUnits d)
      (by unfold Obj.TDC_LOCK Obj.CAL_STATUS; omega)
    exact ⟨_, if_pos (by simp [hr, hd]), hget, hrx, hhist⟩
  · have hd' : d.val < 18 := d.isLt
    obtain ⟨u, hu⟩ : ∃ u : State, u = { s.set (Obj.TDC_LOCK + d) 1 with
        rx := { s.rx with dllSeen := tabPut (fun _ => false) s.rx.dllSeen d true } } := ⟨_, rfl⟩
    have harm : exec (.dllLockHeld d) s = .next (if tabGet (fun _ => false) s.rx.dllSeen d && u.getB Obj.CAL_ONLINE then
        (dllUnits d).foldl (fun s u => s.setDue u 15) u else u) := by
      rw [hu]
      exact if_pos (by simp [hr, hd])
    have hdue : Touches { parts := [.reg, .ev], above := some Obj.CAL_STATUS, events := [0x102] } u
        (if tabGet (fun _ => false) s.rx.dllSeen d && u.getB Obj.CAL_ONLINE then (dllUnits d).foldl (fun s u => s.setDue u 15) u else u) :=
      .ite (Touches.refl.foldl fun s u => s.setDue_touches u 15) .refl
    have hlock : u.get (Obj.TDC_LOCK + d) = 1 := by
      rw [hu]
      exact State.get_set_same _ _ _
    refine ⟨_, harm, (hdue.keys _ ?_).trans hlock, ?_, ?_⟩
    · have hlt : Obj.TDC_LOCK + d.val < Obj.CAL_STATUS := by unfold Obj.TDC_LOCK Obj.CAL_STATUS; omega
      simpa [Frame.key] using hlt
    · rw [hdue.part .rx, hu]
      exact tabGet_put_same (fun _ => false) s.rx.dllSeen d.val true
    · have hset : onlyParts ([.reg] ++ [.rx]) s u := hu ▸ onlyParts_trans (s.set_touches (Obj.TDC_LOCK + d) 1).parts (State.withRx_touches _ _).parts
      exact onlyParts_mono (onlyParts_trans hset hdue.parts) (by decide)
  · obtain ⟨u, hu⟩ : ∃ u : State, u = s.setRxChan c { s.rxChan c with stuck := true } := ⟨_, rfl⟩
    have harm : exec (.rxStuck c) s = .next (((u.degradeChannel c).raiseLow 0x086 c).interruptUnit c) := by
      change execRxStuck c s = _
      simp [execRxStuck, hw, hlo, hst, hen, hre, hu]
    have hrest : Touches { interruptFrame with parts := .hist :: interruptFrame.parts } u
        (((u.degradeChannel c).raiseLow 0x086 c).interruptUnit c) :=
      ((u.mapOpen_touches _ _ _).mono.andThen (State.raiseLow_touches _ _ _)).andThen (State.interruptUnit_touches _ _)
    have hchan : ∀ d : Nat, State.rxChan (((u.degradeChannel c).raiseLow 0x086 c).interruptUnit c) d = u.rxChan d := fun d =>
      congrArg (fun r : RxState => tabGet (fun _ => RxChan.init) r.chans d) (hrest.part .rx)
    refine ⟨_, harm, ?_, fun d hd => ?_, (hrest.part .safety).trans (by rw [hu]; rfl)⟩
    · rw [hchan, hu, State.rxChan_set_same]
    · rw [hchan, hu, State.rxChan_set_other _ _ hd]
  · refine ⟨_, ?_, s.rxChan_set_same _ _, (s.setRxChan_touches _ _).parts⟩
    change execRxStuckClear c s = _
    simp [execRxStuckClear, hw, hst, hre]
  · obtain ⟨u, hu⟩ : ∃ u : State, u = { s with rx := { s.rx with bgIntervalAt := s.rx.bgIntervalAt + ms 10 } } := ⟨_, rfl⟩
    have harm : exec .rxBgInterval s = .next ((List.range 256).foldl (fun s c => s.bgRate c) u) := by
      rw [hu]
      exact if_pos (by simp [hr, hre])
    obtain ⟨hrate, -, -, hparts, hat⟩ := u.bgRates_spec (n := 256) le_rfl
    refine ⟨_, harm, hat.trans (by rw [hu]), ?_, fun c hc => (hrate c hc).trans ?_⟩
    · exact onlyParts_mono (onlyParts_trans (hu ▸ (s.withRx_touches _).parts : onlyParts [.rx] s u) hparts) (by decide)
    · rw [hu]
      rfl

end Sys2Proof.Machine

/-! ## Hits reach their bins (R382 to R428) -/

namespace Sys2Proof.Machine

open Sys2Proof Sys2Proof.Safety

set_option Elab.async false

/-! ### The channel buffer and the banks -/

theorem State.popHit_buf (s : State) (c : Nat) {h : Hit} {rest : List Hit} (hbuf : (s.rxChan c).buf = h :: rest) :
    ((s.popHit c).rxChan c).buf = rest := by
  rw [State.popHit, State.rxChan_set_same, hbuf]
  rfl

theorem State.queueAddition_touches (s : State) (g : List Byte) (a : Addition) : Touches { parts := [.hist] } s (s.queueAddition g a) := by
  unfold State.queueAddition
  split
  · exact s.withHist_touches _
  · exact .refl

theorem State.spanCheck_touches (s : State) (g : List Byte) (h : Hit) :
    Touches { parts := [.reg, .ev], keys := [(Obj.SPAN_DROPS, Obj.SPAN_DROPS)], events := [0x0A3] } s (s.spanCheck g h) :=
  .ite ((s.count_touches _).mono.andThen (State.raiseLimited_touches _ _ _ _)) .refl

theorem State.bank_setBank_same (s : State) (b : Nat) (q : List Addition) : (s.setBank b q).bank b = q := tabGet_put_same _ _ _ _

theorem State.reel_setReel_same (s : State) (ch buf : Nat) (r : Reel) : (s.setReel ch buf r).reel ch buf = r :=
  tabGet_put_same (fun _ => Reel.clear_) s.hist.reels (reelKey ch buf) r

theorem Touches.rxChan {F : Frame} {s t : State} (h : Touches F s t) (c : Nat) (hp : F.parts.contains .rx = false := by decide) :
    t.rxChan c = s.rxChan c :=
  congrArg (fun r : RxState => tabGet (fun _ => RxChan.init) r.chans c) (h.part .rx hp)

/-- A hit whose take is no longer in flight is late. -/
theorem State.lateHit_spec (s : State) (c : Nat) {h : Hit} {rest : List Hit} (hbuf : (s.rxChan c).buf = h :: rest) :
    let t := ((s.popHit c).count Obj.LATE_HITS).raiseMs 0x0A2 (c * 2 ^ 24)
    (t.rxChan c).buf = rest ∧ t.get Obj.LATE_HITS = satAdd 0xFFFFFFFF (s.get Obj.LATE_HITS) 1 ∧ onlyParts (.rx :: reporting) s t := by
  intro t
  have hraise : Touches { parts := [.ev], events := [0x0A2] } ((s.popHit c).count Obj.LATE_HITS) t := State.raiseLimited_touches _ _ _ _
  refine ⟨?_, (hraise.get Obj.LATE_HITS).trans (State.get_count_same _ _), ?_⟩
  · rw [hraise.rxChan c, ← State.popHit_buf s c hbuf]
    rfl
  · exact onlyParts_mono (onlyParts_trans (onlyParts_trans (s.setRxChan_touches _ _).parts (State.count_touches _ _).parts) hraise.parts) (by decide)

/-! ### Additions to a reel -/

/-- A saturation is noted without touching a bin. -/
theorem State.noteSaturation_spec (s : State) (ch buf bin : Nat) :
    ((s.noteSaturation ch buf bin).reel ch buf).bins = (s.reel ch buf).bins ∧ (s.noteSaturation ch buf bin).hist.banks = s.hist.banks ∧
      (s.noteSaturation ch buf bin).hist.bankFree = s.hist.bankFree ∧ onlyParts (.hist :: reporting) s (s.noteSaturation ch buf bin) := by
  unfold State.noteSaturation
  extract_lets r
  split
  · exact ⟨rfl, rfl, rfl, onlyParts_refl _ _⟩
  · obtain ⟨u, hu⟩ : ∃ u : State, u = s.setReel ch buf { r with saturated := true, satBins := bin :: r.satBins } := ⟨_, rfl⟩
    rw [← hu]
    have hraise : Touches { parts := [.reg, .ev], keys := [(Obj.BIN_SATURATIONS, Obj.BIN_SATURATIONS)], events := [0x0A6] } u
        ((u.count Obj.BIN_SATURATIONS).raiseMs 0x0A6 0) := (u.count_touches _).mono.andThen (State.raiseLimited_touches _ _ _ _)
    have hhist := hraise.part .hist
    refine ⟨?_, ?_, ?_, ?_⟩
    · refine (congrArg (fun x : HistState => (tabGet (fun _ => Reel.clear_) x.reels (reelKey ch buf)).bins) hhist).trans ?_
      change (u.reel ch buf).bins = _
      rw [hu, State.reel_setReel_same]
    · rw [hhist, hu]
      rfl
    · rw [hhist, hu]
      rfl
    · exact onlyParts_mono (onlyParts_trans (hu ▸ (s.withHist_touches _).parts : onlyParts [.hist] s u) hraise.parts) (by decide)

/-- The reel after an addition to a bin whose word is good, before a saturation is noted. -/
def State.addedReel (s : State) (a : Addition) (st : ReelSet) (bin rho : Nat) : Reel :=
  let r := s.reel a.ch a.buf
  let x := binAdd (tabGet (fun _ => 0) r.bins bin) rho
  { r with bins := tabPut (fun _ => 0) r.bins bin x.1, blind := r.blind || a.blind, slots := track st.trackHalf r.slots a bin (binCount x.1) }

/-- An addition to a bin whose word is good changes that bin by the sum within its limits, and no other. -/
theorem State.applyAddition_spec (s : State) (a : Addition) {st : ReelSet} {j rho : Nat} (hset : s.set? a.set_ = some st)
    (hbin : binOf st.gear a.time = some (j, rho)) (hgood : s.hist.badWords.contains (a.ch, a.buf, j / 2) = false) :
    ((s.applyAddition a).reel a.ch a.buf).bins =
        tabPut (fun _ => 0) (s.reel a.ch a.buf).bins j (binAdd (tabGet (fun _ => 0) (s.reel a.ch a.buf).bins j) rho).1 ∧
      (s.applyAddition a).hist.banks = s.hist.banks ∧ (s.applyAddition a).hist.bankFree = s.hist.bankFree ∧
      onlyParts (.hist :: reporting) s (s.applyAddition a) := by
  obtain ⟨u, hu⟩ : ∃ u : State, u = s.setReel a.ch a.buf (s.addedReel a st j rho) := ⟨_, rfl⟩
  have happly : s.applyAddition a =
      if (binAdd (tabGet (fun _ => 0) (s.reel a.ch a.buf).bins j) rho).2 then u.noteSaturation a.ch a.buf j else u := by
    simp only [State.applyAddition, hset, hbin, State.zeroBadWord, hgood, hu, Bool.false_eq_true, if_false, State.addedReel]
  obtain ⟨hbins, hbanks, hfree, hparts⟩ := u.noteSaturation_spec a.ch a.buf j
  have hreel : (u.reel a.ch a.buf).bins =
      tabPut (fun _ => 0) (s.reel a.ch a.buf).bins j (binAdd (tabGet (fun _ => 0) (s.reel a.ch a.buf).bins j) rho).1 := by
    rw [hu, State.reel_setReel_same]
    rfl
  have hset' : onlyParts [.hist] s u := hu ▸ (s.withHist_touches _).parts
  rw [happly]
  split
  · exact ⟨hbins.trans hreel, hbanks.trans (by rw [hu]; rfl), hfree.trans (by rw [hu]; rfl),
      onlyParts_mono (onlyParts_trans hset' hparts) (by decide)⟩
  · exact ⟨hreel, by rw [hu]; rfl, by rw [hu]; rfl, onlyParts_mono hset' (by decide)⟩

/-- The state as a bank begins to serve an addition. -/
def State.startService (s : State) (b : Nat) (q : List Addition) : State := (s.busyBank b).setBank b q

theorem State.bank_startService (s : State) (b : Nat) (q : List Addition) :
    (s.startService b q).bank b = q ∧ tabGet (fun _ => 0) (s.startService b q).hist.bankFree b = s.now + 2 ∧ onlyParts [.hist] s (s.startService b q) :=
  ⟨tabGet_put_same _ _ _ _, tabGet_put_same (fun _ => 0) s.hist.bankFree b (s.now + 2),
    ((s.withHist_touches _).trans (State.withHist_touches _ _)).parts⟩

/-- Settles O45: the branches of HIT_DELIVERY, BIN_UPDATE and REEL_CLEAR_DONE. -/
theorem hitsReachTheirBins : Obligations.HitsReachTheirBins := by
  intro s
  have hserve : ∀ (b : Fin 64) a q, s.bank b = a :: q → s.bankServes b a = true →
      exec (.binUpdate b) s = .next ((s.startService b q).applyAddition a) := fun b a q hq hs => by
    change execBinUpdate b s = _
    simp [execBinUpdate, hq, hs, State.startService]
  refine ⟨fun c hbuf => ?_, fun c h rest hbuf hbad => ?_, fun c h rest hbuf hbad ht => ?_, fun c h rest k st b hbuf hbad ht hlost hset hreel => ?_,
    fun b hq => ?_, fun b a q hq hwait => ?_, fun b a q hq hs hset => ?_, fun b a q st j rho hq hs hset hbin hgood => ?_,
    fun c b hr => ?_, fun c b hr => ?_⟩
  · change execHitDelivery c s = _
    simp [execHitDelivery, hbuf]
  · change execHitDelivery c s = _
    simp [execHitDelivery, hbuf, hbad]
  · refine ⟨_, ?_, s.lateHit_spec c hbuf⟩
    change execHitDelivery c s = _
    simp [execHitDelivery, hbuf, hbad, ht]
  · intro as
    have harm : exec (.hitDelivery c) s = .next (s.deliver h k st b) := by
      change execHitDelivery c s = _
      simp [execHitDelivery, hbuf, hbad, ht, hlost, hset, hreel]
    refine ⟨fun hw => harm.trans ?_, fun hb => harm.trans ?_, fun hch hw hb => ?_⟩
    · rw [State.deliver, show s.wordsClear st.gear (hitAdditions h b st.id s.now k.pulses) = false from hw]
      rfl
    · rw [State.deliver, show s.bankRoom st.gear (hitAdditions h b st.id s.now k.pulses) = false from hb, Bool.not_false, Bool.or_true]
      rfl
    · obtain ⟨t, hdef⟩ : ∃ t, t = (as.foldl (fun s a => s.queueAddition st.gear a) (s.popHit c)).spanCheck st.gear h := ⟨_, rfl⟩
      have htouch : Touches { parts := [.hist, .reg, .ev], keys := [(Obj.SPAN_DROPS, Obj.SPAN_DROPS)], events := [0x0A3] } (s.popHit c) t :=
        hdef ▸ (Touches.refl.foldl fun s a => (s.queueAddition_touches st.gear a).mono).andThen (State.spanCheck_touches _ _ _)
      refine ⟨t, harm.trans ?_, ?_, ?_, hdef⟩
      · rw [hdef, State.deliver, show s.wordsClear st.gear (hitAdditions h b st.id s.now k.pulses) = true from hw,
          show s.bankRoom st.gear (hitAdditions h b st.id s.now k.pulses) = true from hb, hch]
        rfl
      · rw [htouch.rxChan c, State.popHit_buf s c hbuf]
      · exact onlyParts_mono (onlyParts_trans (s.setRxChan_touches _ _).parts htouch.parts) (by decide)
  · change execBinUpdate b s = _
    simp [execBinUpdate, hq]
  · have hserves : s.bankServes b a = false := by
      simp only [State.bankServes, Bool.and_eq_false_iff, decide_eq_false_iff_not, not_lt, not_le]
      exact hwait
    change execBinUpdate b s = _
    simp [execBinUpdate, hq, hserves]
  · obtain ⟨hbank, -, hparts⟩ := s.bank_startService b q
    have hnone : (s.startService b q).applyAddition a = s.startService b q := by
      rw [State.applyAddition, show (s.startService b q).set? a.set_ = none from hset]
    exact ⟨_, (hserve b a q hq hs).trans (by rw [hnone]), hbank, hparts⟩
  · intro old
    obtain ⟨hbank, hfree, hparts⟩ := s.bank_startService b q
    obtain ⟨hbins, hbanks, hfree', hparts'⟩ := (s.startService b q).applyAddition_spec a (st := st) hset hbin hgood
    refine ⟨_, hserve b a q hq hs, ?_, ?_, ?_, fun i hi => ?_, onlyParts_mono (onlyParts_trans hparts hparts') (by decide)⟩
    · rw [State.bank, hbanks]
      exact hbank
    · rw [hfree', hfree]
    · rw [hbins, tabGet_put_same]
      rfl
    · rw [hbins, tabGet_put_other _ _ _ hi]
      rfl
  · refine ⟨((s.cleanReel c b).setReel c b Reel.clear_), ?_, State.reel_setReel_same _ _ _ _,
      ((s.withHist_touches _).trans (State.withHist_touches _ _)).parts⟩
    change execReelClearDone c b s = _
    simp [execReelClearDone, hr]
  · obtain ⟨u, hu, hparts⟩ : ∃ u : State, u = (if (s.reel c b).state == .clearing || (s.reel c b).notClear then s.cleanReel c b else s) ∧
        Touches { parts := [.hist] } s u := ⟨_, rfl, .ite (s.withHist_touches _) .refl⟩
    refine ⟨u.setReel c b { s.reel c b with notClear := false }, ?_, State.reel_setReel_same _ _ _ _, (hparts.trans (State.withHist_touches _ _)).parts⟩
    rw [hu]
    exact if_neg (by simpa using hr)

end Sys2Proof.Machine

/-! ## The results of the ALU (R481) -/

namespace Sys2Proof.Machine

open Sys2Proof Sys2Proof.Safety

set_option Elab.async false

/-- The signed value of a 32-bit word. -/
theorem signed32_eq {a : Nat} (ha : a < 2 ^ 32) : signed 32 a = if a < 2147483648 then (a : Int) else (a : Int) - 4294967296 := by
  simp only [signed, Nat.mod_eq_of_lt ha]
  rfl

theorem unsigned32_eq (v : Int) : unsigned 32 v = (v % 4294967296).toNat := rfl

theorem fits32_eq (v : Int) : fits32 v = decide (-2147483648 ≤ v ∧ v < 2147483648) := rfl

section Sums

variable {a b : Nat} (ha : a < 2 ^ 32) (hb : b < 2 ^ 32)
include ha hb

theorem aluAdd_val : (aluAdd a b).val = some ((a + b) % 2 ^ 32) := by
  refine congrArg some ?_
  rw [signed32_eq ha, signed32_eq hb, unsigned32_eq]
  split <;> split <;> omega

theorem aluSub_val : (aluSub a b).val = some ((a + (2 ^ 32 - b)) % 2 ^ 32) := by
  refine congrArg some ?_
  rw [signed32_eq ha, signed32_eq hb, unsigned32_eq]
  split <;> split <;> omega

theorem aluAdd_v : (aluAdd a b).v = some true ↔ signed 32 ((a + b) % 2 ^ 32) ≠ signed 32 a + signed 32 b := by
  have hsum : (a + b) % 2 ^ 32 < 2 ^ 32 := Nat.mod_lt _ (by decide)
  simp only [aluAdd, aluSum, fits32_eq, Option.some.injEq, Bool.not_eq_true', decide_eq_false_iff_not, signed32_eq ha, signed32_eq hb,
    signed32_eq hsum]
  split <;> split <;> split <;> omega

theorem aluSub_v : (aluSub a b).v = some true ↔ signed 32 ((a + (2 ^ 32 - b)) % 2 ^ 32) ≠ signed 32 a - signed 32 b := by
  have hdiff : (a + (2 ^ 32 - b)) % 2 ^ 32 < 2 ^ 32 := Nat.mod_lt _ (by decide)
  simp only [aluSub, aluSum, fits32_eq, Option.some.injEq, Bool.not_eq_true', decide_eq_false_iff_not, signed32_eq ha, signed32_eq hb,
    signed32_eq hdiff]
  split <;> split <;> split <;> omega

end Sums

theorem aluAdd_c (a b : Nat) : (aluAdd a b).c = some true ↔ 2 ^ 32 ≤ a + b := by simp [aluAdd, aluSum]

theorem aluSub_c (a b : Nat) : (aluSub a b).c = some true ↔ a < b := by simp [aluSub, aluSum]

/-! ### Choices by value -/

theorem aluMin_spec (a b : Nat) :
    ∃ r, (aluMin a b).val = some r ∧ (r = a ∨ r = b) ∧ signed 32 r ≤ signed 32 a ∧ signed 32 r ≤ signed 32 b := by
  refine ⟨_, rfl, ?_⟩
  split
  case isTrue h => exact ⟨.inr rfl, h.le, le_rfl⟩
  case isFalse h => exact ⟨.inl rfl, le_rfl, not_lt.1 h⟩

theorem aluMax_spec (a b : Nat) :
    ∃ r, (aluMax a b).val = some r ∧ (r = a ∨ r = b) ∧ signed 32 a ≤ signed 32 r ∧ signed 32 b ≤ signed 32 r := by
  refine ⟨_, rfl, ?_⟩
  split
  case isTrue h => exact ⟨.inr rfl, h.le, le_rfl⟩
  case isFalse h => exact ⟨.inl rfl, le_rfl, not_lt.1 h⟩

/-! ### Shifts -/

theorem signed6_of_lt {b k : Nat} (hk : k < 32) (hb : b % 64 = k) : signed 6 b = k := by
  simp only [signed, Nat.reducePow, Nat.reduceSub, hb]
  rw [if_pos hk]

theorem signed6_of_neg {b k : Nat} (hpos : 0 < k) (hk : k ≤ 32) (hb : b % 64 = 64 - k) : signed 6 b = -(k : Int) := by
  simp only [signed, Nat.reducePow, Nat.reduceSub, hb]
  rw [if_neg (by omega)]
  omega

theorem aluShift_left (a : Nat) {b k : Nat} (hk : k < 32) (hb : b % 64 = k) : (aluShift a b).val = some (a * 2 ^ k % 2 ^ 32) := by
  have hcast : (a : Int) * 2 ^ k = ((a * 2 ^ k : Nat) : Int) := by push_cast; rfl
  simp only [aluShift, signed6_of_lt hk hb, Int.natCast_nonneg, if_true, Int.toNat_natCast, hcast, unsigned32_eq]
  refine congrArg some ?_
  omega

theorem aluShift_right (a : Nat) {b k : Nat} (hpos : 0 < k) (hk : k ≤ 32) (hb : b % 64 = 64 - k) :
    (aluShift a b).val = some (unsigned 32 (signed 32 a / 2 ^ k)) := by
  have hneg : ¬ 0 ≤ -(k : Int) := by omega
  simp only [aluShift, signed6_of_neg hpos hk hb, if_neg hneg, neg_neg, Int.toNat_natCast]

/-! ### NEG, ABS and CLZ -/

theorem aluNeg_val {a : Nat} (ha : a < 2 ^ 32) (b : Nat) : (aluNeg a b).val = some ((2 ^ 32 - a) % 2 ^ 32) := by
  refine congrArg some ?_
  rw [signed32_eq ha, unsigned32_eq]
  split <;> omega

/-- The first of the bits 31, 30, … of a word that is set is that of its magnitude. -/
theorem aluClz_val {a k : Nat} (b : Nat) (ha : a < 2 ^ 32) (hlo : 2 ^ k ≤ a) (hhi : a < 2 ^ (k + 1)) : (aluClz a b).val = some (31 - k) := by
  have hk : k < 32 := (Nat.pow_lt_pow_iff_right (by decide : 1 < 2)).1 (hlo.trans_lt ha)
  have hfind : (List.range 32).find? (fun i => natBit a (31 - i)) = some (31 - k) := by
    refine List.find?_range_eq_some.2 ⟨?_, List.mem_range.2 (by omega), fun j hj => ?_⟩
    · rw [Nat.sub_sub_self (by omega)]
      exact Nat.testBit_of_two_pow_le_and_two_pow_add_one_gt hlo hhi
    · have hbit : natBit a (31 - j) = false := Nat.testBit_lt_two_pow (hhi.trans_le (Nat.pow_le_pow_right (by decide) (by omega)))
      simp [hbit]
  simp [aluClz, aluPlain, hfind]

/-- Settles O50: one lemma for each operation. -/
theorem aluResultsAreExact : Obligations.AluResultsAreExact := by
  intro a b ha hb
  exact ⟨aluAdd_val ha hb, aluAdd_c a b, aluAdd_v ha hb, aluSub_val ha hb, aluSub_c a b, aluSub_v ha hb,
    fun i => Nat.testBit_and a b i, rfl, fun i => Nat.testBit_or a b i, rfl, fun i => Nat.testBit_xor a b i, rfl,
    aluMin_spec a b, aluMax_spec a b,
    ⟨_, rfl, min_choice a b, min_le_left a b, min_le_right a b⟩, ⟨_, rfl, max_choice a b, le_max_left a b, le_max_right a b⟩,
    fun k hk hbk => aluShift_left a hk hbk, fun k hpos hk hbk => aluShift_right a hpos hk hbk,
    aluNeg_val ha b, fun h => if_neg h, fun h => if_pos h, fun h => h ▸ rfl, fun k hlo hhi => aluClz_val b ha hlo hhi⟩

end Sys2Proof.Machine

/-! ## The instructions of the engines (R471 to R493) -/

namespace Sys2Proof.Machine

open Sys2Proof Sys2Proof.Safety

set_option Elab.async false

/-- No guard stands against an instruction that the engine executes now. -/
theorem guards_of_issues {s : State} {n : Nat} {c : InstrClass} (h : issues s n c) :
    (!s.engineRuns n || (s.engine n).asleep) = false ∧ ¬ programEnd n ≤ (s.engine n).pc ∧
      ((s.engine n).fetches && s.engineBad n (0x80000 + 2 * (s.engine n).pc)) = false ∧
      ((c.branch && decide (0 < (s.engine n).slots)) || (c.noRepeat && (s.engine n).rpt.isSome)) = false := by
  obtain ⟨hruns, hawake, hpc, hgood, hbranch, hrepeat⟩ := h
  refine ⟨by simp [hruns, hawake], Nat.not_le.2 hpc, by simp [hgood], ?_⟩
  cases hb : c.branch <;> cases hr : c.noRepeat <;> simp_all

/-- An instruction that the engine executes now and whose work gives a state ends in that state, with the engine moved on. -/
theorem issue_of_issues {s m : State} {n : Nat} {c : InstrClass} {body : State → Except Nat State} (h : issues s n c)
    (hbody : body (woken s n) = .ok m) : s.issue n c body = issued s n c m := by
  obtain ⟨hruns, hpc, hgood, hclass⟩ := guards_of_issues h
  unfold State.issue
  simp only [hruns, hpc, hgood, hclass, Bool.false_eq_true, if_false]
  rw [show body (s.setEngine n { (s.engine n).fillCache with waiting := false }) = .ok m from hbody]
  rfl

/-- One whose work faults stops the engine with the fault's cause. -/
theorem issue_of_error {s : State} {n k : Nat} {c : InstrClass} {body : State → Except Nat State} (h : issues s n c)
    (hbody : body (woken s n) = .error k) : s.issue n c body = s.engineFault n k := by
  obtain ⟨hruns, hpc, hgood, hclass⟩ := guards_of_issues h
  unfold State.issue
  simp only [hruns, hpc, hgood, hclass, Bool.false_eq_true, if_false]
  rw [show body (s.setEngine n { (s.engine n).fillCache with waiting := false }) = .error k from hbody]

theorem next_issue {s m : State} {n : Nat} {c : InstrClass} {body : State → Except Nat State} (h : issues s n c)
    (hbody : body (woken s n) = .ok m) : (.next (s.issue n c body) : Host.Outcome State Fault Refusal) = .next (issued s n c m) :=
  congrArg _ (issue_of_issues h hbody)

/-! ### Multiplier and accumulators -/

section Moves

variable {u m : State} {n x : Nat} (hm : u.moves n x = .ok m)
include hm

theorem multiply_of_moves (accumulate sa sb : Bool) :
    u.multiply n x accumulate sa sb = .ok (m.putAcc n (natBit x 25) ((if accumulate then (u.engine n).accW (natBit x 25) else 0) +
      (if natBit x 24 then -1 else 1) * product (u.engine n).frac (factor sa ((u.engine n).half (field x 20 4)))
        (factor sb ((u.engine n).half (field x 16 4))))) := by
  rw [State.multiply, hm]
  cases accumulate <;> cases natBit x 24 <;> simp

theorem accOp_of_moves (f : Int → Int → Nat → Int) :
    u.accOp n x f = .ok (m.putAcc n (natBit x 25)
      (f ((u.engine n).accE (natBit x 25)) (signed 32 ((u.engine n).dOp (field x 22 3))) (field x 18 4))) := by
  rw [State.accOp, hm]

theorem aluA_of_moves (op : Nat → Nat → AluOut) :
    u.aluA n x op = .ok (m.putAlu n (some (field x 23 3)) (op ((u.engine n).dOp (field x 20 3)) ((u.engine n).dOp (field x 17 3)))) := by
  rw [State.aluA, hm]

end Moves

/-- Settles O48: each instruction issues the operation of its row. -/
theorem multiplierAndAccumulatorsCompute : Obligations.MultiplierAndAccumulatorsCompute := by
  intro s n w m x u e b prod
  have place : ∀ (sa sb : Bool), u.moves n x = .ok m → u.multiply n x false sa sb = .ok (m.putAcc n b
      ((if natBit x 24 then -1 else 1) * prod (factor sa (e.half (field x 20 4))) (factor sb (e.half (field x 16 4))))) := fun sa sb hm =>
    (multiply_of_moves hm false sa sb).trans (by simp; rfl)
  refine ⟨fun hi hm => next_issue hi (multiply_of_moves hm true true true), fun hi hm => next_issue hi (place true true hm),
    fun hi hm => next_issue hi (multiply_of_moves hm true false false), fun hi hm => next_issue hi (multiply_of_moves hm true true false),
    fun hi hm => next_issue hi hm, fun hi hm => next_issue hi (accOp_of_moves hm addA), fun hi hm => next_issue hi (accOp_of_moves hm subA),
    fun hi hm => next_issue hi (accOp_of_moves hm shlA), fun hi hm => next_issue hi (accOp_of_moves hm shrA),
    fun hi hm => next_issue hi (accOp_of_moves hm clrA), fun hi hm => next_issue hi ?_, fun hi hm => next_issue hi ?_⟩
  · rw [State.moveAcc, hm]
  · rw [State.moveAccHigh, hm]

/-! ### The ALU -/

theorem aluR_of_lt {u : State} {n x : Nat} (hd : field x 21 5 < 16) (ha : field x 16 5 < 16) (hb : field x 11 5 < 16) (writes : Bool)
    (op : Nat → Nat → AluOut) :
    u.aluR n x writes op = .ok (u.putAlu n (if writes then some (field x 21 5) else none)
      (op ((u.engine n).dOp (field x 16 5)) ((u.engine n).dOp (field x 11 5)))) :=
  if_neg (by omega)

/-- A register code that reads is below 26. -/
theorem lt_of_reg? {e : Engine} {r : Nat} {v : Int} (h : e.reg? r = some v) : r < 26 := by
  by_contra hr
  have hnone : e.reg? r = none := by
    simp only [Engine.reg?]
    rw [if_neg (by omega), if_neg (by omega), if_neg (by omega), if_neg (by omega)]
  simp [hnone] at h

theorem immOp_of_reg? {u : State} {n x : Nat} {v : Int} (h : (u.engine n).reg? (field x 21 5) = some v) (f : Engine → Nat → Nat → Engine) :
    u.immOp n x f = .ok (u.modEngine n (fun e => f e (field x 21 5) x)) :=
  if_neg (by have := lt_of_reg? h; omega)

theorem addImm_of_reg? {u : State} {n x : Nat} {v : Int} (h : (u.engine n).reg? (field x 21 5) = some v) :
    u.addImm n x = .ok (if 24 ≤ field x 21 5 then u.putAcc n (field x 21 5 == 25) (v + imm16 x)
      else u.putAlu n (some (field x 21 5)) (aluAdd v.toNat (unsigned 32 (imm16 x)))) := by
  rw [State.addImm, h]

theorem cmpImm_of_reg? {u : State} {n x : Nat} {v : Int} (h : (u.engine n).reg? (field x 21 5) = some v) (hlt : field x 21 5 < 24) :
    u.cmpImm n x = .ok (u.putAlu n none (aluSub v.toNat (unsigned 32 (imm16 x)))) := by
  rw [State.cmpImm, h]
  exact if_neg (by omega)

/-- Settles O49: format A through the moves, format R on its registers, the immediates on a defined register. -/
theorem aluInstructionsReachTheirRegisters : Obligations.AluInstructionsReachTheirRegisters := by
  intro s n w m v x u e
  exact ⟨fun hi hm => next_issue hi (aluA_of_moves hm aluAdd), fun hi hm => next_issue hi (aluA_of_moves hm aluSub),
    fun hi hm => next_issue hi (aluA_of_moves hm aluAnd), fun hi hm => next_issue hi (aluA_of_moves hm aluOr),
    fun hi hm => next_issue hi (aluA_of_moves hm aluXor), fun hi hm => next_issue hi (aluA_of_moves hm aluMin),
    fun hi hm => next_issue hi (aluA_of_moves hm aluMax), fun hi hm => next_issue hi (aluA_of_moves hm aluShift),
    fun hi hd ha hb => next_issue hi (aluR_of_lt hd ha hb true aluAdd), fun hi hd ha hb => next_issue hi (aluR_of_lt hd ha hb true aluSub),
    fun hi hd ha hb => next_issue hi (aluR_of_lt hd ha hb true aluAnd), fun hi hd ha hb => next_issue hi (aluR_of_lt hd ha hb true aluOr),
    fun hi hd ha hb => next_issue hi (aluR_of_lt hd ha hb true aluXor), fun hi hd ha hb => next_issue hi (aluR_of_lt hd ha hb true aluMin),
    fun hi hd ha hb => next_issue hi (aluR_of_lt hd ha hb true aluMax), fun hi hd ha hb => next_issue hi (aluR_of_lt hd ha hb true aluShift),
    fun hi hd ha hb => next_issue hi (aluR_of_lt hd ha hb true aluAbs), fun hi hd ha hb => next_issue hi (aluR_of_lt hd ha hb true aluNeg),
    fun hi hd ha hb => next_issue hi (aluR_of_lt hd ha hb true aluClz), fun hi hd ha hb => next_issue hi (aluR_of_lt hd ha hb true aluMinu),
    fun hi hd ha hb => next_issue hi (aluR_of_lt hd ha hb true aluMaxu), fun hi hd ha hb => next_issue hi (aluR_of_lt hd ha hb false aluSub),
    fun hi hr => next_issue hi (immOp_of_reg? hr immMove), fun hi hr => next_issue hi (immOp_of_reg? hr immHigh),
    fun hi hr hlt => next_issue hi ((addImm_of_reg? hr).trans (by rw [if_neg (Nat.not_le.2 hlt)])),
    fun hi hr hle => next_issue hi ((addImm_of_reg? hr).trans (by rw [if_pos hle])), fun hi hr hlt => next_issue hi (cmpImm_of_reg? hr hlt)⟩

end Sys2Proof.Machine

/-! ## Memory and control instructions (R468 to R493) -/

namespace Sys2Proof.Machine

open Sys2Proof Sys2Proof.Safety

set_option Elab.async false

theorem State.setEngine_setEngine (s : State) (n : Nat) (e f : Engine) : (s.setEngine n e).setEngine n f = s.setEngine n f := by
  simp only [State.setEngine, tabPut_tabPut]

/-! ### Memory -/

section Memory

variable {u m : State} {n x : Nat}

theorem load16_of_read {r : Nat × State} (hlt : field x 21 5 < 26) (hr : u.read16 n ((u.engine n).access x).1 = .ok r) (f : Nat → Int) :
    u.load16 n x f = .ok (r.2.modEngine n (fun y => (y.pointed x ((u.engine n).access x).2).setReg (field x 21 5) .load (f r.1))) := by
  simp only [State.load16, regOk, hlt, hr, decide_true, Bool.not_true, Bool.false_eq_true, if_false]

theorem load32_of_read {r : Nat × State} (hlt : field x 21 5 < 26) (hr : u.read32 n ((u.engine n).access x).1 = .ok r) :
    u.load32 n x = .ok (r.2.modEngine n (fun y => (y.pointed x ((u.engine n).access x).2).setReg (field x 21 5) .load (signed 32 r.1))) := by
  simp only [State.load32, regOk, hlt, hr, decide_true, Bool.not_true, Bool.false_eq_true, if_false]

theorem store16_of_write {v : Int} (hv : (u.engine n).reg? (field x 21 5) = some v)
    (hw : u.write16 n ((u.engine n).access x).1 (unsigned 16 v) = .ok m) :
    u.store16 n x = .ok (m.modEngine n (fun y => y.pointed x ((u.engine n).access x).2)) := by
  simp only [State.store16, hv, hw]

theorem store32_of_write {l : Nat × Bool} (hl : (u.engine n).storeLong (field x 21 5) = some l)
    (hw : u.write32 n ((u.engine n).access x).1 l.1 = .ok m) :
    u.store32 n x = .ok (m.modEngine n (fun y => (y.pointed x ((u.engine n).access x).2).raiseV l.2)) := by
  simp only [State.store32, hl, hw]

theorem loadAddress_of_lt (hlt : field x 21 5 < 26) :
    u.loadAddress n x = .ok (u.modEngine n (fun y => (y.pointed x ((u.engine n).access x).2).setReg (field x 21 5)
      (if field x 21 5 < 16 then .alu else .addr) ((u.engine n).access x).1)) := by
  simp only [State.loadAddress, regOk, hlt, decide_true, Bool.not_true, Bool.false_eq_true, if_false]

theorem readControl_of_some {k : Nat} (hk : u.control? n (field x 18 6) = some k) :
    u.readControl n x = .ok (u.modEngine n (fun y => y.setD (field x 0 4) .alu k)) := by
  simp only [State.readControl, hk]

theorem writeControl_eq :
    u.writeControl n x = u.setControl n (field x 18 6) (if field x 18 6 ∈ [0, 2, 3] then (u.engine n).dOp (field x 0 4)
      else (u.engine n).dDec (field x 0 4)) := by
  simp only [State.writeControl, List.mem_cons, List.not_mem_nil, or_false]

end Memory

/-! ### Branches and repeats -/

section Branches

variable {u : State} {n a : Nat}

/-- The engine with a branch ahead: two delay slots follow. -/
def Engine.branching (e : Engine) (taken : Bool) (a : Nat) : Engine :=
  { e with slots := 3, branch := if taken then .target (pcOf a) else .on }

theorem branchTo_of_fits {taken : Bool} (hfit : (u.engine n).slotsFit = true) (hbody : taken = true → (u.engine n).inBody (pcOf a) = true) :
    u.branchTo n taken a = .ok (u.setEngine n ((u.engine n).branching taken a)) := by
  have hgood : (!(u.engine n).slotsFit || (taken && !(u.engine n).inBody (pcOf a))) = false := by
    cases taken
    · simp [hfit]
    · simp [hfit, hbody rfl]
  simp only [State.branchTo, hgood, Bool.false_eq_true, if_false, Engine.branching]

/-- A branch of an engine whose return stack has changed. -/
theorem branchTo_setStack {taken : Bool} (stack : List Nat) (hfit : (u.engine n).slotsFit = true)
    (hbody : taken = true → (u.engine n).inBody (pcOf a) = true) :
    (u.setEngine n { u.engine n with stack := stack }).branchTo n taken a =
      .ok (u.setEngine n (Engine.branching { u.engine n with stack := stack } taken a)) := by
  rw [branchTo_of_fits, State.engine_setEngine_same, State.setEngine_setEngine]
  · rw [State.engine_setEngine_same]
    exact hfit
  · rw [State.engine_setEngine_same]
    exact hbody

theorem call_of_room {x : Nat} (hroom : (u.engine n).stack.length < 8) (hfit : (u.engine n).slotsFit = true)
    (hbody : (u.engine n).cond (field x 22 4) = true → (u.engine n).inBody (pcOf (field x 0 16)) = true) :
    u.call n x = .ok (u.setEngine n (Engine.branching { u.engine n with stack := pcOf ((u.engine n).pc + 3) :: (u.engine n).stack }
      ((u.engine n).cond (field x 22 4)) (field x 0 16))) :=
  (if_neg (Nat.not_le.2 hroom)).trans (branchTo_setStack _ hfit hbody)

theorem ret_of_stack {x k : Nat} {rest : List Nat} (hstack : (u.engine n).stack = k :: rest) (hfit : (u.engine n).slotsFit = true)
    (hbody : (u.engine n).cond (field x 22 4) = true → (u.engine n).inBody (pcOf k) = true) :
    u.ret n x = .ok (u.setEngine n (Engine.branching { u.engine n with stack := rest } ((u.engine n).cond (field x 22 4)) k)) := by
  simp only [State.ret, hstack]
  exact branchTo_setStack _ hfit hbody

theorem reti_of_fits (hn : n < 32) (hfit : (u.engine n).slotsFit = true) :
    u.reti n = .ok (u.setEngine n { u.engine n with slots := 3, branch := .reti }) := by
  simp only [State.reti, Nat.not_le.2 hn, hfit, Bool.not_true, Bool.false_eq_true, if_false]

theorem breakLoop_of_loops {l : LoopBody} {ls : List LoopBody} (hn : n < 32) (hfit : (u.engine n).slotsFit = true)
    (hloops : (u.engine n).loops = l :: ls) :
    u.breakLoop n = .ok (u.setEngine n { u.engine n with loops := ls, slots := 3, branch := .target (pcOf (l.last + 1)) }) := by
  simp only [State.breakLoop, Nat.not_le.2 hn, hfit, hloops, Bool.not_true, Bool.false_eq_true, if_false]

/-- BRPT outside a body, with an immediate count, opens a body that no interrupt leaves. -/
theorem blockRepeat_of_outside {x : Nat} (hn : n < 32) (himm : natBit x 24 = false) (hirq : natBit x 25 = false) (hcount : field x 0 12 ≠ 0)
    (hloops : (u.engine n).loops = []) :
    u.blockRepeat n x = .ok (u.setEngine n { (u.engine n).setLc 0 (field x 0 12) with
      loops := [⟨(u.engine n).pc + 1, (u.engine n).pc + (field x 12 8 + 1), false, []⟩] }) := by
  simp only [State.blockRepeat, Nat.not_le.2 hn, himm, hirq, hcount, hloops, Bool.false_eq_true, if_false, List.length_nil, Bool.not_true,
    Bool.or_false, Bool.false_and, dropCache, List.map_nil, decide_eq_true_eq]
  rfl

end Branches

/-- Settles O51: each instruction issues the operation of its row. -/
theorem memoryAndControlInstructionsComplete : Obligations.MemoryAndControlInstructionsComplete := by
  intro s n w m r v l k rest taken l1 ls x u e at_
  exact ⟨fun hi hlt hr => next_issue hi (load16_of_read hlt hr wordSigned), fun hi hlt hr => next_issue hi (load16_of_read hlt hr wordUnsigned),
    fun hi hlt hr => next_issue hi (load32_of_read hlt hr), fun hi hv hw => next_issue hi (store16_of_write hv hw),
    fun hi hl hw => next_issue hi (store32_of_write hl hw), fun hi hlt => next_issue hi (loadAddress_of_lt hlt),
    fun hi hk => next_issue hi (readControl_of_some hk), fun hi hset => next_issue hi (writeControl_eq.trans hset),
    fun hi hset => next_issue hi hset, fun hi => next_issue hi rfl, fun hi => next_issue hi rfl, fun hi => next_issue hi rfl,
    fun hi => next_issue hi rfl, fun hi => next_issue hi rfl, fun hi ht hfit hbody => ht ▸ next_issue hi (branchTo_of_fits hfit (ht ▸ hbody)),
    fun hi hroom ht hfit hbody => ht ▸ next_issue hi (call_of_room hroom hfit (ht ▸ hbody)),
    fun hi hfit hbody => next_issue hi (branchTo_of_fits hfit fun _ => hbody),
    fun hi hstack ht hfit hbody => ht ▸ next_issue hi (ret_of_stack hstack hfit (ht ▸ hbody)),
    fun hi hn hfit => next_issue hi (reti_of_fits hn hfit), fun hi hn hfit hl => next_issue hi (breakLoop_of_loops hn hfit hl),
    fun hi hn himm hirq hcount hl => next_issue hi (blockRepeat_of_outside hn himm hirq hcount hl)⟩

end Sys2Proof.Machine

/-! ## The events of a spoke engine (R489 to R508) -/

namespace Sys2Proof.Machine

open Sys2Proof Sys2Proof.Safety

set_option Elab.async false

theorem State.withEng_touches (s : State) (x : EngineState) : Touches { parts := [.eng] } s { s with eng := x } :=
  touches_of_same fun p hp => by cases p <;> simp_all [Part.same]

theorem State.withMem_touches (s : State) (x : MemoryState) : Touches { parts := [.mem] } s { s with mem := x } :=
  touches_of_same fun p hp => by cases p <;> simp_all [Part.same]

theorem State.setEngine_touches (s : State) (n : Nat) (e : Engine) : Touches { parts := [.eng] } s (s.setEngine n e) := s.withEng_touches _

theorem Touches.engine {F : Frame} {s t : State} (h : Touches F s t) (n : Nat) (hp : F.parts.contains .eng = false := by decide) :
    t.engine n = s.engine n :=
  congrArg (fun x : EngineState => tabGet (fun _ => Engine.init) x.units n) (h.part .eng hp)

/-! ### Writes to the memories of an engine -/

/-- What a write to an engine's memories touches. -/
def memoryFrame : Frame := { parts := [.eng, .mem] }

/-- The engines differ in the contents of their memories only. -/
def Engine.sameBut (e f : Engine) : Prop := ∃ x y, f = { e with x := x, y := y }

theorem Engine.sameBut_refl (e : Engine) : e.sameBut e := ⟨e.x, e.y, rfl⟩

theorem Engine.sameBut_trans {e f g : Engine} (h : e.sameBut f) (k : f.sameBut g) : e.sameBut g := by
  obtain ⟨x, y, rfl⟩ := h
  obtain ⟨x', y', rfl⟩ := k
  exact ⟨x', y', rfl⟩

/-- The state is reached by writes to an engine's memories. -/
def WritesMemory (n : Nat) (s t : State) : Prop := Touches memoryFrame s t ∧ (s.engine n).sameBut (t.engine n)

theorem WritesMemory.refl (n : Nat) (s : State) : WritesMemory n s s := ⟨.refl, Engine.sameBut_refl _⟩

theorem WritesMemory.trans {n : Nat} {s t u : State} (h : WritesMemory n s t) (k : WritesMemory n t u) : WritesMemory n s u :=
  ⟨h.1.trans k.1, Engine.sameBut_trans h.2 k.2⟩

theorem WritesMemory.foldl {α : Type} {n : Nat} {f : State → α → State} (hf : ∀ s x, WritesMemory n s (f s x)) (l : List α) (s : State) :
    WritesMemory n s (l.foldl f s) := by
  induction l generalizing s with
  | nil => exact .refl n s
  | cons x l ih => exact (hf s x).trans (ih _)

theorem State.setX_writes (s : State) (n a v : Nat) : WritesMemory n s (s.setX n a v) :=
  ⟨(s.setEngine_touches _ _).mono, _, _, s.engine_setEngine_same _ _⟩

theorem State.setY_writes (s : State) (n a v : Nat) : WritesMemory n s (s.setY n a v) :=
  ⟨(s.setEngine_touches _ _).mono, _, _, s.engine_setEngine_same _ _⟩

theorem State.fillX_writes (s : State) (n a : Nat) (ws : List Nat) : WritesMemory n s (s.fillX n a ws) := by
  induction ws generalizing s a with
  | nil => exact .refl n s
  | cons w ws ih => exact (s.setX_writes n a w).trans (ih _ _)

theorem State.fillY_writes (s : State) (n a : Nat) (ws : List Nat) : WritesMemory n s (s.fillY n a ws) := by
  induction ws generalizing s a with
  | nil => exact .refl n s
  | cons w ws ih => exact (s.setY_writes n a w).trans (ih _ _)

theorem State.cleanSpan_writes (s : State) (m n a len : Nat) : WritesMemory m s (s.cleanSpan n a len) :=
  ⟨(s.withMem_touches _).mono, Engine.sameBut_refl _⟩

theorem State.putX_writes (s : State) (n a : Nat) (ws : List Nat) : WritesMemory n s (s.putX n a ws) :=
  (s.fillX_writes n a ws).trans (State.cleanSpan_writes _ _ _ _ _)

theorem State.putY_writes (s : State) (n a : Nat) (ws : List Nat) : WritesMemory n s (s.putY n a ws) :=
  (s.fillY_writes n a ws).trans (State.cleanSpan_writes _ _ _ _ _)

theorem State.putParams_writes (s : State) (n : Nat) : WritesMemory n s (s.putParams n) := by
  unfold State.putParams
  split
  · refine WritesMemory.foldl (fun s e => ?_) _ s
    split
    · exact s.putY_writes _ _ _
    · exact .refl n s
  · exact .refl n s

theorem State.putDdr_engine (s : State) (n a : Nat) (ws : List Nat) : (s.putDdr a ws).engine n = s.engine n := by
  induction ws generalizing s a with
  | nil => rfl
  | cons w ws ih => exact ih _ _

theorem State.putLocal_sameBut (s : State) (n a : Nat) (ws : List Nat) : (s.engine n).sameBut ((s.putLocal n a ws).engine n) := by
  unfold State.putLocal
  split
  · exact (s.putX_writes _ _ _).2
  · exact (s.putY_writes _ _ _).2

/-- Without an open slot a DMA writes memories only. -/
theorem State.dmaMove_sameBut {s : State} {n : Nat} (h : (s.engine n).openSlot = none) (src dst len : Nat) :
    (s.engine n).sameBut ((s.dmaMove n src dst len).engine n) := by
  unfold State.dmaMove
  extract_lets typ off
  split
  · simp only [h, Option.bind_none]
    exact Engine.sameBut_refl _
  · split
    · exact s.putLocal_sameBut _ _ _
    · rw [State.putDdr_engine]
      exact Engine.sameBut_refl _

/-! ### Reads of a reel -/

/-- What a read of a reel touches: bad words are zeroed and counted, and the descriptors of the reel are degraded. -/
def readFrame : Frame := { parts := [.hist, .eng, .reg, .ev], keys := [(Obj.REEL_ECC_RESETS, Obj.REEL_ECC_RESETS)], events := [0x0A1] }

/-- The engine runs alike: its state, pending interrupts and the states of its slots. -/
structure Engine.RunsAlike (e f : Engine) : Prop where
  st : f.st = e.st
  ipend : f.ipend = e.ipend
  slot : ∀ b, (f.slot b).st = (e.slot b).st

theorem Engine.RunsAlike.refl (e : Engine) : e.RunsAlike e := ⟨rfl, rfl, fun _ => rfl⟩

theorem Engine.RunsAlike.trans {e f g : Engine} (h : e.RunsAlike f) (k : f.RunsAlike g) : e.RunsAlike g :=
  ⟨k.st.trans h.st, k.ipend.trans h.ipend, fun b => (k.slot b).trans (h.slot b)⟩

theorem Engine.RunsAlike.of_sameBut {e f : Engine} (h : e.sameBut f) : e.RunsAlike f := by
  obtain ⟨x, y, rfl⟩ := h
  exact ⟨rfl, rfl, fun _ => rfl⟩

/-- The engine with a mapping of its descriptors. -/
def Engine.mapDescs (e : Engine) (f : Descriptor → Descriptor) : Engine :=
  { e with queue := e.queue.map f, slotA := { e.slotA with desc := e.slotA.desc.map f }, slotB := { e.slotB with desc := e.slotB.desc.map f } }

theorem Engine.mapDescs_runsAlike (e : Engine) (f : Descriptor → Descriptor) : e.RunsAlike (e.mapDescs f) :=
  ⟨rfl, rfl, fun b => by
    unfold Engine.slot
    split <;> rfl⟩

theorem State.degradePosted_engine (s : State) (ch buf n : Nat) :
    (s.degradePosted ch buf).engine n = (s.engine n).mapDescs (fun d => d.degrade ch buf) :=
  tabGet_map_snd (fun _ => Engine.init) (fun e => e.mapDescs (fun d => d.degrade ch buf)) (fun _ => rfl) s.eng.units n

/-- The state is reached by reads of reels. -/
def ReadsReel (s t : State) : Prop := Touches readFrame s t ∧ ∀ n, (s.engine n).RunsAlike (t.engine n)

theorem ReadsReel.refl (s : State) : ReadsReel s s := ⟨.refl, fun _ => .refl _⟩

theorem State.zeroWord_reads (s : State) (ch buf w : Nat) : ReadsReel s (s.zeroWord ch buf w) := by
  unfold State.zeroWord
  extract_lets r bins _ _ s2 s3
  have h2 : Touches { parts := [.hist] } s s2 := (s.withHist_touches _).trans (State.withHist_touches _ _)
  have h3 : Touches readFrame s2 s3 ∧ ∀ n, (s2.engine n).RunsAlike (s3.engine n) := by
    unfold s3
    split
    · exact ⟨.of_parts (by intro p hp; cases p <;> simp_all [Part.same, State.degradePosted, readFrame]),
        fun n => by rw [State.degradePosted_engine]; exact Engine.mapDescs_runsAlike _ _⟩
    · exact ⟨.refl, fun _ => .refl _⟩
  have h4 : Touches { parts := [.reg, .ev], keys := [(Obj.REEL_ECC_RESETS, Obj.REEL_ECC_RESETS)], events := [0x0A1] } s3
      ((s3.count Obj.REEL_ECC_RESETS).raiseMs 0x0A1 0) := (s3.count_touches _).mono.andThen (State.raiseLimited_touches _ _ _ _)
  refine ⟨(h2.mono.trans h3.1).andThen h4, fun n => ?_⟩
  rw [h4.engine n]
  exact h3.2 n

theorem State.readReel_reads (s : State) (d : Descriptor) (p : Nat → Bool) : ReadsReel s (s.readReel d p) := by
  unfold State.readReel
  split
  · unfold State.readWords
    generalize s.hist.badWords.filter _ = l
    induction l generalizing s with
    | nil => exact .refl s
    | cons x l ih => exact ⟨(s.zeroWord_reads _ _ _).1.trans (ih _).1, fun n => ((s.zeroWord_reads _ _ _).2 n).trans ((ih _).2 n)⟩
  · exact .refl s

/-! ### A reel is released -/

/-- What the release of a reel touches. -/
def releaseFrame : Frame :=
  { parts := [.hist, .pipe, .reg, .ev], keys := [(Obj.POINT_LIMIT_DROPS, Obj.POINT_LIMIT_DROPS), (Obj.REELS_UNPROCESSED, Obj.REELS_UNPROCESSED)]
    events := [0x0E2, 0x0E4] }

theorem State.releaseReel_touches (s : State) (d : Descriptor) : Touches { parts := [.hist] } s (s.releaseReel d) := by
  have hclear : ∀ u : State, Touches { parts := [.hist] } u (u.settleClaim d.ch) := fun u => by
    unfold State.settleClaim
    split
    · exact (u.withHist_touches _).trans (State.withHist_touches _ _)
    · exact .refl
  exact .ite (.ite (.ite (s.withHist_touches _) ((s.withHist_touches _).trans (hclear _))) .refl) .refl

theorem State.newSpoke_touches (s : State) (g bind : Nat) (f : FirstTake) : Touches releaseFrame s (s.newSpoke g bind f) := by
  have hlimit : Touches releaseFrame s (s.limitSpokes g) := by
    rw [State.limitSpokes]
    split
    · exact .ite (s.withPipe_touches _).mono .refl
    · exact .refl
  have hextr : ∀ u : State, Touches releaseFrame u (u.applyExtrinsics g) := fun u =>
    .ite ((u.withPipe_touches _).mono.andThen (State.raise_touches _ _ _)) .refl
  exact (hlimit.trans (hextr _)).andThen (State.withPipe_touches _ _)

theorem State.spokeFor_touches (s : State) (g bind : Nat) (f : FirstTake) : Touches releaseFrame s (s.spokeFor g bind f) := by
  unfold State.spokeFor
  split
  · exact (s.withPipe_touches _).mono
  · exact s.newSpoke_touches _ _ _

theorem State.addPoint_touches (s : State) (g b : Nat) (p : SpokePoint) : Touches releaseFrame s (s.addPoint g b p) := by
  unfold State.addPoint
  split
  · exact .refl
  · exact .ite (s.withPipe_touches _).mono
      (((s.withPipe_touches _).mono.andThen (State.count_touches _ _)).andThen (State.raiseLimited_touches _ _ _ _))

theorem State.assembleReel_touches (s : State) (d : Descriptor) (recs : List Nat) (lost : Bool) :
    Touches releaseFrame s (s.assembleReel d recs lost) := by
  unfold State.assembleReel
  extract_lets s1 s2 s3 s4
  have h1 : Touches releaseFrame s s1 := s.spokeFor_touches _ _ _
  have h2 : Touches releaseFrame s s2 := h1.foldl fun s r => s.addPoint_touches _ _ _
  have h3 : Touches releaseFrame s s3 := h2.andThen (s2.withPipe_touches _)
  have h4 : Touches releaseFrame s s4 :=
    ((h3.andThen (s3.withPipe_touches _)).andThen (State.withPipe_touches _ _)).andThen (State.withPipe_touches _ _)
  exact .ite ((h4.andThen (s4.withPipe_touches _)).andThen (State.withPipe_touches _ _)) h4

theorem State.releaseUnprocessed_touches (s : State) (d : Descriptor) : Touches releaseFrame s (s.releaseUnprocessed d) :=
  ((s.releaseReel_touches d).mono.andThen (State.count_touches _ _)).trans (State.assembleReel_touches _ _ _ _)

/-! ### A spoke engine stops -/

theorem Engine.fillSlots_st (e : Engine) (now : Time) : (e.fillSlots now).st = e.st := by
  unfold Engine.fillSlots
  generalize [0, 1] = l
  induction l generalizing e with
  | nil => rfl
  | cons b l ih =>
    rw [List.foldl_cons, ih]
    split
    · rfl
    · split
      · unfold Engine.setSlot
        split <;> rfl
      · rfl

/-- What a dispatched descriptor touches. -/
def dispatchFrame : Frame :=
  { releaseFrame with parts := .eng :: releaseFrame.parts, keys := (Obj.REELS_POSTED, Obj.REELS_POSTED) :: releaseFrame.keys }

/-- A dispatch changes no engine's state. -/
theorem State.dispatch_spec (s : State) (d : Descriptor) (n : Nat) :
    Touches dispatchFrame s (s.dispatch d) ∧ ((s.dispatch d).engine n).st = (s.engine n).st := by
  unfold State.dispatch
  split
  · have h := s.releaseUnprocessed_touches d
    exact ⟨h.mono, by rw [h.engine n]⟩
  · split
    · rename_i m _ _
      refine ⟨(s.setEngine_touches _ _).mono.andThen (State.count_touches _ _), ?_⟩
      unfold State.postTo
      extract_lets e f
      change ((s.setEngine m (f.fillSlots s.now)).engine n).st = _
      by_cases h : n = m
      · subst h
        rw [State.engine_setEngine_same, Engine.fillSlots_st]
      · rw [State.engine_setEngine_other _ _ h]
    · exact ⟨(s.withHist_touches _).mono, rfl⟩

/-- What an engine's fault touches, beside the engine's counter. -/
def faultFrame : Frame := { dispatchFrame with parts := .mem :: dispatchFrame.parts, events := (List.range 32).map (0x0C0 + ·) ++ dispatchFrame.events }

theorem le_faultFrame (n : Fin 32) : Frame.le { parts := [.ev], events := [0x0C0 + n.val] } faultFrame = true := by
  revert n
  decide

theorem State.raiseSe_touches (s : State) (n : Fin 32) (cause : Nat) : Touches faultFrame s (s.raiseSe n cause) :=
  (s.raiseLimited_touches _ _ _).mono (le_faultFrame n)

theorem State.offline_spec (s : State) (n : Fin 32) : Touches faultFrame s (s.offline n) ∧ ((s.offline n).engine n).st = .offline := by
  unfold State.offline
  extract_lets e fresh old _ s1 s2
  have h1 : Touches faultFrame s s1 := (s.setEngine_touches _ _).mono
  have hraise : Touches faultFrame s1 (s1.raise (0x0C0 + n) (8 * 2 ^ 24)) := (s1.raise_touches _ _).mono (le_faultFrame n)
  have hold : Touches { releaseFrame with events := faultFrame.events } (s1.raise (0x0C0 + n) (8 * 2 ^ 24)) s2 :=
    Touches.refl.foldl fun s d => (s.releaseUnprocessed_touches d).mono
  have hst : (s2.engine n).st = .offline := by
    rw [hold.engine n]
    change (s1.engine n).st = _
    rw [State.engine_setEngine_same]
  have hdispatch : ∀ (l : List Descriptor) (u : State), Touches faultFrame u (l.foldl (fun s d => s.dispatch d) u) ∧
      ((l.foldl (fun s d => s.dispatch d) u).engine n).st = (u.engine n).st := by
    intro l
    induction l with
    | nil => exact fun u => ⟨.refl, rfl⟩
    | cons d l ih =>
      intro u
      obtain ⟨htouch, hkeep⟩ := u.dispatch_spec d n
      exact ⟨htouch.mono.trans (ih _).1, (ih _).2.trans hkeep⟩
  exact ⟨((h1.trans hraise).andThen hold).trans (hdispatch _ _).1, ((hdispatch _ _).2.trans hst)⟩

theorem State.loseOpen_touches (s : State) (n : Nat) : Touches faultFrame s (s.loseOpen n) := by
  unfold State.loseOpen
  extract_lets e
  split
  · exact .refl
  · split
    · exact .refl
    · exact ((s.setEngine_touches _ _).mono.andThen (State.assembleReel_touches _ _ _ _)).andThen (State.releaseReel_touches _ _)

theorem faultFrame_key (n : Fin 32) : faultFrame.key (Obj.SE_FAULTS + n) = false := by
  revert n
  decide

/-- A fault of a spoke engine stops it and is counted. -/
theorem State.seFault_spec (s : State) (n : Fin 32) (cause : Nat) :
    ((s.seFault n cause).engine n).st ≠ .running ∧
      (s.seFault n cause).get (Obj.SE_FAULTS + n) = satAdd 0xFFFFFFFF (s.get (Obj.SE_FAULTS + n)) 1 := by
  unfold State.seFault
  extract_lets s1 s2 e fs
  have hlose : Touches faultFrame s (s1.loseOpen n) := (s.withMem_touches _).mono.trans (s1.loseOpen_touches n)
  have hcount : s2.get (Obj.SE_FAULTS + n) = satAdd 0xFFFFFFFF (s.get (Obj.SE_FAULTS + n)) 1 := by
    rw [(State.raiseSe_touches _ n cause).keys _ (faultFrame_key n), State.get_count_same, hlose.keys _ (faultFrame_key n)]
  split
  · obtain ⟨htouch, hst⟩ := s2.offline_spec n
    exact ⟨by simp [hst], (htouch.keys _ (faultFrame_key n)).trans hcount⟩
  · refine ⟨?_, (((s2.setEngine_touches n _).mono : Touches faultFrame s2 _).keys _ (faultFrame_key n)).trans hcount⟩
    rw [State.engine_setEngine_same, Engine.fillSlots_st]
    simp

/-! ### The statement -/

theorem natBit_sub_two_pow {v i : Nat} (h : natBit v i = true) : natBit (v - 2 ^ i) i = false := by
  have hodd : v / 2 ^ i % 2 = 1 := by simpa [natBit, Nat.testBit_eq_decide_div_mod_eq] using h
  have hle : 2 ^ i ≤ v := by
    by_contra hlt
    rw [Nat.div_eq_of_lt (not_le.1 hlt)] at hodd
    omega
  have hdiv : (v - 2 ^ i) / 2 ^ i = v / 2 ^ i - 1 := by
    rw [← Nat.sub_mul_div v (2 ^ i) 1, Nat.mul_one]
  rw [natBit, Nat.testBit_eq_decide_div_mod_eq, hdiv]
  simp only [decide_eq_false_iff_not]
  omega

theorem natBit_of_irqSource {e : Engine} {i : Nat} (h : e.irqSource = some i) : natBit e.ipend i = true := by
  have hbit : natBit (e.imask &&& e.ipend) i = true := by simpa using List.find?_some h
  simp only [natBit, Nat.testBit_and, Bool.and_eq_true] at hbit
  exact hbit.2

theorem natBit_or_two_pow (v i : Nat) : natBit (v ||| 2 ^ i) i = true := by simp [natBit, Nat.testBit_or, Nat.testBit_two_pow_self]

theorem Engine.slot_setSlot_same (e : Engine) (b : Nat) (x : Slot) : (e.setSlot b x).slot b = x := by
  unfold Engine.setSlot Engine.slot
  split <;> simp [*]

theorem State.pend_engine (s : State) (n bit : Nat) : (s.pend n bit).engine n = { s.engine n with ipend := (s.engine n).ipend ||| 2 ^ bit } :=
  s.engine_setEngine_same _ _

/-- The end of a DMA that needs no open slot. -/
theorem State.dmaDone_spec {s : State} {n src dst len : Nat} (hrun : (s.engine n).dmaRun = some (src, dst, len))
    (hopen : (s.engine n).openSlot = none) (hwait : s.dmaWaits src = false) (hbad : s.dmaBad n src dst len = false) :
    ∃ t, s.dmaDone n = .ok t ∧ (t.engine n).dmaRun = none ∧ (t.engine n).dmaStatus = 2 ∧ natBit (t.engine n).ipend 1 = true := by
  obtain ⟨u, hu⟩ : ∃ u : State, u = ((s.dmaMove n src dst len).modEngine n (fun e => { e with dmaRun := none, dmaStatus := 2 })).pend n 1 :=
    ⟨_, rfl⟩
  obtain ⟨x, y, hmove⟩ := State.dmaMove_sameBut hopen src dst len
  have hengine : u.engine n = { s.engine n with x := x, y := y, dmaRun := none, dmaStatus := 2, ipend := (s.engine n).ipend ||| 2 ^ 1 } := by
    rw [hu, State.pend_engine, State.modEngine, State.engine_setEngine_same, hmove]
  have hslots : (u.engine n).openSlot = none := by
    rw [hengine]
    exact hopen
  refine ⟨u, ?_, by rw [hengine], by rw [hengine], by rw [hengine]; exact natBit_or_two_pow _ 1⟩
  simp only [State.dmaDone, hrun, hwait, hbad, Bool.false_eq_true, if_false, ← hu]
  rw [State.releaseAfterDma, hslots]

/-- The engine as a slot of it becomes ready. -/
def State.readySlot (s : State) (n b : Nat) (d : Descriptor) : Engine :=
  { (s.engine n).setSlot b { (s.engine n).slot b with st := .ready, bad := s.slotBad d, order := (s.engine n).readyCount, since := s.now } with
    readyCount := (s.engine n).readyCount + 1 }

/-- The state after the read of the reel of a slot that becomes ready. -/
def State.readSlot (s : State) (n b : Nat) (d : Descriptor) : State :=
  (s.setEngine n (s.readySlot n b d)).readReel d (fun w =>
    d.cands.any (fun c => decide (windowFirst d.gear c ≤ w ∧ w < windowFirst d.gear c + 16)))

/-- The bad words of a sum that has been read are forgotten. -/
def State.forgetSum (s : State) (d : Descriptor) : State :=
  { s with hist := { s.hist with badWords := s.hist.badWords.filter (fun w => !(d.kind == 1 && w.1 == d.ch && w.2.1 == 2)) } }

theorem State.slotReady_eq {s : State} {n b : Nat} {d : Descriptor} (hd : ((s.engine n).slot b).desc = some d)
    (hfill : ((s.engine n).slot b).st = .filling) (hoff : (s.engine n).st ≠ .off) (hline : (s.engine n).st ≠ .offline) :
    s.slotReady n b = (((s.readSlot n b d).putX n (slotBase b) (s.slotWords d)).pend n 0).forgetSum d := by
  have hfills : (((s.engine n).slot b).st == .filling && (s.engine n).st != .off && (s.engine n).st != .offline) = true := by
    simp [hfill, hoff, hline]
  unfold State.slotReady
  extract_lets e x
  split
  · rename_i d' hd'
    obtain rfl : d' = d := Option.some.inj (hd'.symm.trans hd)
    exact if_pos hfills
  · rename_i hnone
    cases hnone.symm.trans hd

/-- A slot that has filled is ready and pends source 0. -/
theorem State.slotReady_spec {s : State} {n b : Nat} {d : Descriptor} (hd : ((s.engine n).slot b).desc = some d)
    (hfill : ((s.engine n).slot b).st = .filling) (hoff : (s.engine n).st ≠ .off) (hline : (s.engine n).st ≠ .offline) :
    (((s.slotReady n b).engine n).slot b).st = .ready ∧ natBit ((s.slotReady n b).engine n).ipend 0 = true ∧
      onlyParts (.eng :: .hist :: reporting) s (s.slotReady n b) := by
  have hread : ReadsReel (s.setEngine n (s.readySlot n b d)) (s.readSlot n b d) := State.readReel_reads _ _ _
  have hwrite := (s.readSlot n b d).putX_writes n (slotBase b) (s.slotWords d)
  rw [State.slotReady_eq hd hfill hoff hline]
  generalize (s.readSlot n b d).putX n (slotBase b) (s.slotWords d) = t at hwrite ⊢
  have hruns : (s.readySlot n b d).RunsAlike (t.engine n) := by
    have h := hread.2 n
    rw [State.engine_setEngine_same] at h
    exact h.trans (.of_sameBut hwrite.2)
  have hengine : ((t.pend n 0).forgetSum d).engine n = { t.engine n with ipend := (t.engine n).ipend ||| 2 ^ 0 } := t.pend_engine n 0
  have hslot : ((s.readySlot n b d).slot b).st = .ready := congrArg Slot.st ((s.engine n).slot_setSlot_same b _)
  refine ⟨?_, ?_, ?_⟩
  · rw [hengine]
    exact (hruns.slot b).trans hslot
  · rw [hengine]
    exact natBit_or_two_pow _ 0
  · have hpend : onlyParts ([.eng] ++ [.hist]) t ((t.pend n 0).forgetSum d) :=
      onlyParts_trans (t.setEngine_touches _ _).parts (State.withHist_touches _ _).parts
    exact onlyParts_mono (onlyParts_trans (onlyParts_trans (onlyParts_trans (s.setEngine_touches _ _).parts hread.1.parts) hwrite.1.parts) hpend)
      (by decide)

/-- Settles O52: each event by its branch; a stop by what a fault does, a filled slot by what the read of its reel leaves. -/
theorem engineEventsFollowTheirRules : Obligations.EngineEventsFollowTheirRules := by
  intro s n e
  have he : s.engine n = e := rfl
  clear_value e
  have hbus : ∀ r t, e.st = .running → r = .ok t → s.busOp n r = t := fun r t hst hr => by
    subst hr
    unfold State.busOp
    rw [he, hst]
    rfl
  refine ⟨fun i hi hst hie hplace => ?_, fun hst hcmp hturn => ?_, fun b d hd hfill hoff hline => ?_, fun b hst hopen hready => ?_,
    fun b v hst hopen hv hdma => ?_, fun b i v hst hopen hi => ?_, fun hst hok => ?_, fun hst hok => ?_,
    fun src dst len hst hrun hopen hwait hbad => ?_, fun w hi => ?_, fun b hopen hst hdue hlate => ?_, fun b hopen hst hdue hexp => ?_,
    fun hopen => ?_, fun hst hclock => ?_, fun hleave hst hload => ?_, fun hopen => ?_⟩
  · refine ⟨?_, rfl, rfl, natBit_sub_two_pow (natBit_of_irqSource hi), rfl, rfl⟩
    change execInterruptAccept n s = _
    simp [execInterruptAccept, he, hi, hst, hie, hplace]
  · have harm : exec (.timerMatch n) s = .next ((s.setEngine n { e with timerTurn := some (s.engCycles n / 2 ^ 32) }).pend n 2) := by
      rw [← he]
      exact if_pos (by rw [he, hst, decide_eq_true hcmp, bne_iff_ne.2 hturn]; rfl)
    refine ⟨_, harm, ?_, ?_, ((s.setEngine_touches _ _).trans (State.setEngine_touches _ _ _)).parts⟩
    · rw [State.pend_engine]
      exact natBit_or_two_pow _ 2
    · rw [State.pend_engine, State.engine_setEngine_same]
  · obtain rfl := he
    exact ⟨_, rfl, State.slotReady_spec hd hfill hoff hline⟩
  · exact congrArg Host.Outcome.next (hbus _ _ hst (by simp only [State.mbxNext, he, hopen, hready]))
  · refine congrArg Host.Outcome.next (hbus _ _ hst ?_)
    simp only [State.mbxRelease, he, hopen, hv, hdma, if_true, Bool.false_eq_true, if_false]
  · have hword : v.toNat % 65536 = v.toNat := Nat.mod_eq_of_lt v.isLt
    refine ⟨s.setEngine n { e with
        ptOut := (if i.val = 0 then List.replicate 8 0 else (e.ptOut ++ List.replicate (8 - e.ptOut.length) 0)).set i v.toNat },
      congrArg Host.Outcome.next (hbus _ _ hst ?_), ?_, (s.setEngine_touches n _).parts⟩
    · simp only [State.ptOut, he, hopen, hi, if_false, hword]
    · rw [State.engine_setEngine_same]
  · refine ⟨_, congrArg Host.Outcome.next (hbus _ _ hst ?_), s.engine_setEngine_same n _, (s.setEngine_touches n _).parts⟩
    change Except.ok (s.dmaCtrl n 1) = _
    simp only [State.dmaCtrl, he, hok, if_true]
  · refine ⟨_, congrArg Host.Outcome.next (hbus _ _ hst ?_), s.engine_setEngine_same n _, (s.setEngine_touches n _).parts⟩
    change Except.ok (s.dmaCtrl n 1) = _
    simp only [State.dmaCtrl, he, hok, if_true, Bool.false_eq_true, if_false]
  · obtain rfl := he
    obtain ⟨t, ht, hspec⟩ := State.dmaDone_spec hrun hopen hwait hbad
    exact ⟨t, congrArg Host.Outcome.next (hbus _ _ hst ht), hspec⟩
  · exact congrArg Host.Outcome.next (issue_of_error hi rfl)
  · change execSeWatchdog n s = _
    simp [execSeWatchdog, he, hopen, hst, hdue, hlate]
  · have hover : (s.engine n).overdue = true := by
      rw [he]
      simp [Engine.overdue, hopen, hst, hdue, hexp]
    rw [State.expire, if_pos hover]
    exact s.seFault_spec n 5
  · have hover : (s.engine n).overdue = false := by
      rw [he]
      simp [Engine.overdue, hopen]
    rw [State.expire, hover]
    rfl
  · obtain ⟨u, hu⟩ : ∃ u : State, u = s.setEngine n { Engine.init with
        st := .running, pc := s.entryPoint, startAt := s.now, queue := e.queue, slotA := e.slotA, slotB := e.slotB
        readyCount := e.readyCount, x := e.heldX, faults := e.faults, faultAt := e.faultAt, leaving := e.leaving } := ⟨_, rfl⟩
    obtain ⟨htouch, x, y, hengine⟩ := u.putParams_writes n
    rw [hu, State.engine_setEngine_same, ← hu] at hengine
    have hset : onlyParts [.eng] s u := hu ▸ (s.setEngine_touches _ _).parts
    refine ⟨u.putParams n, ?_, by rw [hengine], by rw [hengine], by rw [hengine], by rw [hengine], by rw [hengine],
      onlyParts_mono (onlyParts_trans hset htouch.parts) (by decide)⟩
    rw [hu, ← he]
    exact if_pos (by rw [he, hst, hclock]; rfl)
  · refine ⟨s.setEngine n { Engine.init with leaving := true }, ?_, ?_, ?_, (s.setEngine_touches n _).parts⟩
    · change execSeQueueDrained n s = _
      simp [execSeQueueDrained, he, hleave, hst, hload]
    · rw [State.engine_setEngine_same]
      rfl
    · rw [State.engine_setEngine_same]
  · obtain ⟨u, hu⟩ : ∃ u : State, u = s.setEngine n { e with params := [], stale := [] } := ⟨_, rfl⟩
    have harm : exec (.kernelParamDeliver n) s = .next (e.params.foldl (fun s p => s.putY n p.2.1 (wordsOf p.2.2)) u) := by
      rw [hu, ← he]
      exact if_neg (by simp [he, hopen])
    obtain ⟨htouch, x, y, hengine⟩ := WritesMemory.foldl (n := n.val) (fun s p => s.putY_writes n p.2.1 (wordsOf p.2.2)) e.params u
    rw [hu, State.engine_setEngine_same, ← hu] at hengine
    have hset : onlyParts [.eng] s u := hu ▸ (s.setEngine_touches _ _).parts
    exact ⟨_, harm, by rw [hengine], by rw [hengine], onlyParts_mono (onlyParts_trans hset htouch.parts) (by decide)⟩

end Sys2Proof.Machine

/-! ## Calibration: spans, repeats, acceptance, due units (R590 to R616) -/

namespace Sys2Proof.Machine

open Sys2Proof Sys2Proof.Safety

set_option Elab.async false

/-! ### Spans -/

theorem State.followSpans_touches (s : State) : Touches { parts := [.rx] } s s.followSpans := by
  unfold State.followSpans
  extract_lets u
  have hu : Touches { parts := [.rx] } s u := Touches.refl.foldl fun s e => s.setRxChan_touches _ _
  exact hu.foldl fun s r => s.setRxChan_touches _ _

/-- What the start or the end of a span leaves of the runs. -/
theorem State.setSpan_spec (s : State) (u : Nat) (x : Bool) :
    let t := (s.setSpan u x).followSpans
    (∀ r ∈ t.cal.runs, r.unit_ = u → r.inSpan = (x && s.spanAt u r.kind (s.nowTaps + 63))) ∧ t.cal.runs.length = s.cal.runs.length ∧
      onlyParts [.cal, .rx] s t := by
  intro t
  have hfollow := (s.setSpan u x).followSpans_touches
  have hruns : t.cal.runs = s.cal.runs.map (fun r => if r.unit_ == u then { r with inSpan := x && s.spanAt u r.kind (s.nowTaps + 63) } else r) :=
    congrArg CalState.runs (hfollow.part .cal)
  refine ⟨fun r hr hu => ?_, by rw [hruns, List.length_map], onlyParts_mono (onlyParts_trans (s.withCal_touches _).parts hfollow.parts) (by decide)⟩
  rw [hruns] at hr
  obtain ⟨r', -, rfl⟩ := List.mem_map.1 hr
  by_cases hr' : r'.unit_ = u
  · simp [hr']
  · simp [hr'] at hu

theorem State.spanAt_of_open {s : State} {u : Nat} (hu : u < 256) (hw : s.windowOpen (s.groupOf u) = true) (k : Nat) (x : Int) :
    s.spanAt u k x = false := by simp [State.spanAt, hu, hw]

theorem State.spanAt_of_stopped {s : State} {u : Nat} (hu : u < 256) (hw : s.windowOpen (s.groupOf u) = false) (hq : s.seq.state ≠ .running)
    (k : Nat) (x : Int) : s.spanAt u k x = true := by simp [State.spanAt, hu, hw, hq]

/-! ### Status words -/

/-- A unit's table temperature is not its status. -/
theorem calKey_ne_calTempKey {u : Nat} (hu : u ≤ 304) : calKey u ≠ calTempKey u := by
  unfold calKey calTempKey Obj.CAL_STATUS Obj.CAL_TEMP Obj.AUX_CAL_STATUS Obj.AUX_CAL_TEMP
  split <;> omega

theorem State.getN_set_same (s : State) (k n : Nat) : (s.set k (n : Nat)).getN k = n := by
  rw [State.getN, State.get_set_same, Int.toNat_natCast]

/-- An accepted first kind leaves CODE 0. -/
theorem State.acceptUnit_code (s : State) {u : Nat} (hu : u ≤ 304) (rs : List CalRepeat) : (s.acceptUnit u 1 rs).getN (calKey u) % 2 ^ 11 = 0 := by
  have hout : (s.setOutcome u 1 0).getN (calKey u) % 2 ^ 11 = 0 := by
    rw [State.setOutcome, State.getN_set_same]
    omega
  have hclear : ((s.setOutcome u 1 0).clearDue u 1).getN (calKey u) % 2 ^ 11 = 0 := by
    generalize s.setOutcome u 1 0 = t at hout ⊢
    unfold State.clearDue
    split
    · rw [State.getN_set_same]
      simp only [dueBit, if_true]
      omega
    · exact hout
  rw [← hclear]
  refine congrArg (fun v : Int => v.toNat % 2 ^ 11) ?_
  exact State.get_set_other _ _ (calKey_ne_calTempKey hu)

/-- A due bit that was clear is set; a set one stays. -/
theorem State.setDue_bit (s : State) (u b : Nat) : natBit ((s.setDue u b).getN (calKey u)) b = true := by
  unfold State.setDue
  split
  · assumption
  · rename_i h
    change natBit ((s.set (calKey u) _).getN (calKey u)) b = true
    rw [State.getN_set_same, natBit, Nat.add_comm, Nat.testBit_two_pow_add_eq]
    simpa [natBit] using h

/-- The DUE bit of the second kind leaves that of the first. -/
theorem State.setDue_14 {s : State} {u : Nat} (h : natBit (s.getN (calKey u)) 15 = true) :
    natBit ((s.setDue u 14).getN (calKey u)) 15 = true := by
  unfold State.setDue
  split
  · exact h
  · rename_i hb
    change natBit ((s.set (calKey u) _).getN (calKey u)) 15 = true
    rw [State.getN_set_same]
    simp only [natBit, Nat.testBit_eq_decide_div_mod_eq, decide_eq_true_eq, Nat.reducePow] at h hb ⊢
    omega

theorem State.becomeDue_spec (s : State) (u : Nat) :
    natBit ((s.becomeDue u).getN (calKey u)) 15 = true ∧ onlyParts reporting s (s.becomeDue u) := by
  have h15 := s.setDue_touches u 15
  unfold State.becomeDue
  extract_lets t
  split
  · exact ⟨State.setDue_14 (s.setDue_bit u 15), onlyParts_mono (h15.trans (t.setDue_touches u 14)).parts (by decide)⟩
  · exact ⟨s.setDue_bit u 15, onlyParts_mono h15.parts (by decide)⟩

/-! ### Runs -/

/-- The calibration tables stay where a job is looked after. -/
theorem State.setRunningBit_cal (s : State) (u : Nat) (x : Bool) : (s.setRunningBit u x).cal = s.cal := rfl

theorem State.startRun_tables (s : State) (kind u slot : Nat) : (s.startRun kind u slot).cal.tables = s.cal.tables := by
  have hfold : ∀ (us : List Nat) (t : State), (us.foldl (fun s u => s.setRunningBit u true) t).cal.tables = t.cal.tables := fun us => by
    induction us with
    | nil => exact fun _ => rfl
    | cons u us ih => exact fun t => ih _
  unfold State.startRun
  extract_lets r _ t
  split
  · exact hfold _ t
  · rfl

theorem State.calJobCheck_tables (s : State) (slot : Nat) : (s.calJobCheck slot).cal.tables = s.cal.tables := by
  have hfold : ∀ (kind : Nat) (l : List (Nat × Nat)) (t : State), (l.foldl (fun s w => s.startRun kind w.2 slot) t).cal.tables = t.cal.tables :=
    fun kind l => by
      induction l with
      | nil => exact fun _ => rfl
      | cons w l ih => exact fun t => (ih _).trans (t.startRun_tables _ _ _)
  have hfill : ∀ kind, (s.fillRuns slot kind).cal.tables = s.cal.tables := fun kind => hfold kind _ _
  unfold State.calJobCheck
  extract_lets t code _ v
  split
  · rfl
  · split
    · exact hfill _
    · rw [(State.finishJob_touches v _ _ _).part .cal]
      exact hfill _

/-- A run that online calibration starts on a unit. -/
theorem State.startRun_spec (s : State) {kind u : Nat} (hu : u < 304) :
    (s.startRun kind u 0).cal.runs = s.cal.runs ++ [⟨kind, u, 0, s.now, s.dieTemps, s.injecting, [], false, [], [], []⟩] ∧
      onlyParts [.cal, .reg] s (s.startRun kind u 0) := by
  have hne : u ≠ rangeUnit := by unfold rangeUnit; omega
  unfold State.startRun
  simp only [hne, if_false]
  exact ⟨rfl, onlyParts_trans (s.withCal_touches _).parts (State.set_touches _ _ _).parts⟩

/-- The units that online calibration may take have numbers below 304. -/
theorem State.lt_of_mem_onlineChoices {s : State} {x : Nat × Nat} (h : x ∈ s.onlineChoices) : x.1 < 304 := by
  have hmem := List.mem_of_mem_filter ((sortBy_perm _ _).mem_iff.1 h)
  simp only [List.mem_flatMap, List.mem_range, List.mem_cons, List.not_mem_nil, or_false] at hmem
  obtain ⟨u, hu, rfl | rfl⟩ := hmem <;> exact hu

/-- Two TDC repeats that agree install the table of their summed counts. -/
theorem State.judgeUnit_spec {s : State} {r : CalRun} {u : Nat} {a b : CalRepeat} (hu : u ≤ 304) (hk : r.kind = 1)
    (hagree : tdcAgree a.result b.result = true) (htemp : s.tempMoved u [a, b] = false) :
    tabGet (fun _ => []) (s.judgeUnit r u a b).cal.tables u =
        tdcTable ((List.range 64).map (fun k => a.result.taps.getD k 0 + b.result.taps.getD k 0)) ∧
      (r.slot = 0 → (s.judgeUnit r u a b).getN (calKey u) % 2 ^ 11 = 0 ∧ raisedCount (s.judgeUnit r u a b) 0x100 = raisedCount s 0x100 + 1) := by
  obtain ⟨v, hv⟩ : ∃ v : State, v = (s.dropRun u r.kind).installTdc u a.result b.result := ⟨_, rfl⟩
  have hjudge : s.judgeUnit r u a b = (v.acceptUnit u 1 [a, b]).calJobCheck r.slot := by
    simp [State.judgeUnit, hk, hagree, htemp, hv, State.installUnit]
  have hclear : Touches { parts := [.reg], above := some Obj.CAL_STATUS } v ((v.setOutcome u 1 0).clearDue u 1) := by
    refine (v.setOutcome_touches u 1 0).trans (.ite ?_ .refl)
    refine (State.set_touches _ _ _).mono ?_
    simp [Frame.le, calKey_ge]
  rw [hjudge]
  refine ⟨?_, fun hslot => ?_⟩
  · rw [State.calJobCheck_tables]
    change tabGet (fun _ => []) ((v.setOutcome u 1 0).clearDue u 1).cal.tables u = _
    rw [hclear.part .cal, hv]
    exact tabGet_put_same (fun _ => ([] : List Nat)) s.cal.tables u
      (tdcTable ((List.range 64).map (fun k => a.result.taps.getD k 0 + b.result.taps.getD k 0)))
  · have hnone : (v.acceptUnit u 1 [a, b]).calJobCheck r.slot = v.acceptUnit u 1 [a, b] := by
      rw [hslot]
      rfl
    rw [hnone]
    refine ⟨v.acceptUnit_code hu _, (raisedCount_raise_same _ _ _).trans (congrArg (· + 1) ?_)⟩
    have hcount : raisedCount ((v.setOutcome u 1 0).clearDue u 1) 0x100 = raisedCount v 0x100 := hclear.raised _
    exact hcount.trans (by rw [hv]; rfl)

/-- Settles O53: the branches of the calibration commands. -/
theorem calibrationRunsToItsVerdict : Obligations.CalibrationRunsToItsVerdict := by
  intro s
  have hrepeat : ∀ (u : Fin 305) (m : CalMeasure) (r : CalRun), s.cal.runs.find? (fun r => r.unit_ == u.val && !r.waits) = some r →
      r.kind ≠ 3 → s.repeatFull r (r.measured m) = true → r.unit_ = u ∧ exec (.calRepeatDone u m) s = .next (s.unitRepeat r (r.measured m)) := by
    intro u m r hr hk hfull
    have hunit : r.unit_ = u.val := by
      have := List.find?_some hr
      simp only [Bool.and_eq_true, beq_iff_eq] at this
      exact this.1
    refine ⟨hunit, ?_⟩
    change execCalRepeatDone u m s = _
    simp only [execCalRepeatDone, hr, hfull, hk, Bool.not_true, Bool.false_eq_true, if_false]
  refine ⟨fun u => ?_, fun u k x hu hw => State.spanAt_of_open hu hw k x, fun u k x hu hw hq => State.spanAt_of_stopped hu hw hq k x,
    fun u => ?_, fun u m r hr hfull => ?_, fun u m r hr hk hfull hu hcode => ?_, fun u m' r hr hk => ?_, fun u r hr hre => ?_,
    fun u hrun hon hre => ⟨_, if_pos (by simp [hrun, hon, hre]), s.becomeDue_spec u⟩, fun x rest hrun hon hfree hx => ?_⟩
  · obtain ⟨hspan, hlen, hparts⟩ := s.setSpan_spec u true
    exact ⟨_, rfl, fun r hr hu => (hspan r hr hu).trans (Bool.true_and _), hlen, hparts⟩
  · obtain ⟨hspan, -, hparts⟩ := s.setSpan_spec u false
    exact ⟨_, rfl, fun r hr hu => (hspan r hr hu).trans (Bool.false_and _), hparts⟩
  · change execCalRepeatDone u m s = _
    simp only [execCalRepeatDone, hr, hfull, Bool.not_false, if_true]
  · have hmeasured : r.measured m = m := if_neg (by omega)
    obtain ⟨hunit, hexec⟩ := hrepeat u m r hr (by omega) (by rw [hmeasured]; exact hfull)
    rw [hexec, hmeasured, State.unitRepeat]
    simp only [hk, hcode, hunit, ne_eq, not_false_eq_true, if_true, if_neg (by decide : ¬ (2 : Nat) = 1)]
  · intro m hfull
    obtain ⟨hunit, hexec⟩ := hrepeat u m' r hr (by omega) hfull
    rw [hexec]
    refine ⟨fun hcode => ?_, fun hcode hdone => ?_, fun a rest hcode hdone hgood => ?_⟩
    · rw [State.unitRepeat]
      simp only [hk, if_true, show tdcCode (r.measured m') ≠ 0 from hcode, hunit, ne_eq, not_false_eq_true]
      rfl
    · have hnext : s.unitRepeat r (r.measured m') = s.nextRepeat r ⟨m, [], r.temps, s.dieTemps⟩ := by
        rw [State.unitRepeat]
        simp only [hk, if_true, show tdcCode (r.measured m') = 0 from hcode, hdone, ne_eq, not_true_eq_false, if_false]
        rfl
      rw [hnext]
      refine ⟨_, rfl, (s.withCal_touches _).parts, fun x hx hxu hxk => ?_⟩
      obtain ⟨y, -, rfl⟩ := List.mem_map.1 hx
      by_cases hy : (y.unit_ == r.unit_ && y.kind == r.kind) = true
      · rw [if_pos hy]
        exact ⟨rfl, rfl⟩
      · rw [if_neg hy] at hxu hxk
        simp [hxu, hxk, hunit, hk] at hy
    · have hjudge : s.unitRepeat r (r.measured m') = s.judgeUnit r u a ⟨m, [], r.temps, s.dieTemps⟩ := by
        rw [State.unitRepeat]
        simp only [hk, if_true, show tdcCode (r.measured m') = 0 from hcode, hdone, hunit, ne_eq, not_true_eq_false, if_false]
        rfl
      rw [hjudge]
      exact ⟨_, rfl, State.judgeUnit_spec (by omega) hk hgood.1 hgood.2⟩
  · change execCalTdcTimeout u s = _
    simp only [execCalTdcTimeout, hr, hre, if_true]
  · have hno : s.cal.runs.any (fun r => r.slot == 0) = false := List.any_eq_false.2 fun r hr => by simpa using hfree r hr
    obtain ⟨hruns, hparts⟩ := s.startRun_spec (kind := x.2) (State.lt_of_mem_onlineChoices (hx ▸ List.mem_cons_self))
    refine ⟨_, ?_, hparts, hruns⟩
    change execCalOnlineStart s = _
    simp only [execCalOnlineStart, hrun, hon, hno, hx, Bool.not_false, Bool.and_self, if_true]

end Sys2Proof.Machine

/-! ## Housekeeping: the stages of a measurement, die conversions, gains and trims (R626 to R650) -/

namespace Sys2Proof.Machine

open Sys2Proof Sys2Proof.Safety

set_option Elab.async false

/-- What an event of the housekeeping and capture blocks touches. -/
theorem State.raiseHk_touches (s : State) (e m : Nat) : Touches { parts := [.ev], events := [e] } s (s.raiseHk e m) := by
  unfold State.raiseHk
  extract_lets key free
  have hstart : Touches { parts := [.ev], events := [e] } s (s.limiterStart key) :=
    .of_parts (by intro p hp; cases p <;> simp_all [Part.same, State.limiterStart])
  exact .ite (hstart.trans (State.raise_touches _ _ _)) .refl

/-! ### The runs of the measurements -/

/-- Where the run of a measurement is put, it is found. -/
theorem State.hkFind_hkPut {s : State} {m : Nat} {r : HkRun} (h : s.hkFind m = some r) {r' : HkRun} (hm : r'.m = r.m) :
    (s.hkPut r').hkFind m = some r' := by
  have hrm : r.m = m := by simpa using List.find?_some h
  unfold State.hkFind State.hkPut at *
  generalize s.hk.runs = l at h ⊢
  induction l with
  | nil => cases h
  | cons x l ih =>
    by_cases hx : x.m = m
    · simp [hm, hrm, hx]
    · have hrest : l.find? (fun r => r.m == m) = some r := by simpa [hx] using h
      simpa [hm, hrm, hx] using ih hrest

theorem State.hkPut_parts (s : State) (r : HkRun) : onlyParts [.hk] s (s.hkPut r) := (s.withHk_touches _).parts

/-- The fallback of a converter changes no run. -/
theorem State.setFallback_spec (s : State) (r : HkRun) (x : Bool) (m : Nat) :
    (s.setFallback r x).hkFind m = s.hkFind m ∧ onlyParts (.hk :: reporting) s (s.setFallback r x) := by
  unfold State.setFallback
  extract_lets get changed _ u
  have hu : Touches { parts := [.hk] } s u := s.withHk_touches _
  have hraise := u.raiseHk_touches 0x114 r.m
  split
  · exact ⟨(congrArg (fun h : HkState => h.runs.find? (fun x : HkRun => x.m == m)) (hraise.part .hk)).trans rfl,
      onlyParts_mono (onlyParts_trans hu.parts hraise.parts) (by decide)⟩
  · exact ⟨rfl, onlyParts_mono hu.parts (by decide)⟩

/-! ### The end of a period -/

theorem State.hkPeriodEvents_hk (s : State) (m : Nat) (f : HkFlags) : (s.hkPeriodEvents m f).hk = s.hk := by
  have hraise : ∀ (b : Bool) (u : State) (e : Nat), (if b then u.raiseHk e m else u).hk = u.hk := fun b u e => by
    cases b
    · rfl
    · exact (u.raiseHk_touches e m).part .hk rfl
  exact (hraise _ _ _).trans ((hraise _ _ _).trans (hraise _ _ _))

theorem State.startDie_runs (s : State) (cs : List Nat) : (cs.foldl (fun s c => s.startDie c) s).hk.runs = s.hk.runs := by
  induction cs generalizing s with
  | nil => rfl
  | cons c cs ih => exact ih _

theorem State.hkWrite_runs (s : State) (r : HkRun) : (s.hkWrite r).hk.runs = s.hk.runs := by
  have hdraw : (s.hkNumber r).2.hk = s.hk := by
    unfold State.hkNumber
    split
    · split <;> rfl
    · rfl
  unfold State.hkWrite
  extract_lets x u was side v _ w
  have hw : w.hk.runs = s.hk.runs := show x.2.hk.runs = s.hk.runs from congrArg HkState.runs hdraw
  split
  · rw [(w.raiseHk_touches _ _).part .hk, hw]
  · exact hw

theorem State.hkKeep_runs (s : State) (r : HkRun) (range : Bool) : (s.hkKeep r range).hk.runs = s.hk.runs := by
  unfold State.hkKeep
  extract_lets old u
  split <;> rfl

theorem State.hkResult_runs (s : State) (r : HkRun) : (s.hkResult r).hk.runs = s.hk.runs := by
  unfold State.hkResult
  extract_lets cold u v
  have hu : u.hk.runs = s.hk.runs := by
    simp only [u]
    split
    · rw [(s.raiseHk_touches _ _).part .hk]
    · rfl
  have hv : v.hk.runs = s.hk.runs := by
    simp only [v]
    split
    · rw [State.hkKeep_runs, hu]
    · rw [State.hkWrite_runs, hu]
  split
  · exact hv
  · exact hv

/-- The run after a period. -/
def State.periodDone (s : State) (r : HkRun) (n1 ref1 : Nat) (flags : HkFlags) (stop : Time) : HkRun :=
  { r with
    codes := r.codes ++ [(periodCode n1 ((stop - r.since) / 100), periodCode ref1 ((stop - r.since) / 100))], stage := .die, since := s.now
    ovr := r.ovr || flags.ovr, range := r.range || flags.range, open_ := r.open_ || flags.open_ }

/-- At the end of a period the run is the one after it, whatever the result does. -/
theorem State.hkPeriodEnd_spec {s : State} {m : Fin 16} {r : HkRun} {stop : Time} (hr : s.hkFind m = some r) (hstop : s.periodEnd r = some stop)
    (n1 ref1 : Nat) (flags : HkFlags) :
    ∃ t, exec (.hkPeriodEnd m n1 ref1 flags) s = .next t ∧ t.hkFind m = some (s.periodDone r n1 ref1 flags stop) := by
  obtain ⟨u, hu⟩ : ∃ u : State, u = r.convs.foldl (fun s c => s.startDie c) ((s.hkPut (s.periodDone r n1 ref1 flags stop)).hkPeriodEvents m flags) :=
    ⟨_, rfl⟩
  have hruns : u.hk.runs = (s.hkPut (s.periodDone r n1 ref1 flags stop)).hk.runs := by
    rw [hu, State.startDie_runs, State.hkPeriodEvents_hk]
  have hfind : u.hkFind m = some (s.periodDone r n1 ref1 flags stop) := by
    rw [State.hkFind, hruns]
    exact State.hkFind_hkPut hr rfl
  refine ⟨if (s.periodDone r n1 ref1 flags stop).converted then u.hkResult (s.periodDone r n1 ref1 flags stop) else u, ?_, ?_⟩
  · change execHkPeriodEnd m n1 ref1 flags s = _
    simp only [execHkPeriodEnd, hr, hstop, hu]
    rfl
  · split
    · rw [State.hkFind, State.hkResult_runs]
      exact hfind
    · exact hfind

/-! ### Die conversions -/

/-- What the temperature drift of a sensor touches. -/
def driftFrame : Frame := { parts := [.reg, .ev], keys := [(Obj.CAL_STATUS, Obj.AUX_CAL_STATUS + 47)], events := [0x102, 0x115] }

theorem State.setDue_drift (s : State) {u : Nat} (hu : u < 304) (bit : Nat) : Touches driftFrame s (s.setDue u bit) := by
  have hlo : Obj.CAL_STATUS ≤ calKey u := calKey_ge u
  have hhi : calKey u ≤ Obj.AUX_CAL_STATUS + 47 := by
    unfold calKey Obj.AUX_CAL_STATUS Obj.CAL_STATUS
    split <;> omega
  refine .ite .refl (((s.set_touches _ _).mono ?_).andThen (State.raise_touches _ _ _))
  simp [Frame.le, driftFrame, hlo, hhi]

theorem State.becomeDue_drift (s : State) {u : Nat} (hu : u < 304) : Touches driftFrame s (s.becomeDue u) :=
  .ite ((s.setDue_drift hu _).trans (State.setDue_drift _ hu _)) (s.setDue_drift hu _)

theorem State.driftDue_touches (s : State) (sensor : Nat) : Touches driftFrame s (s.driftDue sensor) := by
  refine .ite (Touches.refl.foldl_mem fun s u hu => .ite (s.becomeDue_drift ?_) .refl) .refl
  exact List.mem_range.1 (List.mem_of_mem_filter hu)

theorem State.noteTrimDue_touches (s : State) (sensor : Nat) : Touches driftFrame s (s.noteTrimDue sensor) :=
  .ite (s.raiseHk_touches _ _).mono .refl

theorem State.die_endDie (s : State) (c : Nat) : (s.endDie c).die c = none := by
  unfold State.endDie State.die
  split <;> rfl

/-- The end of a die conversion writes its reading and frees the converter. -/
theorem State.hkDieTempDone_spec {s : State} {c : Fin 2} {sensor : Nat} {w : Time} (hd : s.die c = some (sensor, w)) (hs : sensor < 18)
    (hre : reached s.now w (us 250) = true) (v : Int) :
    ∃ t, exec (.hkDieTempDone c v) s = .next t ∧ t.get (Obj.HK_DIE_TEMP + sensor) = clampInt (-800) 2400 v ∧ t.die c = none := by
  obtain ⟨u, hu⟩ : ∃ u : State, u = (s.set (Obj.HK_DIE_TEMP + sensor) (clampInt (-800) 2400 v)).endDie c := ⟨_, rfl⟩
  obtain ⟨x, hx⟩ : ∃ x : State, x = { u with mem := { u.mem with hourPeak := max u.mem.hourPeak (u.get (Obj.HK_DIE_TEMP + sensor)) } } := ⟨_, rfl⟩
  have hdrift : Touches driftFrame x ((x.driftDue sensor).noteTrimDue sensor) := (x.driftDue_touches _).trans (State.noteTrimDue_touches _ _)
  refine ⟨((x.driftDue sensor).noteTrimDue sensor).hkAdvance, ?_, ?_, ?_⟩
  · change execHkDieTempDone c v s = _
    simp only [execHkDieTempDone, hd, hre, if_true, hx, hu]
  · have hkey : driftFrame.key (Obj.HK_DIE_TEMP + sensor) = false := by
      simp only [Frame.key, driftFrame, List.any_cons, List.any_nil, Option.any_none, Bool.or_false, Bool.and_eq_false_iff,
        decide_eq_false_iff_not, Obj.CAL_STATUS, Obj.AUX_CAL_STATUS, Obj.HK_DIE_TEMP]
      omega
    refine (hdrift.keys _ hkey).trans ?_
    have hget : x.get (Obj.HK_DIE_TEMP + sensor) = u.get (Obj.HK_DIE_TEMP + sensor) := by rw [hx]; rfl
    rw [hget, hu]
    refine (State.get_congr ?_ _).trans (State.get_set_same s _ _)
    unfold State.endDie
    split <;> rfl
  · have hhk : x.die c = none := by
      rw [hx]
      change u.die c = none
      rw [hu]
      exact State.die_endDie _ _
    rw [← hhk]
    change ((x.driftDue sensor).noteTrimDue sensor).die c = x.die c
    exact congrArg (fun h : HkState => if c.val = 0 then h.die0 else h.die1) (hdrift.part .hk)

/-- Settles O54: each stage by its command's branch. -/
theorem housekeepingMeasuresInStages : Obligations.HousekeepingMeasuresInStages := by
  intro s
  refine ⟨fun m hrun hinj hfree => ?_, fun m hrun hinj hnext hfree => ?_, fun m r hr => ⟨fun hst hre => ?_, fun hst hre => ?_,
    fun hst hmode => ?_, fun hst hb hre => ?_, fun n1 ref1 flags stop hstop => ?_⟩,
    fun c v sensor w hd hs hre => State.hkDieTempDone_spec hd hs hre v, fun i hdue hopen htrim => ?_, fun tag v hrun hdue hq htrim => ?_,
    fun w offset gain skew htrim hre => ?_⟩
  · refine ⟨({ s with hk := { s.hk with inject := none } } : State).hkBegin (s.hkRun m true), ?_, rfl, (s.withHk_touches _).parts⟩
    change execHkMeasurementStart s = _
    simp only [execHkMeasurementStart, hrun, hinj, hfree, if_true]
  · refine ⟨({ s with hk := { s.hk with next := (m + 1) % 16 } } : State).hkBegin (s.hkRun m false), ?_, rfl, (s.withHk_touches _).parts⟩
    change execHkMeasurementStart s = _
    simp only [execHkMeasurementStart, hrun, hinj, hnext, hfree, if_true]
  · refine ⟨_, ?_, State.hkFind_hkPut hr rfl, s.hkPut_parts _⟩
    change execHkDischargeEnd m s = _
    simp [execHkDischargeEnd, hr, hst, hre]
  · refine ⟨_, ?_, State.hkFind_hkPut hr rfl, s.hkPut_parts _⟩
    change execHkSettleEnd m s = _
    simp [execHkSettleEnd, hr, hst, hre]
  · refine ⟨_, ?_, State.hkFind_hkPut hr rfl, s.hkPut_parts _⟩
    change execHkPeriodStart m s = _
    simp [execHkPeriodStart, hr, hst, hmode]
  · obtain ⟨hfind, hparts⟩ := (s.hkPut { r with stage := .fixed (ms 1000), unlocked := true }).setFallback_spec r true m
    refine ⟨_, ?_, hfind.trans (State.hkFind_hkPut hr rfl), onlyParts_mono (onlyParts_trans (s.hkPut_parts _) hparts) (by decide)⟩
    change execHkUnlocked m s = _
    simp [execHkUnlocked, hr, hst, hb, hre]
  · obtain ⟨t, ht, hfind⟩ := State.hkPeriodEnd_spec hr hstop n1 ref1 flags
    exact ⟨t, ht, _, hfind, rfl, rfl, rfl⟩
  · refine ⟨_, if_pos (by simp [hdue, hopen, htrim]), ?_, ?_, ?_, (s.withHk_touches _).parts⟩
    · exact tabGet_put_same (fun _ => 0) s.hk.gain i.val (s.getN (Obj.FC_GAIN + i))
    · exact tabGet_put_same (fun _ => false) s.hk.gainDue i.val false
    · exact tabGet_put_same (fun _ => (none : Option Time)) s.hk.gainAt i.val (some s.now)
  · have htrims : s.trims = true := by
      simp only [State.trimDue, Bool.and_eq_true] at hdue
      exact hdue.1
    refine ⟨{ s with hk := { s.hk with trimAt := some s.now } }, ?_, rfl, (s.withHk_touches _).parts⟩
    change execFcTrim none tag v s = _
    simp [execFcTrim, hrun, hdue, hq, htrim, State.startTrim, htrims]
  · obtain ⟨u, hu⟩ : ∃ u : State, u = ((s.set Obj.FC_TRIM_STATE (clampInt (-32768) 32767 offset)).set (Obj.FC_TRIM_STATE + 1)
        (clampInt (-32768) 32767 gain)).set (Obj.FC_TRIM_STATE + 2) (clampInt (-64) 64 skew) := ⟨_, rfl⟩
    have harm : exec (.fcTrimDone offset gain skew) s =
        .next (({ u with hk := { u.hk with trimAt := none, trimTemp := u.get (Obj.HK_DIE_TEMP + 16) } } : State).raise 0x119 0) := by
      change execFcTrimDone offset gain skew s = _
      simp only [execFcTrimDone, htrim, hre, if_true, hu]
    have hset : onlyParts ([.reg] ++ [.reg] ++ [.reg]) s u := by
      rw [hu]
      exact onlyParts_trans (onlyParts_trans (s.set_touches _ _).parts (State.set_touches _ _ _).parts) (State.set_touches _ _ _).parts
    refine ⟨_, harm, rfl, ?_, ?_, ?_, (raisedCount_raise_same _ _ _).trans (by rw [hu]; rfl),
      onlyParts_mono (onlyParts_trans (onlyParts_trans hset (State.withHk_touches _ _).parts) (State.raise_touches _ _ _).parts) (by decide)⟩
    · change u.get Obj.FC_TRIM_STATE = _
      rw [hu, State.get_set_other _ _ (by decide), State.get_set_other _ _ (by decide), State.get_set_same]
    · change u.get (Obj.FC_TRIM_STATE + 1) = _
      rw [hu, State.get_set_other _ _ (by decide), State.get_set_same]
    · change u.get (Obj.FC_TRIM_STATE + 2) = _
      rw [hu, State.get_set_same]

end Sys2Proof.Machine

/-! ## gPTP and the states of the clock (R664 to R676, R692, R701) -/

namespace Sys2Proof.Machine

open Sys2Proof Sys2Proof.Safety

set_option Elab.async false

/-! ### The PTP ports -/

theorem State.setPtp_touches (s : State) (p : Nat) (x : GptpPort) : Touches { parts := [.time] } s (s.setPtp p x) :=
  .ite (s.withTime_touches _) (s.withTime_touches _)

theorem State.ptp_setPtp_same (s : State) (p : Nat) (x : GptpPort) : (s.setPtp p x).ptp p = x := by
  unfold State.setPtp State.ptp
  by_cases h : p = 0 <;> simp [h]

theorem State.ptp_setPtp_other (s : State) {p q : Nat} (hp : p < 2) (hq : q < 2) (h : q ≠ p) (x : GptpPort) : (s.setPtp p x).ptp q = s.ptp q := by
  unfold State.setPtp State.ptp
  by_cases hp0 : p = 0
  · have hq0 : q ≠ 0 := by omega
    simp [hp0, hq0]
  · have hq0 : q = 0 := by omega
    simp [hp0, hq0]

theorem State.setPtp_setPtp (s : State) (p : Nat) (x y : GptpPort) : (s.setPtp p x).setPtp p y = s.setPtp p y := by
  unfold State.setPtp
  split <;> rfl

/-- The two ports of the clock's state. -/
def TimeState.ports (t : TimeState) : GptpPort × GptpPort := (t.p0, t.p1)

theorem State.ptp_congr {s t : State} (h : t.time.ports = s.time.ports) (p : Nat) : t.ptp p = s.ptp p := by
  simp only [TimeState.ports, Prod.mk.injEq] at h
  rw [State.ptp, State.ptp, h.1, h.2]

theorem Touches.ptp {F : Frame} {s t : State} (h : Touches F s t) (p : Nat) (hp : F.parts.contains .time = false := by decide) :
    t.ptp p = s.ptp p := State.ptp_congr (congrArg TimeState.ports (h.part .time hp)) p

/-! ### What moves the clock leaves the ports -/

theorem State.setClock_ports (s : State) (x : Nat) : (s.setClock x).time.ports = s.time.ports := by
  unfold State.setClock
  split
  · rfl
  · dsimp only
    split
    · rfl
    · split <;> rfl

/-- Outside LOCKING and LOCKED an entry changes nothing of local time's state. -/
theorem State.setClock_time (s : State) {x : Nat} (h2 : x ≠ 2) (h3 : x ≠ 3) : (s.setClock x).time = s.time := by
  unfold State.setClock
  by_cases h : s.getN Obj.CLOCK_STATE = x
  · rw [if_pos h]
  · rw [if_neg h, if_neg h2, if_neg h3]
    rfl

theorem State.get_setClock (s : State) {x : Nat} (h : s.getN Obj.CLOCK_STATE ≠ x) : (s.setClock x).get Obj.CLOCK_STATE = x := by
  have hset : ((s.set Obj.CLOCK_STATE x).raise 0x120 0).get Obj.CLOCK_STATE = x := State.get_set_same _ _ _
  unfold State.setClock
  simp only [h, if_false]
  split
  · exact hset
  · split
    · exact hset
    · exact hset

/-- What the entry into HOLDOVER touches. -/
def holdoverFrame : Frame :=
  { clockFrame with keys := (Obj.CLOCK_INCREMENT, Obj.CLOCK_INCREMENT) :: clockFrame.keys }

/-- The holdover increment comes into use. -/
def State.useHoldover (s : State) (source : Nat) : State := match s.holdoverIncrement source with | some i => s.setIncrement i | none => s

theorem State.useHoldover_touches (s : State) (source : Nat) : Touches holdoverFrame s (s.useHoldover source) := by
  unfold State.useHoldover
  split
  · exact (s.withTime_touches _).mono.andThen (State.set_touches _ _ _)
  · exact .refl

theorem State.useHoldover_ports (s : State) (source : Nat) : (s.useHoldover source).time.ports = s.time.ports := by
  unfold State.useHoldover
  split <;> rfl

theorem State.enterHoldover_touches (s : State) (source : Nat) : Touches holdoverFrame s (s.enterHoldover source) :=
  (s.useHoldover_touches source).andThen (State.setClock_touches _ _)

theorem State.enterHoldover_ports (s : State) (source : Nat) : (s.enterHoldover source).time.ports = s.time.ports :=
  (State.setClock_ports _ _).trans (s.useHoldover_ports source)

theorem State.servoWrite_ports (s : State) : s.servoWrite.time.ports = s.time.ports := by
  unfold State.servoWrite
  dsimp only
  split <;> rfl

theorem State.countSync_ports (s : State) (o : Int) : (s.countSync o).time.ports = s.time.ports := by
  unfold State.countSync
  extract_lets n _ u
  split
  · exact State.setClock_ports _ _
  · rfl

theorem State.judgeOffset_ports (s : State) (o : Int) : (s.judgeOffset o).time.ports = s.time.ports := by
  unfold State.judgeOffset
  extract_lets _ u gptp
  have hu : u.time.ports = s.time.ports := rfl
  have hhold : (u.discontinuity o).time.ports = s.time.ports := (State.enterHoldover_ports _ _).trans hu
  split
  · split
    · exact (State.setClock_ports _ _).trans hu
    · exact hu
  · exact hu
  · split
    · exact hhold
    · split
      · exact (State.countSync_ports _ _).trans (u.servoWrite_ports.trans hu)
      · exact hu
  · split
    · exact hhold
    · split
      · exact u.servoWrite_ports.trans hu
      · exact hu
  · split
    · exact (State.setClock_ports _ _).trans hu
    · split
      · exact hu
      · exact hu

/-! ### A valid Sync -/

/-- What the report of a sync timeout touches. -/
theorem State.reportTimeout_touches (s : State) (p : Nat) : Touches { parts := [.time, .ev], events := [0x124] } s (s.reportTimeout p) :=
  .ite ((s.setPtp_touches _ _).mono.andThen (State.raise_touches _ _ _)) .refl

/-- The port after a valid Sync. -/
def State.syncedPort (s : State) (p id : Nat) (o : Int) : GptpPort :=
  { s.ptp p with lastSync := some s.now, syncId := some id, offset := o, timedOut := false }

/-- The state of a valid Sync before the servo judges it. -/
def State.noteSync (s : State) (p id : Nat) (o : Int) : State := (s.reportTimeout p).setPtp p (s.syncedPort p id o)

theorem State.validSync_eq (s : State) (p id : Nat) (o : Int) :
    s.validSync p id o = if (s.noteSync p id o).follows p then (((s.noteSync p id o).moveServo p).noteGm id).judgeOffset o else s.noteSync p id o := by
  have hport : (s.reportTimeout p).syncedPort p id o = s.syncedPort p id o := by
    unfold State.reportTimeout State.syncedPort
    split
    · change ({ (s.setPtp p { s.ptp p with timedOut := true }).ptp p with lastSync := some (s.setPtp p _).now, syncId := _, offset := _, timedOut := _ } : GptpPort) = _
      rw [State.ptp_setPtp_same, ((s.setPtp_touches _ _).part .now)]
    · rfl
  unfold State.validSync
  rw [State.noteSync, ← hport]
  rfl

/-- What the judgement's preparation touches. -/
theorem State.moveServo_touches (s : State) (p : Nat) : Touches { parts := [.time, .ev], events := [0x125] } s (s.moveServo p) :=
  .ite .refl ((s.withTime_touches _).mono.andThen (State.raise_touches _ _ _))

theorem State.moveServo_ports (s : State) (p : Nat) : (s.moveServo p).time.ports = s.time.ports := by
  unfold State.moveServo
  split <;> rfl

theorem State.moveServo_port (s : State) (p : Nat) : (s.moveServo p).time.servoPort = p := by
  unfold State.moveServo
  split
  · assumption
  · rfl

theorem State.noteGm_touches (s : State) (id : Nat) :
    Touches { parts := [.reg, .ev], keys := [(Obj.GM_IDENTITY, Obj.GM_IDENTITY)], events := [0x123] } s (s.noteGm id) :=
  .ite .refl (.ite (s.set_touches _ _).mono ((s.set_touches _ _).mono.andThen (State.raise_touches _ _ _)))

/-- A valid Sync of a port is kept with the time. -/
theorem State.ptp_validSync (s : State) (p id : Nat) (o : Int) : (s.validSync p id o).ptp p = s.syncedPort p id o := by
  have hnote : (s.noteSync p id o).ptp p = s.syncedPort p id o := State.ptp_setPtp_same _ _ _
  rw [State.validSync_eq]
  split
  · rw [State.ptp_congr (State.judgeOffset_ports _ _), (State.noteGm_touches _ _).ptp p, State.ptp_congr (State.moveServo_ports _ _), hnote]
  · exact hnote

/-- A port that the servo follows is followed still once its Sync is noted. -/
theorem State.follows_noteSync {s : State} {p : Nat} (hp : p < 2) (hprimary : s.getN Obj.GPTP_PRIMARY < 2) (h : s.follows p = true) (id : Nat)
    (o : Int) : (s.noteSync p id o).follows p = true := by
  have htouch : Touches { parts := [.time, .ev], events := [0x124] } s (s.noteSync p id o) :=
    (s.reportTimeout_touches p).andThen (State.setPtp_touches _ _ _)
  have hget : ∀ k, (s.noteSync p id o).get k = s.get k := fun k => htouch.keys k rfl
  have hgetN : ∀ k, (s.noteSync p id o).getN k = s.getN k := fun k => congrArg Int.toNat (hget k)
  have hport : (s.noteSync p id o).primaryPort = s.primaryPort := by simp only [State.primaryPort, hgetN]
  have hlt : s.primaryPort < 2 := by
    simp only [State.primaryPort]
    split <;> omega
  simp only [State.follows, hport, Bool.or_eq_true, beq_iff_eq] at h ⊢
  by_cases hpp : s.primaryPort = p
  · exact .inl hpp.symm
  · have hptp : (s.noteSync p id o).ptp s.primaryPort = s.ptp s.primaryPort := by
      rw [State.noteSync, State.ptp_setPtp_other _ hp hlt hpp]
      unfold State.reportTimeout
      split
      · exact State.ptp_setPtp_other s hp hlt hpp _
      · rfl
    have hnow : (s.noteSync p id o).now = s.now := htouch.part .now
    have hreset : (s.noteSync p id o).reset_ = s.reset_ := htouch.part .reset
    refine .inr ?_
    simpa only [State.syncLapsed, State.syncTimeout, hptp, hget, hnow, hreset] using h.resolve_left (Ne.symm hpp)

/-- A one-step Sync that the servo follows in FREE asks for a step. -/
theorem State.validSync_free {s : State} {p : Nat} (hp : p < 2) (hprimary : s.getN Obj.GPTP_PRIMARY < 2) (h : s.follows p = true)
    (hstate : s.getN Obj.CLOCK_STATE = 0) (hsource : s.get Obj.TIME_SOURCE = 0) (id : Nat) (o : Int) :
    let t := s.validSync p id o
    t.get Obj.OFFSET_LAST = offsetNs o ∧ t.time.offset = o ∧ t.time.step = .gptp ∧ t.get Obj.CLOCK_STATE = 1 ∧ t.time.servoPort = p := by
  obtain ⟨u, hu⟩ : ∃ u : State, u = ((s.noteSync p id o).moveServo p).noteGm id := ⟨_, rfl⟩
  have hnote : Touches { parts := [.time, .ev], events := [0x124] } s (s.noteSync p id o) :=
    (s.reportTimeout_touches p).andThen (State.setPtp_touches _ _ _)
  have htouch : Touches { parts := [.time, .reg, .ev], keys := [(Obj.GM_IDENTITY, Obj.GM_IDENTITY)], events := [0x123, 0x124, 0x125] } s u :=
    hu ▸ (hnote.mono.andThen (State.moveServo_touches _ _)).andThen (State.noteGm_touches _ _)
  have hservo : u.time.servoPort = p := by
    rw [hu, (State.noteGm_touches _ _).part .time, State.moveServo_port]
  obtain ⟨w, hw⟩ : ∃ w : State, w = ({ u with time := { u.time with offset := o } } : State).set Obj.OFFSET_LAST (offsetNs o) := ⟨_, rfl⟩
  have hgetw : ∀ k, k ≠ Obj.OFFSET_LAST → k ≠ Obj.GM_IDENTITY → w.get k = s.get k := fun k hk hg => by
    rw [hw, State.get_set_other _ _ hk]
    refine (htouch.keys k ?_)
    simp only [Frame.key, List.any_cons, List.any_nil, Bool.or_false, Option.any_none, Bool.and_eq_false_iff, decide_eq_false_iff_not]
    omega
  have hclock : w.getN Obj.CLOCK_STATE = 0 := (congrArg Int.toNat (hgetw _ (by decide) (by decide))).trans hstate
  have hsrc : w.get Obj.TIME_SOURCE = 0 := (hgetw _ (by decide) (by decide)).trans hsource
  have hjudge : s.validSync p id o = w.askStep .gptp := by
    rw [State.validSync_eq, if_pos (State.follows_noteSync hp hprimary h id o), ← hu, State.judgeOffset, ← hw]
    simp only [hclock, hsrc, beq_self_eq_true, if_true]
  intro t
  obtain ⟨v, hv⟩ : ∃ v : State, v = { w with time := { w.time with step := .gptp, fromFree := w.get Obj.CLOCK_STATE == 0 } } := ⟨_, rfl⟩
  have ht : t = v.setClock 1 := by rw [hv]; exact hjudge
  have hvget : ∀ k, v.get k = w.get k := fun k => by rw [hv]; rfl
  have htime : t.time = v.time := ht ▸ v.setClock_time (by decide) (by decide)
  refine ⟨?_, ?_, ?_, ?_, ?_⟩
  · rw [ht, (v.setClock_touches 1).get Obj.OFFSET_LAST, hvget, hw, State.get_set_same]
  · rw [htime, hv, hw]
    rfl
  · rw [htime, hv]
  · rw [ht]
    refine State.get_setClock _ ?_
    rw [State.getN, hvget, ← State.getN, hclock]
    decide
  · rw [htime, hv, hw]
    exact hservo

/-! ### Messages sent -/

theorem State.sendPtp_touches (s : State) (p : Nat) (bytes : List Byte) : Touches { parts := [.net] } s (s.sendPtp p bytes) :=
  touches_of_same fun q hq => by cases q <;> simp_all [Part.same, State.sendPtp]

theorem State.sendPtp_length (s : State) (p : Nat) (bytes : List Byte) : (s.sendPtp p bytes).net.egress.length = s.net.egress.length + 1 := by
  simp [State.sendPtp, State.transmit]

/-- The first byte of a PTP message carries its type. -/
theorem beAt_ptpHeader (s : State) (p sdo domain type length flags : Nat) (correction : Int) (seq : Nat) (log : Int) (rest : List Byte) :
    beAt (s.ptpHeader p sdo domain type length flags correction seq log ++ rest) 0 1 % 16 = type % 16 := by
  have hbyte : beAt (s.ptpHeader p sdo domain type length flags correction seq log ++ rest) 0 1 = (sdo * 16 + type) % 256 := by
    simp [beAt, State.ptpHeader, beBytes, beNat]
  rw [hbyte]
  omega

/-- A Pdelay_Resp goes to the first class of its port's egress. -/
theorem egressClass_pdelayResp (s : State) (port : Port) (dest vlan : Nat) (x : Head) (p sdo domain length flags : Nat) (correction : Int)
    (seq : Nat) (log : Int) (rest : List Byte) :
    Sent.egressClass ⟨port, .gptp, dest, vlan, s.ptpHeader p sdo domain 3 length flags correction seq log ++ rest, x⟩ = 0 := by
  simp only [Sent.egressClass, beAt_ptpHeader]
  rfl

theorem State.sendPdelayResp_touches (s : State) (p : Nat) : Touches { parts := [.time, .net] } s (s.sendPdelayResp p) := by
  unfold State.sendPdelayResp
  split
  · exact (s.setPtp_touches _ _).mono.andThen (State.sendPtp_touches _ _ _)
  · exact .refl

theorem State.sendPdelayResp_ptp (s : State) (p : Nat) : (s.sendPdelayResp p).ptp p = { s.ptp p with response := none } := by
  unfold State.sendPdelayResp
  split
  · rw [(State.sendPtp_touches _ _ _).ptp p, State.ptp_setPtp_same]
  · rename_i h
    rw [← h]

theorem State.sendPdelayResp_length (s : State) (p : Nat) :
    (s.sendPdelayResp p).net.egress.length = s.net.egress.length + (if (s.ptp p).response.isSome then 1 else 0) := by
  unfold State.sendPdelayResp
  split
  · rename_i bytes h
    rw [State.sendPtp_length, (s.setPtp_touches _ _).part .net, h]
    rfl
  · rename_i h
    rw [h]
    rfl

/-- A message sent beside a new state of the port. -/
theorem State.sendPtp_setPtp (s : State) (p : Nat) (x : GptpPort) (bytes : List Byte) :
    let t := (s.setPtp p x).sendPtp p bytes
    t.ptp p = x ∧ t.net.egress.length = s.net.egress.length + 1 ∧ onlyParts [.time, .net] s t := by
  intro t
  refine ⟨?_, ?_, onlyParts_trans (s.setPtp_touches p x).parts (State.sendPtp_touches _ _ _).parts⟩
  · rw [(State.sendPtp_touches _ _ _).ptp p, State.ptp_setPtp_same]
  · rw [State.sendPtp_length, (s.setPtp_touches _ _).part .net]

/-! ### Announces and timeouts -/

theorem State.selectGm_touches (s : State) :
    Touches { parts := [.reg, .ev], keys := [(Obj.GM_IDENTITY, Obj.GM_IDENTITY)], events := [0x123] } s s.selectGm := by
  unfold State.selectGm
  refine .ite .refl ?_
  split
  · exact s.noteGm_touches _
  · exact .refl

/-- A port's new announce, after which the best master is chosen again. -/
theorem State.selectGm_setPtp (s : State) (p : Nat) (x : GptpPort) :
    ((s.setPtp p x).selectGm).ptp p = x ∧ onlyParts (.time :: reporting) s ((s.setPtp p x).selectGm) := by
  have h := (s.setPtp p x).selectGm_touches
  exact ⟨(h.ptp p).trans (s.ptp_setPtp_same p x), onlyParts_mono (onlyParts_trans (s.setPtp_touches p x).parts h.parts) (by decide)⟩

theorem State.getN_of_steered {s : State} (h : s.steered = true) : s.getN Obj.CLOCK_STATE ≠ 4 := by
  rw [State.getN]
  rcases (by simpa [State.steered] using h : s.get Obj.CLOCK_STATE = 2 ∨ s.get Obj.CLOCK_STATE = 3) with h | h <;> simp [h]

/-- A late host is reported once. -/
def State.reportHost (s : State) : State :=
  if s.time.hostLate then s else ({ s with time := { s.time with hostLate := true } }).raise 0x12B 0

theorem State.reportHost_spec (s : State) :
    Touches { parts := [.time, .ev], events := [0x12B] } s s.reportHost ∧
      raisedCount s.reportHost 0x12B = raisedCount s 0x12B + (if s.time.hostLate then 0 else 1) := by
  unfold State.reportHost
  split
  · exact ⟨.refl, rfl⟩
  · exact ⟨(s.withTime_touches _).mono.andThen (State.raise_touches _ _ _), raisedCount_raise_same _ _ _⟩

theorem State.hostTimeout_eq {s : State} (hrun : s.running = true) (hsource : s.get Obj.TIME_SOURCE = 1)
    (hre : reached s.now s.hostSince (ms (s.getN Obj.HOST_TIMEOUT)) = true) :
    exec .hostTimeout s = .next (if s.steered then s.reportHost.enterHoldover 1 else s.reportHost) :=
  if_pos (by simp [hrun, hsource, hre])

/-- What XTAL_AGEING takes at the end of an hour, and the state that is left of a draw. -/
theorem State.xtalLearned_spec {s : State} (hlearn : s.getB Obj.XTAL_LEARN = true) (hsync : s.synced = true) (hsource : s.get Obj.TIME_SOURCE = 0)
    (hre : reached s.now s.time.hourAt hour = true) :
    ∃ (u : State) (f : Int), exec .xtalLearned s = .next ((u.newHour.set Obj.XTAL_AGEING f).raise 0x12A 0) ∧ u.now = s.now ∧
      raisedCount u 0x12A = raisedCount s 0x12A ∧ -50000 ≤ f ∧ f ≤ 50000 := by
  have harm : exec .xtalLearned s = .next (((bif decide (-50000 ≤ learnedAgeing s.markHour.time.hourSum (s.markHour.now - s.markHour.time.hourAt)) &&
      decide (learnedAgeing s.markHour.time.hourSum (s.markHour.now - s.markHour.time.hourAt) ≤ 50000)
      then s.markHour else s.markHour.draw.2).newHour.set Obj.XTAL_AGEING
        (bif decide (-50000 ≤ learnedAgeing s.markHour.time.hourSum (s.markHour.now - s.markHour.time.hourAt)) &&
          decide (learnedAgeing s.markHour.time.hourSum (s.markHour.now - s.markHour.time.hourAt) ≤ 50000)
        then learnedAgeing s.markHour.time.hourSum (s.markHour.now - s.markHour.time.hourAt)
        else ((s.markHour.draw.1 % 100001 : Nat) : Int) - 50000)).raise 0x12A 0) :=
    if_pos (by simp [hlearn, hsync, hsource, hre])
  refine ⟨_, _, harm, ?_⟩
  generalize learnedAgeing s.markHour.time.hourSum (s.markHour.now - s.markHour.time.hourAt) = a
  cases hin : decide (-50000 ≤ a) && decide (a ≤ 50000)
  · refine ⟨rfl, rfl, ?_⟩
    simp only [cond_false]
    omega
  · refine ⟨rfl, rfl, ?_⟩
    simpa using hin

/-- Settles O55: each message and timeout by its branch. -/
theorem clockFollowsItsSyncs : Obligations.ClockFollowsItsSyncs := by
  intro s p x
  have hp : p.val < 2 := p.isLt
  refine ⟨fun m id htakes hcap hid => ⟨fun htwo => ?_, fun htwo hprimary hfollows hstate hsource => ?_⟩,
    fun m w id hw hid htakes hsrc hseq => ?_, fun m htakes => ⟨fun hdue => ?_, fun hdue => ?_⟩, fun m htakes hseq => ⟨fun hform => ?_, fun r hform => ?_⟩,
    fun stamp hon hre => ?_, fun stamp hon hgm hcap hre => ?_, fun hon hgm hcap hre => ?_, fun m htakes hcap hext hsrc hsteps hbetter => ?_,
    fun m htakes => ?_, fun hrun hlapsed hservo => ?_, fun a ha hre => ?_, fun hsource hsteered hrun hre => ?_,
    fun hsource hsteered hlate hrun hre => ?_, fun hlearn hsync hsource hre => ?_⟩
  · refine ⟨s.setPtp p { s.ptp p with waiting := some m }, ?_, s.ptp_setPtp_same _ _, (s.setPtp_touches _ _).parts⟩
    change execGptpSyncReceive p m s = _
    simp [execGptpSyncReceive, htakes, hcap, hid, htwo]
  · intro o
    obtain ⟨hlast, hoffset, hstep, hclock, hservo⟩ := State.validSync_free hp hprimary hfollows hstate hsource id o
    refine ⟨s.validSync p id o, ?_, hlast, hoffset, hstep, hclock, ?_, hservo⟩
    · change execGptpSyncReceive p m s = _
      simp [execGptpSyncReceive, htakes, hcap, hid, htwo, o]
    · rw [State.ptp_validSync]
      rfl
  · have hnow : (s.setPtp p { s.ptp p with waiting := none }).now = s.now := (s.setPtp_touches _ _).part .now
    refine ⟨(s.setPtp p { s.ptp p with waiting := none }).validSync p id
      ((s.setPtp p { s.ptp p with waiting := none }).syncOffset p w.stamp m.origin (w.correction + m.correction)), ?_, ?_⟩
    · change execGptpFollowUpReceive p m s = _
      simp [execGptpFollowUpReceive, show (s.ptp p).waiting = some w from hw, hid, htakes, hsrc, hseq]
    · rw [State.ptp_validSync, State.syncedPort, State.ptp_setPtp_same, hnow]
      exact ⟨rfl, rfl, rfl⟩
  · refine ⟨_, _, (if_pos htakes).trans (if_neg (by simp [hdue])), rfl, rfl, ?_, rfl, (State.sendPtp_touches _ _ _).parts⟩
    simp only [List.append_assoc]
    exact egressClass_pdelayResp _ _ _ _ _ _ _ _ _ _ _ _ _ _
  · refine ⟨_, (if_pos htakes).trans (if_pos hdue), ?_, (s.setPtp_touches _ _).parts⟩
    rw [State.ptp_setPtp_same]
    rfl
  · obtain ⟨u, hu⟩ : ∃ u : State, u = s.setPtp p { s.ptp p with delayKnown := true, pdelayT2 := none } := ⟨_, rfl⟩
    refine ⟨u.set (Obj.LINK_DELAY + p) _, ?_, ?_, State.get_set_same _ _ _,
      onlyParts_trans (hu ▸ (s.setPtp_touches _ _).parts : onlyParts [.time] s u) (State.set_touches _ _ _).parts⟩
    · rw [hu]
      change execGptpPdelayRespReceive p m s = _
      simp only [execGptpPdelayRespReceive, htakes, show m.seq = (s.ptp p).pdelaySeq from hseq, hform, beq_self_eq_true, Bool.and_self, if_true]
      rfl
    · rw [(u.set_touches _ _).ptp p rfl, hu, State.ptp_setPtp_same]
  · refine ⟨s.setPtp p { s.ptp p with pdelayT2 := some ((r : Int) * 65536 + m.correction, ((m.stamp : Int) - s.get (Obj.RX_LATENCY + p)) * 65536) }, ?_,
      (s.setPtp_touches _ _).part .reg, ?_, (s.setPtp_touches _ _).parts⟩
    · change execGptpPdelayRespReceive p m s = _
      simp only [execGptpPdelayRespReceive, htakes, show m.seq = (s.ptp p).pdelaySeq from hseq, hform, beq_self_eq_true, Bool.and_self, if_true]
    · rw [State.ptp_setPtp_same]
      rfl
  · obtain ⟨hptp, hlen, hparts⟩ := s.sendPtp_setPtp p { s.ptp p with
      pdelaySeq := ((s.ptp p).pdelaySeq + 1) % 65536, pdelayT1 := (s.egress p stamp : Int) * 65536, pdelayT2 := none, pdelayTxAt := s.now } _
    exact ⟨_, if_pos (by rw [hon, show reached s.now (s.ptp p).pdelayTxAt (logSec (s.ptp p).logPdelay) = true from hre]; rfl),
      by rw [hptp], by rw [hptp], hlen, hparts⟩
  · have hdue : s.syncDue p = true := by
      simp [State.syncDue, hon, hgm, hcap, show reached s.now (s.ptp p).syncTxAt (logSec (s.ptp p).logSync) = true from hre]
    obtain ⟨u, hu⟩ : ∃ u : State, exec (.gptpSyncTransmit p stamp) s = .next (u.sendPdelayResp p) ∧
        (u.ptp p = { s.ptp p with syncSeq := ((s.ptp p).syncSeq + 1) % 65536, syncTxAt := s.now } ∧
          u.net.egress.length = s.net.egress.length + 1 ∧ onlyParts [.time, .net] s u) :=
      ⟨_, if_pos hdue, s.sendPtp_setPtp p { s.ptp p with syncSeq := ((s.ptp p).syncSeq + 1) % 65536, syncTxAt := s.now } _⟩
    obtain ⟨harm, hptp, hlen, hparts⟩ := hu
    refine ⟨_, harm, ?_, ?_, ?_, onlyParts_mono (onlyParts_trans hparts (u.sendPdelayResp_touches p).parts) (by decide)⟩
    · rw [State.sendPdelayResp_ptp, hptp]
    · rw [State.sendPdelayResp_ptp]
    · rw [State.sendPdelayResp_length, hlen, hptp]
      change _ = _ + (if (s.ptp p).response.isSome then 2 else 1)
      split <;> omega
  · obtain ⟨hptp, hlen, hparts⟩ := s.sendPtp_setPtp p { s.ptp p with
      announceSeq := ((s.ptp p).announceSeq + 1) % 65536, announceTxAt := s.now } _
    exact ⟨_, if_pos (by rw [hon, hgm, hcap, show reached s.now (s.ptp p).announceTxAt (logSec (s.ptp p).logAnnounce) = true from hre]; rfl),
      by rw [hptp], hlen, hparts⟩
  · obtain ⟨hptp, hparts⟩ := s.selectGm_setPtp p { s.ptp p with announce := some m, announceAt := s.now }
    exact ⟨_, if_pos (by simp [htakes, hcap, hext, hsrc, hsteps, show (s.ptp p).betters m = true from hbetter]), by rw [hptp], by rw [hptp], hparts⟩
  · refine ⟨_, if_pos htakes, ?_, (s.setPtp_touches _ _).parts⟩
    rw [State.ptp_setPtp_same]
  · obtain ⟨u, hu⟩ : ∃ u : State, u = s.setPtp p { s.ptp p with timedOut := true } := ⟨_, rfl⟩
    have hreport : s.reportTimeout p = u.raise 0x124 (p * 2 ^ 24) := by
      rw [hu]
      exact if_pos hlapsed
    have hservo' : ¬ (u.raise 0x124 (p * 2 ^ 24)).time.servoPort = p.val := by
      rw [hu]
      change ¬ (s.setPtp p _).time.servoPort = p.val
      unfold State.setPtp
      split <;> exact hservo
    have hset : Touches { parts := [.time] } s u := hu ▸ s.setPtp_touches _ _
    refine ⟨u.raise 0x124 (p * 2 ^ 24), ?_, ?_, ?_, onlyParts_mono (onlyParts_trans hset.parts (State.raise_touches _ _ _).parts) (by decide)⟩
    · change execSyncTimeout p s = _
      simp only [execSyncTimeout, hrun, hreport, hservo', Bool.not_true, Bool.false_eq_true, if_false, false_and]
    · rw [(u.raise_touches _ _).ptp p, hu, State.ptp_setPtp_same]
    · rw [raisedCount_raise_same, hset.events _ rfl]
  · obtain ⟨hptp, hparts⟩ := s.selectGm_setPtp p { s.ptp p with announce := none }
    exact ⟨_, if_pos (by simp [show (s.ptp p).announce = some a from ha,
      show reached s.now (s.ptp p).announceAt (3 * logSec (s.get Obj.LOG_ANNOUNCE_INTERVAL)) = true from hre]), by rw [hptp], hparts⟩
  · obtain ⟨hreport, hcount⟩ := s.reportHost_spec
    have hhold := s.reportHost.enterHoldover_touches 1
    refine ⟨_, (State.hostTimeout_eq hrun hsource hre).trans (by rw [if_pos hsteered]), ?_,
      onlyParts_mono (onlyParts_trans hreport.parts hhold.parts) (by decide), (hhold.raised 0x12B).trans hcount⟩
    refine State.get_setClock _ ?_
    have hstate : (s.reportHost.useHoldover 1).get Obj.CLOCK_STATE = s.get Obj.CLOCK_STATE := by
      have hinc : (s.reportHost.useHoldover 1).get Obj.CLOCK_STATE = s.reportHost.get Obj.CLOCK_STATE := by
        unfold State.useHoldover
        split
        · exact State.get_set_other _ _ (by decide)
        · rfl
      exact hinc.trans (hreport.get _)
    change (s.reportHost.useHoldover 1).getN Obj.CLOCK_STATE ≠ 4
    rw [show (State.getN _ Obj.CLOCK_STATE) = s.getN Obj.CLOCK_STATE from congrArg Int.toNat hstate]
    exact State.getN_of_steered hsteered
  · obtain ⟨hreport, hcount⟩ := s.reportHost_spec
    refine ⟨_, (State.hostTimeout_eq hrun hsource hre).trans (by rw [hsteered]; rfl), hreport.get _, ?_, hreport.parts⟩
    rw [hcount, hlate]
    rfl
  · obtain ⟨u, f, harm, hnow, hraised, hlo, hhi⟩ := State.xtalLearned_spec hlearn hsync hsource hre
    have hget : ((u.newHour.set Obj.XTAL_AGEING f).raise 0x12A 0).get Obj.XTAL_AGEING = f := State.get_set_same _ _ _
    refine ⟨_, harm, hlo.trans_eq hget.symm, hget.trans_le hhi, hnow, rfl, ?_⟩
    rw [raisedCount_raise_same]
    exact congrArg (· + 1) hraised

end Sys2Proof.Machine

/-! Frames, addresses, links and CAN states: statement O56. -/

namespace Sys2Proof.Machine

open Sys2Proof Sys2Proof.Safety

set_option Elab.async false

/-! ### Frames -/

theorem State.withNet_touches (s : State) (x : NetState) : Touches { parts := [.net] } s { s with net := x } :=
  touches_of_same fun p hp => by cases p <;> simp_all [Part.same]

theorem State.send_touches (s : State) (m : Sent) : Touches { parts := [.sent] } s (s.send m) :=
  touches_of_same fun p hp => by cases p <;> simp_all [Part.same, State.send]

/-! ### Address resolution -/

/-- Requests leave by the egress of their ports: who is asked and who is known does not change. -/
def State.resolveAll (s : State) (xs : List (Nat × Nat × Time)) : State :=
  xs.foldl (fun s x => if s.portUp x.1 then s.sendResolve x.1 x.2.1 else s) s

theorem State.sendResolve_net (s : State) (p hop : Nat) : ∃ e, s.sendResolve p hop = { s with net := { s.net with egress := e } } := by
  unfold State.sendResolve
  split
  · exact ⟨_, rfl⟩
  · exact ⟨s.net.egress, rfl⟩

theorem State.resolveAll_net (xs : List (Nat × Nat × Time)) (s : State) :
    ∃ e, s.resolveAll xs = { s with net := { s.net with egress := e } } := by
  induction xs generalizing s with
  | nil => exact ⟨s.net.egress, rfl⟩
  | cons x xs ih =>
    change ∃ e, (if s.portUp x.1 then s.sendResolve x.1 x.2.1 else s).resolveAll xs = _
    split
    · obtain ⟨e, he⟩ := s.sendResolve_net x.1 x.2.1
      rw [he]
      exact ih _
    · exact ih s

/-- An ARP request for the port's own address: the sender is known, and the answer waits for the port. -/
theorem State.arpFrame_own {s : State} {p a k : Nat} (hk : k ≠ 0) (hown : k = s.ownV4 p) :
    s.arpFrame p true a k = (s.learn p a).answerResolve p a := by
  have hmine : (k != 0 && k == s.ownV4 p) = true := by simp [hk, ← hown]
  unfold State.arpFrame State.meet
  simp [hmine]

theorem State.ownV4_count (s : State) (p : Nat) : (s.count (Obj.RX_FRAMES + p)).ownV4 p = s.ownV4 p := by
  have hkey : Obj.IPV4_ADDR + p ≠ Obj.RX_FRAMES + p := fun h => absurd (Nat.add_right_cancel h) (by decide)
  have haddr : (s.count (Obj.RX_FRAMES + p)).getN (Obj.IPV4_ADDR + p) = s.getN (Obj.IPV4_ADDR + p) :=
    congrArg Int.toNat (State.get_count_other s hkey)
  unfold State.ownV4
  rw [haddr]

/-! ### The CAN controller -/

theorem State.drainCan_touches (s : State) : Touches { parts := [.net, .sent] } s s.drainCan := by
  unfold State.drainCan
  refine .ite ?_ .refl
  exact .foldl (s.withNet_touches _).mono fun u f => (u.send_touches _).mono

/-- A CAN error state outside state 0 that is not the present one. -/
theorem State.setCanState_spec {s : State} {n : Nat} (hnew : s.getN Obj.CAN_STATE ≠ n) (hon : s.getN Obj.CAN_STATE ≠ 0) :
    (s.setCanState n).get Obj.CAN_STATE = n ∧ raisedCount (s.setCanState n) 0x128 = raisedCount s 0x128 + 1 ∧
      onlyParts reporting s (s.setCanState n) := by
  have heq : s.setCanState n = ((s.set Obj.CAN_STATE n).raise 0x128 0).drainCan := by
    unfold State.setCanState
    rw [if_neg hnew, if_neg hon]
  have hdrain := ((s.set Obj.CAN_STATE n).raise 0x128 0).drainCan_touches
  rw [heq]
  refine ⟨?_, ?_, ?_⟩
  · exact (hdrain.get _).trans (State.get_set_same s _ _)
  · rw [hdrain.events _ rfl, raisedCount_raise_same, (s.set_touches _ _).events _ rfl]
  · exact onlyParts_mono (onlyParts_trans (onlyParts_trans (s.set_touches _ _).parts (State.raise_touches _ _ _).parts) hdrain.parts)
      (by decide)

/-! ### The speed of the vehicle -/

/-- A speed message of the selected source is read whole. -/
theorem egoSpeedReceive_whole {s : State} {p : Fin 2} {d : List Byte} (hsource : s.getN Obj.EGO_SOURCE = p + 1) (hlen : d.length = 4) :
    exec (.egoSpeedReceive p d) s = .next (s.egoMessage d) := by
  have htake : d.take 4 = d := List.take_of_length_le hlen.le
  change execEgoSpeedReceive p d s = _
  unfold execEgoSpeedReceive
  rw [if_neg (not_not.2 hsource), htake, if_pos hlen, ite_self]

/-- Settles O56: each frame takes its branch; requests and links change what they name, and a CAN state drains the queue. -/
theorem networksCountWhatTheyDiscard : Obligations.NetworksCountWhatTheyDiscard := by
  intro s p
  refine ⟨fun f hrun hup => ?_, fun hoff f => ?_, fun f hrun htakes hformat hid => ?_, fun f hrun htakes hformat hid hsource => ?_,
    fun d hsource hlen hvalid => ?_, fun d hsource hlen hvalid => ?_, fun d hsource => if_pos hsource, ?_, ?_,
    fun l hl hon hrate hnew => ?_, fun hlink => ⟨_, rfl, ?_⟩, fun e hmode hon hbus hoff hnew => ?_, fun hauto hbus => ?_, fun hauto => ?_, ?_⟩
  · have hon : (!(s.running && s.portUp p)) = false := by rw [hrun, hup]; rfl
    refine ⟨fun hfcs => ?_, fun hfcs hbody => ?_, fun hfcs hbody htaken => ?_, fun hfcs hbody htaken => ?_, fun a k hfcs hbody htaken hk hown => ?_⟩
    · exact (show exec (.ethFrameReceive p f) s = execEthFrameReceive p f s from rfl).trans (by simp [execEthFrameReceive, hon, hfcs])
    · exact (show exec (.ethFrameReceive p f) s = execEthFrameReceive p f s from rfl).trans (by simp [execEthFrameReceive, hon, hfcs, hbody])
    · exact (show exec (.ethFrameReceive p f) s = execEthFrameReceive p f s from rfl).trans
        (by simp [execEthFrameReceive, hon, hfcs, hbody, htaken])
    · refine ⟨s.count (Obj.RX_FRAMES + p), ?_, State.get_count_same _ _, (s.count_touches _).parts⟩
      change execEthFrameReceive p f s = _
      simp [execEthFrameReceive, hon, hfcs, hbody, htaken]
    · obtain ⟨u, hu⟩ : ∃ u, u = s.count (Obj.RX_FRAMES + p) := ⟨_, rfl⟩
      have hset : Touches _ s u := hu ▸ s.count_touches _
      have harp : u.arpFrame p true a k = (u.learn p a).answerResolve p a :=
        State.arpFrame_own hk (hown.trans (hu ▸ (s.ownV4_count p).symm))
      refine ⟨(u.learn p a).answerResolve p a, ?_, ?_, ?_, ?_⟩
      · change execEthFrameReceive p f s = _
        simp [execEthFrameReceive, hon, hfcs, hbody, htaken, ← hu, harp]
      · exact List.mem_append_right _ (List.mem_singleton.2 (by rw [hset.part .now rfl]))
      · change (u.net.egress ++ [_]).length = _
        rw [List.length_append, hset.part .net rfl]
        rfl
      · exact onlyParts_mono (onlyParts_trans hset.parts (u.withNet_touches _).parts) (by simp)
  · have hskip : (!(s.running && s.portUp p)) = true := by rcases hoff with h | h <;> simp [h]
    exact if_pos hskip
  · have hon : (!(s.running && s.canTakes f)) = false := by rw [hrun, htakes]; rfl
    change execCanFrameReceive f s = _
    simp [execCanFrameReceive, hon, hformat, hid]
  · have hon : (!(s.running && s.canTakes f)) = false := by rw [hrun, htakes]; rfl
    change execCanFrameReceive f s = _
    simp [execCanFrameReceive, hon, hformat, hid, execEgoSpeedReceive, hsource, andThen]
  · refine ⟨_, egoSpeedReceive_whole hsource hlen, ?_⟩
    have hego : s.egoMessage d = { s.set Obj.EGO_SPEED (beIntAt d 0 2) with
        time := { s.time with egoCounter := some (beAt d 2 1), egoAt := some s.now }, hist := { s.hist with egoStale := false } } := if_pos hvalid
    rw [hego]
    exact ⟨State.get_set_same s _ _, rfl, rfl, rfl, fun q hq => by cases q <;> simp_all [Part.same, State.set]⟩
  · have hego : s.egoMessage d = (s.count Obj.EGO_INVALID).raise 0x129 0 := if_neg (by rw [hvalid]; decide)
    refine ⟨_, egoSpeedReceive_whole hsource hlen, ?_⟩
    rw [hego]
    exact ⟨State.get_count_same _ _, onlyParts_mono (onlyParts_trans (s.count_touches _).parts (State.raise_touches _ _ _).parts) (by decide)⟩
  · obtain ⟨e, he⟩ := State.resolveAll_net (s.net.asking.filter (fun x => reached s.now x.2.2 (sec 1)))
      { s with net := { s.net with asking := s.net.asking.map (fun x => if reached s.now x.2.2 (sec 1) then (x.1, x.2.1, s.now) else x) } }
    refine ⟨_, show exec .addressResolutionRetry s = _ from congrArg Host.Outcome.next he, (s.withNet_touches _).parts, fun x hx hdue => ?_⟩
    exact List.mem_map.2 ⟨x, hx, if_pos hdue⟩
  · obtain ⟨e, he⟩ := State.resolveAll_net (s.net.resolved.filter (fun x => isV4 x.2.1 && reached s.now x.2.2 (sec 60)))
      { s with net := { s.net with
        resolved := s.net.resolved.map (fun x => if isV4 x.2.1 && reached s.now x.2.2 (sec 60) then (x.1, x.2.1, s.now) else x) } }
    refine ⟨_, show exec .arpRefresh s = _ from congrArg Host.Outcome.next he, (s.withNet_touches _).parts, fun x hx hv4 hdue => ?_⟩
    exact List.mem_map.2 ⟨x, hx, if_pos (by rw [hv4, hdue]; rfl)⟩
  · have hlinked : execLinkChange p l s = .next ((s.set (Obj.LINK_STATE + p) l).raise 0x126 (p * 2 ^ 24)) := by
      simp [execLinkChange, hl, hon, hrate, State.setLink, hnew]
    refine ⟨_, hlinked, State.get_set_same _ _ _,
      onlyParts_mono (onlyParts_trans (s.set_touches _ _).parts (State.raise_touches _ _ _).parts) (by simp [reporting]), ?_⟩
    rw [raisedCount_raise_same, (s.set_touches _ _).events _ rfl]
  · have hdown : s.setLink p 0 = (s.set (Obj.LINK_STATE + p) 0).raise 0x126 (p * 2 ^ 24) := if_neg hlink
    rw [hdown]
    exact State.get_set_same _ _ _
  · obtain ⟨hget, hraised, hparts⟩ := State.setCanState_spec hnew hon
    refine ⟨_, ?_, hget, hraised, hparts⟩
    change execCanState e s = _
    unfold execCanState
    rw [if_neg (not_or.2 ⟨hmode, hbus⟩), hoff]
    rfl
  · have hstate : s.getN Obj.CAN_STATE = 3 := by rw [State.getN, hbus]; rfl
    obtain ⟨hget, -, hparts⟩ := State.setCanState_spec (s := s) (n := 1) (by rw [hstate]; decide) (by rw [hstate]; decide)
    exact ⟨_, (if_pos hauto).trans (congrArg _ (if_pos hbus)), hget, hparts⟩
  · exact if_neg (by rw [hauto]; decide)
  · exact ⟨_, rfl, rfl, State.get_set_same _ _ _, onlyParts_mono
      (onlyParts_trans (s.withNet_touches _).parts (State.set_touches _ _ _).parts) (by decide)⟩

end Sys2Proof.Machine

/-! Claims (R791, R807): a takeover's epoch does not always follow the higher of the two epochs: statement O59.

A run of a calibration job names its unit by a number. In a state whose run names a unit that no device has, the outcome that the job's end
writes lands on another object; a takeover that finds its cue axis not firing leaves RUNNING at once, which ends a RANGE_OFFSET job before
the new epoch is computed. -/

namespace Sys2Proof.Machine

open Sys2Proof Sys2Proof.Safety

set_option Elab.async false

/-- A device that has watched its claim for 20 µs; its RANGE_OFFSET job has a run whose unit's outcome would be at PAIR_EPOCH. -/
def claimState : State :=
  let s := State.reset.setJob 1 { State.reset.job 1 with kind := .calOffset, state := .running }
  { s with
    now := us 20
    pair := { s.pair with claim := .watching 0, takeover := true }
    cal := { s.cal with runs := [⟨3, Obj.PAIR_EPOCH - Obj.AUX_CAL_STATUS + 256, 1, 0, [], false, [], false, [], [], []⟩] } }

/-- The claim completes, and the epoch is not the next one. -/
theorem exec_claimState :
    claimState.pair.claim = .watching 0 ∧ reached claimState.now 0 (us 20) = true ∧
      (match exec .claimComplete claimState with
        | .next t => t.get Obj.PAIR_EPOCH ==
            (((max (claimState.getN Obj.PAIR_EPOCH) (claimState.getN Obj.PARTNER_EPOCH) + 1) % 2 ^ 32 : Nat) : Int)
        | _ => true) = false := by
  decide +kernel

/-- Refutes O59: where a calibration run names a unit that no device has, the end of its job in a takeover overwrites PAIR_EPOCH. -/
theorem not_claimsFollowTheTriggerLines : ¬ Obligations.ClaimsFollowTheTriggerLines := by
  intro h
  obtain ⟨hclaim, hre, hbad⟩ := exec_claimState
  obtain ⟨-, -, -, -, hcomplete, -⟩ := h claimState
  obtain ⟨t, ht, -, hepoch, -⟩ := hcomplete 0 hclaim hre
  rw [ht] at hbad
  simp [hepoch] at hbad

end Sys2Proof.Machine

/-! Lanes (R708): an elastic underflow is not always counted once: statement O57.

The model takes the lanes of the KLP bond from KLP_WIDTH, and the counters of a lane from the lane's number. In a state whose KLP_WIDTH is
beyond the lanes that exist, LOCK_LOSSES of such a lane is ELASTIC_ERRORS of lane 0, and the underflow that makes the whole bond lose its
lock is counted there twice. -/

namespace Sys2Proof.Machine

open Sys2Proof Sys2Proof.Safety

set_option Elab.async false

/-! ### Lanes that lose their lock -/

theorem State.lane_setLane_same (s : State) (n : Nat) (x : Lane) : (s.setLane n x).lane n = x := tabGet_put_same _ _ _ _

theorem State.lane_setLane_other (s : State) {n m : Nat} (x : Lane) (h : m ≠ n) : (s.setLane n x).lane m = s.lane m := tabGet_put_other _ _ _ h

theorem State.setLane_touches (s : State) (n : Nat) (x : Lane) : Touches { parts := [.lanes] } s (s.setLane n x) :=
  touches_of_same fun p hp => by cases p <;> simp_all [Part.same, State.setLane]

theorem State.failScan_touches (s : State) (n : Nat) : Touches { parts := [.jobs, .ev], events := [0x160, 0x161, 0x162] } s (s.failScan n) :=
  Touches.refl.foldl fun s j => s.finishJob_touches j _ _

theorem State.loseLock_unlocked {s : State} {n : Nat} (h : (s.lane n).locked = false) : s.loseLock n = s := if_neg (by rw [h]; decide)

theorem State.lane_loseLock_other (s : State) {n m : Nat} (h : m ≠ n) : (s.loseLock n).lane m = s.lane m := by
  unfold State.loseLock
  split
  · extract_lets _ s1 s2
    have hset : s1.lane m = s.lane m := s.lane_setLane_other _ h
    have hlanes : s2.lanes = s1.lanes :=
      (State.raiseLimited_touches (s1.count (Obj.LOCK_LOSSES + n)) 0x130 n (n * 2 ^ 24)).part .lanes
    have hlane (u : State) (hu : u.lanes = s1.lanes) : u.lane m = s.lane m := by rw [← hset]; unfold State.lane; rw [hu]
    split
    · exact hlane _ hlanes
    · exact hlane _ (((s2.failScan_touches n).part .lanes).trans hlanes)
  · rfl

theorem State.lane_keepLock_other (s : State) {n m : Nat} (ok : Bool) (h : m ≠ n) : (s.keepLock n ok).lane m = s.lane m := by
  unfold State.keepLock
  extract_lets _ u v
  have hu : u.lane m = s.lane m := s.lane_setLane_other _ h
  have hv : v.lane m = s.lane m := by
    rw [← hu]
    exact apply_ite (fun y : State => y.lane m) _ _ _ |>.trans (ite_self _)
  split
  · exact (v.lane_loseLock_other h).trans hv
  · exact hv

theorem State.foldl_loseLock_unlocked {l : List Nat} {s : State} (h : ∀ m ∈ l, (s.lane m).locked = false) :
    l.foldl (fun s m => s.loseLock m) s = s := by
  induction l with
  | nil => rfl
  | cons m l ih =>
    rw [List.foldl_cons, State.loseLock_unlocked (h m List.mem_cons_self)]
    exact ih fun k hk => h k (List.mem_cons_of_mem m hk)

/-- Where no lane between is locked, only the first and the last lane of a bond lose their lock. -/
theorem State.foldl_loseLock_ends {s : State} {w : Nat} (h : ∀ m, m ≠ 0 → m ≤ w → (s.lane m).locked = false) :
    (List.range (w + 2)).foldl (fun s m => s.loseLock m) s = (s.loseLock 0).loseLock (w + 1) := by
  have hmid : ∀ m ∈ (List.range w).map Nat.succ, ((s.loseLock 0).lane m).locked = false := by
    intro m hm
    obtain ⟨k, hk, rfl⟩ := List.mem_map.1 hm
    rw [s.lane_loseLock_other (Nat.succ_ne_zero k)]
    exact h _ (Nat.succ_ne_zero k) (List.mem_range.1 hk)
  have hfirst : (0 :: (List.range w).map Nat.succ).foldl (fun s m => s.loseLock m) s = s.loseLock 0 := State.foldl_loseLock_unlocked hmid
  rw [List.range_succ, List.range_succ_eq_map, List.foldl_append, hfirst]
  rfl

/-! ### The counterexample -/

/-- The lane whose LOCK_LOSSES would be at ELASTIC_ERRORS of lane 0. -/
def farLane : Nat := Obj.ELASTIC_ERRORS - Obj.LOCK_LOSSES

/-- A running device with a KLP bond up to that lane; it and lane 0 are locked, and the elastic buffer is empty. -/
def wideBondState : State :=
  let s := { State.reset with reset_ := { State.reset.reset_ with phase := .running } }
  let s := ((s.set Obj.KLP_WIDTH (farLane + 1 : Nat)).set Obj.LANE_MODE 1).setBond 0 { s.bond 0 with peerMap := 1, level := 0 }
  (s.setLane 0 { Lane.init with locked := true }).setLane farLane { Lane.init with locked := true }

/-- A data block before which one column has been taken. -/
def takenBlock : LaneBlock := ⟨1#2, [], 1⟩

/-- The lanes between are not locked. -/
theorem wideBondState_between {m : Nat} (h0 : m ≠ 0) (hm : m < farLane) : (wideBondState.lane m).locked = false := by
  have hfar : m ≠ farLane := Nat.ne_of_lt hm
  unfold wideBondState
  extract_lets s u
  rw [State.lane_setLane_other _ _ hfar, State.lane_setLane_other _ _ h0]
  rfl

/-- The state in which the block's columns are taken: lane 0 has seen the block. -/
def blockSeenState : State := (wideBondState.setLane 0 ((wideBondState.lane 0).sees takenBlock)).keepLock 0 true

/-- The underflow is noted, and the lanes have not lost their lock yet. -/
def underflowState : State :=
  ((blockSeenState.setLevel 0 Bond.init.level).count Obj.ELASTIC_ERRORS).raise 0x137 0

theorem underflowState_between {m : Nat} (h0 : m ≠ 0) (hm : m < farLane) : (underflowState.lane m).locked = false := by
  have hlane : underflowState.lane m = wideBondState.lane m := by
    change blockSeenState.lane m = _
    unfold blockSeenState
    rw [State.lane_keepLock_other _ _ h0, State.lane_setLane_other _ _ h0]
  rw [hlane]
  exact wideBondState_between h0 hm

/-- The block is one of the statement's. -/
theorem wideBondState_premises :
    wideBondState.running = true ∧ wideBondState.lanePowered 0 = true ∧ wideBondState.nearLoop 0 = false ∧
      wideBondState.prbsChecks 0 = false ∧ (wideBondState.lane 0).locked = true ∧ wideBondState.laneMode 0 = 1 ∧
      (wideBondState.bond 0).level < takenBlock.taken ∧
      (((false :: (wideBondState.lane 0).window).take 64).filter id).length < 16 ∧ (wideBondState.rxLanes 0).contains 0 = true := by
  decide +kernel

theorem takeColumns_blockSeenState :
    blockSeenState.takeColumns 0 0 1 = (underflowState.loseLock 0).loseLock farLane := by
  have hlevel : (blockSeenState.bond 0).level < 1 := by decide +kernel
  obtain ⟨w, hw⟩ : ∃ w, farLane = w + 1 := Nat.exists_eq_succ_of_ne_zero (by decide)
  have hwidth : underflowState.getN Obj.KLP_WIDTH = farLane + 1 := by decide +kernel
  have hlanes : underflowState.bondLanes 0 = List.range (w + 2) := by
    unfold State.bondLanes
    rw [if_pos rfl, hwidth, hw]
  have herror : blockSeenState.takeColumns 0 0 1 = (underflowState.bondLanes 0).foldl (fun s m => s.loseLock m) underflowState := if_pos hlevel
  rw [herror, hlanes, hw]
  exact State.foldl_loseLock_ends fun m h0 hm => underflowState_between h0 (hw ▸ Nat.lt_succ_of_le hm)

/-- The error is counted twice. -/
theorem exec_wideBondState :
    ∃ t, exec (.laneBlockReceive 0 takenBlock) wideBondState = .next t ∧ t.get Obj.ELASTIC_ERRORS = 2 := by
  have hseen : blockSeenState.laneMode 0 = 1 ∧ (blockSeenState.lane 0).locked = true ∧ (blockSeenState.rxLanes 0).contains 0 = true := by
    decide +kernel
  obtain ⟨u, hu⟩ : ∃ u, u = (underflowState.loseLock 0).loseLock farLane := ⟨_, rfl⟩
  have hend : (u.lane 0).locked = false ∧ u.get Obj.ELASTIC_ERRORS = 2 := by
    rw [hu]
    decide +kernel
  obtain ⟨hmode, hlocked, hlane⟩ := hseen
  have hprbs : wideBondState.prbsChecks 0 = false := by decide +kernel
  have hseenLocked : ((wideBondState.setLane 0 ((wideBondState.lane 0).sees takenBlock)).lane 0).locked = true := by
    decide +kernel
  refine ⟨u, ?_, hend.2⟩
  have hon : (!wideBondState.running || !wideBondState.lanePowered 0 || wideBondState.nearLoop 0) = false := by decide +kernel
  have hreceive : wideBondState.receiveBlock 0 takenBlock = blockSeenState.lockedBlock 0 0 1 ((wideBondState.lane 0).opened takenBlock) := by
    unfold State.receiveBlock
    rw [if_neg (by rw [hprbs]; decide)]
    exact (if_pos hseenLocked).trans (if_pos hlocked)
  have hblock : blockSeenState.lockedBlock 0 0 1 ((wideBondState.lane 0).opened takenBlock) = u := by
    have hdata : ((wideBondState.lane 0).opened takenBlock).header = 1#2 := rfl
    simp [State.lockedBlock, hdata, hmode, List.contains_iff_mem.1 hlane, takeColumns_blockSeenState, ← hu, hend.1]
  change execLaneBlockReceive 0 takenBlock wideBondState = _
  unfold execLaneBlockReceive
  exact (if_neg (ne_true_of_eq_false hon)).trans (congrArg _ (hreceive.trans hblock))

/-- Refutes O57: with KLP_WIDTH beyond the lanes that exist, a lane that loses its lock counts in ELASTIC_ERRORS of another. -/
theorem not_lanesLockAlignAndTrain : ¬ Obligations.LanesLockAlignAndTrain := by
  intro h
  obtain ⟨hrun, hpower, hloop, hprbs, hlocked, hmode, hlevel, hwindow, hlane⟩ := wideBondState_premises
  obtain ⟨u, hu, htwice⟩ := exec_wideBondState
  obtain ⟨-, -, -, hblocks, -⟩ := h wideBondState 0 0
  obtain ⟨-, -, -, helastic⟩ := hblocks takenBlock 0 hrun hpower hloop hprbs rfl
  obtain ⟨t, ht, -, hcount⟩ := helastic hlocked rfl hmode hlevel hwindow (List.contains_iff_mem.1 hlane)
  obtain rfl : u = t := Host.Outcome.next.inj (hu.symm.trans ht)
  have honce : satAdd 0xFFFFFFFF (wideBondState.get Obj.ELASTIC_ERRORS) 1 = 1 := by decide +kernel
  exact absurd (htwice.symm.trans (hcount.trans honce)) (by decide)

end Sys2Proof.Machine

/-! The I3C target (chapter 15): private transfers, the live window, CCCs and the event datagrams: statement O58. -/

namespace Sys2Proof.Machine

open Sys2Proof Sys2Proof.Safety

set_option Elab.async false

/-! ### Frames -/

theorem State.withI3c_touches (s : State) (x : I3cState) : Touches { parts := [.i3c] } s { s with i3c := x } :=
  touches_of_same fun p hp => by cases p <;> simp_all [Part.same]

theorem State.i3cAnswer_touches (s : State) (kind : SentKind) (bs : List Byte) : Touches { parts := [.sent] } s (s.i3cAnswer kind bs) :=
  s.send_touches _

theorem State.discardWrite_spec (s : State) :
    s.discardWrite.i3c = { s.i3c with protocolError := true } ∧
      s.discardWrite.get Obj.I3C_ERRORS = satAdd 0xFFFFFFFF (s.get Obj.I3C_ERRORS) 1 ∧ onlyParts [.reg, .i3c] s s.discardWrite :=
  ⟨rfl, State.get_count_same s _, onlyParts_trans (s.count_touches _).parts (State.withI3c_touches _ _).parts⟩

/-! ### Requests -/

/-- A request that fits is a PDU of the object server. -/
theorem koaRequest_fits {s : State} {pdu : List Byte} (hon : s.i3cOn = true) (hfits : s.requestFits pdu = true) :
    exec (.koaRequest pdu) s = .next ((s.setSource .koa).koaPdu i3cReq pdu) := by
  change execKoaRequest pdu s = _
  simp [execKoaRequest, hon, hfits]

theorem State.countResponse_touches (s : State) (r : List Byte) :
    Touches { parts := [.reg, .ev], above := some 0, events := [0x166] } s (s.countResponse r) := by
  unfold State.countResponse
  extract_lets st u v
  have hu : Touches { parts := [.reg, .ev], above := some 0, events := [0x166] } s u := (s.count_touches _).mono
  have hv : Touches { parts := [.reg, .ev], above := some 0, events := [0x166] } s v := .ite hu (hu.andThen (State.count_touches _ _))
  exact .ite (hv.andThen (State.raise_touches _ _ _)) hv

/-- A request beside a response that has not been collected. -/
theorem State.i3cBusy_spec (s : State) (pdu : List Byte) :
    (s.i3cBusy pdu).i3c = { s.i3c with source := .koa, busyResponse := some (koaResponse pdu .busy []) } ∧ onlyParts reporting s (s.i3cBusy pdu) := by
  obtain ⟨u, hu⟩ : ∃ u, u = if s.i3c.busyResponse.isSome then s.count Obj.KOA_DISCARDS else s := ⟨_, rfl⟩
  have htouch : Touches { parts := [.reg], keys := [(Obj.KOA_DISCARDS, Obj.KOA_DISCARDS)] } s u := hu ▸ .ite (s.count_touches _) .refl
  have hbusy : s.i3cBusy pdu = State.countResponse { u with i3c := { u.i3c with source := .koa, busyResponse := some (koaResponse pdu .busy []) } }
      (koaResponse pdu .busy []) := by
    rw [hu]
    rfl
  have hi3c : u.i3c = s.i3c := htouch.part .i3c
  rw [hbusy]
  refine ⟨?_, onlyParts_mono (onlyParts_trans htouch.parts (onlyParts_trans (u.withI3c_touches _).parts
    (State.countResponse_touches _ _).parts)) (by decide)⟩
  rw [(State.countResponse_touches _ _).part .i3c, hi3c]

theorem koaRequest_busy {s : State} {pdu : List Byte} (hon : s.i3cOn = true) (hfits : s.requestFits pdu = true)
    (hready : s.i3c.response.isSome = true) (hopen : s.bearerOpen .i3c = true) (hkept : pduDiscarded pdu = false) :
    exec (.koaRequest pdu) s = .next ((s.setSource .koa).i3cBusy pdu) := by
  rw [koaRequest_fits hon hfits]
  have hopen' : (s.setSource .koa).bearerOpen .i3c = true := hopen
  have hready' : (s.setSource .koa).i3c.response.isSome = true := hready
  unfold State.koaPdu State.koaServe
  simp [hopen', hready', hkept, i3cReq, State.bearerEnabled, State.i3cServe]

theorem koaRequest_notFits {s : State} {pdu : List Byte} (hon : s.i3cOn = true) (hfits : s.requestFits pdu = false) :
    ∃ t, exec (.koaRequest pdu) s = .next t ∧ t.i3c = { s.i3c with protocolError := true } ∧
      t.get Obj.I3C_ERRORS = satAdd 0xFFFFFFFF (s.get Obj.I3C_ERRORS) 1 ∧ onlyParts [.reg, .i3c] s t := by
  obtain ⟨hi3c, hcount, hparts⟩ := s.discardWrite_spec
  by_cases hshort : pdu.length < 8
  · refine ⟨s.discardWrite.count Obj.KOA_DISCARDS, ?_, hi3c, ?_, onlyParts_mono (onlyParts_trans hparts (State.count_touches _ _).parts) (by decide)⟩
    · change execKoaRequest pdu s = _
      simp [execKoaRequest, hon, hfits, hshort]
    · exact (State.get_count_other _ (by decide)).trans hcount
  · refine ⟨s.discardWrite, ?_, hi3c, hcount, hparts⟩
    change execKoaRequest pdu s = _
    simp [execKoaRequest, hon, hfits, hshort]

/-! ### The live window -/

/-- A read of one half is the answer. -/
theorem liveWindowRead_one {s : State} {h : Fin 512} (hon : s.i3cOn = true) (hsource : s.i3c.source = .live h) (hmrl : 4 ≤ s.i3c.mrl) :
    exec (.liveWindowRead 1) s = .next ((s.readHalf h).2.i3cAnswer .live (beBytes 4 (s.readHalf h).1)) := by
  change execLiveWindowRead 1 s = _
  have hcount : min 1 (s.i3c.mrl / 4) = 1 := by omega
  unfold execLiveWindowRead
  rw [hon, hsource]
  simp [hcount, State.readHalves]

/-! ### CCCs -/

/-- A CCC that answers. -/
theorem State.sdr_answer (s : State) (bs : List Byte) :
    (s.sdr.i3cAnswer .ccc bs).sent = ⟨.i3c, .ccc, 0, 0, bs, noHead⟩ :: s.sent ∧ onlyParts [.i3c, .sent] s (s.sdr.i3cAnswer .ccc bs) :=
  ⟨rfl, onlyParts_trans (s.withI3c_touches _).parts (State.i3cAnswer_touches _ _ _).parts⟩

/-- A CCC that sets an object. -/
theorem State.sdr_set (s : State) (k : Nat) (v : Int) :
    (s.sdr.set k v).get k = v ∧ onlyParts [.reg, .i3c] s (s.sdr.set k v) :=
  ⟨State.get_set_same _ _ _, onlyParts_mono (onlyParts_trans (s.withI3c_touches _).parts (State.set_touches _ _ _).parts) (by simp)⟩

theorem State.assign_ok {s : State} {a : BitVec 7} (h : dynOk a = true) : s.assign a = s.set Obj.I3C_DYN_ADDR a.toNat := if_pos h

/-- A response longer than a new maximum read length becomes TOO_LARGE. -/
theorem State.refitResponse_spec (s : State) :
    s.refitResponse.i3c.mrl = s.i3c.mrl ∧ s.refitResponse.i3c.ibiPayload = s.i3c.ibiPayload ∧ onlyParts [.i3c, .reg] s s.refitResponse ∧
      (∀ r w, s.i3c.response = some (r, w) → 5 ≤ s.i3c.mrl → s.i3c.mrl < r.length → ∃ r', s.refitResponse.i3c.response = some (r', w) ∧
        responseStatus r' = Status.tooLarge.code) := by
  unfold State.refitResponse
  split
  · rename_i hnone
    exact ⟨rfl, rfl, onlyParts_refl _ _, fun r w h => by rw [hnone] at h; cases h⟩
  · rename_i r w hsome
    by_cases hfit : r.length ≤ s.i3c.mrl
    · rw [if_pos hfit]
      exact ⟨rfl, rfl, onlyParts_refl _ _, fun r' w' h _ hlong => by
        rw [hsome] at h
        cases h
        omega⟩
    · rw [if_neg hfit]
      obtain ⟨u, hu⟩ : ∃ u, u = if responseStatus r = 0 then s.count Obj.KOA_ERRORS else s := ⟨_, rfl⟩
      have htouch : Touches { parts := [.reg], keys := [(Obj.KOA_ERRORS, Obj.KOA_ERRORS)] } s u := hu ▸ .ite (s.count_touches _) .refl
      have hi3c : u.i3c = s.i3c := htouch.part .i3c
      rw [← hu]
      refine ⟨show u.i3c.mrl = _ from congrArg I3cState.mrl hi3c, show u.i3c.ibiPayload = _ from congrArg I3cState.ibiPayload hi3c,
        onlyParts_mono (onlyParts_trans htouch.parts (u.withI3c_touches _).parts) (by decide), fun r' w' h hfive hlong => ?_⟩
      rw [hsome] at h
      cases h
      refine ⟨_, rfl, ?_⟩
      have hlen : (r.take 5).length = 5 := by rw [List.length_take]; omega
      unfold responseStatus beAt
      rw [List.append_assoc, List.drop_append_of_le_length hlen.ge, List.drop_of_length_le hlen.le]
      rfl

/-! ### The statement, part by part -/

section Parts

variable (s : State)

theorem i3c_off (hoff : s.i3cOn = false) (pdu : List Byte) (h : Fin 512) :
    exec (.koaRequest pdu) s = .next s ∧ exec (.liveSelect h) s = .next s ∧ exec .eventRead s = .next s ∧
      exec (.i3cWriteDiscard pdu) s = .next s := by
  have hnot : ¬ s.i3cOn = true := ne_true_of_eq_false hoff
  exact ⟨if_pos (by rw [hoff]; rfl), if_neg hnot, if_neg hnot, if_neg hnot⟩

variable {s} in
theorem liveWindow_halves (hon : s.i3cOn = true) {h : Fin 512} (hsource : s.i3c.source = .live h) (hmrl : 4 ≤ s.i3c.mrl) :
    (h.val % 2 = 0 → ∃ t, exec (.liveWindowRead 1) s = .next t ∧ t.i3c.latch = some (h.val / 2, s.liveWord (h.val / 2) / 2 ^ 32) ∧
      t.sent = ⟨.i3c, .live, 0, 0, beBytes 4 (s.liveWord (h.val / 2) % 2 ^ 32), noHead⟩ :: s.sent ∧ onlyParts [.i3c, .sent] s t) ∧
    (∀ v, h.val % 2 = 1 → s.i3c.latch = some (h.val / 2, v) → ∃ t, exec (.liveWindowRead 1) s = .next t ∧ t.i3c.latch = none ∧
      t.i3c.torn = s.i3c.torn ∧ t.sent = ⟨.i3c, .live, 0, 0, beBytes 4 v, noHead⟩ :: s.sent ∧ onlyParts [.i3c, .sent] s t) ∧
    (h.val % 2 = 1 → (∀ v, s.i3c.latch ≠ some (h.val / 2, v)) → ∃ t, exec (.liveWindowRead 1) s = .next t ∧ t.i3c.latch = none ∧
      t.i3c.torn = true ∧ t.get Obj.LIVE_TORN = satAdd 0xFFFFFFFF (s.get Obj.LIVE_TORN) 1 ∧ onlyParts [.i3c, .sent, .reg] s t) := by
  refine ⟨fun hlow => ?_, fun v hhigh hlatch => ?_, fun hhigh hlatch => ?_⟩
  · have hread : s.readHalf h = s.readLow (h / 2) := if_pos hlow
    refine ⟨_, liveWindowRead_one hon hsource hmrl, ?_⟩
    rw [hread]
    exact ⟨rfl, rfl, onlyParts_trans (s.withI3c_touches _).parts (State.i3cAnswer_touches _ _ _).parts⟩
  · have hread : s.readHalf h = (v, { s with i3c := { s.i3c with latch := none } }) := by
      rw [show s.readHalf h = s.readHigh (h / 2) from if_neg (by omega)]
      unfold State.readHigh
      rw [hlatch]
      exact if_pos rfl
    refine ⟨_, liveWindowRead_one hon hsource hmrl, ?_⟩
    rw [hread]
    exact ⟨rfl, rfl, rfl, onlyParts_trans (s.withI3c_touches _).parts (State.i3cAnswer_touches _ _ _).parts⟩
  · have hread : ∃ x, s.readHalf h = (s.liveWord (h / 2) / 2 ^ 32, State.count { s with i3c := x } Obj.LIVE_TORN) ∧ x.latch = none ∧
        x.torn = true := by
      rw [show s.readHalf h = s.readHigh (h / 2) from if_neg (by omega)]
      unfold State.readHigh
      split
      · rename_i i v hsome
        rw [if_neg (show ¬ i = h.val / 2 from fun hi => hlatch v (by rw [hsome, hi]))]
        exact ⟨_, rfl, rfl, rfl⟩
      · rename_i hnone
        exact ⟨{ s.i3c with torn := true }, rfl, hnone, rfl⟩
    obtain ⟨x, hread, hnone, htorn⟩ := hread
    refine ⟨_, liveWindowRead_one hon hsource hmrl, ?_⟩
    rw [hread]
    exact ⟨hnone, htorn, State.get_count_same _ _, onlyParts_mono (onlyParts_trans (onlyParts_trans (s.withI3c_touches x).parts
      (State.count_touches _ _).parts) (State.i3cAnswer_touches _ _ _).parts) (by decide)⟩

variable {s} in
theorem koaResponse_reads (hon : s.i3cOn = true) (hsource : s.i3c.source = .koa) :
    (∀ n, s.readyResponse = none → exec (.koaResponseRead n) s = .next (s.i3cAnswer .nack [])) ∧
    (∀ n r, s.readyResponse = some r → (r.length ≤ n → s.i3c.later = []) → ∃ t, exec (.koaResponseRead n) s = .next t ∧
      t.sent = ⟨.i3c, .koaResponse, 0, 0, r.take n, noHead⟩ :: s.sent ∧ onlyParts [.i3c, .sent] s t ∧
      t.i3c.response = if r.length ≤ n then s.i3c.busyResponse.map (fun b => (b, s.now)) else s.i3c.response) := by
  have hsel : (!(s.i3cOn && s.i3c.source == .koa)) = false := by rw [hon, hsource]; rfl
  refine ⟨fun n hready => ?_, fun n r hready hlater => ?_⟩
  · change execKoaResponseRead n s = _
    simp [execKoaResponseRead, hsel, hready]
  · by_cases hlen : r.length ≤ n
    · have hempty : (s.i3cAnswer .koaResponse (r.take n)).applyI3cLater =
          { s.i3cAnswer .koaResponse (r.take n) with i3c := { s.i3c with later := [] } } := by
        have hnone : (s.i3cAnswer .koaResponse (r.take n)).i3c.later = [] := hlater hlen
        unfold State.applyI3cLater
        rw [hnone]
        rfl
      refine ⟨(s.i3cAnswer .koaResponse (r.take n)).emptyResponse, ?_, ?_⟩
      · change execKoaResponseRead n s = _
        simp [execKoaResponseRead, hsel, hready, hlen]
      · unfold State.emptyResponse
        rw [hempty, if_pos hlen]
        exact ⟨rfl, onlyParts_mono (onlyParts_trans (s.i3cAnswer_touches _ _).parts (State.withI3c_touches _ _).parts) (by decide), rfl⟩
    · refine ⟨s.i3cAnswer .koaResponse (r.take n), ?_, rfl, onlyParts_mono (s.i3cAnswer_touches _ _).parts (by decide), ?_⟩
      · change execKoaResponseRead n s = _
        simp [execKoaResponseRead, hsel, hready, hlen]
      · rw [if_neg hlen]
        rfl

variable {s} in
theorem eventQueue_reads (hon : s.i3cOn = true) (hsource : s.i3c.source = .events) (hqueue : s.ev.ibiQueue ≠ []) (n : Nat) :
    ∃ t, exec (.eventQueueRead n) s = .next t ∧ t.ev.ibiQueue = s.ev.ibiQueue.drop (min n (s.i3c.mrl / 16)) ∧ onlyParts [.ev, .sent] s t ∧
      t.sent = ⟨.i3c, .eventRecords, 0, 0, (s.ev.ibiQueue.take (min n (s.i3c.mrl / 16))).flatten, noHead⟩ :: s.sent := by
  have hsel : (!(s.i3cOn && s.i3c.source == .events)) = false := by rw [hon, hsource]; rfl
  refine ⟨_, (if_neg (by rw [hsel]; decide)).trans (if_neg (by simpa using hqueue)), rfl, ?_, rfl⟩
  intro q hq
  cases q <;> simp_all [Part.same, State.i3cAnswer, State.send]

variable {s} in
theorem ibi_requests (hon : s.i3cOn = true) (henabled : s.getB Obj.I3C_IBI_ENABLED = true) :
    (s.i3c.ibiResponse = true → s.readyResponse.isSome = true → ∃ t, exec (.ibiRequest true) s = .next t ∧
      t.i3c.ibiResponse = false ∧ t.sent = ⟨.i3c, .ibi, 0, 0, [0x01], noHead⟩ :: s.sent ∧ onlyParts [.i3c, .sent] s t) ∧
    (∀ r rest, (s.i3c.ibiResponse && s.readyResponse.isSome) = false → s.ev.ibiQueue = r :: rest → 17 ≤ s.i3c.ibiPayload →
      ∃ t, exec (.ibiRequest true) s = .next t ∧ t.ev.ibiQueue = rest ∧ onlyParts [.ev, .sent] s t ∧
        t.sent = ⟨.i3c, .ibi, 0, 0, 0x00 :: r, noHead⟩ :: s.sent) ∧
    exec (.ibiRequest false) s = .next s := by
  have hibi : s.ibiOn = true := by unfold State.ibiOn; rw [hon, henabled]; rfl
  refine ⟨fun hresp hready => ?_, fun r rest hresp hqueue hpayload => ?_, ?_⟩
  · refine ⟨({ s with i3c := { s.i3c with ibiResponse := false } }).i3cAnswer .ibi [0x01], ?_, rfl, rfl,
      onlyParts_trans (s.withI3c_touches _).parts (State.i3cAnswer_touches _ _ _).parts⟩
    change execIbiRequest true s = _
    simp [execIbiRequest, hibi, hresp, hready]
  · refine ⟨({ s with ev := { s.ev with ibiQueue := rest } }).i3cAnswer .ibi (0x00 :: r), ?_, rfl, ?_, rfl⟩
    · change execIbiRequest true s = _
      unfold execIbiRequest
      rw [hresp, hqueue]
      simp [hibi, hpayload]
    · intro q hq
      cases q <;> simp_all [Part.same, State.i3cAnswer, State.send]
  · exact if_pos (by simp)

variable {s} in
/-- The CCCs that read: each answers its words. -/
theorem ccc_answers (hpow : s.powered = true) :
    (∃ t, exec .getmwl s = .next t ∧ t.sent = ⟨.i3c, .ccc, 0, 0, beBytes 2 s.i3c.mwl, noHead⟩ :: s.sent ∧ onlyParts [.i3c, .sent] s t) ∧
    (∃ t, exec .getmrl s = .next t ∧ t.sent = ⟨.i3c, .ccc, 0, 0, beBytes 2 s.i3c.mrl ++ beBytes 1 s.i3c.ibiPayload, noHead⟩ :: s.sent ∧
      onlyParts [.i3c, .sent] s t) ∧
    (∃ t, exec .getpid s = .next t ∧ t.sent = ⟨.i3c, .ccc, 0, 0, beBytes 6 s.provisionalId, noHead⟩ :: s.sent ∧ onlyParts [.i3c, .sent] s t) ∧
    (∃ t, exec .getbcr s = .next t ∧ t.sent = ⟨.i3c, .ccc, 0, 0, [0x26], noHead⟩ :: s.sent ∧ onlyParts [.i3c, .sent] s t) ∧
    (∃ t, exec .getdcr s = .next t ∧ t.sent = ⟨.i3c, .ccc, 0, 0, [0x00], noHead⟩ :: s.sent ∧ onlyParts [.i3c, .sent] s t) :=
  ⟨⟨_, if_pos hpow, s.sdr_answer _⟩, ⟨_, if_pos hpow, s.sdr_answer _⟩,
    ⟨_, if_pos hpow, s.sdr_answer _⟩, ⟨_, if_pos hpow, s.sdr_answer _⟩,
    ⟨_, if_pos hpow, s.sdr_answer _⟩⟩

variable {s} in
/-- The CCCs whose words the specification leaves open. -/
theorem ccc_openAnswer (n : Nat) :
    (s.sdr.openAnswer n).sent = ⟨.i3c, .ccc, 0, 0, beBytes n (Config.freeValue s.freeCtr), noHead⟩ :: s.sent ∧
      onlyParts [.i3c, .sent, .freeCtr] s (s.sdr.openAnswer n) := by
  refine ⟨rfl, fun q hq => ?_⟩
  cases q <;> simp_all [Part.same, State.openAnswer, State.draw, State.i3cAnswer, State.send, State.sdr]

variable {s} in
theorem ccc_setmrl (hpow : s.powered = true) {n : Nat} (b : Option Nat) (hlo : 9 ≤ n) (hhi : n ≤ 264) :
    ∃ t, exec (.setmrl n b) s = .next t ∧ t.i3c.mrl = n ∧ (∀ k, b = some k → t.i3c.ibiPayload = min k 17) ∧ onlyParts [.i3c, .reg] s t ∧
      (∀ r w, s.i3c.response = some (r, w) → n < r.length → ∃ r', t.i3c.response = some (r', w) ∧
        responseStatus r' = Status.tooLarge.code) := by
  obtain ⟨x, hx, hmrl, hresp, hpayload⟩ : ∃ x : I3cState, exec (.setmrl n b) s = .next (State.refitResponse { s with i3c := x }) ∧ x.mrl = n ∧
      x.response = s.i3c.response ∧ ∀ k, b = some k → x.ibiPayload = min k 17 := by
    have hstep : exec (.setmrl n b) s = _ := if_pos hpow
    dsimp only at hstep
    rw [if_pos ⟨hlo, hhi⟩] at hstep
    cases b with
    | none => exact ⟨_, hstep, rfl, rfl, fun k hk => by cases hk⟩
    | some k => exact ⟨_, hstep, rfl, rfl, fun j hj => by cases hj; rfl⟩
  obtain ⟨hm, hp, hparts, hrefit⟩ := State.refitResponse_spec { s with i3c := x }
  refine ⟨_, hx, hm.trans hmrl, fun k hk => hp.trans (hpayload k hk),
    onlyParts_mono (onlyParts_trans (s.withI3c_touches x).parts hparts) (by decide), fun r w hr hlong => ?_⟩
  exact hrefit r w (hresp.trans hr) (by change 5 ≤ x.mrl; omega) (by change x.mrl < _; omega)

variable {s} in
theorem ccc_rstactResetI3c (hpow : s.powered = true) (hlater : s.i3c.later = []) :
    ∃ t, exec .rstactResetI3c s = .next t ∧ t.get Obj.I3C_DYN_ADDR = 0 ∧ t.i3c.response = none ∧ t.i3c.latch = none ∧
      t.i3c.mwl = 265 ∧ t.i3c.mrl = 264 ∧ t.ev = { s.ev with ibiQueue := [] } ∧ onlyParts [.reg, .i3c, .ev] s t := by
  have happly : s.sdr.applyI3cLater = { s.sdr with i3c := { s.sdr.i3c with later := [] } } := by
    have hnone : s.sdr.i3c.later = [] := hlater
    unfold State.applyI3cLater
    rw [hnone]
    rfl
  refine ⟨_, if_pos hpow, ?_⟩
  unfold State.resetI3c
  rw [happly]
  refine ⟨(State.get_set_other _ 0 (show Obj.I3C_DYN_ADDR ≠ Obj.I3C_IBI_ENABLED by decide)).trans (State.get_set_same _ _ _), rfl, rfl, rfl, rfl, rfl, fun q hq => ?_⟩
  cases q <;> simp_all [Part.same, State.set, State.sdr]

theorem State.flushEvents_spec {e1 : Bool} (hrecords : (s.gathered e1).records ≠ []) :
    ((s.flushEvents e1).gathered e1).records = [] ∧ ((s.flushEvents e1).gathered e1).seq = (s.gathered e1).seq ∧
      (s.flushEvents e1).outQueue (2 + b2n e1) = s.outQueue (2 + b2n e1) ++ [eventMessage (s.gathered e1).records] ∧
      onlyParts [.ev, .pipe] s (s.flushEvents e1) := by
  have hne : ¬ (s.gathered e1).records.isEmpty = true := by simpa using hrecords
  unfold State.flushEvents
  rw [if_neg hne]
  cases e1
  all_goals
    refine ⟨rfl, rfl, rfl, fun q hq => ?_⟩
    cases q <;> simp_all [Part.same, State.setOutQueue, State.setGathered, b2n]

end Parts

/-- Settles O58: each transfer and each CCC is one equation of the model, and the answers leave as the I3C port sends them. -/
theorem i3cTransfersAndCccsAnswer : Obligations.I3cTransfersAndCccsAnswer := by
  intro s x
  refine ⟨fun hoff pdu h => i3c_off s hoff pdu h, fun hon => ⟨fun pdu hfits => ⟨fun htakes => ?_, fun hready hopen hkept => ?_⟩,
    fun pdu hfits => koaRequest_notFits hon hfits, fun h => ⟨_, if_pos hon, rfl, (s.withI3c_touches _).parts⟩,
    ⟨_, if_pos hon, rfl, (s.withI3c_touches _).parts⟩, fun bs => ⟨_, if_pos hon, s.discardWrite_spec⟩,
    fun h hsource hmrl => liveWindow_halves hon hsource hmrl, fun hsource => koaResponse_reads hon hsource,
    fun hsource hqueue n => eventQueue_reads hon hsource hqueue n, fun henabled => ibi_requests hon henabled⟩,
    fun hpow => ?_, fun p hrecords hre => ?_⟩
  · rw [koaRequest_fits hon hfits, koaPdu_of_takes htakes]
  · obtain ⟨hi3c, hparts⟩ := (s.setSource .koa).i3cBusy_spec pdu
    refine ⟨_, koaRequest_busy hon hfits hready hopen hkept, by rw [hi3c], by rw [hi3c], by rw [hi3c]; rfl, ?_⟩
    exact onlyParts_mono (onlyParts_trans (s.withI3c_touches _).parts hparts) (by decide)
  · obtain ⟨hmwl, hmrl, hpid, hbcr, hdcr⟩ := ccc_answers hpow
    refine ⟨⟨_, if_pos hpow, (s.count_touches _).parts, State.get_count_same _ _⟩, ⟨_, if_pos hpow, ?_⟩,
      ⟨_, if_pos hpow, ?_⟩, ⟨_, if_pos hpow, ?_⟩,
      fun a ha haddr =>
        ⟨⟨_, (if_pos hpow).trans (congrArg Host.Outcome.next
            ((if_pos (by simpa using show s.sdr.get Obj.I3C_DYN_ADDR = 0 from haddr)).trans (State.assign_ok ha))), s.sdr_set _ _⟩,
          fun st hst => ⟨_, (if_pos hpow).trans (congrArg Host.Outcome.next
            ((if_pos (by simpa using ⟨hst, haddr⟩)).trans (State.assign_ok ha))), s.sdr_set _ _⟩⟩,
      fun a ha haddr => ⟨_, (if_pos hpow).trans (congrArg Host.Outcome.next
        ((if_neg (by simpa using show ¬ s.sdr.get Obj.I3C_DYN_ADDR = 0 from haddr)).trans (State.assign_ok ha))), ?_⟩,
      fun n hlo hhi => ⟨_, (if_pos hpow).trans (congrArg Host.Outcome.next (if_pos ⟨hlo, hhi⟩)), rfl, (s.withI3c_touches _).parts⟩,
      fun n b hlo hhi => ccc_setmrl hpow b hlo hhi, hmwl, hmrl, hpid, hbcr, hdcr,
      ⟨_, if_pos hpow, rfl, rfl, ?_⟩, ⟨_, if_pos hpow, ccc_openAnswer 2⟩,
      ⟨_, if_pos hpow, ccc_openAnswer 4⟩, ⟨_, if_pos hpow, rfl, (s.withI3c_touches _).parts⟩,
      ⟨_, if_pos hpow, rfl, (s.withI3c_touches _).parts⟩, fun hlater => ccc_rstactResetI3c hpow hlater⟩
    · obtain ⟨hget, hparts⟩ := s.sdr_set Obj.I3C_IBI_ENABLED 1
      exact ⟨hget, rfl, hparts⟩
    · obtain ⟨hget, hparts⟩ := s.sdr_set Obj.I3C_IBI_ENABLED 0
      exact ⟨hget, rfl, hparts⟩
    · obtain ⟨hget, hparts⟩ := s.sdr_set Obj.I3C_DYN_ADDR 0
      exact ⟨hget, rfl, hparts⟩
    · obtain ⟨hget, hparts⟩ := s.sdr_set Obj.I3C_DYN_ADDR a.toNat
      exact ⟨hget, rfl, hparts⟩
    · exact onlyParts_mono (onlyParts_trans (s.withI3c_touches _).parts (State.i3cAnswer_touches _ _ _).parts) (by decide)
  · obtain ⟨hempty, hseq, hqueue, hparts⟩ := s.flushEvents_spec hrecords
    have hdue : (!(s.gathered (p.val == 1)).records.isEmpty && reached s.now (s.gathered (p.val == 1)).since (ms 1)) = true := by
      simpa [hre] using hrecords
    refine ⟨_, if_pos hdue, hempty, hseq, ?_, hparts⟩
    have hdest : 2 + b2n (p.val == 1) = 2 + p.val := (by decide : ∀ q : Fin 2, 2 + b2n (q.val == 1) = 2 + q.val) p
    rw [← hdest]
    exact hqueue

end Sys2Proof.Machine

/-! Reset sources, release and boot (chapter 18): statement O60. -/

namespace Sys2Proof.Machine

open Sys2Proof Sys2Proof.Safety

set_option Elab.async false

/-! ### What release and boot leave alone -/

/-- The second state has the reset block, the OTP and the pair's position of the first. -/
structure Boots (b s : State) : Prop where
  reset : s.reset_ = b.reset_
  otp : s.otp = b.otp
  position : s.pair.position = b.pair.position

namespace Boots

variable {b s t : State}

theorem refl (s : State) : Boots s s := ⟨rfl, rfl, rfl⟩

theorem trans (h : Boots b s) (k : Boots s t) : Boots b t :=
  ⟨k.reset.trans h.reset, k.otp.trans h.otp, k.position.trans h.position⟩

theorem same (h : Boots b s) (hr : t.reset_ = s.reset_ := by rfl) (ho : t.otp = s.otp := by rfl)
    (hp : t.pair.position = s.pair.position := by rfl) : Boots b t := h.trans ⟨hr, ho, hp⟩

/-- An operation whose frame names none of the three parts. -/
theorem touches {F : Frame} (h : Boots b s) (k : Touches F s t) (hr : F.parts.contains .reset = false := by rfl)
    (ho : F.parts.contains .otp = false := by rfl) (hp : F.parts.contains .pair = false := by rfl) : Boots b t :=
  h.trans ⟨k.part .reset hr, k.part .otp ho, congrArg PairState.position (k.part .pair hp)⟩

theorem ite {c : Prop} [Decidable c] (hs : Boots b s) (ht : Boots b t) : Boots b (if c then s else t) := by
  split
  · exact hs
  · exact ht

theorem foldl {α : Type} {f : State → α → State} {l : List α} (h : Boots b s) (hf : ∀ u x, Boots b u → Boots b (f u x)) :
    Boots b (l.foldl f s) := by
  induction l generalizing s with
  | nil => exact h
  | cons x l ih => exact ih (hf _ _ h)

/-! #### Operations that several blocks share -/

theorem set (h : Boots b s) {k : Nat} {v : Int} : Boots b (s.set k v) := h.same

theorem raise (h : Boots b s) {e p : Nat} : Boots b (s.raise e p) := h.same

theorem setOtp (h : Boots b s) {k : Nat} : Boots b (s.setOtp k) := by
  unfold State.setOtp
  split
  · exact h.set
  · exact h

theorem otpObjects (h : Boots b s) : Boots b s.otpObjects := h.foldl fun _ _ k => k.setOtp

theorem setSafetyState (h : Boots b s) {x : SafetyState} : Boots b (s.setSafetyState x) := h.touches (s.setSafetyState_touches x)

theorem setSeqState (h : Boots b s) {x : SeqState} : Boots b (s.setSeqState x) := h.touches (s.setSeqState_touches x)

theorem setBond (h : Boots b s) {n : Nat} {x : Bond} : Boots b (s.setBond n x) := by
  unfold State.setBond
  exact .ite h.same h.same

theorem setPtp (h : Boots b s) {p : Nat} {x : GptpPort} : Boots b (s.setPtp p x) := h.touches (s.setPtp_touches p x)

theorem setAxis (h : Boots b s) {a : Nat} {x : Axis} : Boots b (s.setAxis a x) := h.touches (s.setAxis_touches a x)

theorem sendFarlu (h : Boots b s) {type : Nat} {payload : List Byte} : Boots b (s.sendFarlu type payload) := h.touches (s.sendFarlu_touches _ _)

theorem setRole (h : Boots b s) {x : PairRole} : Boots b (s.setRole x) := by
  have hresync (u : State) (hu : Boots b u) : Boots b (u.requestResync 1) := by
    unfold State.requestResync State.setMirrorSync
    exact (Boots.ite hu.same hu.same.raise).sendFarlu
  unfold State.setRole
  exact .ite h (.ite (hresync _ h.same.raise) h.same.raise)

/-! #### Reset release -/

theorem resolveAtBoot (h : Boots b s) {kind : Nat} : Boots b (s.resolveAtBoot kind) := by
  have hrecord (u : State) (hu : Boots b u) (r : CriticalRecord) : Boots b (u.setRecord kind r) := by
    unfold State.setRecord
    split <;> exact hu.same
  unfold State.resolveAtBoot
  extract_lets _ _ s1
  have h1 : Boots b s1 := h.same
  split
  · exact (hrecord _ h1 _).raise
  · exact h1.raise
  · exact h1.raise
  · exact h1

theorem loadSeal (h : Boots b s) {image : List Byte} : Boots b (s.loadSeal image) := by
  have hobject (u : State) (hu : Boots b u) (d : ObjDesc) (bs : List Byte) : Boots b (u.loadSealObject d bs) :=
    hu.foldl fun _ _ k => .ite k.same k.set
  have hfold : ∀ (l : List ObjDesc) (p : State × List Byte), Boots b p.1 →
      Boots b (l.foldl (fun p d => (p.1.loadSealObject d p.2, p.2.drop (sealSize d))) p).1 := by
    intro l
    induction l with
    | nil => exact fun _ hp => hp
    | cons d l ih => exact fun p hp => ih _ (hobject _ hp _ _)
  exact hfold _ _ h

theorem releaseSeal (h : Boots b s) {sealEn : Bool} : Boots b (s.releaseSeal sealEn) := by
  unfold State.releaseSeal
  extract_lets _ _ s1 s2
  have h1 : Boots b s1 := h.set
  have h2 : Boots b s2 := by
    unfold s2
    split
    · exact .ite h1.set.set h1.set.set.loadSeal
    · exact h1
  exact h2.same

theorem releaseEpoch (h : Boots b s) : Boots b s.releaseEpoch := by
  unfold State.releaseEpoch
  split
  · exact h.set.set
  · exact h

theorem setEvIn (h : Boots b s) {n : Nat} {x : EvInput} : Boots b (s.setEvIn n x) := h.same

theorem startMonitor (h : Boots b s) : Boots b s.startMonitor := by
  unfold State.startMonitor
  extract_lets s1
  have h1 : Boots b s1 := h.foldl fun _ _ k => k.setEvIn
  clear_value s1
  exact h1.same

theorem enterPairing (h : Boots b s) : Boots b s.enterPairing := .ite h.setRole.setRole h.setRole

/-! #### The stored values -/

theorem storedReject (h : Boots b s) : Boots b s.storedReject := h.set.raise

theorem putDefault (h : Boots b s) {k : Nat} : Boots b (s.putDefault k) := h.same.setOtp

theorem loadStored (h : Boots b s) {k : Nat} : Boots b (s.loadStored k) := by
  have hput (v : StoredVal) : Boots b (s.putStored k v) := by
    cases v
    · exact h.same
    · exact h.same
  unfold State.loadStored
  split
  · exact .ite h (.ite h.storedReject (hput _))
  · exact h

theorem settle {l : List CrossCheck} {n : Nat} {stored : List Nat} (h : Boots b s) : Boots b (State.settle l n stored s) := by
  induction n generalizing s stored with
  | zero => exact h
  | succ n ih =>
    unfold State.settle
    split
    · exact h
    · exact ih (h.foldl fun _ _ k => k.putDefault.storedReject)

theorem resetEnergyStatus (h : Boots b s) : Boots b s.resetEnergyStatus := by
  unfold State.resetEnergyStatus
  extract_lets st s1
  have h1 : Boots b s1 := h.foldl fun _ _ k => k.set
  clear_value s1
  exact h1.same

theorem applyStored (h : Boots b s) : Boots b s.applyStored := by
  unfold State.applyStored
  extract_lets _ _ s1 s2 s3 _ s4 _
  have h1 : Boots b s1 := Boots.foldl (Boots.otpObjects h.same) fun _ _ k => k.loadStored
  have h4 : Boots b s4 := h1.settle.set.foldl fun _ _ k => k.loadStored
  have hceiling (u : State) (hu : Boots b u) : Boots b u.limitToCeiling := .ite hu.set hu
  exact (hceiling _ h4.settle).resetEnergyStatus

theorem loadBank (h : Boots b s) {x : CalBank} : Boots b (s.loadBank x) := by
  unfold State.loadBank
  extract_lets _ s1 s2 s3
  have h1 : Boots b s1 := h.same
  have h2 : Boots b s2 := h1.foldl fun _ _ k => k.set.set
  have h3 : Boots b s3 := h2.foldl fun _ _ k => k.set.set.set
  clear_value s3
  exact h3.same

theorem loadCalibration (h : Boots b s) : Boots b s.loadCalibration := by
  unfold State.loadCalibration
  extract_lets _ _ s1 s2 _ s3
  have h1 : Boots b s1 := h.foldl fun _ _ k => .ite k.raise k
  have h3 : Boots b s3 := (Boots.ite h1.raise h1).set.set
  exact .ite (Boots.raise h3.same) h3.loadBank

/-! #### The start of the blocks -/

theorem setAxisState (h : Boots b s) {a : Nat} {x : AxisSt} : Boots b (s.setAxisState a x) := by
  have hfollow (u : State) (hu : Boots b u) : Boots b u.seqFollowAxis := hu.touches u.seqFollowAxis_touches
  have hlose (u : State) (hu : Boots b u) : Boots b u.loseRevolution := hu.touches u.loseRevolution_touches
  unfold State.setAxisState
  exact .ite h (.ite (hfollow _ (.ite (hlose _ h.setAxis.raise) h.setAxis.raise)) h.setAxis.raise)

theorem restartAxis (h : Boots b s) {a : Nat} : Boots b (s.restartAxis a) := by
  unfold State.restartAxis
  extract_lets _ _ _ s1 _ _ s2
  split
  · exact h.setAxis.setAxis.setAxisState
  · exact h.setAxis.setAxis.setAxisState
  · exact h.setAxis.setAxis.setAxisState

theorem startCrank (h : Boots b s) : Boots b s.startCrank :=
  ((h.foldl fun _ _ k => k.setEvIn).foldl fun _ _ k => k.setAxis).restartAxis.restartAxis

theorem setEngine (h : Boots b s) {n : Nat} {e : Engine} : Boots b (s.setEngine n e) := h.same

theorem startEngine (h : Boots b s) {n : Nat} : Boots b (s.startEngine n) := h.setEngine.touches (State.putParams_writes _ _).1

theorem startKernel (h : Boots b s) : Boots b s.startKernel :=
  h.set.foldl fun _ _ k => .ite k (.ite k.startEngine k.same)

theorem takeSettings (h : Boots b s) {at_ : Int} {c : Nat} : Boots b (s.takeSettings at_ c) := by
  have htable : Boots b (s.takeTable c) := .ite h h.same
  exact htable.touches (State.setRxChan_touches _ _ _)

theorem startRx (h : Boots b s) : Boots b s.startRx :=
  Boots.foldl h.same fun u c k => Boots.takeSettings (k.touches (u.setRxChan_touches _ _))

theorem setBondState (h : Boots b s) {n st : Nat} : Boots b (s.setBondState n st) := by
  have hfarlu (u : State) (hu : Boots b u) (x y : Nat) : Boots b (u.farluChanged x y) := .ite hu (.ite (Boots.sendFarlu hu.same) hu)
  unfold State.setBondState
  extract_lets _ s1 s2
  have h1 : Boots b s1 := h.same
  have h2 : Boots b s2 := by
    unfold s2
    split
    · exact h1.raise
    · exact h1.raise
    · exact h1.raise
    · exact h1
  exact .ite h (.ite (hfarlu _ h2 _ _) h2)

theorem startLanes (h : Boots b s) : Boots b s.startLanes := by
  unfold State.startLanes State.trainOrDown
  exact h.setBond.setBond.setBondState.setBondState

theorem startClock (h : Boots b s) : Boots b s.startClock := by
  unfold State.startClock State.restartPort
  exact (Boots.same h.set.setPtp.setPtp).setPtp.setPtp

theorem seqStart (h : Boots b s) : Boots b s.seqStart := by
  have hswap (u : State) (hu : Boots b u) : Boots b u.trySwap :=
    .ite hu (.ite (hu.touches (u.swapBanks_touches _).1) (.ite (hu.touches (u.swapBanks_touches _).1) hu))
  exact hswap _ (h.setSeqState.touches (State.seqFollowAxis_touches _))

theorem startSeq (h : Boots b s) : Boots b s.startSeq := by
  unfold State.startSeq
  exact .ite (.ite (Boots.seqStart h.same) h.same) (Boots.raise h.same)

theorem serviceWipe (h : Boots b s) : Boots b s.serviceWipe := by
  unfold State.serviceWipe State.startJob
  refine .ite ?_ h
  cases s.freeSlot with
  | none => exact h
  | some n => exact h.same

theorem takeAlarm (h : Boots b s) : Boots b s.takeAlarm := h.same

theorem drawNonce (h : Boots b s) : Boots b s.drawNonce := h.same

theorem startBlocks (h : Boots b { s with reset_ := { s.reset_ with phase := .running } }) : Boots b s.startBlocks := by
  have hhist (u : State) (hu : Boots b u) : Boots b u.startHist.startHk := hu.same
  have hcan (u : State) (hu : Boots b u) : Boots b u.startCan := .ite hu (Boots.set hu.same)
  unfold State.startBlocks
  exact (hcan _ (hhist _ h.startCrank.startKernel.startRx).startClock).startLanes.startSeq.takeAlarm.serviceWipe

end Boots

/-! ### Resets -/

theorem State.withReset_touches (s : State) (x : ResetState) : Touches { parts := [.reset] } s { s with reset_ := x } :=
  touches_of_same fun p hp => by cases p <;> simp_all [Part.same]

/-- A reset of the device leaves what every reset leaves; of the reset block it keeps the supplies, the pins and what is retained. -/
theorem afterReset_deviceReset (s : State) (r : ResetState) (hr : r.retained = s.reset_.retained) (c : ResetSource) (supply : Nat) :
    afterReset s (State.deviceReset { s with reset_ := r } c supply) c supply :=
  ⟨rfl, rfl, rfl, fun _ => rfl, fun _ => rfl, rfl, rfl, rfl, rfl, rfl, rfl, rfl, rfl, congrArg (fun x => Retained.after x c supply) hr, rfl, rfl⟩

/-- A source in a held device replaces the cause of the same cycle that ranks after it. -/
theorem State.resetTogether_held {s : State} (h : s.held = true) (r : ResetState) (c : ResetSource) (hphase : r.phase = s.reset_.phase)
    (hat : r.heldAt = s.reset_.heldAt) (hret : r.retained = s.reset_.retained) :
    State.resetTogether { s with reset_ := r } c = { s with reset_ := { r with
      retained := if s.reset_.heldAt = s.now ∧ c.code < s.reset_.retained.cause.code then s.reset_.retained.after c 0 else s.reset_.retained } } := by
  have hheld : r.phase = .held := hphase.trans (by simpa [State.held] using h)
  unfold State.resetTogether
  by_cases hrank : s.reset_.heldAt = s.now ∧ c.code < s.reset_.retained.cause.code
  · rw [if_pos hrank, if_pos ⟨hheld, hat.trans hrank.1, by rw [hret]; exact hrank.2⟩, hret]
  · rw [if_neg hrank, if_neg (fun hall => hrank ⟨hat.symm.trans hall.2.1, by rw [← hret]; exact hall.2.2⟩), ← hret]

/-! ### Release -/

/-- The pending writes are done, and the straps are sampled. -/
def State.sampled (s : State) (x : StrapLevels) : State := (s.blowFuse.writeSeal x.sealGood).sampleStraps x

/-- The device leaves reset into its ROM. -/
def State.inRom (s : State) : State :=
  { s with reset_ := { s.reset_ with phase := .rom, resetPin := true, releasedAt := s.now, sramWiped := false } }

/-- What the ROM does of itself. -/
def State.romStarted (s : State) (x : StrapLevels) : State :=
  let s := { s with
    mem := { s.mem with hourAt := s.now }
    pair := { s.pair with undrivenSince := if s.driveState == .undriven then some s.now else none } }
  let s := ([1, 2, 3].foldl State.resolveAtBoot s).drawNonce
  let s := if s.mem.recordState.contains 3 then s.setSafetyState .safeDefault else s.raise 0x000 0
  let s := ((s.releaseSeal x.sealEn).releaseEpoch).otpObjects.startMonitor
  if s.pairEnabled then s.enterPairing else s

theorem State.release_eq (s : State) (x : StrapLevels) : s.release x = (s.sampled x).inRom.romStarted x := by
  unfold State.release State.romStarted State.inRom State.sampled
  rfl

theorem State.romStarted_boots (s : State) (x : StrapLevels) : Boots s (s.romStarted x) := by
  unfold State.romStarted
  extract_lets _ _ v w y z
  have hv : Boots s v := .same (.refl s)
  have hw : Boots s w := (hv.foldl fun _ _ k => k.resolveAtBoot).drawNonce
  have hy : Boots s y := .ite hw.setSafetyState hw.raise
  have hz : Boots s z := hy.releaseSeal.releaseEpoch.otpObjects.startMonitor
  exact .ite hz.enterPairing hz

theorem State.sampled_spec (s : State) (x : StrapLevels) :
    (s.sampled x).now = s.now ∧ (s.sampled x).reset_.straps = ⟨x.sealEn, x.sa1, x.sa0, x.pairS, x.bootSel⟩ ∧
      (s.sampled x).pair.position = b2n x.pairS ∧ (s.sampled x).reset_.retained.lifecycle = none ∧
      (s.sampled x).reset_.retained.sealImage = none ∧
      (s.sampled x).otp.fuses = s.otp.fuses + (if s.reset_.retained.lifecycle.isSome then 1 else 0) := by
  obtain ⟨v, hv, hnow, hlife, hfuses⟩ : ∃ v, s.blowFuse = v ∧ v.now = s.now ∧ v.reset_.retained.lifecycle = none ∧
      v.otp.fuses = s.otp.fuses + (if s.reset_.retained.lifecycle.isSome then 1 else 0) := by
    refine ⟨_, rfl, ?_⟩
    unfold State.blowFuse
    cases h : s.reset_.retained.lifecycle with
    | some l => exact ⟨rfl, rfl, rfl⟩
    | none => exact ⟨rfl, h, rfl⟩
  obtain ⟨w, hw, hnow', hlife', hseal, hotp⟩ : ∃ w, v.writeSeal x.sealGood = w ∧ w.now = v.now ∧ w.reset_.retained.lifecycle = none ∧
      w.reset_.retained.sealImage = none ∧ w.otp = v.otp := by
    refine ⟨_, rfl, ?_⟩
    unfold State.writeSeal
    cases h : v.reset_.retained.sealImage with
    | none => exact ⟨rfl, hlife, h, rfl⟩
    | some image => cases x.sealGood <;> exact ⟨rfl, hlife, rfl, rfl⟩
  unfold State.sampled
  rw [hv, hw]
  exact ⟨hnow'.trans hnow, rfl, rfl, hlife', hseal, (congrArg OtpState.fuses hotp).trans hfuses⟩

/-! ### Boot -/

theorem State.noteImages_touches (s : State) : Touches { parts := [.ev], events := [0x16B] } s s.noteImages :=
  Touches.refl.foldl fun u _ => .ite .refl (u.raise_touches _ _)

theorem State.setSealResult_touches (s : State) (c : Nat) :
    Touches { parts := [.reg, .ev], keys := [(Obj.SEAL_RESULT, Obj.SEAL_RESULT)], events := [0x014] } s (s.setSealResult c) := by
  have hset : Touches { parts := [.reg, .ev], keys := [(Obj.SEAL_RESULT, Obj.SEAL_RESULT)], events := [0x014] } s (s.set Obj.SEAL_RESULT c) :=
    (s.set_touches _ _).mono
  exact .ite hset (hset.andThen (State.raise_touches _ _ _))

/-- The image runs, and the safety island has not heard of it yet. -/
structure RunsImage (n : Nat) (b s : State) : Prop where
  phase : s.reset_.phase = .firmware
  image : s.mem.image = n
  boot : s.getN Obj.BOOT_IMAGE = n
  safety : s.safety = b.safety

/-- An image that runs: the object names it, and a passed self-test ends INIT. -/
theorem State.runImage_spec (s : State) (n : Nat) :
    (s.runImage n).reset_.phase = .firmware ∧ (s.runImage n).mem.image = n ∧ (s.runImage n).getN Obj.BOOT_IMAGE = n ∧
      (s.safety.state = .init → s.safety.selfTestPassed = true → (s.runImage n).safety.state = .inhibited) := by
  unfold State.runImage
  extract_lets _ _ s1 s2 _ s3 _ s4
  have h2 : RunsImage n s s2 := ⟨rfl, rfl, congrArg Int.toNat (State.get_set_same s1 _ _), rfl⟩
  have h3 : RunsImage n s s3 := by
    unfold s3
    split
    · exact ⟨h2.phase, h2.image, h2.boot, h2.safety⟩
    · exact h2
  have h4 : RunsImage n s s4 := by
    unfold s4
    split
    · refine ⟨h3.phase, h3.image, ?_, h3.safety⟩
      exact (congrArg Int.toNat ((State.setSealResult_touches _ 0x43).get Obj.BOOT_IMAGE)).trans h3.boot
    · exact h3
  clear_value s4
  split
  · rename_i hend
    obtain ⟨hinit, -⟩ : s4.safety.state = .init ∧ s4.safety.selfTestPassed = true := by simpa using hend
    have hset : s4.setSafetyState .inhibited =
        State.raise { s4 with safety := { s4.safety with state := .inhibited, statusDue := true } } 0x000 0 := by
      simp [State.setSafetyState, hinit]
    rw [hset]
    exact ⟨h4.phase, h4.image, h4.boot, fun _ _ => rfl⟩
  · rename_i hend
    exact ⟨h4.phase, h4.image, h4.boot, fun hinit hpassed => absurd (by rw [h4.safety, hinit, hpassed]; rfl) hend⟩

/-- Settles O60: a reset keeps what `deviceReset` keeps, and what follows a release or a boot leaves the reset block and the fuses alone. -/
theorem resetsAndBootFollowTheirOrder : Obligations.ResetsAndBootFollowTheirOrder := by
  intro s x
  refine ⟨⟨_, rfl, rfl, (s.withReset_touches _).parts⟩, ⟨_, rfl, rfl, (s.withReset_touches _).parts⟩, fun hfree => ?_, fun hheld => ?_,
    fun hruns => ?_, fun hruns hfree => ?_, fun w hreq hre => ?_, fun levels hheld hgood hwake => ?_, fun levels hoff => ?_, fun hrom => ?_,
    fun hfirm => ?_, fun hfirm => ?_⟩
  · have hnot : ¬ s.held = true := ne_true_of_eq_false hfree
    exact ⟨fun v => ⟨_, if_neg hnot, afterReset_deviceReset s _ (by rfl) _ _, by rfl⟩,
      ⟨_, congrArg Host.Outcome.next (if_neg hnot), afterReset_deviceReset s _ (by rfl) _ _, by rfl⟩,
      ⟨_, congrArg Host.Outcome.next (if_neg hnot), afterReset_deviceReset s _ (by rfl) _ _, by rfl⟩⟩
  · have hquiet : s.firmwareRuns = false := by
      have hphase : s.reset_.phase = .held := by simpa [State.held] using hheld
      simp [State.firmwareRuns, State.running, hphase]
    exact ⟨fun v => ⟨_, if_pos hheld, rfl, (s.withReset_touches _).parts⟩,
      ⟨_, congrArg Host.Outcome.next ((if_pos hheld).trans (State.resetTogether_held hheld _ _ (by rfl) (by rfl) (by rfl))),
        (s.withReset_touches _).parts, by rfl⟩,
      ⟨_, congrArg Host.Outcome.next ((if_pos hheld).trans (State.resetTogether_held hheld _ _ (by rfl) (by rfl) (by rfl))),
        (s.withReset_touches _).parts, by rfl⟩,
      ⟨_, congrArg Host.Outcome.next ((if_neg (ne_true_of_eq_false hquiet)).trans
        (State.resetTogether_held hheld s.reset_ _ (by rfl) (by rfl) (by rfl))), (s.withReset_touches _).parts, by rfl⟩⟩
  · exact ⟨_, congrArg Host.Outcome.next (if_pos hruns), afterReset_deviceReset s s.reset_ rfl _ _⟩
  · have hphase : s.reset_.phase ≠ .held := by simpa [State.held] using hfree
    exact congrArg Host.Outcome.next ((if_neg (ne_true_of_eq_false hruns)).trans (if_neg (fun hall => hphase hall.1)))
  · refine ⟨s.deviceReset .host 0, ?_, afterReset_deviceReset s s.reset_ rfl _ _⟩
    change execResetRequestDelayEnd s = _
    unfold execResetRequestDelayEnd
    rw [show s.reset_.requestAt = some w from hreq]
    exact congrArg Host.Outcome.next (if_pos hre)
  · have hgo : (s.held && s.reset_.powerGood && s.reset_.wake) = true := by
      rw [hheld, show s.reset_.powerGood = true from hgood, show s.reset_.wake = true from hwake]
      rfl
    obtain ⟨hnow, hstraps, hposition, hlife, hseal, hfuses⟩ := s.sampled_spec levels
    have hboots : Boots (s.sampled levels).inRom (s.release levels) := by
      rw [State.release_eq]
      exact State.romStarted_boots _ _
    refine ⟨s.release levels, congrArg Host.Outcome.next (if_pos hgo), ?_⟩
    rw [hboots.reset, hboots.otp, hboots.position]
    exact ⟨rfl, hnow, rfl, hstraps, hposition, hlife, hseal, hfuses⟩
  · refine congrArg Host.Outcome.next (if_neg ?_)
    rcases hoff with h | h
    · simp [show s.reset_.powerGood = false from h]
    · simp [show s.reset_.wake = false from h]
  · have hphase : s.reset_.phase = .rom := hrom
    refine ⟨⟨_, if_pos (by rw [hphase]; rfl), rfl, (s.withReset_touches _).parts⟩, fun hwiped => ⟨fun hnone => ?_, fun n hsel hchoice hn => ?_⟩⟩
    · have hready : (s.reset_.phase == .rom && s.reset_.sramWiped) = true := by rw [hphase, show s.reset_.sramWiped = true from hwiped]; rfl
      have hzero : (if s.reset_.straps.bootSel then 0 else s.bootChoice) = 0 := by
        rcases hnone with h | h
        · exact if_pos h
        · rw [h, ite_self]
      exact ⟨_, (if_pos hready).trans (congrArg Host.Outcome.next (if_pos hzero)), rfl,
        onlyParts_mono (onlyParts_trans s.noteImages_touches.parts (State.withReset_touches _ _).parts) (by decide)⟩
    · have hready : (s.reset_.phase == .rom && s.reset_.sramWiped) = true := by rw [hphase, show s.reset_.sramWiped = true from hwiped]; rfl
      have himage : (if s.reset_.straps.bootSel then 0 else s.bootChoice) = n := by
        rw [show s.reset_.straps.bootSel = false from hsel, hchoice]
        rfl
      obtain ⟨hfirm, hmem, hboot, hsafety⟩ := s.noteImages.runImage_spec n
      refine ⟨s.noteImages.runImage n, (if_pos hready).trans (congrArg Host.Outcome.next ?_), hfirm, hmem, hboot, fun hinit hpassed => ?_⟩
      · dsimp only
        rw [himage, if_neg hn]
      · have hsame : s.noteImages.safety = s.safety := s.noteImages_touches.part .safety
        exact hsafety (by rw [hsame]; exact hinit) (by rw [hsame]; exact hpassed)
  · have hphase : (s.reset_.phase == .firmware) = true := by rw [show s.reset_.phase = .firmware from hfirm]; rfl
    have hstored : Boots s s.applyStored.loadCalibration := (Boots.refl s).applyStored.loadCalibration
    have hblocks := Boots.startBlocks
      (Boots.refl { s.applyStored.loadCalibration with reset_ := { s.applyStored.loadCalibration.reset_ with phase := .running } })
    refine ⟨_, congrArg Host.Outcome.next (if_pos hphase), ?_, hblocks.otp.trans hstored.otp⟩
    unfold State.running
    rw [hblocks.reset]
    rfl
  · have hphase : ¬ (s.reset_.phase == .firmware) = true := by simpa using hfirm
    exact congrArg Host.Outcome.next (if_neg hphase)

end Sys2Proof.Machine

/-! The spoke-engine PLL (R28): a restart after a clock fault does more than to the engines: statement O21.

A restarted engine is given the parameters of its kernel again. What is written to its Y memory repairs the words there that an
uncorrectable error has marked, and these marks are the error correction's. -/

namespace Sys2Proof.Machine

open Sys2Proof Sys2Proof.Safety

set_option Elab.async false

/-- The image of a kernel with one parameter, of 64 bits, at offset 0 of Y memory. -/
def oneParamImage : List Byte := fill 18 0 ++ [0, 1] ++ fill 44 0 ++ [0x40, 0, 0, 5] ++ fill 60 0

/-- A device 1 ms after its spoke-engine PLL has recovered: engine 0 waits for its restart, and the word of its parameter is marked. -/
def markedWordState : State :=
  let s := ((State.reset.set Obj.KERNEL_ACTIVE 0x100).setBlk Obj.KERNEL_IMAGE oneParamImage).setEngine 0 { Engine.init with st := .restarting }
  { s with now := ms 1, reset_ := { s.reset_ with spokeClockAt := some 0 }, mem := { s.mem with badWords := [(1, 0x10000)] } }

/-- The engine restarts, and the mark goes. -/
theorem exec_markedWordState :
    markedWordState.reset_.spokeClockAt = some 0 ∧ reached markedWordState.now 0 (ms 1) = true ∧
      (match exec .spokePllStable markedWordState with
        | .next t => t.mem.badWords == markedWordState.mem.badWords
        | _ => true) = false := by
  decide +kernel

/-- Refutes O21: the restart of an engine by SPOKE_PLL_STABLE writes its parameters, which clears the marks of words found bad. -/
theorem not_memoriesAuditsAndClocksKeepTheirRules : ¬ Obligations.MemoriesAuditsAndClocksKeepTheirRules := by
  intro h
  obtain ⟨hclock, hre, hbad⟩ := exec_markedWordState
  obtain ⟨-, -, -, -, -, -, -, -, -, -, -, -, -, -, -, hstable⟩ := h markedWordState
  obtain ⟨t, ht, -, hparts, -⟩ := hstable 0 hclock hre
  have hmem : t.mem = markedWordState.mem := hparts .mem (by decide)
  rw [ht] at hbad
  simp [hmem] at hbad

end Sys2Proof.Machine
